-- ==== Sys2Proof/Word.lean ====
section
/-!
DEFINITION. Words of the hub: the 32-bit word of mailboxes and records (R5), the 64-bit phase stamp (R9),
and the byte of LPDDR5X, and the update of one place of a fixed array.
-/

namespace Sys2Proof

/-- A word of a register window, a record or a request (R5). -/
abbrev Word := BitVec 32

/-- A phase stamp (R9). -/
abbrev Stamp := BitVec 64

/-- A byte of LPDDR5X, a cell or a frame. -/
abbrev Byte := BitVec 8

/-- `v` with place `i` replaced by `f` of what stood there. -/
def updAt {α : Type} {n : Nat} (v : Vector α n) (i : Fin n) (f : α → α) : Vector α n :=
  v.set i.val (f v[i.val]) i.isLt

/-- `v` with place `i`, a number, replaced by `f` of what stood there; beyond the end nothing changes. -/
def modAt {α : Type} {n : Nat} (v : Vector α n) (i : Nat) (f : α → α) : Vector α n :=
  if h : i < n then v.set i (f v[i]) h else v

/-- The greatest value of a 32-bit counter (R8). -/
def max32 : Nat := 4294967295

/-- A counter that saturates at `m`. -/
def bumpTo (m n k : Nat) : Nat := Nat.min m (n + k)

/-- One count of a 32-bit counter, which saturates (R8). -/
def bump (n : Nat) : Nat := bumpTo max32 n 1

end Sys2Proof
end

