-- ==== Sys2Proof/Config.lean ====
section
/-!
DEFINITION. What an implementation fixes, and the free values. Each constant is opaque: nothing in Lean can see its value.
-/

namespace Sys2Proof

/-- LPDDR5X fitted, in GiB above 2 (R517: 2 to 16 GiB). Each board decides. -/
opaque Config.memGiB : Fin 15

/-- LPDDR5X fitted, in MiB. -/
def Config.memMiB : Nat := (Config.memGiB.val + 2) * 1024

/-- The stream of free values: what the spec leaves open (random nonces, challenges, keys and signatures, back-off draws).
The hub reads the next one through `State.free`, a counter (log entry 3). -/
opaque Config.freeValue : Nat → BitVec 384

/-- Jenridun protocol version of the image in boot flash at delivery (R493: JV). -/
opaque Config.version : Fin 256

/-- Digest of a component of the image in boot flash at delivery, by ID and SUB (R493: DIGEST). -/
opaque Config.compDigest : Nat → Nat → BitVec 384

/-- Security version of a component at delivery, by ID and SUB (R493: SVN). -/
opaque Config.compSvn : Nat → Nat → BitVec 16

/-- VERSION of a component at delivery, by ID and SUB (R493). -/
opaque Config.compVersion : Nat → Nat → Word

/-- IEEE 1588 clock identity of a hub, by its hub ID (R429: "the ROOT's clock identity"; the spec does not say how it is made). -/
opaque Config.clockIdentity : Nat → BitVec 64

/-- SHA-384 of bytes (R175, R176, R472, R493). -/
opaque Config.sha384Bytes : List Byte → BitVec 384

/-- SHA-384 of words, each as its bytes lie in memory, least significant first (R5, R472, R493). -/
def Config.sha384 (ws : List Word) : BitVec 384 :=
  Config.sha384Bytes (ws.flatMap fun w => [w.extractLsb' 0 8, w.extractLsb' 8 8, w.extractLsb' 16 8, w.extractLsb' 24 8])

/-- Digest of a part of a Main bundle, by the bundle's digest: 0 the MC firmware, 1 the engine microcode (R472). -/
opaque Config.bundlePart : Nat → Nat → BitVec 384

/-- JTAG mode as the measured block holds it, by lifecycle code (R472, R477). -/
opaque Config.jtagMode : Nat → BitVec 8

/-- The key derivation of SP 800-108 in counter mode with HMAC-SHA-384: key derivation key, label, context and L, the number of bits of the
output, which is a list of bytes (R473, R474). -/
opaque Config.kdf : List Word → List Byte → List Byte → Nat → List Byte

/-- Compressed public key of a P-384 private key, 49 bytes (R488). -/
opaque Config.publicKey : List Word → BitVec 392

/-- X and Y of the P-384 public key of a private key (R175). -/
opaque Config.publicPoint : List Word → BitVec 768

/-- ECDSA P-384 signature, r then s, by a private key over a digest, with the random number that the vault draws (R175). -/
opaque Config.ecdsa : List Word → BitVec 384 → BitVec 384 → BitVec 768

/-- ECDH P-384 shared secret of a private key and the other side's public key (R176). -/
opaque Config.ecdh : List Word → List Byte → BitVec 384

/-- The first 256 bits of the key derivation of SP 800-108 in counter mode with HMAC-SHA-384: key derivation key, label, context (R176). -/
opaque Config.tunnelKdf : BitVec 384 → List Byte → List Byte → BitVec 256

/-- A byte of the AES-256-GCM ciphertext: key, IV, plaintext, place (R177). -/
opaque Config.gcmByte : BitVec 256 → BitVec 96 → List Byte → Nat → BitVec 8

/-- The first 96 bits of the AES-256-GCM tag: key, IV, associated data, plaintext (R177). -/
opaque Config.gcmTag : BitVec 256 → BitVec 96 → List Byte → List Byte → BitVec 96

/-- A word of a block that AES-256-XTS encrypts: key, tweak, block, place (R421). -/
opaque Config.xtsEnc : List Word → Nat → List Word → Nat → Word

/-- A word of a block that AES-256-XTS decrypts: key, tweak, block, place (R421). -/
opaque Config.xtsDec : List Word → Nat → List Word → Nat → Word

/-- Words of a certificate or a request that the vault makes, by the position in the stream of free values. -/
opaque Config.freeWords : Nat → List Word

end Sys2Proof
end

