-- ==== Sys2Proof/Syntax.lean ====
section
/-!
DEFINITION. The commands of the hub: one constructor of `Instr` per row of spec/opcode_table.json, and the types of their operands.
-/

namespace Sys2Proof

/-- Where a command comes from: one of the 38 mailboxes in the order of R43, a mailbox tunnel with the trunk port it
arrives on (R38, R53), or the hub itself, when the ROOT passes a message to its own tables (R193, R561). -/
inductive Source where
  | win (i : Fin 38)
  | peer (tun : Nat) (port : Fin 4)
  | self
  deriving DecidableEq, Repr

/-- Mailboxes an event is raised to (R569): the OWNER mailboxes (and SERVICE with them), one mailbox only, both,
or the OWNER mailboxes and the functions bound to a tenant. -/
inductive EvDest where
  | owner
  | only (src : Source)
  | both (src : Source)
  | tenant (t : Nat)
  deriving DecidableEq, Repr

/-- A 256-byte trunk cell: the header of R118, 224 bytes of payload, and the trailer of R120.
Payload bytes beyond the list are 0. A sealed payload is held as the plain text it opens to. -/
structure Cell where
  /-- CTYPE -/
  ctype : BitVec 4 := 0
  /-- VL -/
  vl : BitVec 3 := 0
  /-- SOP -/
  sop : Bool := false
  /-- EOP -/
  eop : Bool := false
  /-- CM -/
  cm : Bool := false
  /-- VOID -/
  void : Bool := false
  /-- ENC -/
  enc : Bool := false
  /-- HOP -/
  hop : BitVec 8 := 0
  /-- TUNNEL -/
  tunnel : BitVec 20 := 0
  /-- DEST -/
  dest : BitVec 24 := 0
  /-- SEQ -/
  seq : BitVec 16 := 0
  /-- LEN -/
  len : BitVec 8 := 0
  /-- EPOCH -/
  epoch : BitVec 8 := 0
  /-- LSEQ -/
  lseq : BitVec 16 := 0
  /-- HCRC -/
  hcrc : BitVec 16 := 0
  /-- payload -/
  payload : List Byte := []
  /-- TAG -/
  tag : BitVec 96 := 0
  /-- CRC -/
  crc : BitVec 32 := 0
  deriving DecidableEq, Repr

/-- A certificate or chain as presented: its bytes as words, and what R478 checks in it. -/
structure Cert where
  /-- length in bytes -/
  len : Nat := 0
  /-- DER bytes, as words -/
  words : List Word := []
  /-- hub ID its subject serialNumber names -/
  hub : Nat := 0
  /-- SHA-384 fingerprints of its certificates -/
  prints : List (List Word) := []
  /-- every certificate parses and lies within the limits -/
  parses : Bool := false
  /-- every signature verifies -/
  sigs : Bool := false
  /-- the chain ends at the anchor -/
  anchored : Bool := false
  /-- keyUsage and basicConstraints fit -/
  usage : Bool := false
  /-- start of the common validity period, PTP time in ns -/
  notBefore : Nat := 0
  /-- end of the common validity period, PTP time in ns -/
  notAfter : Nat := 0
  deriving DecidableEq, Repr

/-- One leg of a tunnel's paths: a direction of the tunnel leaves a hub through an egress (R172, R240). -/
structure Leg where
  /-- the hub -/
  hub : Nat := 0
  /-- direction: false toward end B -/
  back : Bool := false
  /-- egress -/
  egress : Nat := 0
  /-- on the primary path, else on an alternate path -/
  primary : Bool := true
  /-- the hub's forwarding entry of this direction has this leg as PRIMARY -/
  entry : Bool := true
  /-- tunnel queue -/
  qsel : Bool := false
  /-- RINGSTEER -/
  steer : Bool := false
  /-- ALTERNATE -/
  alternate : Nat := 0
  /-- WHICH -/
  which : Nat := 0
  /-- LINK_LO -/
  lo : Nat := 0
  /-- LINK_HI -/
  hi : Nat := 0
  deriving DecidableEq, Repr

/-- Where a hub that asks to join hangs in the tree, as the ROOT sees it (R14, R20). -/
structure Place where
  /-- upstream hub -/
  parent : Nat := 0
  /-- port of that hub -/
  parentPort : Nat := 0
  /-- ring that its upstream link belongs to: its head, and PORT_A of that head -/
  ring : Option (Nat × Nat) := none
  /-- position in that ring -/
  pos : Nat := 0
  /-- the hub's own port toward its upstream hub, or toward PORT_A of the head of its ring -/
  port : Nat := 0
  /-- its other ring port -/
  portB : Nat := 0
  /-- PORT_B of the head of its ring -/
  headB : Nat := 0
  deriving DecidableEq, Repr

/-- A configuration record (R55). -/
structure Rec where
  /-- TYPE -/
  type : Nat := 0
  /-- LENGTH -/
  len : Nat := 0
  /-- body -/
  body : List Word := []
  deriving DecidableEq, Repr

/-- What a RASTER cell carries (R339). -/
structure Raster where
  /-- BASE -/
  base : Nat := 0
  /-- genlock state -/
  gl : Nat := 0
  /-- VTOTAL -/
  vtotal : Nat := 0
  /-- FIRST -/
  first : Nat := 0
  /-- VACT -/
  vact : Nat := 0
  /-- LINE_PS -/
  linePs : Nat := 0
  /-- ANCHOR -/
  anchor : Nat := 0
  /-- PERIOD -/
  period : Nat := 0
  /-- W -/
  w : Nat := 0
  /-- H -/
  h : Nat := 0
  deriving DecidableEq, Repr

/-- The data set of a PTP master, as its Announce gives it (R428, R429). -/
structure PtpMaster where
  /-- grandmasterIdentity -/
  identity : Nat := 0
  /-- priority1 -/
  prio1 : Nat := 128
  /-- clockClass -/
  cls : Nat := 248
  /-- clockAccuracy -/
  accuracy : Nat := 254
  /-- offsetScaledLogVariance -/
  variance : Nat := 65535
  /-- priority2 -/
  prio2 : Nat := 128
  /-- stepsRemoved -/
  steps : Nat := 0
  deriving DecidableEq, Repr

/-- Where a bridge PDU comes from: a tunnel, by its table index, or a PCIe function of this hub, port * 16 + number (R300, R305). -/
inductive BrFrom where
  | tun (idx : BitVec 14)
  | fn (n : BitVec 5)
  deriving DecidableEq, Repr

/-- What a CC pin sees (R354). -/
inductive Cc where
  | openCc
  | rd
  | ra
  | rp
  deriving DecidableEq, Repr

/-- Rp level that a source advertises (R372). -/
inductive Rp where
  | dflt
  | r15
  | r30
  deriving DecidableEq, Repr

/-- PD messages the hub may repeat after Wait (R366). -/
inductive PdMsg where
  | prSwap
  | vconnSwap
  | drSwap
  | sinkRequest
  deriving DecidableEq, Repr

/-- A partner's answer to a PD message of the hub (R364, R368, R382). -/
inductive PdAnswer where
  | accept
  | reject
  | notSupported
  | psRdy
  deriving DecidableEq, Repr

/-- Where a storage COMPLETION comes from: a tunnel, by its table index, or this hub's own drive, which answers the request of a tunnel or
of a function of this hub (R419, R420). -/
inductive StorFrom where
  | tun (idx : BitVec 14)
  | drive (req : Option (BitVec 14))
  deriving DecidableEq, Repr

/-- A namespace of a drive as Identify gives it: size in LBAs, log2 of the LBA size, and whether it has metadata (R423, R424). -/
structure NsIdent where
  /-- size -/
  size : Nat := 0
  /-- log2 of the LBA size -/
  lbads : Nat := 9
  /-- has metadata -/
  hasMeta : Bool := false
  deriving DecidableEq, Repr

/-- What a drive that has become ready reports: its namespaces, SMART Percentage Used and Critical Warning (R424, R437). -/
structure DriveIdent where
  /-- namespaces, 1 first -/
  ns : List NsIdent := []
  /-- Percentage Used -/
  used : Nat := 0
  /-- Critical Warning -/
  warning : Nat := 0
  deriving DecidableEq, Repr

/-- Where an Ethernet frame comes from: an E port, with whether its FCS is good, or a tunnel, by its table index (R427). -/
inductive EthFrom where
  | port (p : Fin 4) (fcsOk : Bool)
  | tun (idx : BitVec 14)
  deriving DecidableEq, Repr

/-- A PTP message that arrives on an E port (R82, R428). Times are whole ns, corrections are in 2⁻¹⁶ ns as correctionField holds them. -/
inductive PtpMsg where
  | announce (m : PtpMaster)
  /-- a Sync of a master, one-step or two-step: originTimestamp and correctionField -/
  | sync (identity : Nat) (seq : BitVec 16) (twoStep : Bool) (origin : Nat) (correction : Int)
  /-- the Follow_Up of a two-step Sync: preciseOriginTimestamp and correctionField -/
  | followUp (identity : Nat) (seq : BitVec 16) (origin : Nat) (correction : Int)
  | delayReq (seq : BitVec 16) (correction : Int)
  /-- receiveTimestamp and correctionField -/
  | delayResp (seq : BitVec 16) (receive : Nat) (correction : Int)
  | pdelayReq (seq : BitVec 16) (correction : Int)
  /-- requestReceiptTimestamp, 0 in a one-step message, and correctionField -/
  | pdelayResp (seq : BitVec 16) (twoStep : Bool) (receipt : Nat) (correction : Int)
  /-- responseOriginTimestamp and correctionField -/
  | pdelayFollowUp (seq : BitVec 16) (origin : Nat) (correction : Int)
  deriving DecidableEq, Repr

/-- Something the hub has sent on one of its ports. The model's own record of what it drives outward. -/
inductive Sent where
  /-- a cell on a trunk port -/
  | cell (port : Fin 4) (c : Cell)
  /-- a cell time of the training pattern on a trunk port: PRBS31Q at a PAM4 rate, else PRBS31 -/
  | prbs (port : Fin 4) (pam4 : Bool)
  /-- a PEER request to a hub on its mailbox tunnel -/
  | peer (hub : Nat) (opcode : Nat) (data : List Word)
  /-- a PEER response -/
  | answer (src : Source) (opcode tag result detail : Nat) (data : List Word)
  /-- a join message on TUNNEL 0: the port, and its words -/
  | join (port : Fin 4) (words : List Nat)
  /-- a frame of a framed mailbox, byte by byte (R36) -/
  | frame (box : Fin 38) (bytes : List Byte)
  /-- the bytes that MGMT_SPI drives on SPI_SDO in a read (R34) -/
  | spi (bytes : List Byte)
  /-- an MSI-X message of a function's vector -/
  | msix (box : Fin 38) (vector : Nat)
  /-- a join message on a ROOT channel: table index, kind of message, contents -/
  | tun (idx : Nat) (kind : Nat) (words : List Nat)
  /-- a PDU on a tunnel, byte by byte: table index, kind (2 RASTER, 3 PIXELS, 4 USB, 5 storage, 6 Ethernet frame) -/
  | pdu (idx : Nat) (kind : Nat) (bytes : List Byte)
  /-- a Guyline message on a trunk port: MSG and contents -/
  | guy (port : Fin 4) (msg : Nat) (words : List Nat)
  /-- a Remund frame on a lighting segment, byte by byte from its destination address to its FCS (R267) -/
  | remund (seg : Fin 16) (bytes : List Byte)
  /-- a PDU of the bridge protocol, byte by byte: tunnel index, none for this hub's own bridge (R305) -/
  | bridge (tun : Option Nat) (bytes : List Byte)
  /-- a completion on PCIe with an error status: 1 Unsupported Request, 4 Completer Abort -/
  | pcieErr (fn status : Nat)
  /-- a completion on PCIe -/
  | pcie (fn : Nat) (words : List Word)
  /-- a USB PD message or signal on a desk port -/
  | pd (port : Fin 4) (msg : Nat) (words : List Nat)
  /-- a structured VDM answer on a desk port -/
  | vdm (port : Fin 4) (cmd : Nat) (ack : Bool) (words : List Nat)
  /-- the preferred timing of the EDID that a desk port presents: W, H, frame rate in 0.01 Hz, 1 when it uses a head's mode record -/
  | edid (port : Fin 4) (words : List Nat)
  /-- a USB packet toward a laptop or a device -/
  | usb (port : Fin 4) (words : List Nat)
  /-- a shutdown of a drive through CC.SHN -/
  | shutdown (port : Fin 2)
  /-- a command to a drive, with the encrypted data of a write -/
  | nvme (port : Fin 2) (op nsid lba nlb : Nat) (data : List Word)
  /-- data that a storage function returns to its server: function and words -/
  | nvmeData (fn : Nat) (words : List Nat)
  /-- an Ethernet frame -/
  | eth (port : Fin 4) (bytes : List Byte)
  /-- a PTP message: port, kind, contents -/
  | ptp (port : Fin 4) (kind : Nat) (words : List Nat)
  /-- a cell delivered by a tunnel end to its endpoint or engine: tunnel index and cell -/
  | deliver (tun : Nat) (c : Cell)
  /-- a cell delivered to an internal crossbar port -/
  | fabric (egress : Nat) (c : Cell)
  /-- a report of a trunk link's rate to the ROOT: port, payload rate in kb/s -/
  | linkRate (port : Nat) (kbps : Nat)
  /-- training or AUX activity of a display output -/
  | dp (head : Fin 2) (words : List Nat)
  deriving DecidableEq, Repr

/-- What a start finds in boot flash: the component whose digest fails in each image, the stored slots whose tags fail, and the failures of
the in-place copy under way (R471, R495, R505). Digests and tags are facts of the flash, so they come with the row. -/
structure StartInfo where
  /-- component of slot A whose digest fails -/
  badA : Option Nat := none
  /-- component of slot B whose digest fails -/
  badB : Option Nat := none
  /-- the golden image fails its digests -/
  badGolden : Bool := false
  /-- stored key slots whose tags fail -/
  badKeys : List Nat := []
  /-- the transition record of a lifecycle change does not complete, as power has failed (R476) -/
  recordBad : Bool := false
  /-- failures of the next in-place copy at this start -/
  copyFails : Nat := 0
  deriving DecidableEq, Repr

/-- An error of LPDDR5X or of an on-chip table, with its user (R548). -/
inductive MemErr where
  /-- a single-bit error of LPDDR5X, corrected -/
  | corrected
  /-- user 0: a frame buffer read by a head -/
  | frame (head : Fin 2)
  /-- user 1: a capture buffer compared by a desk port; byte address of the 64-byte block -/
  | capture (port : Fin 4) (addr : Nat)
  /-- user 2: a directory record read at the ROOT -/
  | dirRec (id : BitVec 24)
  /-- user 3: a KIND 0 export read by a bridge: where the READ came from, its TAG, export and target -/
  | exportRead (src : BrFrom) (tag : BitVec 16) (exp : BitVec 4) (target : BitVec 64)
  /-- user 4: an engine image copy read at a warm start or a control restart -/
  | engineImage
  /-- user 5: the configuration store -/
  | config
  /-- a forwarding entry, and whether its copy in the configuration store also fails -/
  | table (tunnel : BitVec 20) (copyBad : Bool)
  /-- a key cache entry, by tunnel table index -/
  | keyCache (idx : BitVec 14)
  /-- a key slot whose tag fails the vault's check before a use (R471; log entry 179) -/
  | keySlot (slot : Fin 96)
  deriving DecidableEq, Repr

/-- A write to DOORBELL, and the other windows whose RING is written in the same FCLK cycle (R43). -/
structure DoorbellWrite where
  /-- the word written -/
  value : Word
  /-- the other windows whose RING is written in that cycle -/
  also : List (Fin 38) := []
  deriving DecidableEq, Repr

/-- What the host clocks into MGMT_SPI after the instruction byte, until CS_N rises (R34). -/
structure SpiBits where
  /-- the address, most significant byte first -/
  address : BitVec 16
  /-- the bytes after it: data of a write, or the dummy byte and the clocks of a read -/
  sdi : List Byte
  deriving DecidableEq, Repr

/-- The keyshare of a join request or reply, and whether its signature verifies (R167, R175). -/
structure JoinKey where
  /-- the 49 words of the keyshare -/
  share : List Word
  /-- the signature verifies -/
  sigOk : Bool
  deriving DecidableEq, Repr

/-- What authenticates a join reply: the ROOT's certificate and its keyshare (R167, R175). -/
structure JoinAuth where
  /-- the certificate -/
  cert : Cert
  /-- the keyshare -/
  key : JoinKey
  deriving DecidableEq, Repr

/-- The origin time of a Guyline Sync (R84). -/
structure OriginTime where
  /-- PTP time in nanoseconds -/
  ns : Nat
  /-- the fraction of a nanosecond, in units of 2⁻¹⁶ -/
  frac : BitVec 16
  deriving DecidableEq, Repr

/-- The commands of the block, one per row of spec/opcode_table.json. -/
inductive Instr where
  /-- DOORBELL_RING (R39). A host writes 1 to DOORBELL.RING to submit the command in the request area; the mailbox goes BUSY, or the doorbell is ignored with DB_IGNORED set while BUSY or OFFLINE. -/
  | doorbellRing (box : Fin 38) (value : DoorbellWrite)
  /-- EVQ_CONS_WRITE (R47). A host writes EVQ_CONS after reading event entries; a write that would make PROD minus CONS exceed 256 is ignored, and freed space may let EV001 EVQ_LOST be written. -/
  | evqConsWrite (box : Fin 38) (cons : BitVec 16)
  /-- EVQ_PEND_CLEAR (R50). A host writes 1 to IRQ_STATUS.EVQ_PEND, which clears it only when PROD equals CONS. -/
  | evqPendClear (box : Fin 38)
  /-- REGISTER_WRITE (R6). A write to a register field without behaviour of its own (IRQ_EN, DONE_PEND, the W1C bits of STATUS, reserved offsets) sets or clears it as its access code states. -/
  | registerWrite (box : Fin 38) (offset : Nat) (value : Word)
  /-- MGMT_SPI_BAD_TRANSACTION (R34). An MGMT_SPI transaction with an unknown instruction byte or an address that is not a multiple of 4 is ignored until CS_N rises, and SPI_SDO is not driven. -/
  | mgmtSpiBadTransaction (instruction : Byte) (clocked : SpiBits)
  /-- PCIE_PARTIAL_WINDOW_ACCESS (R32). A PCIe access to the register window without all byte enables of a dword set reads as 0 or has no effect on that dword. -/
  | pciePartialWindowAccess (box : Fin 38) (write : Bool) (offset : Nat) (enables : BitVec 4) (value : Word)
  /-- SVC_REQUEST_FRAME (R37). A whole frame arrives on SVC_UART or the desk-port service function; a bad frame is discarded and counted, a good one is treated as a request image and a doorbell. -/
  | svcRequestFrame (box : Fin 38) (skipped : List Byte) (head : List Byte) (payload : List Byte) (crc : List Byte)
  /-- SVC_FRAME_GAP_TIMEOUT (R37). More than 1 ms passes between bytes of a frame, so the frame is discarded and counted in c_svc_bad_frame. -/
  | svcFrameGapTimeout (box : Fin 38)
  /-- SVC_EVENT_FRAME_SEND (R37). A queued event entry is sent as a TYPE 0x03 frame as soon as no response frame is being sent. -/
  | svcEventFrameSend (box : Fin 38)
  /-- PEER_COMMAND_PDU (R38). The last cell of a PEER command PDU arrives on a mailbox tunnel; the command is queued, or answered BUSY at once when 64 are queued. -/
  | peerCommandPdu (tun : Nat) (port : Fin 4) (opcode : BitVec 16) (len : BitVec 16) (tag : Word) (data : List Word)
  /-- COMMAND_FINISH (R39). A command finishes; the hub writes the response area, sets LAST_RESULT and DONE_PEND and the mailbox shows DONE. -/
  | commandFinish (info : StartInfo)
  /-- RATE_LIMIT_WINDOW_END (R593). An AON second or FCLK millisecond window ends, so rate-limited events held back are reported with the values in force. -/
  | rateLimitWindowEnd (ms : Bool)
  /-- SYS_STATUS (R537). Returns the last reset cause, start kind, domains on and reset counters. -/
  | sysStatus
  /-- SYS_RESET (R535). Starts a control restart, warm reset or cold reset within 1 ms after answering. -/
  | sysReset
  /-- SYS_COUNTERS (R538). Reports the hub-wide counters and clears them with CLEAR 1. -/
  | sysCounters
  /-- SYS_TOPO (R29). Reports the hub's hub ID, depth, role, join state and port masks. -/
  | sysTopo
  /-- SYS_SVC_WINDOW (R54). Opens, restarts or closes a service window and raises EV005. -/
  | sysSvcWindow
  /-- SVC_WINDOW_EXPIRY (R54). A service window's minutes run out; it closes and EV005 flag 0 is raised. -/
  | svcWindowExpiry
  /-- SYS_BIVOUAC (R530). Puts the hub into Bivouac standby, closing tunnels, detaching desk ports and switching domains off. -/
  | sysBivouac
  /-- BIVOUAC_WAKE (R532). An enabled wake source fires in Bivouac or during entry, and the hub runs a warm start with cause 9 and raises EV007. -/
  | bivouacWake (source : Fin 7)
  /-- CFG_APPLY (R57). Checks a record stream for structural faults, then applies its records in order with clamping and returns a clamp report. -/
  | cfgApply
  /-- CFG_CLAMPLOG (R60). Returns entries of the boot clamp log from a given entry. -/
  | cfgClamplog
  /-- EVT_MASK (R62). Sets or reads the issuing mailbox's 256-bit event mask. -/
  | evtMask
  /-- POWER_ON (R518). VAON rises above 2.9 V; DOM_AON's power-on reset ends after 1 ms and feed selection starts. -/
  | powerOn
  /-- DOM_AON_START (R518). DOM_AON starts once the 32.768 kHz clock is confirmed and 110 ms have passed, or after 1 s without the clock, and start-up begins. -/
  | domAonStart (clk32 : Bool) (info : StartInfo)
  /-- STARTUP_END (R521). The MGMT_SPI mailbox takes OWNER authority and EV000 is raised with any waiting start events. -/
  | startupEnd
  /-- STARTUP_TIMEOUT (R519). Start-up has not ended 5 s after DOM_AON start, so VC makes a cold reset with cause 6. -/
  | startupTimeout (info : StartInfo)
  /-- DEAD_FEED_FEED_GOOD (R374). A feed stays GOOD for 1 s during a dead-feed start; VAON moves to it and the normal start-up continues without a reset. -/
  | deadFeedFeedGood (info : StartInfo)
  /-- RESET_N_ASSERT (R524). RESET_N falls (filtered 1 µs) and makes a cold reset of everything except the kept parts of DOM_AON. -/
  | resetNAssert
  /-- RESET_N_RELEASE (R524). RESET_N has been high for 100 µs and start-up follows R519. -/
  | resetNRelease (info : StartInfo)
  /-- WARM_START (R525). After a warm reset or wake, VC reloads and checks the engine images from LPDDR5X and restores the configuration store. -/
  | warmStart (copies : Fin 3) (info : StartInfo)
  /-- MC_WATCHDOG_EXPIRY (R523). The MC heartbeat misses t_mc_wd and a control restart begins, with mailboxes going OFFLINE. -/
  | mcWatchdogExpiry
  /-- ENGINE_WATCHDOG_EXPIRY (R523). An engine other than MC and VC misses t_eng_wd, causing a warm reset with cause 5. -/
  | engineWatchdogExpiry (engine : Fin 12)
  /-- VC_WATCHDOG_EXPIRY (R523). The vault core's watchdog expires and causes a cold reset with cause 6. -/
  | vcWatchdogExpiry (info : StartInfo)
  /-- CONTROL_RESTART_END (R39). The MC signals ready after a control restart; the running command is answered ABORTED, EV002 raised and held events written. -/
  | controlRestartEnd
  /-- CONTROL_RESTART_TIMEOUT (R526). The MC has not signalled ready 10 s into a control restart, so the hub makes a warm reset with cause 4. -/
  | controlRestartTimeout
  /-- DOMAIN_PG_LOSS (R514). A switched-on domain loses supply power-good for 10 µs; core domains cause a cold reset, others are switched off with EV006. -/
  | domainPgLoss (domain : Fin 14) (info : StartInfo)
  /-- DOMAIN_RETRY (R514). 1 s after a domain fault, the domain is switched on again unless it faulted 3 times in 60 s. -/
  | domainRetry (domain : Fin 14)
  /-- PCIE_FUNCTION_RESET (R39). A PCIe function reset lets the running command finish and discards its response, empties the event queue and restores defaults for that function only. -/
  | pcieFunctionReset (fn : BitVec 5)
  /-- JOIN_REQUEST (R19). A joined hub or the ROOT receives a join request on TUNNEL 0; the ROOT checks refusal reasons and replies within 100 ms. -/
  | joinRequest (via : Option (Fin 4)) (hub : BitVec 16) (role : BitVec 2) (depth : Byte) (version : Byte) (cert : Cert) (key : JoinKey) (place : Place)
  /-- JOIN_REPLY (R19). The joining hub receives the reply; if admitted it opens its ROOT channel and raises EV008, else EV009. -/
  | joinReply (via : Option (Fin 4)) (hub : BitVec 16) (reason : Option Byte) (rootId : BitVec 16) (number : BitVec 19) (hops : Byte) (auth : JoinAuth)
  /-- JOIN_REPLY_TIMEOUT (R19). No join reply comes within 1 s and the join is treated as refused with reason 0x00. -/
  | joinReplyTimeout
  /-- JOIN_RETRY (R19). t_join_retry of 10 s ends after a refusal and the hub repeats the join request. -/
  | joinRetry
  /-- ZX_EDGE (R67). A qualified ZX_IN level change arrives and is accepted or rejected, updating frequency, lock and local offset measurement. -/
  | zxEdge
  /-- MAINS_LOST_TIMEOUT (R68). No edge is accepted for 3 nominal cycles, so mains is lost and the ROOT enters HOLDOVER. -/
  | mainsLostTimeout
  /-- MAINS_NOISE_WINDOW_END (R69). A 1 s window of rejection counting ends; the hub may raise or clear EV097 MAINS_NOISY. -/
  | mainsNoiseWindowEnd
  /-- ACQUIRE_TIMEOUT (R71). t_acquire ends without a lock, so the ROOT enters SYNTH and aligns synthetic phase by a step. -/
  | acquireTimeout
  /-- MAINS_PULL_IN_LOCK (R72). The error between reference phase and mains has stayed below 64 arcs for 16 cycles and the ROOT enters LOCKED. -/
  | mainsPullInLock
  /-- GUYLINE_SYNC_SEND (R83). At each eighth boundary the hub sends a Guyline Sync on every downstream link. -/
  | guylineSyncSend
  /-- GUYLINE_DELAY_REQ_SEND (R83). Every 16th eighth a downstream hub sends a Guyline Delay request on its upstream link. -/
  | guylineDelayReqSend
  /-- GUYLINE_SYNC (R85). A valid Sync arrives; the hub updates PTP time and reference phase, or steps them on a new GEN. -/
  | guylineSync (port : Fin 4) (flags : BitVec 8) (gen : BitVec 16) (depth : BitVec 8) (ref : Stamp) (arcFrac : BitVec 16) (origin : OriginTime) (freq : Word)
  /-- GUYLINE_DELAY_REQUEST (R83). A Delay request arrives and the hub answers with one Delay response. -/
  | guylineDelayRequest (port : Fin 4)
  /-- GUYLINE_DELAY_RESPONSE (R85). A Delay response arrives and completes a link delay measurement. -/
  | guylineDelayResponse (port : Fin 4) (rxTime : Nat)
  /-- GUYLINE_LOSS (R86). No valid Sync for 8 eighths; Guyline is lost, EV100 flag 1 is raised and the hub enters HOLDOVER. -/
  | guylineLoss
  /-- SCHEDULER_FIRE (R90). A scheduler entry's arc or PTP instant arrives and its action fires, with EV104 if NOTIFY. -/
  | schedulerFire (idx : Nat) (samples : List (Nat × Int))
  /-- TRIG_EDGE (R99). A TRIG input edge is qualified, rejected or captured with EV106, and counted in windows. -/
  | trigEdge (pin : Fin 8) (rising : Bool)
  /-- TRIG_WINDOW_END (R99). A 1 s rejection window of a TRIG pin ends, possibly raising or clearing EV107. -/
  | trigWindowEnd (pin : Fin 8)
  /-- COUNT_WINDOW_CLOSE (R100). A TRIG counting window closes plus U and EV108 WINDOW_COUNT is raised. -/
  | countWindowClose (pin : Fin 8)
  /-- PHASE_STATUS (R106). Reports phase base state, ZX state, uncertainty, free entries, frequency, offset and now. -/
  | phaseStatus
  /-- PHASE_ARM (R104). Arms a scheduler entry with base, action, instant, period and count, and returns its handle. -/
  | phaseArm
  /-- PHASE_CANCEL (R93). Cancels a PHASE.ARM entry and reports cancelled, FIRED or no such entry. -/
  | phaseCancel
  /-- TIME_STATUS (R107). Reports time state, source, GEN, rate correction, offset and PTP time. -/
  | timeStatus
  /-- TIME_CONVERT (R108). Converts an instant between reference phase, local phase and PTP time. -/
  | timeConvert
  /-- TIME_RESTEP (R81). Steps PTP time to its source, advancing GEN at the ROOT, and raises EV103. -/
  | timeRestep
  /-- LINK_RX_ALIGN (R113). In SEARCH the receivers lock and cells delimit on the allowed lanes, so the port enters HELLO. -/
  | linkRxAlign (port : Fin 4) (lane0 lane1 : Bool)
  /-- LINK_ATTEMPT_EXPIRY (R114). t_attempt ends in SEARCH and the port tries the next rate. -/
  | linkAttemptExpiry (port : Fin 4)
  /-- LINK_HELLO_SEND (R117). A HELLO message is sent every 100 µs in HELLO and every 1 ms in ACTIVE. -/
  | linkHelloSend (port : Fin 4)
  /-- LINK_HELLO_RECEIVE (R117). A HELLO arrives; SEEN and version are checked and the port may enter ACTIVE, or raise EV035. -/
  | linkHelloReceive (port : Fin 4) (flags : Byte) (sender : BitVec 16) (depth ver nport : Byte) (role : BitVec 2)
  /-- LINK_HELLO_TIMEOUT (R113). No HELLO arrives for t_hello and the port returns to SEARCH at the same rate. -/
  | linkHelloTimeout (port : Fin 4)
  /-- CELL_RECEIVE (R123). A cell arrives on a trunk port and is checked, sequenced and taken by its CTYPE. -/
  | cellReceive (port : Fin 4) (cell : Cell) (corrected bad0 bad1 : Nat) (overlaps : Bool)
  /-- CELL_SLOT_TRANSMIT (R125). In each cell slot the transmitter sends a replay request, credit, Guyline, link control, replayed, new or fill cell. -/
  | cellSlotTransmit (port : Fin 4) (bufErr : Bool)
  /-- CREDIT_CELL_DUE (R130). t_credit expires or a LIMIT changes, making a credit cell due. -/
  | creditCellDue (port : Fin 4)
  /-- CREDIT_STALL_TIMEOUT (R131). A cell has waited t_stall for credit and EV037 flag 1 is raised. -/
  | creditStallTimeout (port : Fin 4) (vl : BitVec 3)
  /-- REPLAY_REQUEST_RECEIVE (R136). A replay request arrives and the sender resends from FROM. -/
  | replayRequestReceive (port : Fin 4) (lseq : BitVec 16)
  /-- REPLAY_REQUEST_WAIT_EXPIRY (R134). t_replay_wait passes without the expected cell; a further request is sent or, after the fourth, the link drops with cause 3. -/
  | replayRequestWaitExpiry (port : Fin 4)
  /-- REPLAY_TIMEOUT (R137). The oldest unacknowledged cell has waited t_replay_timeout and is replayed. -/
  | replayTimeout (port : Fin 4)
  /-- KEEPALIVE_TIMEOUT (R141). No good or inverted-CRC cell for t_keepalive; the port leaves ACTIVE with cause 2. -/
  | keepaliveTimeout (port : Fin 4)
  /-- LANE_LOCK_LOSS (R142). A lane loses FEC codeword lock; one lane of two is dropped, or the port leaves ACTIVE with cause 1 when all are lost for 1 µs. -/
  | laneLockLoss (port : Fin 4) (lane : Option (Fin 2))
  /-- LANE_DROP_MESSAGE (R143). A LANE_DROP arrives or is echoed and both ends stop using the lane at the next codeword boundary. -/
  | laneDropMessage (port : Fin 4) (lane : Fin 2) (echo : Bool)
  /-- LANE_ADD_MESSAGE (R144). A LANE_ADD exchange completes and the aligned lane rejoins. -/
  | laneAddMessage (port : Fin 4) (lane : Fin 2) (echo : Bool)
  /-- RING_SURVEY_SEND (R150). Every 10 ms the ring head sends RING_SURVEY on PORT_A. -/
  | ringSurveySend (which : Fin 2)
  /-- RING_SURVEY_RECEIVE (R150). A member takes its position and passes the survey on, or the head learns N. -/
  | ringSurveyReceive (port : Fin 4) (head : BitVec 16) (pos link failed : Byte)
  /-- RING_SURVEY_TIMEOUT (R153). No survey returns to the head for 100 ms and the ring becomes INCOMPLETE. -/
  | ringSurveyTimeout (which : Fin 2)
  /-- RING_FAIL_RECEIVE (R153). A RING_FAIL notice arrives; the hub steers, releases its blocked port if needed, and passes it on. -/
  | ringFailReceive (port : Fin 4) (head : BitVec 16) (link nseq : Byte)
  /-- RING_CLEAR_RECEIVE (R153). RING_CLEAR arrives after a failed link returns; the head starts t_wtr and the ring is PENDING. -/
  | ringClearReceive (port : Fin 4) (head : BitVec 16) (link nseq : Byte)
  /-- RING_WTR_EXPIRY (R153). t_wtr ends and the head sends RING_REVERT with an instant AT. -/
  | ringWtrExpiry (which : Fin 2)
  /-- RING_REVERT_RECEIVE (R153). RING_REVERT arrives and the hub arms the revert at AT. -/
  | ringRevertReceive (port : Fin 4) (head : BitVec 16) (link nseq : Byte) (hold : BitVec 16) (inst : Stamp)
  /-- RING_REVERT_INSTANT (R153). The revert instant AT arrives; the blocked link is restored and cells are held for HOLD. -/
  | ringRevertInstant (which : Fin 2)
  /-- RING_REVERT_HOLD_END (R153). HOLD ends and cells held for the primary egress are released. -/
  | ringRevertHoldEnd (which : Fin 2)
  /-- LINK_STATUS (R160). Reports a trunk port's state, rate, lanes, neighbour and uptime. -/
  | linkStatus
  /-- LINK_COUNTERS (R157). Reports a port's link counters and optionally clears them. -/
  | linkCounters
  /-- LINK_CONTROL (R159). Disables, enables, retrains or drops or returns lanes of a trunk port. -/
  | linkControl
  /-- LINK_RING (R161). Reports ring state or makes the head revert early. -/
  | linkRing
  /-- TUN_OPEN (R171). Takes a table entry in OPENING, returns the handle and starts admission. -/
  | tunOpen
  /-- TUN_ADMIT_SEND (R171). Within 5 ms of TUN.OPEN, end A's keyshare is ready and TUN.ADMIT is sent to the ROOT. -/
  | tunAdmitSend (idx : BitVec 14)
  /-- TUN_ADMIT (R172). The ROOT resolves end B, checks hop count and committed rate, assigns a number and sends TUN.OFFER or a refusal. -/
  | tunAdmit (queues : List (Nat × Bool))
  /-- TUN_OFFER (R171). End B checks the offer and accepts with its keyshare or refuses. -/
  | tunOffer (cert : Cert) (sigOk : Bool)
  /-- TUN_OFFER_TIMEOUT (R171). End B has not answered within 200 ms and the ROOT refuses with 0x08. -/
  | tunOfferTimeout (number : BitVec 19)
  /-- TUN_OFFER_ANSWER (R171). The ROOT receives end B's answer, installs forwarding entries, names an epoch and sends TUN.RESULT. -/
  | tunOfferAnswer (number : BitVec 19) (reason : Byte) (handleB : Word) (share : List Word)
  /-- TUN_RESULT (R171). An end receives TUN.RESULT and derives the key, or closes with EV081 on a refusal. -/
  | tunResult (cert : Cert) (sigOk : Bool)
  /-- TUN_OPEN_TIMEOUT (R171). t_open ends without TUN.RESULT; end A closes with reason 0x0A. -/
  | tunOpenTimeout (idx : BitVec 14)
  /-- TUN_CLOSE (R186). Starts the close exchange of a tunnel. -/
  | tunClose
  /-- TUN_STATUS (R191). Reports a tunnel's state, class, ends, sequence numbers and counters. -/
  | tunStatus
  /-- TUN_LIST (R192). Lists the handles of tunnels the mailbox may see. -/
  | tunList
  /-- TUN_REKEY (R179). Makes this end offer a rekey. -/
  | tunRekey
  /-- TUN_RELEASE (R186). The ROOT removes forwarding entries, releases committed rate, sends TUN.CLOSED and starts the number quarantine. -/
  | tunRelease
  /-- TUN_CLOSED (R187). An end receives TUN.CLOSED, enters CLOSED, zeroizes the key and raises EV080. -/
  | tunClosed
  /-- TUN_NUMBER_QUARANTINE_END (R164). 2 s after release a tunnel number becomes free for reuse. -/
  | tunNumberQuarantineEnd (number : BitVec 19)
  /-- TUNNEL_CELL_RECEIVE (R184). A cell reaches a tunnel end and is authenticated, sequenced and delivered by DEST. -/
  | tunnelCellReceive (cell : Cell) (tag : Option Bool) (shareOk : Bool)
  /-- DATA_CELL_OFFER (R234). An internal port offers a data cell; the policer admits it as committed or excess, or it waits for the next slot. -/
  | dataCellOffer (idx : BitVec 14) (pdu : Bool) (dest : BitVec 24) (sop eop : Bool) (payload : List Byte)
  /-- TUN_ACK_TIMER (R182). 4 µs after the first unacknowledged cell, or after 16 cells, the receiver sends an ACK. -/
  | tunAckTimer (idx : BitVec 14)
  /-- TUN_RTO_EXPIRY (R182). t_rto passes without an ACK and the sender retransmits, entering STALLED after E2E_RETRIES. -/
  | tunRtoExpiry (idx : BitVec 14)
  /-- TUN_KEEPALIVE_SEND (R185). A direction has sent nothing for t_tkeep and sends a KEEPALIVE status cell. -/
  | tunKeepaliveSend (idx : BitVec 14)
  /-- TUN_DEAD_TIMEOUT (R185). Nothing is received for t_tdead and the tunnel enters STALLED. -/
  | tunDeadTimeout (idx : BitVec 14)
  /-- TUN_STALL_CLOSE (R185). A tunnel STALLED for 8 × t_tdead closes with cause 6 and sends TUN.RELEASE. -/
  | tunStallClose (idx : BitVec 14)
  /-- TUN_CLOSE_TIMEOUT (R186). t_close ends and the end proceeds to release, or enters CLOSED a further second later. -/
  | tunCloseTimeout (idx : BitVec 14) (second : Bool)
  /-- LOSSY_REPEAT_TIMER (R183). Every 1 ms a lossy-class sender repeats an unanswered CLOSE or REKEY_OFFER, at most 8 times. -/
  | lossyRepeatTimer (idx : BitVec 14)
  /-- REKEY_MIN_EXPIRY (R179). REKEY_MIN minutes pass and end A offers a rekey. -/
  | rekeyMinExpiry (idx : BitVec 14)
  /-- REKEY_ACCEPT_TIMEOUT (R179). No REKEY_ACCEPT within 100 ms; the rekey is abandoned and retried after 60 s. -/
  | rekeyAcceptTimeout (idx : BitVec 14)
  /-- REKEY_RETRY (R179). 60 s after an abandoned rekey, the end offers again. -/
  | rekeyRetry (idx : BitVec 14)
  /-- OLD_KEY_RETIRE (R178). The older key's cells are all acknowledged or delivered, or 1 s passes, and it is zeroized. -/
  | oldKeyRetire (idx : BitVec 14)
  /-- RSQ_HOLE_TIMEOUT (R218). A resequencer hole has stood for RSQ_US; E skips to the lowest held SEQ and EV069 is raised. -/
  | rsqHoleTimeout (tunnel : BitVec 20) (status : Bool)
  /-- SHARED_ADMIT_RETRY (R211). An internal ingress whose cell could not enter SHARED offers it again in the next slot. -/
  | sharedAdmitRetry (ingress : Fin 15)
  /-- EGRESS_DECISION (R243). Each slot an egress chooses a committed-ready or deficit-round-robin queue head into its window. -/
  | egressDecision (egress : Fin 15)
  /-- CROSSBAR_SLOT (R203). Each 3.2 ns slot the scheduler reserves cut-through pairs and runs request, grant and accept iterations. -/
  | crossbarSlot
  /-- GS_ECC_ERROR (R213). A Groundsheet read meets an uncorrectable error; the cell is discarded or stomped, the row is taken out of use and EV064 raised. -/
  | gsEccError (bank : Fin 64) (row : Fin 1024) (ingress egress : Fin 15) (corrected : Option Nat)
  /-- ORDERED_HOLD_DRAIN (R220). Every cell ahead of the drain mark has left, so the new tunnel queue opens. -/
  | orderedHoldDrain (tunnel : BitVec 20)
  /-- ORDERED_HOLD_EXPIRY (R220). HOLD_US passes before the drain, so the queue opens and EV070 is raised. -/
  | orderedHoldExpiry (tunnel : BitVec 20)
  /-- BARRIER_DRAIN (R221). Every cell of earlier barrier generations has left; the barrier ends and reports FWD.BARRIER_DONE or EV066. -/
  | barrierDrain
  /-- BARRIER_TIMEOUT (R222). TIMEOUT_MS passes before the barrier drains; it ends with outcome 1 or flushes the cells. -/
  | barrierTimeout (id : Fin 4)
  /-- FWD_STATUS (R229). Reports pool sizes, free rows, spares, entries, queues and barriers. -/
  | fwdStatus
  /-- FWD_COUNTERS (R226). Reports the fabric counters and optionally clears them. -/
  | fwdCounters
  /-- FWD_GET (R199). Returns the forwarding entry of a TUNNEL. -/
  | fwdGet
  /-- FWD_SET (R200). Installs, changes or removes a forwarding entry, optionally as an ordered update. -/
  | fwdSet
  /-- FWD_BARRIER (R221). Advances the barrier generation and returns its ID and the cells counted. -/
  | fwdBarrier
  /-- FWD_BARRIER_DONE (R228). The ROOT receives a hub's report that a barrier ended. -/
  | fwdBarrierDone
  /-- REFILL_TICK (R232). Every 1,024 FCLK cycles, pending changes apply and every bucket gains tokens and is cut to its depth. -/
  | refillTick
  /-- ALLOT_STATUS (R257). Reports the epoch in force, pending epochs and allotment counters. -/
  | allotStatus
  /-- ALLOT_QUEUE (R258). Reports a queue's parameters, tokens, deficit and depth. -/
  | allotQueue
  /-- ALLOT_POLICER (R259). Reports a tunnel's policer parameters and buckets. -/
  | allotPolicer
  /-- ALLOT_STAGE (R248). Stages allotment entries for an epoch, opening or closing it. -/
  | allotStage
  /-- ALLOT_CANCEL (R260). Discards a pending epoch. -/
  | allotCancel
  /-- ALLOT_CHANGE (R253). Asks the ROOT to change an open tunnel's rates by sending ALLOT.REQUEST. -/
  | allotChange
  /-- ALLOT_REQUEST (R253). The ROOT checks a rate change and stages police and queue entries at one epoch. -/
  | allotRequest (ans : Option (BitVec 20 × Byte))
  /-- ALLOT_APPLIED (R251). The ROOT receives a hub's epoch outcome and raises EV076 for failures. -/
  | allotApplied
  /-- BEACON (R265). A grid instant or off-grid time arrives and the hub sends a BEACON and cycle frame with poll, command and go entries. -/
  | beacon (engine : Fin 4) (pair : Fin 4) (offGrid : Bool)
  /-- BEACON_LATE (R265). The medium carries a signal when a beacon is due; it is sent 1 bit time after the signal ends and EV133 raised. -/
  | beaconLate (engine : Fin 4) (pair : Fin 4) (offGrid : Bool)
  /-- STATUS_FRAME_RECEIVE (R269). A polled node's status frame arrives, confirming commands and reporting alarms and read data. -/
  | statusFrameReceive (seg : Fin 16) (framed valid : Bool) (mac : BitVec 48) (node : BitVec 5) (cseq flags : Byte) (alarm : BitVec 18) (tid result : Byte) (words : List (BitVec 18))
  /-- ENROL_FRAME_RECEIVE (R276). An enrol cycle brings a valid frame, a signal or silence and the MAC search advances. -/
  | enrolFrameReceive (seg : Fin 16) (signal : Bool) (frame : Option (BitVec 48 × BitVec 6))
  /-- NODE_ABSENT_TIMEOUT (R282). A node ABSENT for 10 s is reported by DIR.GONE. -/
  | nodeAbsentTimeout (seg : Fin 16) (node : BitVec 5)
  /-- SEGMENT_VIOLATION (R277). A signal in an ungranted opportunity, an overlong frame or a signal at a grid instant is charged as a violation. -/
  | segmentViolation (seg : Fin 16) (node : BitVec 5)
  /-- BABBLE_WINDOW_END (R277). A 1 s violation window ends; a node may become BABBLING or, after 10 quiet windows, be resumed. -/
  | babbleWindowEnd (seg : Fin 16) (node : BitVec 5)
  /-- BABBLE_CUT_EXPIRY (R277). Violations continue for BABBLE_CUT seconds and the port's power trips with cause 4. -/
  | babbleCutExpiry (seg : Fin 16) (node : BitVec 5)
  /-- SEGMENT_JAM (R278). The medium carries a signal for 2 ms without a break and the segment becomes JAMMED. -/
  | segmentJam (seg : Fin 16)
  /-- SEGMENT_JAM_CLEAR (R278). 1 ms without signal ends JAMMED and beacons resume on the grid. -/
  | segmentJamClear (seg : Fin 16)
  /-- JAM_CUT_EXPIRY (R278). The segment stays JAMMED for JAM_CUT seconds and the port's power trips with cause 3. -/
  | jamCutExpiry (seg : Fin 16)
  /-- SCENE_REPORT_TIMEOUT (R287). 1 s after AT the ROOT raises EV134 with hubs that have not reported counted as no report. -/
  | sceneReportTimeout (handle : BitVec 16)
  /-- EP_SEGMENT (R293). Reports a lighting segment's state, node masks and counters. -/
  | epSegment
  /-- EP_NODE (R292). Reports a node ID, sends FORGET, or ends BABBLING. -/
  | epNode
  /-- SCENE_STATUS (R295). Reports armed gos, the next AT and scene counters. -/
  | sceneStatus
  /-- SCENE_ARM (R283). Arms a tree-wide or local scene go at a grid instant. -/
  | sceneArm
  /-- SCENE_CANCEL (R294). Cancels a go and reports cancelled, FIRED or no such go. -/
  | sceneCancel
  /-- SCENE_DONE (R287). The ROOT receives a hub's go outcome. -/
  | sceneDone
  /-- DIR_GET (R291). Returns a directory record. -/
  | dirGet
  /-- DIR_FIND (R291). Finds an endpoint ID by MAC and endpoint index. -/
  | dirFind
  /-- DIR_STATUS (R296). Reports directory capacity, use and cache statistics. -/
  | dirStatus
  /-- DIR_SET (R296). Creates or changes a directory record. -/
  | dirSet
  /-- DIR_DELETE (R296). Deletes a directory record that is not PRESENT. -/
  | dirDelete
  /-- DIR_REPORT (R282). The ROOT binds each reported endpoint to an ID and returns IDs, tenants and SHARED. -/
  | dirReport (ans : Option (Fin 16 × BitVec 5 × List Word))
  /-- DIR_GONE (R282). The ROOT clears PRESENT on records that still name the reported place. -/
  | dirGone
  /-- BAR2_READ (R307). A host reads through a BAR2 window; endpoint reads are delayed reads, memory reads are held until DATA. -/
  | bar2Read (fn : BitVec 5) (offset : BitVec 30) (len : BitVec 13)
  /-- BAR2_WRITE (R310). A host writes through a BAR2 window, split into slot writes or sent as memory WRITE or WRITE_C. -/
  | bar2Write (fn : BitVec 5) (offset : BitVec 30) (slots : List (BitVec 4 × Word))
  /-- DELAYED_READ_HOLD_END (R307). HOLD_US ends without DATA and the read completes with the retry value. -/
  | delayedReadHoldEnd (tag : Byte)
  /-- DELAYED_READ_COLLECT_EXPIRY (R308). A READY entry is not collected within t_collect and is discarded with cause 0x0A. -/
  | delayedReadCollectExpiry (tag : Byte)
  /-- MEM_READ_TIMEOUT (R309). No DATA arrives within t_mem_read and the read completes as Completer Abort with cause 0x08. -/
  | memReadTimeout (tag : Byte)
  /-- PREFETCH_EXPIRY (R312). Prefetched bytes are dropped after t_prefetch. -/
  | prefetchExpiry (fn : BitVec 5) (win : BitVec 3)
  /-- BRIDGE_READ (R309). The far bridge receives READ and issues Remund READs or memory reads, answering DATA. -/
  | bridgeRead (src : BrFrom) (tag lsid : BitVec 16) (exp : BitVec 4) (slots : Byte) (target : BitVec 64) (bytes : BitVec 16) (dev : Option (List Word))
  /-- BRIDGE_WRITE (R315). The far bridge receives WRITE or WRITE_C and performs it, answering ERR or WACK. -/
  | bridgeWrite (src : BrFrom) (confirmed : Bool) (tag lsid : BitVec 16) (exp : BitVec 4) (target : BitVec 64) (data : List Word) (dev : Bool)
  /-- BRIDGE_LOCK (R314). The far bridge receives LOCK and grants, waits, or refuses it under the crossing rule. -/
  | bridgeLock (src : BrFrom) (tag lsid : BitVec 16) (target : BitVec 64) (depth source : Byte) (hub : BitVec 16)
  /-- BRIDGE_UNLOCK (R313). The far bridge receives UNLOCK and releases the segment. -/
  | bridgeUnlock (src : BrFrom) (tag lsid : BitVec 16) (target : BitVec 64)
  /-- BRIDGE_SUBSCRIBE (R317). The far bridge receives SUBSCRIBE and watches covered endpoints' alarms. -/
  | bridgeSubscribe (src : BrFrom) (firstEp : BitVec 24) (mask : BitVec 6)
  /-- BRIDGE_ANSWER (R307). The near bridge receives DATA, ERR, WACK, LOCK_ACK or UNLOCK_ACK and completes the entry or command. -/
  | bridgeAnswer (tun : Option (BitVec 14)) (op status : Byte) (tag lsid : BitVec 16) (target : BitVec 64) (data : List Word)
  /-- BRIDGE_INTR (R317). The near bridge receives INTR and raises EV161 in the window's mailbox. -/
  | bridgeIntr (tun : Option (BitVec 14)) (ep : BitVec 24) (alarm : BitVec 18)
  /-- LOCK_EXPIRY (R314). LOCK_MS ends before UNLOCK and the far hub releases the lock. -/
  | lockExpiry (seg : Fin 16)
  /-- LOCK_BACKOFF_END (R314). The random back-off after a lock refusal ends and the sequence is sent again. -/
  | lockBackoffEnd (lsid : BitVec 16)
  /-- EP_BRIDGE (R322). Reports bridge tags, locks and counters. -/
  | epBridge
  /-- EP_WINDOW (R302). Sets a BAR2 window descriptor. -/
  | epWindow
  /-- EP_WINGET (R321). Returns a BAR2 window descriptor. -/
  | epWinget
  /-- EP_READ (R322). Reads endpoint register words of this hub. -/
  | epRead
  /-- EP_WRITE (R322). Writes endpoint register words of this hub, optionally confirmed. -/
  | epWrite
  /-- EP_LOCK (R313). Locks one or two lighting segments for a window. -/
  | epLock
  /-- EP_UNLOCK (R322). Releases a locked sequence. -/
  | epUnlock
  /-- EP_ERRLOG (R322). Returns bridge error log entries. -/
  | epErrlog
  /-- DISP_HPD_HIGH (R326). HPD stays high for 2 ms; the hub reads DPCD and EDID and trains the link. -/
  | dispHpdHigh (head : Fin 2) (edid : List (List Word))
  /-- DISP_HPD_LOW (R326). HPD stays low for 2 ms and the head enters NO_SINK. -/
  | dispHpdLow (head : Fin 2)
  /-- DISP_IRQ_HPD (R326). An IRQ_HPD pulse makes the hub read link status and retrain if lock was lost. -/
  | dispIrqHpd (head : Fin 2) (lost : Bool)
  /-- FRAME_START (R332). A head's frame start occurs; it measures genlock error, corrects VFP and clock, and applies a pending commit. -/
  | frameStart (head : Fin 2)
  /-- RASTER_SEND (R339). The receiving end sends a RASTER cell at binding, on change and every 1 s. -/
  | rasterSend (idx : BitVec 14)
  /-- DISPLAY_CELL_RECEIVE (R341). A display tunnel data cell is written to its target, taken as RASTER, or discarded. -/
  | displayCellReceive (idx : BitVec 14) (payload : List Byte)
  /-- DISP_STATUS (R348). Reports a head's state, genlock, trained link and counters. -/
  | dispStatus
  /-- DISP_EDID (R348). Returns an EDID block read at the last HPD assertion. -/
  | dispEdid
  /-- DISP_COMMIT (R334). Replaces BG and plane descriptors at the next or following frame start. -/
  | dispCommit
  /-- DISP_WRITE (R348). Writes pixel words into a head's display area. -/
  | dispWrite
  /-- DISP_TARGET (R348). Binds or unbinds a display tunnel to a target buffer. -/
  | dispTarget
  /-- CC_ATTACH_DETECT (R353). A CC termination is seen in UNATTACHED and the port enters an AttachWait state. -/
  | ccAttachDetect (port : Fin 4) (cc1 cc2 : Cc)
  /-- DRP_TOGGLE (R353). t_drp alternates the port between source and sink presentation in UNATTACHED. -/
  | drpToggle (port : Fin 4)
  /-- CC_DEBOUNCE_EXPIRY (R353). t_ccdebounce ends in an AttachWait or TRYWAIT state and the port moves on as the CC combination and VBUS allow. -/
  | ccDebounceExpiry (port : Fin 4) (cc1 cc2 : Cc) (vbus5 vbus0 : Bool)
  /-- TRY_SRC_DETECT (R353). Rd holds on one CC for t_try_ccdebounce in TRY_SRC and the port becomes ATTACHED_SRC. -/
  | trySrcDetect (port : Fin 4) (cc1 cc2 : Cc)
  /-- TRY_SRC_TIMEOUT (R353). t_drp_try ends in TRY_SRC and the port enters TRYWAIT_SNK. -/
  | trySrcTimeout (port : Fin 4)
  /-- TRYWAIT_TIMEOUT (R353). No Rp for t_pddebounce or t_try_timeout ends, returning the port to UNATTACHED. -/
  | trywaitTimeout (port : Fin 4)
  /-- DESK_DETACH (R369). A detach is seen; VBUS, converter and VCONN go off, discharge starts and the grant drops to 15 W. -/
  | deskDetach (port : Fin 4)
  /-- VBUS_DISCHARGED (R369). VBUS falls below vSafe0V after discharge and the port may enter ATTACHWAIT_SRC. -/
  | vbusDischarged (port : Fin 4)
  /-- SAFE0V_TIMEOUT (R360). VBUS stays above vSafe0V for t_safe0v and the port enters FAULT. -/
  | safe0vTimeout (port : Fin 4)
  /-- ERROR_RECOVERY_END (R352). t_error_recovery ends and the port leaves ERROR_RECOVERY. -/
  | errorRecoveryEnd (port : Fin 4)
  /-- VBUS_PROTECTION (R360). An overcurrent, overvoltage, VCONN or converter fault triggers Hard Reset, switch opening or VCONN off, with EV196. -/
  | vbusProtection (port : Fin 4) (kind : Fin 4)
  /-- FAULT_EXIT (R360). Both CC pins open for t_pddebounce and the port leaves FAULT. -/
  | faultExit (port : Fin 4)
  /-- SOURCE_CAPS_SEND (R357). The port sends Source_Capabilities built from its offer. -/
  | sourceCapsSend (port : Fin 4) (cable : Option (Bool × Bool))
  /-- PD_REQUEST (R358). A sink's Request is accepted and the voltage transition driven, or rejected. -/
  | pdRequest (port : Fin 4) (pdo : Fin 16) (mv ma : Nat)
  /-- PD_TRANSITION_DONE (R358). VBUS reaches its target and PS_RDY is sent within 275 ms of Accept. -/
  | pdTransitionDone (port : Fin 4)
  /-- PPS_REQUEST_TIMEOUT (R358). A PPS or AVS sink sends no Request for 15 s and the hub sends Hard Reset. -/
  | ppsRequestTimeout (port : Fin 4)
  /-- EPR_MODE_ENTER (R359). The sink's EPR_Mode (Enter) is accepted or answered Enter Failed. -/
  | eprModeEnter (port : Fin 4)
  /-- PR_SWAP_RECEIVE (R365). A PR_Swap from the partner is accepted, rejected or answered Wait. -/
  | prSwapReceive (port : Fin 4)
  /-- VCONN_SWAP_RECEIVE (R365). A VCONN_Swap from the partner is accepted, rejected or answered Wait. -/
  | vconnSwapReceive (port : Fin 4)
  /-- DR_SWAP_RECEIVE (R382). A DR_Swap from the partner is accepted or rejected by the data role policy. -/
  | drSwapReceive (port : Fin 4)
  /-- PD_WAIT_RECEIVE (R366). The partner answers Wait and t_wait_retry starts, or the hub gives up with EV197. -/
  | pdWaitReceive (port : Fin 4) (msg : PdMsg)
  /-- WAIT_RETRY_EXPIRY (R366). t_wait_retry ends and the same message is sent again. -/
  | waitRetryExpiry (port : Fin 4) (msg : PdMsg)
  /-- HARD_RESET (R367). A Hard Reset is sent or received and handled, with EV195. -/
  | hardReset (port : Fin 4) (received : Bool)
  /-- SRC_RECOVER_EXPIRY (R367). t_src_recover ends after a Hard Reset and vSafe5V is restored. -/
  | srcRecoverExpiry (port : Fin 4)
  /-- SWAP_PS_RDY_TIMEOUT (R368). No PS_RDY from the partner within 500 ms of the hub's own and the port enters ERROR_RECOVERY. -/
  | swapPsRdyTimeout (port : Fin 4)
  /-- DESK_REOFFER (R362). After grants fall, new capabilities go to ports in order, each after the last negotiation ends or 1 s. -/
  | deskReoffer
  /-- DESK_RECLAIM_TIMEOUT (R363). A sink has no contract within reduced capabilities 1 s after they were sent and receives Hard Reset. -/
  | deskReclaimTimeout (port : Fin 4)
  /-- CONTRACT_TIMEOUT (R382). No explicit contract within 1 s of attach, so the port runs power only or as DFP without PD. -/
  | contractTimeout (port : Fin 4)
  /-- DESK_STATUS (R379). Reports a desk port's state, contract, offer, grant and measurements. -/
  | deskStatus (mv ma : Nat)
  /-- DESK_CONTROL (R378). Disables, enables, hard-resets, re-offers, swaps or recovers a desk port. -/
  | deskControl
  /-- VDM_DISCOVER (R383). The hub answers Discover Identity, SVIDs or Modes. -/
  | vdmDiscover (port : Fin 4) (sop : Fin 3) (kind : Fin 3) (svid : BitVec 16)
  /-- VDM_ENTER_MODE (R384). Enter Mode is ACKed or NAKed; after GoodCRC SBU moves to AUX. -/
  | vdmEnterMode (port : Fin 4) (sop : Fin 3) (svid : BitVec 16) (mode : BitVec 3) (goodCrc : Bool)
  /-- VDM_EXIT_MODE (R385). Exit Mode is ACKed and the port leaves the alternate mode. -/
  | vdmExitMode (port : Fin 4) (sop : Fin 3) (svid : BitVec 16) (goodCrc : Bool)
  /-- DP_STATUS_UPDATE (R384). A DP Status Update is answered with the hub's status. -/
  | dpStatusUpdate (port : Fin 4)
  /-- DP_CONFIGURE (R384). A DP Configure is ACKed and the mux changes after its GoodCRC, or NAKed. -/
  | dpConfigure (port : Fin 4) (pin : Byte) (rate : BitVec 3) (goodCrc : Bool)
  /-- DP_SINK_TRAINING (R388). The laptop trains the DP sink and a stream is accepted or left without video. -/
  | dpSinkTraining (port : Fin 4) (rate : Fin 6) (lanes : Fin 3) (stream : Option (Nat × Nat × Nat × Bool))
  /-- CAPTURE_FRAME_COMPLETE (R393). A source frame is captured whole and its damage is queued, replacing an unsent one. -/
  | captureFrameComplete (port : Fin 4) (lines : List (Nat × List Word))
  /-- DAMAGE_SEND (R394). Damage and refresh spans are sent as PIXELS cells in bands within the RASTER windows. -/
  | damageSend (port : Fin 4)
  /-- USB_TUNNEL_ATTACH (R400). End B receives ATTACH and answers ATTACH_ACK with a status. -/
  | usbTunnelAttach (idx : BitVec 14) (port : BitVec 2)
  /-- USB_TUNNEL_ATTACH_ACK (R400). End A receives ATTACH_ACK and shows the device or closes and retries. -/
  | usbTunnelAttachAck (idx : BitVec 14) (status : Byte) (speed : BitVec 2)
  /-- USB_TUNNEL_DETACH (R400). DETACH arrives and the mapped port shows disconnected. -/
  | usbTunnelDetach (idx : BitVec 14) (status : Byte)
  /-- USB_TUNNEL_PACKET (R401). A USB packet PDU is carried to the device or back to the dock. -/
  | usbTunnelPacket (idx : BitVec 14) (uop : Byte) (data : List Byte)
  /-- USB_LAPTOP_TRANSACTION (R401). The laptop's transaction is flow-controlled and forwarded without waiting on the tunnel. -/
  | usbLaptopTransaction (port : Fin 4) (dsport : BitVec 3) (iso inward : Bool) (data : List Byte)
  /-- PERIPHERAL_ENUMERATE (R397). A device on a PERIPHERAL port is enumerated and made exportable. -/
  | peripheralEnumerate (port : Fin 4) (speed : BitVec 2) (exportable : Bool)
  /-- DESK_TUNNEL_RETRY (R405). 10 s after a refusal, a desk port's network, video or USB tunnel is opened again. -/
  | deskTunnelRetry (port : Fin 4) (which : BitVec 3)
  /-- DESK_DATA_STATUS (R410). Reports a desk port's data role, alt mode, sink, USB and counters. -/
  | deskDataStatus
  /-- DESK_BIND (R405). Sets or ends a docking binding, reopening tunnels and signalling HPD. -/
  | deskBind
  /-- NVME_COMMAND_FETCH (R416). The hub fetches an SQ entry of a storage function and issues it over the tunnel or X10. -/
  | nvmeCommandFetch (fn : BitVec 5) (qid cid : BitVec 16) (opc flags : Byte) (nsid cdw10 cdw11 cdw12 : Word) (data : List Word)
  /-- STORAGE_PDU_REQUEST (R420). The drive's hub checks a storage request against its volume, encrypts or decrypts, and issues the NVMe command. -/
  | storagePduRequest (idx : BitVec 14) (op : Byte) (volume : BitVec 4) (tag nlb : BitVec 16) (lba : BitVec 64) (data : List Word)
  /-- STORAGE_COMPLETION (R419). A COMPLETION arrives and the CQ entry is posted. -/
  | storageCompletion (src : StorFrom) (tag status : BitVec 16) (data : List Word)
  /-- STORAGE_INFO (R419). INFO or INFO_ACK is exchanged and the namespace becomes READY or OFFLINE. -/
  | storageInfo (idx : BitVec 14) (volume : BitVec 4) (ack : Option (Byte × Byte × BitVec 64))
  /-- STORAGE_TIMEOUT (R423). No COMPLETION within t_stor; the command completes with Transient Transport Error. -/
  | storageTimeout (tag : BitVec 16)
  /-- DRIVE_LINK_UP (R424). A root port's drive links up and is brought from INIT to READY. -/
  | driveLinkUp (port : Fin 2) (gen lanes : BitVec 3) (ident : Option DriveIdent)
  /-- DRIVE_READY_TIMEOUT (R424). The drive is not ready within 10 s of link-up and enters FAILED. -/
  | driveReadyTimeout (port : Fin 2)
  /-- STOR_STATUS (R437). Reports a storage function's ready namespaces and counters. -/
  | storStatus
  /-- STOR_DRIVE (R437). Reports the drive state and volumes of a root port. -/
  | storDrive
  /-- ETH_LINK_CHANGE (R425). An Ethernet link comes up or goes down and EV216 is raised. -/
  | ethLinkChange (port : Fin 4) (signal : Option (Fin 6))
  /-- ETH_FRAME_RECEIVE (R427). A frame from an E port or a tunnel is bridged by VLAN and learning table. -/
  | ethFrameReceive (src : EthFrom) (frame : List Byte)
  /-- ETH_LEARN_AGE (R427). A learnt address unused for 300 s is aged out. -/
  | ethLearnAge (group : BitVec 24) (mac : BitVec 48)
  /-- PTP_SYNC_SEND (R428). A MASTER port sends Announce and Sync every 2^LOG_SYNC s. -/
  | ptpSyncSend (port : Fin 4)
  /-- PTP_MESSAGE_RECEIVE (R428). A PTP event message arrives and is timestamped, answered or fed to the servo. -/
  | ptpMessageReceive (port : Fin 4) (domain : Byte) (msg : PtpMsg)
  /-- ETH_STATUS (R437). Reports an Ethernet port's link, PTP state and counters. -/
  | ethStatus
  /-- ETH_FLUSH (R427). Empties learning table entries for a group or all. -/
  | ethFlush
  /-- FEED_SAMPLE (R439). Each 1 µs tick feed voltages are compared with the thresholds and feed states move. -/
  | feedSample (a b bus : Nat)
  /-- FEED_QUALIFY_EXPIRY (R439). A feed stays in the qualifying band for QUAL_MS and becomes GOOD. -/
  | feedQualifyExpiry (feed : Fin 2)
  /-- FEED_WARN_SWITCH_TIMER (R440). 2 ms after FEED_WARN was asserted, the pending switch to the GOOD feed starts. -/
  | feedWarnSwitchTimer
  /-- FEED_REVERT_TIMER (R440). FEED_A has been GOOD for REVERT_S while FEED_B is selected, so the hub switches back. -/
  | feedRevertTimer
  /-- FEED_GATE_OFF_SENSED (R441). The old gate's sense falls below threshold and the dead time starts. -/
  | feedGateOffSensed
  /-- FEED_GATE_OFF_TIMEOUT (R441). The old gate has not fallen within 50 µs; the old feed enters FET_FAULT and selection drops to none. -/
  | feedGateOffTimeout
  /-- FEED_DEAD_TIME_END (R441). DEAD_US passes and the new gate is driven on. -/
  | feedDeadTimeEnd
  /-- FEED_GATE_ON_SENSED (R441). The new gate's sense rises above threshold and the switch completes. -/
  | feedGateOnSensed
  /-- FEED_GATE_ON_TIMEOUT (R441). The new gate has not risen within 2 ms; the new feed enters FET_FAULT. -/
  | feedGateOnTimeout
  /-- FEED_WARN_RELEASE (R443). FEED_WARN has been asserted 10 ms and the selected feed above WARN_V + 1 V for 10 ms, so it is released. -/
  | feedWarnRelease
  /-- SEAT_SAMPLE (R445). Each 1 µs tick SEAT_n is sampled; two unseated ticks make an unseat. -/
  | seatSample (port : Fin 16) (seated : Bool)
  /-- SEATING_QUALIFIED (R445). Seating qualifies 50 ms after the first seated tick and the port enters INRUSH when a feed is selected. -/
  | seatingQualified (port : Fin 16)
  /-- UNSEAT_WINDOW_END (R446). A 10 s unseat window ends, possibly entering or leaving UNSTABLE with EV230. -/
  | unseatWindowEnd (port : Fin 16)
  /-- PORT_POWER_TICK (R449). Each 1 µs tick in INRUSH or ON the hub applies limit, fault timer, fast trip, inrush checks and PG. -/
  | portPowerTick (port : Fin 16) (mv : Nat) (ma : Int) (gate fast : Bool)
  /-- INRUSH_TIMEOUT (R447). PG has not been given INRUSH_MS after INRUSH began and the port trips with cause 5. -/
  | inrushTimeout (port : Fin 16)
  /-- SHORT_AT_START (R447). The output is still below 5 V 5 ms after INRUSH began and the port trips with cause 6. -/
  | shortAtStart (port : Fin 16)
  /-- GATE_RISE_TIMEOUT (R448). The gate has not risen within GATE_RISE_MS of INRUSH and the port becomes DAMAGED. -/
  | gateRiseTimeout (port : Fin 16)
  /-- SHORTED_FET_DETECT (R448). The output stands above 10 V for 10 ms with the gate off and the port becomes DAMAGED kind 1. -/
  | shortedFetDetect (port : Fin 16)
  /-- RETRY_INSTANT (R452). RETRY_WAIT ends and a seated port enters INRUSH or waits for a feed. -/
  | retryInstant (port : Fin 16)
  /-- CALIBRATOR_DONE (R547). The current-sense calibrator finishes its check and the port retries or enters LOCKOUT. -/
  | calibratorDone (port : Fin 16) (lasting : Bool)
  /-- PORT_ON_60S (R452). A port stays ON for 60 s and its trip count is cleared. -/
  | portOn60s (port : Fin 16)
  /-- METER_SAMPLE (R456). All ports sample V and I together and update energy accumulators. -/
  | meterSample (samples : List (Nat × Int))
  /-- ENERGY_WINDOW_CLOSE (R459). An energy window closes plus U; its totals are kept and EV231 is raised. -/
  | energyWindowClose
  /-- PWR_STATUS (R465). Reports feed states, selection, FEED_WARN and switch counts. -/
  | pwrStatus
  /-- PWR_PORT_STATUS (R465). Reports a lighting port's power state, trips and counters. -/
  | pwrPortStatus
  /-- PWR_METER (R465). Returns a port's latest sample or snapshot and energy. -/
  | pwrMeter
  /-- PWR_INTERVAL (R465). Returns the last closed energy window of a port. -/
  | pwrInterval
  /-- PWR_FEED (R464). Forces a feed, returns to automatic selection or clears FET_FAULT. -/
  | pwrFeed
  /-- PWR_PORT (R464). Turns a lighting port off, enables it, trips it or ends RETRY_WAIT. -/
  | pwrPort
  /-- TAMPER_ALARM (R483). A tamper input or monitor alarms and the hub zeroizes, halts or locks the vault as its timing requires. -/
  | tamperAlarm (source : Fin 7)
  /-- TAMPER_UNSTABLE_END (R482). An UNSTABLE tamper input stays inactive for 60 s and EV243 flag 0 is raised. -/
  | tamperUnstableEnd (input : Fin 4)
  /-- TAMPER_RECORD_COPY (R486). A tamper record is copied to the persistent log within 1 s of DOM_MGMT running. -/
  | tamperRecordCopy
  /-- LIFECYCLE_ARM_LAPSE (R476). 10 s pass after a lifecycle arm without commit and the arm lapses. -/
  | lifecycleArmLapse
  /-- KEY_STATUS (R489). Reports lifecycle, LC_GEN, vault state and BAD slots. -/
  | keyStatus
  /-- KEY_SLOT (R488). Returns a slot's metadata and public key. -/
  | keySlot
  /-- KEY_MEASURE (R472). Returns the measurement registers M0–M7. -/
  | keyMeasure
  /-- KEY_ATTEST (R480). Returns a quote signed by the attestation key. -/
  | keyAttest
  /-- KEY_CERTS (R489). Returns the operational, intermediate, attestation or device certificate. -/
  | keyCerts
  /-- KEY_GENERATE (R489). Makes a key in slot 1 or an OWNER slot. -/
  | keyGenerate
  /-- KEY_PUT (R489). Writes the anchor or co-signature public key. -/
  | keyPut
  /-- KEY_DERIVE (R474). Derives a volatile key bound to chosen measurements. -/
  | keyDerive
  /-- KEY_ERASE (R488). Erases a key slot. -/
  | keyErase
  /-- KEY_EXTEND (R472). Extends M7 with a digest. -/
  | keyExtend
  /-- KEY_SIGN (R489). Signs a digest with a SIGN slot. -/
  | keySign
  /-- KEY_CSR (R479). Returns a PKCS#10 request signed with slot 1. -/
  | keyCsr
  /-- KEY_CERT_SET (R479). Installs the operational or intermediate certificate after checking the chain. -/
  | keyCertSet (cert : Cert)
  /-- KEY_DENY (R489). Adds, removes or clears deny-list fingerprints. -/
  | keyDeny
  /-- KEY_LIFECYCLE (R476). Arms or commits a lifecycle transition, which writes OTP, erases keys and cold resets. -/
  | keyLifecycle
  /-- KEY_TAMPER (R489). Reports tamper state, clears a standing alarm or clears the tamper log. -/
  | keyTamper
  /-- UPD_STATUS (R510). Reports session, trial, slots and versions. -/
  | updStatus
  /-- UPD_BEGIN (R496). Opens an update session of TOTAL bytes. -/
  | updBegin
  /-- UPD_BLOCK (R497). Stores a block of the package. -/
  | updBlock
  /-- UPD_COMMIT (R498). Checks the whole package and makes the session COMMITTED. -/
  | updCommit (vendor owner digests : Bool) (rootVer : Byte)
  /-- UPD_ABORT (R496). Ends the session and discards its blocks. -/
  | updAbort
  /-- UPD_ACTIVATE (R501). Takes the update lease, sets TRIAL and cold resets into the new image. -/
  | updActivate
  /-- UPD_CONFIRM (R504). Ends the trial, releases the lease and raises EV250. -/
  | updConfirm
  /-- UPD_LEASE (R501). The ROOT grants or refuses the tree's update lease. -/
  | updLease (ans : Option (List Word))
  /-- UPD_LEASE_END (R501). The ROOT ends the lease of its holder. -/
  | updLeaseEnd
  /-- UPD_IDLE_TIMEOUT (R496). t_upd_idle passes without activity and the session ends. -/
  | updIdleTimeout
  /-- LEASE_TIMEOUT (R501). t_lease ends and the ROOT ends the lease. -/
  | leaseTimeout
  /-- HEALTH_LOW (R503). 60 s before the health timer ends, EV253 is raised. -/
  | healthLow
  /-- HEALTH_TIMER_EXPIRY (R505). The health timer ends in trial and the hub cold resets into the fall-back image. -/
  | healthTimerExpiry (info : StartInfo)
  /-- AUTO_CONFIRM (R504). With AUTO_CONFIRM set, the confirm conditions hold for 30 s and the hub confirms itself. -/
  | autoConfirm
  /-- ROW_TEST_DONE (R544). A Groundsheet row test ends and the row is restored, spared or retired with EV065. -/
  | rowTestDone (bank : Fin 64) (row : Fin 1024) (pass : Bool)
  /-- LANE_TEST_DONE (R545). A lane loopback test ends and the lane rejoins or is retired. -/
  | laneTestDone (port : Fin 4) (lane : Fin 2) (pass : Bool)
  /-- LPDDR_ECC_ERROR (R548). An uncorrectable LPDDR5X or table error is handled by its user and EV014 raised. -/
  | lpddrEccError (err : MemErr) (addr : Nat) (info : StartInfo)
  /-- ENGINE_MEMORY_ERROR (R549). An uncorrectable engine memory error stops the engine and raises EV015. -/
  | engineMemoryError (engine : Fin 12)
  /-- PCIE_AER_ERROR (R540). A PCIe uncorrectable error under AER is logged as CLASS 11. -/
  | pcieAerError (port : Fin 2) (status : Word)
  /-- PERSISTENT_LOG_WRITE (R551). A lasting-fault entry is written to boot flash within 1 s, retried once, else EV016. -/
  | persistentLogWrite (ok : Bool)
  /-- DIAG_STATUS (R555). Reports retired lanes, locked-out ports, spares and log sequence. -/
  | diagStatus
  /-- DIAG_ERRLOG (R555). Returns entries of the error log or persistent log. -/
  | diagErrlog
  /-- DIAG_TEST (R555). Runs a row, lane, calibrator or loopback test, reported by EV013. -/
  | diagTest (loop : BitVec 4)
  /-- DIAG_RESTORE (R555). Tests a repaired unit and removes its repair table entry if it passes. -/
  | diagRestore
  /-- DIAG_CLEAR (R555). Clears the error log, and the persistent log where the lifecycle allows. -/
  | diagClear
  /-- POWER_LOSS (R527). VAON is lost (both feeds and every desk VBUS gone), and the hub loses every state except flash and OTP. -/
  | powerLoss
  /-- DRIVE_LINK_DOWN (R424). The root-port drive's link goes down or the drive is removed, so the drive becomes ABSENT and every volume goes OFFLINE. -/
  | driveLinkDown (port : Fin 2)
  /-- DRIVE_FATAL_STATUS (R424). The drive sets CSTS.CFS while READY, so it enters FAILED and its volumes go OFFLINE with EV209 and EV210. -/
  | driveFatalStatus (port : Fin 2)
  /-- PCIE_LINK_CHANGE (R412). A PCIe port finishes training at its generation and width, or loses its link. -/
  | pcieLinkChange (port : Fin 2) (gen lanes : BitVec 3)
  /-- LANE_SEARCH_ALIGN (R144). A dropped lane running SEARCH on its own aligns, and the hub starts the LANE_ADD exchange. -/
  | laneSearchAlign (port : Fin 4) (lane : Fin 2)
  /-- PD_PARTNER_ANSWER (R382). The partner answers a PR_Swap, DR_Swap, VCONN_Swap or Request the hub sent with Accept, Reject, Not_Supported or PS_RDY. -/
  | pdPartnerAnswer (port : Fin 4) (msg : PdMsg) (answer : PdAnswer) (info : StartInfo)
  /-- SOURCE_CAPS_RECEIVE (R364). As sink, the port receives the partner's Source_Capabilities and requests the 5 V PDO, sending PR_Swap when Dual-Role Power is set. -/
  | sourceCapsReceive (port : Fin 4) (dualRole : Bool) (ma : Nat)
  /-- EPR_MODE_EXIT (R359). The sink requests EPR_Mode Exit and the hub leaves EPR mode. -/
  | eprModeExit (port : Fin 4)
  /-- DEAD_FEED_ADVERTISEMENT (R372). In DEAD_SINK, the source's Rp advertisement rises, so the hub may draw more power and start DOM_VAULT and DOM_MGMT. -/
  | deadFeedAdvertisement (port : Fin 4) (rp : Rp) (info : StartInfo)
  /-- LINK_RATE_REPORT (R172). The ROOT receives a hub's report of a link's rate and lane count on its ROOT channel and may raise EV085. -/
  | linkRateReport (hub : BitVec 16) (port : Fin 4) (kbps : Nat) (bundled : Bool)
  /-- DISP_UNDERRUN (R330). During scan-out, memory cannot supply a line in time, so the head shows BG, counts c_disp_underrun and may raise EV180. -/
  | dispUnderrun (head : Fin 2) (ecc : Bool)
  /-- STORAGE_TUNNEL_RETRY (R418). 10 s after a refused storage tunnel, the function's hub opens it again. -/
  | storageTunnelRetry (fn : BitVec 5) (nsid : Fin 16)
  /-- FLR_WAIT_EXPIRY (R423). 100 ms after a storage function reset, the wait ends and EV212 reports the commands still in progress. -/
  | flrWaitExpiry (fn : BitVec 5)
  /-- TAMPER_SOURCE_INACTIVE (R484). Every tamper source of a standing alarm becomes inactive, so the alarm state reads awaiting clear. -/
  | tamperSourceInactive (source : Fin 7)
  /-- DISP_LINK_TRAINED (R326). A head's DisplayPort training ends, and the head enters RUN or NOFIT, or NO_SINK with cause 3 when every rate fails. -/
  | dispLinkTrained (head : Fin 2) (result : Option (Fin 6 × Fin 3))
  /-- DESK_USB_LINK_TRAINED (R387). The desk port's SuperSpeed link to the laptop finishes training again after a mux change, and EV203 is raised. -/
  | deskUsbLinkTrained (port : Fin 4) (rate : Fin 3)
  /-- DP_STREAM_ENDED (R388). The laptop stops the DP stream, so the sink leaves VIDEO and EV202 is raised with cause 3. -/
  | dpStreamEnded (port : Fin 4)
  deriving DecidableEq, Repr

end Sys2Proof
end

