-- ==== Sys2Proof/Machine/State.lean ====
section
/-!
DEFINITION. The whole state of the hub as plain data, one structure per part of the spec; faults and refusals; and the state
after reset. Each field's docstring names the rule of spec/ that gives it. Default values are the values at reset.
-/

namespace Sys2Proof.Machine

/-- Role of a hub (R2, R15). -/
inductive Role where
  | root
  | relay
  | zone
  deriving DecidableEq, Repr

/-- Authority class shown in STATUS.AUTH (R32). -/
inductive Auth where
  | none
  | owner
  | tenant
  | service
  deriving DecidableEq, Repr

/-- Mailbox states (R39). -/
inductive MbxState where
  | idle
  | busy
  | done
  | offline
  deriving DecidableEq, Repr

/-- Event queue entry (R45). -/
structure EvEntry where
  /-- SEQ (R45). -/
  seq : Nat := 0
  /-- EVENT number (R45). -/
  event : Nat := 0
  /-- DATA (R45). -/
  data : Word := 0
  /-- phase stamp at which the event was raised (R45). -/
  stamp : Stamp := 0
  deriving DecidableEq, Repr

/-- One mailbox: a register window, or a framed mailbox with the same event queue (R31, R32, R37). -/
structure Mailbox where
  /-- STATUS.STATE (R32). -/
  st : MbxState := .idle
  /-- STATUS.AUTH (R32). -/
  auth : Auth := .none
  /-- STATUS.LAST_RESULT (R32). -/
  lastResult : Nat := 0
  /-- STATUS.DB_IGNORED (R32). -/
  dbIgnored : Bool := false
  /-- STATUS.RESTARTED (R32). -/
  restarted : Bool := false
  /-- IRQ_EN.EVQ_IE (R32). -/
  evqIe : Bool := false
  /-- IRQ_EN.DONE_IE (R32). -/
  doneIe : Bool := false
  /-- IRQ_STATUS.EVQ_PEND (R32). -/
  evqPend : Bool := false
  /-- IRQ_STATUS.DONE_PEND (R32). -/
  donePend : Bool := false
  /-- EVQ_PROD (R32). -/
  prod : Nat := 0
  /-- EVQ_CONS (R32). -/
  cons : Nat := 0
  /-- request area, words by index, unlisted words read as ~0 (R32). -/
  reqArea : List (Nat × Word) := []
  /-- response area, words by index, unlisted words read as ~0 (R32). -/
  respArea : List (Nat × Word) := []
  /-- event queue, 256 slots of 16 bytes (R32). -/
  evSlots : List (Nat × EvEntry) := []
  /-- SEQ of the next event bound for this queue (R45). -/
  seqNext : Nat := 0
  /-- events lost since the last EV001 (R48). -/
  lost : Nat := 0
  /-- EVT.MASK of the mailbox (R62). -/
  mask : BitVec 256 := BitVec.allOnes 256
  /-- tenant bound to the function, 0 none (R51). -/
  tenant : Nat := 0
  /-- the running command's response is discarded (function reset) (R39). -/
  discard : Bool := false
  /-- framed mailbox: bytes of the frame being received, from SYNC on (R37). -/
  rx : List Byte := []
  /-- PCIe function: mask bits of its MSI-X vectors, 2 of them or 19 in a storage function (R35) (R50). -/
  vecMask : BitVec 19 := 0
  deriving DecidableEq, Repr

/-- A command whose doorbell was accepted (R27, R43), or a PEER command PDU (R38). -/
structure Waiting where
  /-- mailbox or mailbox tunnel it came from (R38). -/
  src : Source := .win 0
  /-- OPCODE (R41). -/
  opcode : Nat := 0
  /-- LENGTH (R41). -/
  len : Nat := 0
  /-- TAG (R41). -/
  tag : Word := 0
  /-- request data (R41). -/
  data : List Word := []
  /-- it came in a frame whose LEN is not 8 plus LENGTH (R37). -/
  badLen : Bool := false
  deriving DecidableEq, Repr

/-- Result of a command (R41). -/
structure Response where
  /-- RESULT (R41). -/
  result : Nat := 0
  /-- DETAIL (R41). -/
  detail : Nat := 0
  /-- response data (R41). -/
  data : List Word := []
  deriving DecidableEq, Repr

/-- The command that runs now (R27). -/
structure Running where
  /-- the command (R27). -/
  req : Waiting := {}
  /-- its response, once its effect is complete or a check of R42 has failed (R39). -/
  resp : Option Response := none
  deriving DecidableEq, Repr

/-- An event raised during a control restart (R49). -/
structure HeldEvent where
  /-- event number (R49). -/
  event : Nat := 0
  /-- DATA (R49). -/
  data : Word := 0
  /-- stamp (R49). -/
  stamp : Stamp := 0
  /-- mailboxes it goes to (R569). -/
  dest : EvDest := .owner
  deriving DecidableEq, Repr

/-- One entry of a clamp report (R59). -/
structure Clamp where
  /-- INDEX (R59). -/
  index : Nat := 0
  /-- TYPE (R59). -/
  type : Nat := 0
  /-- OFFSET (R59). -/
  offset : Nat := 0
  /-- WIDTH (R59). -/
  width : Nat := 0
  /-- REQUESTED (R59). -/
  requested : Word := 0
  /-- APPLIED (R59). -/
  applied : Word := 0
  deriving DecidableEq, Repr

/-- Object of an event limited per second (R593). -/
structure RateKey where
  /-- event number (R593). -/
  event : Nat := 0
  /-- source, port, tunnel or node (R593). -/
  obj : Nat := 0
  /-- counted per FCLK millisecond, else per AON second (R593). -/
  ms : Bool := false
  deriving DecidableEq, Repr

/-- Count of a limited event in the window that runs (R593). -/
structure RateSlot where
  /-- event and object (R593). -/
  key : RateKey := {}
  /-- times met in this window (R593). -/
  count : Nat := 0
  /-- DATA to report at the start of the next window (R593). -/
  held : Option Word := none
  /-- it is reported when the window ends, with what the window has counted (R593). -/
  atEnd : Bool := false
  /-- mailboxes it goes to (R569). -/
  dest : EvDest := .owner
  deriving DecidableEq, Repr

/-- Mailboxes and command execution (ch 02). -/
structure Mbx where
  /-- 0 MGMT_SPI, 1 SVC_UART, 2-5 desk-port service C0-C3, 6-21 P0 functions, 22-37 P1 functions (order of R43) (R31). -/
  boxes : Vector Mailbox 38 := Vector.replicate 38 {}
  /-- command in execution (R27). -/
  running : Option Running := none
  /-- accepted commands in the order of their doorbells, PEER commands among them (at most 64, R38) (R43). -/
  waiting : List Waiting := []
  /-- a control restart is under way (R39). -/
  restart : Bool := false
  /-- states of the mailboxes when the restart began (R39). -/
  saved : Vector MbxState 38 := Vector.replicate 38 .idle
  /-- events raised during a control restart (R49). -/
  heldEvents : List HeldEvent := []
  /-- events lost beyond the 64 held, which the next EV001 counts (R49). -/
  heldLost : List HeldEvent := []
  /-- c_auth_refused (R53). -/
  authRefused : Nat := 0
  /-- c_svc_bad_frame (R37). -/
  svcBadFrame : Nat := 0
  /-- minutes of the open service window (R54). -/
  svcWindow : Option Nat := none
  /-- boot clamp log (R60). -/
  clampLog : List Clamp := []
  /-- clamps made at start-up, saturating (R60). -/
  clampCount : Nat := 0
  /-- limited events of the running windows (R593). -/
  rate : List RateSlot := []
  /-- the MGMT_SPI transaction under way is ignored until CS_N rises (R34). -/
  spiIgnore : Bool := false
  /-- SPI_SDO is driven (R32). -/
  spiSdo : Bool := false
  /-- dword last returned to a PCIe read of a window (R32). -/
  pcieRead : Option Word := none
  deriving DecidableEq, Repr

/-- A hub joined to the tree, as the ROOT's directory holds it (R19). -/
structure HubRec where
  /-- HUB_ID (R19). -/
  hub : Nat := 0
  /-- ROLE (R19). -/
  role : Role := .zone
  /-- depth (R19). -/
  depth : Nat := 0
  /-- upstream hub (R172). -/
  parent : Nat := 0
  /-- port of the parent that leads to it (R172). -/
  parentPort : Nat := 0
  /-- ring it is a member of: its head, and PORT_A of that head (R13). -/
  ring : Option (Nat × Nat) := none
  /-- its position in that ring (R150). -/
  pos : Nat := 0
  /-- its own port toward its upstream hub, or toward PORT_A of its ring (R172). -/
  port : Nat := 0
  /-- its other ring port (R172). -/
  portB : Nat := 0
  /-- PORT_B of the head of its ring (R172). -/
  headB : Nat := 0
  /-- certificate presented at join (R175). -/
  cert : Cert := {}
  /-- Jenridun protocol version (R500). -/
  version : Nat := 0
  /-- table index of its ROOT channel at the ROOT (R19). -/
  chan : Nat := 0
  deriving DecidableEq, Repr

/-- Where the join sequence stands (R19). -/
inductive JoinPhase where
  | idle
  | waiting
  | retry
  | joined
  deriving DecidableEq, Repr

/-- Place in the tree (ch 01). -/
structure Topo where
  /-- join sequence (R19). -/
  join : JoinPhase := .idle
  /-- DEPTH (R29). -/
  depth : Nat := 255
  /-- ROOT_ID (R29). -/
  rootId : Nat := 0
  /-- port chosen as upstream, the lower member of a bundle (R18). -/
  upstream : Option (Fin 4) := none
  /-- ports held blocked as an extra path (R12). -/
  extra : Vector Bool 4 := Vector.replicate 4 false
  /-- ports whose neighbour has its upstream through this hub (R23). -/
  below : Vector Bool 4 := Vector.replicate 4 false
  /-- LAST_REFUSAL (R29). -/
  lastRefusal : Nat := 255
  /-- ROOT role: hubs admitted (R19). -/
  hubs : List HubRec := []
  /-- join requests carried to the ROOT: arrival port, HUB_ID (R167). -/
  proxied : List (Fin 4 × Nat) := []
  /-- tunnel table index of the ROOT channel (R24). -/
  rootChan : Option Nat := none
  /-- ephemeral private key of the join request that waits (R167). -/
  joinKey : List Word := []
  /-- keyshare of the join request that waits (R175). -/
  joinShare : List Word := []
  /-- the hub has followed Guyline since cold reset (R96). -/
  everJoined : Bool := false
  deriving DecidableEq, Repr

/-- What the hub as a whole does. -/
inductive Stage where
  | off
  | aonReset
  | resetHeld
  | starting
  | running
  | bivouac
  | warmStart
  deriving DecidableEq, Repr

/-- Supply faults of one domain (R514). -/
structure DomainFault where
  /-- AON seconds of the faults within 60 s, newest first (R514). -/
  times : List Nat := []
  /-- kept off until a record enables a port or a cold reset (R514). -/
  keptOff : Bool := false
  /-- the 1 s wait before switching on again runs (R514). -/
  retry : Bool := false
  deriving DecidableEq, Repr

/-- Start-up, resets and power domains (ch 17). -/
structure Sys where
  /-- ROLE in force (R15). -/
  role : Role := .zone
  /-- HUB_ID in force (R15). -/
  hubId : Nat := 0
  /-- DEPTH_LIMIT in force (R15). -/
  depthLimit : Nat := 64
  /-- stage of start-up (R518). -/
  stage : Stage := .off
  /-- cause of the last reset (R523). -/
  cause : Nat := 0
  /-- START: 0 normal, 1 dead-feed, 2 golden image (R537). -/
  start : Nat := 0
  /-- domains on, in the order of the table (R512). -/
  domains : Vector Bool 14 := Vector.replicate 14 false
  /-- supply faults per domain (R514). -/
  faults : Vector DomainFault 14 := Vector.replicate 14 {}
  /-- seconds since cold reset (R537). -/
  upS : Nat := 0
  /-- AON seconds counter (R518). -/
  aonS : Nat := 0
  /-- WARM (R537). -/
  warm : Nat := 0
  /-- RESTARTS (R537). -/
  restarts : Nat := 0
  /-- what follows the answer: KIND of SYS.RESET, 3 activation, 4 lifecycle change, 5 Bivouac entry (R535). -/
  resetDue : Option Nat := none
  /-- the 32.768 kHz clock has been confirmed (R518). -/
  clk32 : Bool := false
  /-- BIV_LIGHT (R536). -/
  bivLight : Bool := false
  /-- WAKE_MASK (R536). -/
  wakeMask : Nat := 0
  /-- wake timer in seconds (R536). -/
  wakeTimer : Nat := 0
  /-- source of the wake under way (R532). -/
  wakeSource : Option Nat := none
  /-- events a start has left waiting (R521). -/
  heldEvents : List (Nat × Word) := []
  /-- LPDDR5X fitted, MiB (R517). -/
  memMiB : Nat := Config.memMiB
  /-- base of the hub area, bytes (R517). -/
  hubBase : Nat := Config.memMiB * 1048576 - 67108864
  /-- c_sched_skip (R531). -/
  schedSkip : Nat := 0
  /-- c_table_restore (R548). -/
  tableRestore : Nat := 0
  /-- provisioned record store (R520). -/
  provStore : List Rec := []
  deriving DecidableEq, Repr

/-- Phase base states (R65). -/
inductive PhState where
  | acquire
  | locked
  | holdover
  | synth
  deriving DecidableEq, Repr

/-- Time states (R107). -/
inductive TState where
  | unset
  | locked
  | diverged
  | holdover
  deriving DecidableEq, Repr

/-- Phase record in force (R101). -/
structure PhaseCfg where
  /-- NOMINAL (R101). -/
  nominal : Nat := 0
  /-- CONDUCTOR (R101). -/
  conductor : Nat := 0
  /-- SYNTH_EN (R101). -/
  synthEn : Bool := false
  /-- ZX_POL (R101). -/
  zxPol : Bool := false
  /-- OFFSET_TOL (R101). -/
  offsetTol : Nat := 4369
  /-- SYNTH_MHZ (R101). -/
  synthMhz : Nat := 0
  /-- T_ACQUIRE (R101). -/
  tAcquire : Nat := 10
  /-- COUNT_MASK (R101). -/
  countMask : Nat := 0
  /-- COUNT_EIGHTHS (R101). -/
  countEighths : Nat := 8
  deriving DecidableEq, Repr

/-- Time record in force (R102). -/
structure TimeCfg where
  /-- SOURCE (R102). -/
  source : Nat := 0
  /-- SRC_PORT (R102). -/
  srcPort : Nat := 0
  /-- DIVERGE_US (R102). -/
  divergeUs : Nat := 1000
  /-- GROWTH (R102). -/
  growth : Nat := 100
  /-- ASYM_T0 to ASYM_T3 (R102). -/
  asym : Vector Int 4 := Vector.replicate 4 0
  deriving DecidableEq, Repr

/-- Phase base (ch 03). -/
structure Phase where
  /-- phase record (R101). -/
  cfg : PhaseCfg := {}
  /-- state (R65). -/
  st : PhState := .acquire
  /-- CYCLE and ARC of the phase counter as one number (R64). -/
  count : Nat := 0
  /-- fraction of the arc, in units of 10^-13 arc (its upper 16 bits are the arc fraction) (R64). -/
  sub : Nat := 0
  /-- reference frequency in mHz, without the correction in force (R106). -/
  freq : Nat := 50000
  /-- correction of the arc rate in force, mHz, at most 1 % of it (R72). -/
  corr : Int := 0
  /-- ZX of PHASE.STATUS (R106). -/
  zx : Nat := 0
  /-- clock times of the last 17 accepted edges, newest first (R70). -/
  edges : List Nat := []
  /-- clock time of the last edge that was not rejected (R67). -/
  lastEdge : Option Nat := none
  /-- the last 64 periods between accepted edges with no loss of mains between them, newest first, in units of 10^-10 ns (R77). -/
  periods : List Nat := []
  /-- mains has been lost since the last accepted edge (R77). -/
  gap : Bool := true
  /-- edges accepted since cold reset (R70). -/
  edgeCount : Nat := 0
  /-- consecutive accepted edges that qualify (R70). -/
  goodRun : Nat := 0
  /-- c_zx_rejected (R67). -/
  rejected : Nat := 0
  /-- rejections in the running 1 s window (R69). -/
  winRej : Nat := 0
  /-- ZX_IN is ignored as noisy (R69). -/
  noisy : Bool := false
  /-- mains accepted (R70). -/
  mainsOk : Bool := false
  /-- 50 or 60 Hz fixed by the first lock (R67). -/
  fixedNominal : Option Nat := none
  /-- pulling onto mains by rate (R72). -/
  pulling : Bool := false
  /-- cycles for which the error has stayed below 64 arcs (R72). -/
  nearRun : Nat := 0
  /-- local offset in force (R73). -/
  offset : Nat := 0
  /-- local offset is held, local stamps carry HOLDOVER (R74). -/
  offsetHeld : Bool := true
  /-- reference ARC at the last 64 accepted edges, newest first (R74). -/
  edgeArcs : List Nat := []
  /-- measured local offset (R74). -/
  measured : Option Nat := none
  /-- offset last reported (R75). -/
  reportedOffset : Option Nat := none
  /-- the last measured offset lies beyond OFFSET_TOL of the nominal one (R75). -/
  unexpected : Bool := false
  /-- Guyline is lost (R86). -/
  guyLost : Bool := true
  /-- clock time of the loss of Guyline (R96). -/
  guyLostAt : Nat := 0
  /-- Guyline followed since cold reset (R96). -/
  guyEverLocked : Bool := false
  /-- Syncs since the loss, up to 4 (R86). -/
  guySyncs : Nat := 0
  /-- a delay exchange since the loss (R86). -/
  guyDelayDone : Bool := false
  /-- REF_HOLDOVER of the last Sync (R84). -/
  refHoldover : Bool := false
  /-- REF_SYNTH of the last Sync (R84). -/
  refSynth : Bool := false
  /-- GEN followed (R87). -/
  gen : Nat := 0
  /-- depth last held while joined (R96). -/
  lastDepth : Nat := 0
  /-- ORIGIN of the last Sync, ns (R85). -/
  t1 : Nat := 0
  /-- receive time of the last Sync, ns (R85). -/
  t2 : Nat := 0
  /-- departure of the last Delay request, ns (R85). -/
  t3 : Nat := 0
  /-- link delay, ns (R85). -/
  linkDelay : Int := 0
  /-- MSEQ per link and MSG (R84). -/
  mseq : Vector Nat 12 := Vector.replicate 12 0
  /-- c_guy_bad (R84). -/
  guyBad : Nat := 0
  /-- EV100 with flag 1 raised and not yet cleared (R86). -/
  lossReported : Bool := false
  deriving DecidableEq, Repr

/-- PTP time (ch 03). -/
structure PtpTime where
  /-- time record (R102). -/
  cfg : TimeCfg := {}
  /-- TSTATE (R107). -/
  st : TState := .unset
  /-- PTP time in ns (R78). -/
  ns : Nat := 0
  /-- fraction in units of 10^-10 ns (its upper 16 bits are the ns fraction) (R78). -/
  sub : Nat := 0
  /-- time since cold reset by the PTP-disciplined oscillator, in units of 10^-10 ns, which no step of PTP time moves (R77). -/
  clock : Nat := 0
  /-- EV102 raised with flag 1 and not yet with flag 0 (R80). -/
  wide : Bool := false
  /-- rate correction, parts per 10^9 (R107). -/
  rate : Int := 0
  /-- last measured offset from source, ns (R107). -/
  offset : Int := 0
  deriving DecidableEq, Repr

/-- Scheduler entry (R88, R89). -/
structure SchedEntry where
  /-- entry index (R104). -/
  idx : Nat := 0
  /-- generation (R104). -/
  gen : Nat := 0
  /-- BASE (R91). -/
  base : Nat := 0
  /-- ACTION (R89). -/
  action : Nat := 0
  /-- NOTIFY (R90). -/
  notify : Bool := false
  /-- TARGET, or the epoch number or scene key of the owner (R89). -/
  target : Nat := 0
  /-- next instant: 50-bit phase count, or ns (R91). -/
  inst : Nat := 0
  /-- PERIOD (R92). -/
  period : Nat := 0
  /-- firings left, none until cancelled (R92). -/
  left : Option Nat := none
  /-- mailbox that armed it, none for the hub's own (R94). -/
  armer : Option Source := none
  /-- armed through SCENE.ARM (R94). -/
  byScene : Bool := false
  deriving DecidableEq, Repr

/-- Scheduler (ch 03). -/
structure Sched where
  /-- armed entries; indices 960 to 1023 are the hub's own (R88). -/
  entries : List SchedEntry := []
  /-- next generation per entry index, 0 where not listed (R104). -/
  gens : List (Nat × Nat) := []
  /-- indices of entries that fired while the running command ran (R93). -/
  lastFired : List Nat := []
  /-- firing stamps recorded by action 0, by entry index (R89). -/
  captures : List (Nat × Stamp) := []
  deriving DecidableEq, Repr

/-- One TRIG pin (R98, R99, R100). -/
structure Trig where
  /-- direction (R591). -/
  output : Bool := false
  /-- capture edges: bit 0 rising, bit 1 falling (R591). -/
  edges : Nat := 0
  /-- IDLE, the level an output drives until action 6 sets it (R591). -/
  idle : Bool := false
  /-- level driven, or last seen at an input (R98). -/
  level : Bool := false
  /-- the output drives its level (R98). -/
  driven : Bool := false
  /-- clock time of the last accepted edge (R99). -/
  lastEdge : Option Nat := none
  /-- rejections in the running window (R99). -/
  winRej : Nat := 0
  /-- pin ignored as unstable (R99). -/
  ignored : Bool := false
  /-- edges in the running window (R100). -/
  count : Nat := 0
  /-- ambiguous edges in the running window (R100). -/
  ambig : Nat := 0
  /-- edges placed in the next window (R100). -/
  nextCount : Nat := 0
  /-- ambiguous edges placed in the next window (R100). -/
  nextAmbig : Nat := 0
  /-- index of the window being counted (R100). -/
  winIdx : Nat := 0
  deriving DecidableEq, Repr

/-- Trunk port states (R113). -/
inductive PortState where
  | disabled
  | search
  | hello
  | active
  deriving DecidableEq, Repr

/-- Link record of a port (R155). -/
structure LinkCfg where
  /-- ENABLE (R155). -/
  enable : Bool := true
  /-- MAX_RATE (R155). -/
  maxRate : Nat := 0
  /-- LANES (R155). -/
  lanes : Nat := 0
  /-- RING (R155). -/
  ring : Bool := false
  /-- BUNDLE (R155). -/
  bundle : Bool := false
  /-- CREDIT_VL1 to CREDIT_VL6 (R155). -/
  credits : Vector Nat 6 := #v[128, 512, 256, 512, 512, 512]
  deriving DecidableEq, Repr

/-- What the neighbour's HELLO carries (R128). -/
structure Neighbour where
  /-- SENDER (R128). -/
  hub : Nat := 0
  /-- DEPTH (R128). -/
  depth : Nat := 255
  /-- VER (R128). -/
  ver : Nat := 0
  /-- PORT (R128). -/
  port : Nat := 0
  /-- ROLE (R128). -/
  role : Role := .zone
  /-- BUNDLE capable (R128). -/
  bundleCap : Bool := false
  /-- RING port (R128). -/
  ring : Bool := false
  /-- SEEN (R117). -/
  seen : Bool := false
  deriving DecidableEq, Repr

/-- A link control message waiting to be sent (R128). -/
structure LinkMsg where
  /-- MSG (R128). -/
  msg : Nat := 0
  /-- FLAGS (R128). -/
  flags : Nat := 0
  /-- HEAD (R128). -/
  head : Nat := 0
  /-- LINK (R128). -/
  link : Nat := 0
  /-- NSEQ (R128). -/
  nseq : Nat := 0
  /-- POS (R128). -/
  pos : Nat := 0
  /-- FAILED (R128). -/
  failed : Nat := 255
  /-- HOLD (R128). -/
  hold : Nat := 0
  /-- AT (R128). -/
  inst : Stamp := 0
  deriving DecidableEq, Repr

/-- A queue: VL queue of an egress, or a tunnel queue (R212). -/
structure QKey where
  /-- egress (R212). -/
  egress : Nat := 0
  /-- tunnel queue (R212). -/
  tunQ : Bool := false
  /-- VL, or QID (R212). -/
  id : Nat := 0
  deriving DecidableEq, Repr

/-- A cell in the hub, with the classification it keeps (R219). -/
structure QCell where
  /-- the cell (R219). -/
  cell : Cell := {}
  /-- crossbar port it arrived on (R202). -/
  ingress : Nat := 0
  /-- 0 CREDIT, 1 LOCAL, 2 SHARED (R210). -/
  pool : Nat := 0
  /-- barrier generation (R221). -/
  bgen : Nat := 0
  /-- marked for discard (R222). -/
  flush : Bool := false
  /-- has crossed to its egress (R202). -/
  crossed : Bool := false
  /-- alternate egress, 15 none (R152). -/
  alt : Nat := 15
  /-- lowest ring link of its primary path (R152). -/
  lo : Nat := 255
  /-- highest ring link of its primary path (R152). -/
  hi : Nat := 0
  /-- ring (R152). -/
  which : Nat := 0
  /-- it goes the other way round the ring, by its alternate egress (R152). -/
  way : Bool := false
  /-- it started by cut-through (R206). -/
  cut : Bool := false
  /-- the resequencer has held it (R206). -/
  waited : Bool := false
  /-- ECN_EN when it was classified (R224). -/
  ecn : Bool := true
  /-- number it took when it was first added to a queue (R220). -/
  serial : Nat := 0
  /-- queue it was last added to (R220). -/
  q : QKey := {}
  deriving DecidableEq, Repr

/-- One trunk port T0 to T3 (ch 04). -/
structure TrunkPort where
  /-- link record (R155). -/
  cfg : LinkCfg := {}
  /-- state (R113). -/
  st : PortState := .disabled
  /-- RATE in use (R160). -/
  rate : Nat := 0
  /-- the receiver has locked, so the rate stays for one more attempt (R114). -/
  stay : Bool := false
  /-- disabled by LINK.CONTROL (R113). -/
  cmdDisabled : Bool := false
  /-- the receiver has locked since entry to SEARCH (R114). -/
  locked : Bool := false
  /-- cells of a failed bundle member, to be sent as new ahead of the window (R149). -/
  resend : List QCell := []
  /-- lanes active (R160). -/
  lane : Vector Bool 2 := Vector.replicate 2 false
  /-- lanes aligned in SEARCH (R115). -/
  aligned : Vector Bool 2 := Vector.replicate 2 false
  /-- lanes retired (R546). -/
  retired : Vector Bool 2 := Vector.replicate 2 false
  /-- lanes dropped by LINK.CONTROL, which do not run SEARCH (R143). -/
  dropped : Vector Bool 2 := Vector.replicate 2 false
  /-- LANE_DROP sent, waiting for ECHO, with its cause (R143). -/
  dropPending : Vector (Option Nat) 2 := Vector.replicate 2 none
  /-- LANE_ADD sent, waiting for ECHO (R144). -/
  addPending : Vector Bool 2 := Vector.replicate 2 false
  /-- a lane test is due at the next entry to SEARCH (R546). -/
  testDue : Vector Bool 2 := Vector.replicate 2 false
  /-- uncorrectable codewords in the running 1 ms (R145). -/
  errBurst : Vector Nat 2 := Vector.replicate 2 0
  /-- EV040 raised in this window (R145). -/
  burstHeld : Vector Bool 2 := Vector.replicate 2 false
  /-- held blocked as a ring port (R150). -/
  ringBlocked : Bool := false
  /-- held blocked as a mismatched bundle member (R147). -/
  mismatch : Bool := false
  /-- member of a formed bundle (R146). -/
  bundled : Bool := false
  /-- the bundle runs on this member, since the other has left ACTIVE (R149). -/
  alone : Bool := false
  /-- neighbour's HELLO (R117). -/
  nb : Option Neighbour := none
  /-- a HELLO with SEEN has been sent (R117). -/
  sentSeen : Bool := false
  /-- EV035 raised in this entry to HELLO (R117). -/
  verRaised : Bool := false
  /-- LSEQ of the next new sequenced cell (R116). -/
  lseqNext : Nat := 0
  /-- EXPECTED (R133). -/
  expected : Nat := 0
  /-- a sequenced cell has been accepted since ACTIVE (R126). -/
  ackValid : Bool := false
  /-- an accepted cell is not yet acknowledged (R135). -/
  ackDue : Bool := false
  /-- replay requests made for this EXPECTED (R134). -/
  replayAsked : Nat := 0
  /-- t_replay_wait runs (R134). -/
  replayWait : Bool := false
  /-- cells are discarded until EXPECTED arrives (R133). -/
  discarding : Bool := false
  /-- SENT per VL1 to VL6 (R129). -/
  sent : Vector Nat 6 := Vector.replicate 6 0
  /-- LIMIT received per VL (R129). -/
  limitRx : Vector Nat 6 := Vector.replicate 6 0
  /-- LIMIT advertised per VL (R130). -/
  limitTx : Vector Nat 6 := Vector.replicate 6 0
  /-- advances of LIMIT to withhold after CREDIT was lowered (R132). -/
  withhold : Vector Nat 6 := Vector.replicate 6 0
  /-- cells that hold a credit of this receiver (R130). -/
  held : Vector Nat 6 := Vector.replicate 6 0
  /-- EV037 raised with flag 1 (R131). -/
  stalled : Vector Bool 6 := Vector.replicate 6 false
  /-- a credit cell is due (R130). -/
  creditDue : Bool := false
  /-- replay request to send (R125). -/
  reqDue : Option Nat := none
  /-- link control messages to send (R125). -/
  lcq : List LinkMsg := []
  /-- Guyline messages to send: MSG, and the receive time a Delay response carries (R125). -/
  guyq : List (Nat × Nat) := []
  /-- replay buffer, oldest first (R136). -/
  replay : List Cell := []
  /-- cells being sent again (R136). -/
  replaying : List Cell := []
  /-- seconds since entry to ACTIVE (R160). -/
  upS : Nat := 0
  /-- link counters in word order (R157). -/
  c : Vector Nat 18 := Vector.replicate 18 0
  deriving DecidableEq, Repr

/-- Ring states (R161). -/
inductive RState where
  | idle
  | protecting
  | pending
  | segmented
  | incomplete
  deriving DecidableEq, Repr

/-- Ring this hub heads (0), or is a member of (1), or the second ring of the ROOT (1) (ch 04). -/
structure Ring where
  /-- the hub has this ring (R161). -/
  on : Bool := false
  /-- PORT_A, or a member's port toward PORT_A of the head (R156). -/
  portA : Fin 4 := 0
  /-- PORT_B, or the member's other ring port (R156). -/
  portB : Fin 4 := 1
  /-- WTR (R156). -/
  wtr : Nat := 300
  /-- RSTATE (R161). -/
  st : RState := .idle
  /-- MEMBERS (R161). -/
  members : Nat := 0
  /-- POSITION (R161). -/
  pos : Nat := 0
  /-- BLOCKED_LINK (R161). -/
  blocked : Nat := 0
  /-- FAILED_LINK (R161). -/
  failed : Nat := 255
  /-- second failed link in SEGMENTED (R153). -/
  failed2 : Option Nat := none
  /-- failed links that have returned (R153). -/
  returned : List Nat := []
  /-- HEAD (R161). -/
  head : Nat := 0
  /-- NSEQ of this hub's last notice (R128). -/
  nseq : Nat := 0
  /-- notices seen, by HEAD and NSEQ (R153). -/
  seen : List (Nat × Nat) := []
  /-- WTR_LEFT (R161). -/
  wtrLeft : Nat := 0
  /-- t_wtr runs (R153). -/
  wtrRun : Bool := false
  /-- AT of RING_REVERT (R153). -/
  revertAt : Option Nat := none
  /-- HOLD of RING_REVERT in 100 ns (R153). -/
  hold : Nat := 0
  /-- cells that move back to their primary are held (R153). -/
  holding : Bool := false
  /-- link that has recovered and is released at AT (R153). -/
  recovered : Nat := 255
  /-- link to block at AT (R153). -/
  nextBlocked : Nat := 0
  /-- cells held for HOLD, in order (R153). -/
  heldCells : List QCell := []
  /-- SWITCHES (R161). -/
  switches : Nat := 0
  deriving DecidableEq, Repr

/-- Tunnel states (R185). -/
inductive TunState where
  | closed
  | opening
  | up
  | stalled
  | closing
  deriving DecidableEq, Repr

/-- OPEN_PARAMS (R190). -/
structure OpenParams where
  /-- CLASS (R190). -/
  cls : Nat := 0
  /-- FAR_EP (R190). -/
  farEp : Nat := 0
  /-- FAR_HUB (R190). -/
  farHub : Nat := 0
  /-- TENANT (R190). -/
  tenant : Nat := 0
  /-- CIR (R190). -/
  cir : Nat := 0
  /-- PIR (R190). -/
  pir : Nat := 0
  /-- CBS (R190). -/
  cbs : Nat := 1
  /-- PBS (R190). -/
  pbs : Nat := 1
  /-- NEAR_EP (R190). -/
  nearEp : Nat := 0
  deriving DecidableEq, Repr

/-- A cell held by a reliable sender (R182). -/
structure Unacked where
  /-- ESEQ (R182). -/
  eseq : Nat := 0
  /-- the cell as first sent (R182). -/
  cell : Cell := {}
  /-- times retransmitted (R182). -/
  retries : Nat := 0
  deriving DecidableEq, Repr

/-- One entry of the tunnel table (ch 05). -/
structure Tunnel where
  /-- INDEX (R165). -/
  idx : Nat := 0
  /-- GEN (R165). -/
  gen : Nat := 0
  /-- state (R185). -/
  st : TunState := .closed
  /-- parameters as opened (R190). -/
  p : OpenParams := {}
  /-- END_A (R191). -/
  endA : Bool := true
  /-- hub ID of the other end (R191). -/
  farHub : Nat := 0
  /-- tunnel number, 0 not assigned (R164). -/
  number : Nat := 0
  /-- protected hop count (R191). -/
  hops : Nat := 0
  /-- mailbox that opened it, none for the hub's own engines or a far end (R189). -/
  owner : Option Source := none
  /-- epoch at which it enters UP (R171). -/
  upAt : Option Nat := none
  /-- KGEN in use for sending (R176). -/
  kgen : Nat := 0
  /-- tunnel key (key cache) (R176). -/
  key : Nat := 0
  /-- older KGEN and key (R178). -/
  oldKey : Option (Nat × Nat) := none
  /-- a cell under the newer key has been accepted (R178). -/
  rxNew : Bool := true
  /-- ESEQ of the first data or control cell accepted under the newer key (R178). -/
  newEseq : Option Nat := none
  /-- SSEQ of the first status cell accepted under the newer key (R178). -/
  newSseq : Option Nat := none
  /-- KGEN of an offer of the other end that waits for an ephemeral slot (R178). -/
  farOffer : Option Nat := none
  /-- KGEN of the rekey this end has offered (R178). -/
  offer : Option Nat := none
  /-- the offer was abandoned and is made again after 60 s (R179). -/
  offerRetry : Bool := false
  /-- KGEN of the offer this end has answered (R183). -/
  answered : Option Nat := none
  /-- cells sent under the current key (R179). -/
  txUnderKey : Nat := 0
  /-- the direction has reached 2^33 cells (R179). -/
  keyStop : Bool := false
  /-- next ESEQ to send (R180). -/
  txEseq : Nat := 0
  /-- ESEQ expected (R180). -/
  rxEseq : Nat := 0
  /-- next SSEQ to send (R180). -/
  txSseq : Nat := 0
  /-- next SSEQ accepted (R180). -/
  rxSseq : Nat := 0
  /-- unacknowledged cells, oldest first (R182). -/
  unacked : List Unacked := []
  /-- cells delivered since the last ACK (R182). -/
  sinceAck : Nat := 0
  /-- the 4 us to the next ACK run (R182). -/
  ackTimer : Bool := false
  /-- ESEQ last NACKed, and the time of that NACK in ns (R182). -/
  nackSent : Option (Nat × Nat) := none
  /-- nothing received for t_tdead (R185). -/
  quiet : Bool := false
  /-- why STALLED: cause of EV080 (R182). -/
  stall : Nat := 0
  /-- cause of the close (R186). -/
  closeCause : Nat := 0
  /-- this end began the close (R186). -/
  began : Bool := false
  /-- CLOSE or CLOSE_ACK received (R186). -/
  gotClose : Bool := false
  /-- last data ESEQ of the peer (R186). -/
  closeEseq : Nat := 0
  /-- TUN.RELEASE sent (R186). -/
  released : Bool := false
  /-- repeats of an unanswered CLOSE or REKEY_OFFER left (R183). -/
  repeats : Nat := 0
  /-- c_tag_fail (R191). -/
  tagFail : Nat := 0
  /-- RETX (R191). -/
  retx : Nat := 0
  /-- c_tun_gap (R191). -/
  gap : Nat := 0
  /-- committed bucket C, in 2^-32 cells (R234). -/
  cTok : Nat := 0
  /-- peak bucket P, in 2^-32 cells (R234). -/
  pTok : Nat := 0
  /-- EXCESS_SENT (R259). -/
  excess : Nat := 0
  /-- DROPS (R259). -/
  drops : Nat := 0
  /-- data cells that wait at their port for tokens (R234). -/
  waiting : List Cell := []
  /-- rates asked for with ALLOT.CHANGE (R253). -/
  change : Option OpenParams := none
  /-- the PDU under way is discarded to its end (NETWORK) (R183). -/
  pduSkip : Bool := false
  /-- bytes of the NETWORK frame under way (R404). -/
  pdu : List Byte := []
  /-- a cell of the PDU under way carried CM (R215). -/
  pduCm : Bool := false
  /-- ephemeral key slot in use (R471). -/
  eph : Option Nat := none
  /-- keyshare this end has made (R175). -/
  ownShare : List Word := []
  /-- keyshare of the other end (R175). -/
  farShare : List Word := []
  /-- keyshare with which this end has answered the offer of KGEN answered (R183). -/
  ansShare : List Word := []
  /-- E2E_RETRIES when it opened (R188). -/
  retries : Nat := 8
  /-- ESEQ of the last data cell sent (R181). -/
  lastData : Option Nat := none
  /-- control cells and cells of mailbox PDUs that wait for room among the unacknowledged cells (R182). -/
  ctlWait : List Cell := []
  /-- ESEQ from which this end sends under the newer key (R178). -/
  keyEnd : Nat := 0
  /-- time since cold reset, in ns, at which the newer key was derived (R178). -/
  keyAt : Nat := 0
  /-- a control restart has begun while it opened (R174). -/
  marked : Bool := false
  /-- certificate the other end presented (R175). -/
  farCert : Cert := {}
  deriving DecidableEq, Repr

/-- Tunnel record (R188). -/
structure TunCfg where
  /-- ADMIT_PCT (R188). -/
  admitPct : Nat := 90
  /-- E2E_RETRIES (R188). -/
  e2eRetries : Nat := 8
  /-- REKEY_MIN (R188). -/
  rekeyMin : Nat := 1440
  /-- KEEP_MS (R188). -/
  keepMs : Nat := 100
  /-- DEAD_MS (R188). -/
  deadMs : Nat := 1000
  deriving DecidableEq, Repr

/-- Where an admission stands at the ROOT (R171). -/
inductive AdmitStage where
  | offered
  | accepted
  | resulted
  | released
  deriving DecidableEq, Repr

/-- A tunnel admitted by the ROOT (R171, R172). -/
structure RootTun where
  /-- tunnel number (R164). -/
  number : Nat := 0
  /-- step reached (R171). -/
  stage : AdmitStage := .offered
  /-- end A (R171). -/
  hubA : Nat := 0
  /-- end B (R171). -/
  hubB : Nat := 0
  /-- handle at end A (R193). -/
  handleA : Nat := 0
  /-- handle at end B (R193). -/
  handleB : Nat := 0
  /-- parameters (R190). -/
  p : OpenParams := {}
  /-- protected hop count (R172). -/
  hops : Nat := 0
  /-- legs of its primary and alternate paths (R172). -/
  legs : List Leg := []
  /-- AT of the epoch named for it (R252). -/
  epochAt : Nat := 0
  /-- keyshare of end A (R175). -/
  keyshareA : List Word := []
  /-- a control restart has begun in steps 3 to 7 (R174). -/
  marked : Bool := false
  deriving DecidableEq, Repr

/-- A link direction's payload capacity as reported to the ROOT (R172). -/
structure LinkRate where
  /-- hub that sends (R172). -/
  hub : Nat := 0
  /-- its port (R172). -/
  port : Nat := 0
  /-- payload rate in rate units (R172). -/
  units : Nat := 0
  /-- the link is a bundle, whose members count together (R172). -/
  bundled : Bool := false
  /-- EV085 raised with flag 1 (R194). -/
  flagged : Bool := false
  deriving DecidableEq, Repr

/-- Tunnels (ch 05). -/
structure Tun where
  /-- tunnel record (R188). -/
  cfg : TunCfg := {}
  /-- tunnel table, entries in use (R163). -/
  table : List Tunnel := []
  /-- next generation per table index, 0 where not listed (R165). -/
  gens : List (Nat × Nat) := []
  /-- c_tun_unknown (R538). -/
  unknown : Nat := 0
  /-- c_tun_dup (R538). -/
  dup : Nat := 0
  /-- c_tun_bad (R538). -/
  bad : Nat := 0
  /-- ROOT role: tunnels admitted (R164). -/
  rootTuns : List RootTun := []
  /-- ROOT role: numbers in quarantine (R164). -/
  quarantine : List Nat := []
  /-- ROOT role: link rates as reported (R172). -/
  rates : List LinkRate := []
  deriving DecidableEq, Repr

/-- Resequencer context of one space (R217). -/
structure FwdCtx where
  /-- E (R217). -/
  e : Nat := 0
  /-- cells held, with the member they came on (R218). -/
  heldCells : List QCell := []
  /-- SEQ values passed, with the PTP time in ns of each, newest first (R218). -/
  passed : List (Nat × Nat) := []
  deriving DecidableEq, Repr

/-- A forwarding entry (R199). -/
structure FwdEntry where
  /-- TUNNEL (R199). -/
  tunnel : Nat := 0
  /-- VALID; a removed entry keeps its VER (R199). -/
  valid : Bool := true
  /-- QSEL (R199). -/
  qsel : Bool := false
  /-- RINGSTEER (R199). -/
  ringsteer : Bool := false
  /-- VER (R199). -/
  ver : Nat := 0
  /-- PRIMARY (R199). -/
  primary : Nat := 0
  /-- ALTERNATE (R199). -/
  alternate : Nat := 0
  /-- WHICH (R199). -/
  which : Nat := 0
  /-- LINK_LO (R199). -/
  linkLo : Nat := 0
  /-- LINK_HI (R199). -/
  linkHi : Nat := 0
  /-- HOLD_US (R199). -/
  holdUs : Nat := 1
  /-- QID (R199). -/
  qid : Nat := 0
  /-- virtual lane of the cells it has classified, 0 before the first (R220). -/
  vl : Nat := 0
  /-- data space (R217). -/
  data : FwdCtx := {}
  /-- status space (R217). -/
  status : FwdCtx := {}
  deriving DecidableEq, Repr

/-- A queue in use, with its parameters (R239). -/
structure Queue where
  /-- the queue (R212). -/
  key : QKey := {}
  /-- cells, head first (R212). -/
  cells : List QCell := []
  /-- CR (R239). -/
  cr : Nat := 0
  /-- CD (R239). -/
  cd : Nat := 16
  /-- WEIGHT (R239). -/
  weight : Nat := 1
  /-- CONTRIB (R239). -/
  contrib : Nat := 1
  /-- commit bucket K, in 2^-32 cells (R239). -/
  tok : Nat := 0
  /-- deficit (R243). -/
  deficit : Nat := 0
  /-- deficit at the other member of a bundle (R245). -/
  deficit2 : Nat := 0
  /-- COMMITTED (R258). -/
  committed : Nat := 0
  /-- EXCESS_TX (R258). -/
  excessTx : Nat := 0
  /-- held closed by an ordered update (R220). -/
  closed : Bool := false
  /-- serial numbers of the cells ahead of the drain mark (R220). -/
  drainIds : List Nat := []
  /-- released, freed when it is empty (R219). -/
  freeing : Bool := false
  deriving DecidableEq, Repr

/-- A pair a cut-through transfer holds (R207). -/
structure CutThrough where
  /-- ingress (R207). -/
  ingress : Nat := 0
  /-- egress (R207). -/
  egress : Nat := 0
  /-- slots left (R207). -/
  slots : Nat := 0
  deriving DecidableEq, Repr

/-- One egress (R202, R243). -/
structure Egress where
  /-- egress window, oldest first (R202). -/
  window : List QCell := []
  /-- active list (R242). -/
  active : List QKey := []
  /-- rotating pointer among isochronous queues (R243). -/
  isoPtr : Nat := 0
  /-- rotating pointer among elastic queues (R243). -/
  comPtr : Nat := 0
  /-- payload rate and CR sum while scaled (R241). -/
  scale : Option (Nat × Nat) := none
  /-- grant pointer (R204). -/
  gPtr : Nat := 0
  deriving DecidableEq, Repr

/-- An outstanding barrier (R221). -/
structure Barrier where
  /-- barrier ID (R228). -/
  id : Nat := 0
  /-- last generation it covers (R221). -/
  gen : Nat := 0
  /-- FLUSH (R228). -/
  flush : Bool := false
  /-- TIMEOUT_MS has passed (R222). -/
  timedOut : Bool := false
  /-- issued by an OWNER mailbox, else by the ROOT channel (R221). -/
  byOwner : Bool := true
  /-- TIMEOUT_MS (R228). -/
  timeoutMs : Nat := 1
  deriving DecidableEq, Repr

/-- VL profile (R225). -/
structure VlProfile where
  /-- MARK (R225). -/
  mark : Nat := 0
  /-- MAX (R225). -/
  max : Nat := 0
  /-- SHIFT (R225). -/
  shift : Nat := 2
  deriving DecidableEq, Repr

/-- Fabric record (R224). -/
structure FabricCfg where
  /-- CT_MASK (R224). -/
  ctMask : Nat := 32767
  /-- ECN_EN (R224). -/
  ecnEn : Bool := true
  /-- RSQ_WIN (R224). -/
  rsqWin : Nat := 256
  /-- RSQ_US (R224). -/
  rsqUs : Nat := 20
  /-- LOCAL_MIN in force (R224). -/
  localMin : Nat := 256
  deriving DecidableEq, Repr

/-- Ridge and Groundsheet (ch 06). -/
structure Fwd where
  /-- fabric record (R224). -/
  cfg : FabricCfg := {}
  /-- VL profiles of VL1 to VL6 (R225). -/
  prof : Vector VlProfile 6 := #v[⟨64, 1024, 2⟩, ⟨16384, 4096, 2⟩, ⟨256, 2048, 2⟩, ⟨512, 4096, 2⟩, ⟨128, 4096, 2⟩, ⟨1024, 8192, 2⟩]
  /-- forwarding table (R198). -/
  entries : List FwdEntry := []
  /-- queues whose state differs from the default (R212). -/
  queues : List Queue := []
  /-- egresses X0 to X15 (R202). -/
  egress : Vector Egress 16 := Vector.replicate 16 {}
  /-- accept pointers (R204). -/
  aPtr : Vector Nat 16 := Vector.replicate 16 0
  /-- cut-through transfers (R207). -/
  cut : List CutThrough := []
  /-- LOCAL rows used per internal ingress (R210). -/
  localUsed : Vector Nat 16 := Vector.replicate 16 0
  /-- SHARED rows used (R210). -/
  sharedUsed : Nat := 0
  /-- EV068 raised with flag 1 (R211). -/
  sharedLow : Bool := false
  /-- the model's own: number of the next cell added to a queue (R220). -/
  serial : Nat := 1
  /-- NETWORK cells with CM handed to an internal port and not yet taken by their tunnel end: TUNNEL, SEQ, and ECN_EN when they were classified (R224). -/
  handed : List (Nat × Nat × Bool) := []
  /-- cells an internal ingress could not enter and offers again, with the ingress (R211). -/
  blocked : List (Nat × Cell) := []
  /-- rows out of use while their test runs: bank, row (R213). -/
  outRows : List (Nat × Nat) := []
  /-- spare rows used per bank (R209). -/
  spares : Vector Nat 64 := Vector.replicate 64 0
  /-- rows retired (R213). -/
  retiredRows : List (Nat × Nat) := []
  /-- rows mapped to a spare (R213). -/
  sparedRows : List (Nat × Nat) := []
  /-- barrier generation of new cells (R221). -/
  bgen : Nat := 0
  /-- outstanding barriers, oldest first (R221). -/
  barriers : List Barrier := []
  /-- FWD.BARRIER_DONE to send after a control restart (R223). -/
  barrierDone : List Word := []
  /-- fabric counters in word order (R226). -/
  c : Vector Nat 17 := Vector.replicate 17 0
  deriving DecidableEq, Repr

/-- A staged allotment entry, clamped (R256). -/
structure AllotEntry where
  /-- KIND: 1 QSHAPE, 2 POLICE (R256). -/
  kind : Nat := 1
  /-- word 0 (R256). -/
  w0 : Word := 0
  /-- word 1 (R256). -/
  w1 : Word := 0
  /-- word 2 (R256). -/
  w2 : Word := 0
  /-- word 3 (R256). -/
  w3 : Word := 0
  deriving DecidableEq, Repr

/-- A pending epoch (R248). -/
structure Epoch where
  /-- EPOCH_NO (R248). -/
  no : Nat := 0
  /-- AT (R248). -/
  inst : Nat := 0
  /-- closed by LAST (R248). -/
  closed : Bool := false
  /-- staged entries (R248). -/
  entries : List AllotEntry := []
  /-- its scheduler entry has fired (R249). -/
  fired : Bool := false
  /-- closed after AT (R250). -/
  late : Bool := false
  deriving DecidableEq, Repr

/-- Allotment (ch 07). -/
structure Allot where
  /-- epoch number in force (R247). -/
  epochNo : Nat := 0
  /-- an epoch has been applied since the hub last joined (R238). -/
  applied : Bool := false
  /-- an epoch has been applied or discarded since the hub last joined (R247). -/
  numbered : Bool := false
  /-- AT of the epoch in force (R257). -/
  lastAt : Nat := 0
  /-- pending epochs (R248). -/
  pendingEp : List Epoch := []
  /-- c_epoch_late (R250). -/
  late : Nat := 0
  /-- c_epoch_incomplete (R250). -/
  incomplete : Nat := 0
  /-- c_epoch_invalid (R250). -/
  invalid : Nat := 0
  /-- c_allot_orphan (R250). -/
  orphan : Nat := 0
  /-- c_epoch_skew (R238). -/
  skew : Nat := 0
  /-- c_police_drop, all tunnels (R257). -/
  policeDrop : Nat := 0
  /-- ALLOT.APPLIED to send after a control restart (R250). -/
  reports : List (List Word) := []
  /-- ROOT role: next epoch number (R247). -/
  nextEpoch : Nat := 1
  /-- ROOT role: AT of the epoch last named (R247). -/
  namedAt : Option Nat := none
  /-- ROOT role: epochs named last, newest first, with the entries of each hub (R251). -/
  named : List (Nat × List (Nat × List Word)) := []
  /-- number of the epoch that the STAGE last run has changed, and that epoch before it (R250). -/
  undo : Option (Nat × Option Epoch) := none
  /-- pending epochs discarded by ALLOT.CANCEL, TIME.RESTEP or a change of GEN and ahead of the number in force (R260). -/
  gone : List Nat := []
  /-- ROOT role: entries to stage at the first epoch after a control restart (R250). -/
  heldShapes : List (Nat × List Word) := []
  /-- ALLOT.REQUEST sent: tunnel number and table index (R253). -/
  requests : List (Nat × Nat) := []
  deriving DecidableEq, Repr

/-- Segment states (R278). -/
inductive SegState where
  | off
  | run
  | jammed
  deriving DecidableEq, Repr

/-- Node states (R275). -/
inductive NodeState where
  | free
  | held
  | admitted
  | absent
  | babbling
  deriving DecidableEq, Repr

/-- One endpoint of a node, as the hub's node table holds it (R282). -/
structure NodeEp where
  /-- TYPE word (R273). -/
  type : Nat := 0
  /-- ID in its EPID words (R282). -/
  hint : Nat := 0
  /-- endpoint ID in force, 0 none (R282). -/
  id : Nat := 0
  /-- TENANT (R282). -/
  tenant : Nat := 0
  /-- SHARED (R282). -/
  shared : Bool := false
  deriving DecidableEq, Repr

/-- One node ID of a port (R275). -/
structure Node where
  /-- state (R275). -/
  st : NodeState := .free
  /-- state before BABBLING (R277). -/
  prev : NodeState := .free
  /-- MAC address (R292). -/
  mac : Nat := 0
  /-- endpoints (R282). -/
  eps : List NodeEp := []
  /-- endpoints, 0 unknown (R292). -/
  epCount : Nat := 0
  /-- QUIET (R292). -/
  quiet : Bool := false
  /-- ALARM word (R292). -/
  alarm : Nat := 0
  /-- consecutive polls missed (R275). -/
  misses : Nat := 0
  /-- c_poll_garbled (R292). -/
  garbled : Nat := 0
  /-- violations in the running 1 s window (R277). -/
  viol : Nat := 0
  /-- consecutive whole windows with 8 violations or fewer (R277). -/
  goodWin : Nat := 0
  /-- its endpoints are being read (R282). -/
  reading : Bool := false
  /-- DIR.REPORT sent and not yet answered (R282). -/
  reported : Bool := false
  /-- DIR.GONE sent for it (R282). -/
  goneSent : Bool := false
  /-- INTR sent in the running second (R317). -/
  intrCount : Nat := 0
  /-- a change waits for the next second (R317). -/
  intrHeld : Bool := false
  deriving DecidableEq, Repr

/-- Remund commands (R270). -/
inductive RCmd where
  | none
  | read
  | write
  | assign
  | quiet
  | resume
  | forget
  deriving DecidableEq, Repr

/-- Who asked for a Remund command. -/
inductive ROrigin where
  | hub
  | bridge
  deriving DecidableEq, Repr

/-- A Remund command of a segment queue (R268, R272). -/
structure RmCmd where
  /-- CMD (R268). -/
  cmd : RCmd := .none
  /-- TID (R268). -/
  tid : Nat := 0
  /-- node ID (R268). -/
  node : Nat := 0
  /-- endpoint index (R268). -/
  ep : Nat := 0
  /-- first register word (R268). -/
  addr : Nat := 0
  /-- words (R268). -/
  count : Nat := 0
  /-- register words (R268). -/
  words : List Nat := []
  /-- MAC address of an ASSIGN (R270). -/
  mac : Nat := 0
  /-- originator (R272). -/
  origin : ROrigin := .hub
  /-- mailbox of EP.READ or EP.WRITE (R322). -/
  src : Option Source := none
  /-- tunnel index of a bridge PDU, none for this hub's own (R305). -/
  tun : Option Nat := none
  /-- bridge TAG (R305). -/
  tag : Nat := 0
  /-- LSID (R305). -/
  lsid : Nat := 0
  /-- access it is a part of (R309). -/
  seq : Nat := 0
  /-- resends made (R272). -/
  resends : Nat := 0
  /-- a posted write (R311). -/
  posted : Bool := false
  /-- a cycle frame has carried it (R272). -/
  carried : Bool := false
  deriving DecidableEq, Repr

/-- The cycle frame last sent (R268). -/
structure CycleFrame where
  /-- FEED_WARN (R268). -/
  feedWarn : Bool := false
  /-- ENROL (R268). -/
  enrol : Bool := false
  /-- POLL (R268). -/
  poll : Nat := 0
  /-- CSEQ (R268). -/
  cseq : Nat := 0
  /-- go entries: COUNT, SCENE, TKIND, target (EP and TARGET) (R285). -/
  gos : List (Nat × Nat × Nat × Nat) := []
  /-- command (R268). -/
  cmd : RmCmd := {}
  /-- SEL_BITS (R268). -/
  selBits : Nat := 0
  /-- SEL (R268). -/
  sel : Nat := 0
  deriving DecidableEq, Repr

/-- Lighting port record (R288). -/
structure LightCfg where
  /-- ENABLE (R288). -/
  enable : Bool := true
  /-- ENROL_EN (R288). -/
  enrolEn : Bool := true
  /-- BABBLE_CUT (R288). -/
  babbleCut : Nat := 0
  /-- JAM_CUT (R288). -/
  jamCut : Nat := 5
  deriving DecidableEq, Repr

/-- Lock of a segment (R313). -/
structure Lock where
  /-- LSID of the holder (R313). -/
  lsid : Nat := 0
  /-- initiating hub (R305). -/
  hub : Nat := 0
  /-- its depth (R305). -/
  depth : Nat := 0
  /-- source code (R305). -/
  source : Nat := 0
  /-- endpoint ID it names (R305). -/
  ep : Nat := 0
  /-- tunnel it came through, none for this hub (R314). -/
  tun : Option Nat := none
  /-- TAG (R305). -/
  tag : Nat := 0
  deriving DecidableEq, Repr

/-- One lighting segment (ch 08). -/
structure Segment where
  /-- lighting port record (R288). -/
  cfg : LightCfg := {}
  /-- state (R278). -/
  st : SegState := .off
  /-- cause of OFF (R278). -/
  offCause : Nat := 1
  /-- node IDs, 1 to 31 used (R275). -/
  nodes : Vector Node 32 := Vector.replicate 32 {}
  /-- CSEQ (R268). -/
  cseq : Nat := 0
  /-- cycles since the last enrol cycle (R276). -/
  cycles : Nat := 0
  /-- last rotation poll (R271). -/
  rot : Nat := 0
  /-- cycle frame last sent (R268). -/
  lastFrame : Option CycleFrame := none
  /-- the last poll was a priority poll (R271). -/
  prevPrio : Bool := false
  /-- command carried and not yet confirmed (R272). -/
  awaiting : Option RmCmd := none
  /-- the last poll was answered (R275). -/
  answered : Bool := false
  /-- command queue (R272). -/
  queue : List RmCmd := []
  /-- lock in force (R313). -/
  lock : Option Lock := none
  /-- upstream LOCK requests that wait (R314). -/
  lockWait : List Lock := []
  /-- TID last used (R268). -/
  tid : Nat := 0
  /-- enrol search under way (R276). -/
  search : Bool := false
  /-- SEL_BITS of the search (R276). -/
  bits : Nat := 0
  /-- SEL of the search (R276). -/
  sel : Nat := 0
  /-- depth-8 cycles with a signal and no frame (R276). -/
  tries : Nat := 0
  /-- the last beacon was off the grid (R265). -/
  offGrid : Bool := false
  /-- clock time of the grid instant that has come and whose beacon has not been sent (R263). -/
  due : Option Nat := none
  /-- clock time at which the last beacon started at the MDI (R265). -/
  lastStart : Option Nat := none
  /-- c_beacon_late, c_rm_bad, c_babble, c_cmd_retry, c_cmd_fail, c_enrol_abandon (R293). -/
  c : Vector Nat 6 := Vector.replicate 6 0
  deriving DecidableEq, Repr

/-- A directory record (R281). -/
structure DirRec where
  /-- ID (R281). -/
  id : Nat := 0
  /-- KIND (R281). -/
  kind : Nat := 0
  /-- PRESENT (R281). -/
  present : Bool := false
  /-- BARRED (R281). -/
  barred : Bool := false
  /-- SHARED (R281). -/
  shared : Bool := false
  /-- HUB_ID (R281). -/
  hub : Nat := 0
  /-- PORT (R281). -/
  port : Nat := 0
  /-- NODE (R281). -/
  node : Nat := 0
  /-- EP (R281). -/
  ep : Nat := 0
  /-- MAC (R281). -/
  mac : Nat := 0
  /-- TENANT (R281). -/
  tenant : Nat := 0
  /-- TYPE (R281). -/
  type : Nat := 0
  /-- SEEN (R281). -/
  seen : Nat := 0
  /-- LABEL (R281). -/
  label : Nat := 0
  deriving DecidableEq, Repr

/-- Directory of the ROOT (R280). -/
structure Dir where
  /-- DIR_MIB in force (R290). -/
  cfgMib : Nat := 64
  /-- SCENE_LEAD (R290). -/
  sceneLead : Nat := 8
  /-- records in use (R280). -/
  recs : List DirRec := []
  /-- IDs in the cache, most recently used first (R280). -/
  cache : List Nat := []
  /-- cache hits (R296). -/
  hits : Nat := 0
  /-- cache misses (R296). -/
  misses : Nat := 0
  deriving DecidableEq, Repr

/-- Progress of a go (R285, R286). -/
inductive GoPhase where
  | armed
  | went
  | settled
  deriving DecidableEq, Repr

/-- An armed scene go (R283). -/
structure Go where
  /-- HANDLE (R294). -/
  handle : Nat := 0
  /-- ROOT_HANDLE (R294). -/
  rootHandle : Nat := 0
  /-- SCENE (R294). -/
  scene : Nat := 0
  /-- TARGET (R294). -/
  target : Nat := 0
  /-- tree-wide (R283). -/
  tree : Bool := false
  /-- armed here by the ROOT itself for the tree (R284). -/
  origin : Bool := false
  /-- AT (R283). -/
  inst : Nat := 0
  /-- arming mailbox, none when it came on the ROOT channel (R287). -/
  armer : Option Source := none
  /-- progress (R285). -/
  ph : GoPhase := .armed
  /-- outcome so far: 1 until a segment has gone (R286). -/
  outcome : Nat := 1
  /-- listed with COUNT 1 (R286). -/
  listedLast : Bool := false
  /-- moved to a later instant because it came late, or gone at a late or an early beacon on a segment (R286). -/
  lateGo : Bool := false
  /-- segments in RUN that have not yet sent the beacon of AT (R286). -/
  segsLeft : List Nat := []
  /-- ROOT: hubs that have not reported (R287). -/
  hubsLeft : List Nat := []
  /-- ROOT: worst outcome reported (R287). -/
  worst : Nat := 0
  /-- ROOT: hubs with an outcome other than 0 (R287). -/
  bad : Nat := 0
  deriving DecidableEq, Repr

/-- Lighting (ch 08). -/
structure Light where
  /-- segments L0 to L15 (R262). -/
  seg : Vector Segment 16 := Vector.replicate 16 {}
  /-- gos (R283). -/
  gos : List Go := []
  /-- c_scene_late (R286). -/
  sceneLate : Nat := 0
  /-- c_scene_invalid (R295). -/
  sceneInvalid : Nat := 0
  /-- SCENE.DONE to send after a control restart (R286). -/
  reports : List (List Word) := []
  deriving DecidableEq, Repr

/-- Export record (R319). -/
structure ExportCfg where
  /-- KIND (R319). -/
  kind : Nat := 0
  /-- SEFREE (R319). -/
  sefree : Bool := false
  /-- SHARED (R319). -/
  shared : Bool := false
  /-- SIZE_LOG2 (R319). -/
  sizeLog2 : Nat := 12
  /-- TENANT (R319). -/
  tenant : Nat := 0
  /-- BASE (R319). -/
  base : Nat := 0
  /-- VALID (R319). -/
  valid : Bool := false
  deriving DecidableEq, Repr

/-- Window descriptor of a function (R301). -/
structure Window where
  /-- VALID (R301). -/
  valid : Bool := false
  /-- CONFIRM (R301). -/
  confirm : Bool := false
  /-- INTR_EN (R301). -/
  intrEn : Bool := false
  /-- EXPORT (R301). -/
  exp : Nat := 0
  /-- HANDLE (R301). -/
  handle : Nat := 0
  /-- INTR_MASK (R301). -/
  intrMask : Nat := 0
  /-- FIRST_EP (R301). -/
  firstEp : Nat := 0
  /-- PAGE (R301). -/
  page : Nat := 0
  deriving DecidableEq, Repr

/-- Bridge record (R320). -/
structure BridgeCfg where
  /-- HOLD_US (R320). -/
  holdUs : Nat := 40
  /-- COLLECT_MS (R320). -/
  collectMs : Nat := 10
  /-- LOCK_MS (R320). -/
  lockMs : Nat := 50
  /-- PREFETCH (R320). -/
  prefetch : Nat := 256
  deriving DecidableEq, Repr

/-- State of a delayed-read entry (R307). -/
inductive DrState where
  | pending
  | ready
  deriving DecidableEq, Repr

/-- Delayed-read entry (R307). -/
structure DelayedRead where
  /-- function: port * 16 + number (R307). -/
  fn : Nat := 0
  /-- window (R307). -/
  win : Nat := 0
  /-- BAR2 offset (R307). -/
  offset : Nat := 0
  /-- length in bytes (R307). -/
  len : Nat := 0
  /-- bridge tag (R306). -/
  tag : Nat := 0
  /-- PENDING or READY (R308). -/
  st : DrState := .pending
  /-- the PCIe completion is held (R307). -/
  held : Bool := false
  /-- tunnel its READ went through, none for this hub (R307). -/
  tun : Option Nat := none
  /-- cause, 0 success (R308). -/
  cause : Nat := 0
  /-- hub that answered, 0 for this hub (R315). -/
  hub : Nat := 0
  /-- slots (R308). -/
  data : List Word := []
  deriving DecidableEq, Repr

/-- A WRITE_C, LOCK or UNLOCK that waits for its answer, or a held memory read (R306, R309). -/
structure BrWrite where
  /-- LSID of a LOCK or UNLOCK (R305). -/
  lsid : Nat := 0
  /-- sent; a memory read waits for the WACKs of earlier writes (R316). -/
  sent : Bool := true
  /-- function (R306). -/
  fn : Nat := 0
  /-- window (R306). -/
  win : Nat := 0
  /-- tag (R306). -/
  tag : Nat := 0
  /-- OP (R305). -/
  op : Nat := 0
  /-- EXPORT (R305). -/
  exp : Nat := 0
  /-- slot address (R305). -/
  target : Nat := 0
  /-- SLOTS (R305). -/
  slots : Nat := 0
  /-- BYTES (R305). -/
  bytes : Nat := 0
  /-- hub that answers (R315). -/
  hub : Nat := 0
  /-- tunnel index, none for this hub (R305). -/
  tun : Option Nat := none
  deriving DecidableEq, Repr

/-- Locked sequence of a window (R313). -/
structure LockSeq where
  /-- LSID (R322). -/
  lsid : Nat := 0
  /-- function (R313). -/
  fn : Nat := 0
  /-- window (R313). -/
  win : Nat := 0
  /-- endpoint IDs, in order (R313). -/
  eps : List Nat := []
  /-- locks granted (R313). -/
  granted : Nat := 0
  /-- locks that ended without UNLOCK (R314). -/
  lost : Nat := 0
  /-- tunnel index of the window, none for this hub (R313). -/
  tun : Option Nat := none
  /-- refusals (R314). -/
  refusals : Nat := 0
  /-- the random back-off runs (R314). -/
  backoff : Bool := false
  /-- a lock has expired (R314). -/
  expired : Bool := false
  /-- mailbox (R322). -/
  src : Source := .win 0
  /-- every lock granted (R313). -/
  complete : Bool := false
  deriving DecidableEq, Repr

/-- Bridge error log entry (R315). -/
structure ErrLogEntry where
  /-- SOURCE (R315). -/
  source : Nat := 0
  /-- CAUSE (R315). -/
  cause : Nat := 0
  /-- EXPORT (R315). -/
  exp : Nat := 0
  /-- WIN (R315). -/
  win : Nat := 0
  /-- CONFIRMED (R315). -/
  confirmed : Bool := false
  /-- SLOTS (R315). -/
  slots : Nat := 0
  /-- TARGET (R315). -/
  target : Nat := 0
  /-- STAMP (R315). -/
  stamp : Stamp := 0
  /-- FAR_HUB (R315). -/
  farHub : Nat := 0
  deriving DecidableEq, Repr

/-- Prefetched bytes of a window (R312). -/
structure Prefetched where
  /-- function (R312). -/
  fn : Nat := 0
  /-- window (R312). -/
  win : Nat := 0
  /-- first byte in the export (R312). -/
  start : Nat := 0
  /-- bytes (R312). -/
  data : List (BitVec 8) := []
  deriving DecidableEq, Repr

/-- A SUBSCRIBE in force at this hub (R317). -/
structure Subscription where
  /-- tunnel index, none for this hub (R317). -/
  tun : Option Nat := none
  /-- function of this hub (R317). -/
  src : Option Source := none
  /-- FIRST_EP (R317). -/
  firstEp : Nat := 0
  /-- INTR_MASK (R317). -/
  mask : Nat := 0
  /-- tenant of the tunnel, or of the function (R300). -/
  tenant : Nat := 0
  deriving DecidableEq, Repr

/-- An access of the far bridge under way (R309). -/
structure FarAccess where
  /-- access number (R309). -/
  seq : Nat := 0
  /-- tunnel index, none for this hub (R309). -/
  tun : Option Nat := none
  /-- EP.READ or EP.WRITE of this mailbox (R322). -/
  src : Option Source := none
  /-- TAG (R305). -/
  tag : Nat := 0
  /-- OP (R305). -/
  op : Nat := 0
  /-- slot address (R305). -/
  target : Nat := 0
  /-- Remund commands still to confirm (R309). -/
  parts : Nat := 0
  /-- first failing cause (R309). -/
  cause : Nat := 0
  /-- words read (R309). -/
  data : List Word := []
  deriving DecidableEq, Repr

/-- An access of endpoint space that waits outside the segment queues (R272, R311, R313). -/
structure FarWait where
  /-- tunnel index, none for this hub (R305). -/
  tun : Option Nat := none
  /-- EP.READ or EP.WRITE of this mailbox (R322). -/
  src : Option Source := none
  /-- TAG (R305). -/
  tag : Nat := 0
  /-- LSID (R305). -/
  lsid : Nat := 0
  /-- OP (R305). -/
  op : Nat := 0
  /-- slot address (R305). -/
  target : Nat := 0
  /-- its Remund commands: slot address and words (R309). -/
  parts : List (Nat × Nat) := []
  /-- tenant it is made for (R300). -/
  tenant : Nat := 0
  /-- slots of a write (R310). -/
  words : List Word := []
  deriving DecidableEq, Repr

/-- A posted write that waits at its PCIe port for bridge tags (R306). -/
structure PortWrite where
  /-- function (R306). -/
  fn : Nat := 0
  /-- BAR2 offset (R301). -/
  off : Nat := 0
  /-- slots with their byte enables (R304). -/
  slots : List (BitVec 4 × Word) := []
  deriving DecidableEq, Repr

/-- Bridges (ch 09). -/
structure Bridge where
  /-- bridge record (R320). -/
  cfg : BridgeCfg := {}
  /-- exports 1 to 15 (0 is endpoint space) (R319). -/
  exports : Vector ExportCfg 16 := Vector.replicate 16 {}
  /-- windows: function * 8 + window (R301). -/
  windows : Vector Window 256 := Vector.replicate 256 {}
  /-- delayed-read entries (R307). -/
  dr : List DelayedRead := []
  /-- requests that wait for an answer (R306). -/
  out : List BrWrite := []
  /-- locked sequences of this hub's windows (R313). -/
  seqs : List LockSeq := []
  /-- next LSID (R322). -/
  nextLsid : Nat := 1
  /-- bridge error log, oldest first (R315). -/
  log : List ErrLogEntry := []
  /-- prefetched bytes (R312). -/
  pf : List Prefetched := []
  /-- subscriptions held for other hubs and this hub's windows (R317). -/
  subs : List Subscription := []
  /-- accesses under way (R309). -/
  far : List FarAccess := []
  /-- next access number (R309). -/
  nextSeq : Nat := 0
  /-- accesses that wait outside the segment queues, oldest first (R311). -/
  wait : List FarWait := []
  /-- writes that wait at their port, oldest first (R306). -/
  port : List PortWrite := []
  /-- c_dr_retry, c_dr_nofree, c_dr_discard, c_pf_hit, c_pf_drop, c_lock_abort, c_errlog_lost, c_br_far_fail, c_br_bad (R322). -/
  c : Vector Nat 9 := Vector.replicate 9 0
  deriving DecidableEq, Repr

/-- Head states (R326). -/
inductive HeadState where
  | off
  | noSink
  | training
  | run
  | nofit
  deriving DecidableEq, Repr

/-- Genlock states (R332). -/
inductive GlState where
  | free
  | locking
  | locked
  deriving DecidableEq, Repr

/-- Head record (R344). -/
structure HeadCfg where
  /-- ENABLE (R344). -/
  enable : Bool := true
  /-- PAIR (R344). -/
  pair : Bool := false
  /-- SWAP (R344). -/
  swap : Bool := false
  /-- MAX_RATE (R344). -/
  maxRate : Nat := 5
  /-- MAX_LANES (R344). -/
  maxLanes : Nat := 2
  /-- GENLOCK (R344). -/
  genlock : Nat := 0
  /-- TENANT (R344). -/
  tenant : Nat := 0
  /-- P (R344). -/
  p : Nat := 1
  /-- Q (R344). -/
  q : Nat := 1
  /-- N (R344). -/
  n : Nat := 60
  /-- D (R344). -/
  d : Nat := 1
  /-- VFP_FLEX (R344). -/
  vfpFlex : Nat := 16
  /-- TRIM_PPM (R344). -/
  trimPpm : Nat := 300
  /-- COMMIT_LINES (R344). -/
  commitLines : Nat := 8
  /-- FB_BASE (R344). -/
  fbBase : Nat := 0
  /-- FB_MIB (R344). -/
  fbMib : Nat := 0
  deriving DecidableEq, Repr

/-- Mode record (R345). -/
structure ModeCfg where
  /-- BPC (R345). -/
  bpc : Bool := false
  /-- HSPOL (R345). -/
  hspol : Bool := true
  /-- VSPOL (R345). -/
  vspol : Bool := false
  /-- HACT (R345). -/
  hact : Nat := 3840
  /-- HFP (R345). -/
  hfp : Nat := 8
  /-- HSYNC (R345). -/
  hsync : Nat := 32
  /-- HBP (R345). -/
  hbp : Nat := 40
  /-- VACT (R345). -/
  vact : Nat := 2160
  /-- VFP (R345). -/
  vfp : Nat := 48
  /-- VSYNC (R345). -/
  vsync : Nat := 8
  /-- VBP (R345). -/
  vbp : Nat := 6
  deriving DecidableEq, Repr

/-- Plane descriptor (R347). -/
structure Plane where
  /-- ENABLE (R347). -/
  enable : Bool := false
  /-- FORMAT (R347). -/
  format : Bool := false
  /-- ALPHA (R347). -/
  alpha : Nat := 0
  /-- ADDR (R347). -/
  addr : Nat := 0
  /-- STRIDE (R347). -/
  stride : Nat := 0
  /-- W (R347). -/
  w : Nat := 0
  /-- H (R347). -/
  h : Nat := 0
  /-- X (R347). -/
  x : Nat := 0
  /-- Y (R347). -/
  y : Nat := 0
  deriving DecidableEq, Repr

/-- A pending commit (R334). -/
structure Commit where
  /-- COMMIT_ID (R347). -/
  id : Nat := 0
  /-- NOTIFY (R347). -/
  notify : Bool := false
  /-- BG (R347). -/
  bg : Nat := 0
  /-- BASE (R347). -/
  base : Plane := {}
  /-- OVERLAY (R347). -/
  overlay : Plane := {}
  /-- frame starts to let pass before it applies (R334). -/
  frames : Nat := 0
  /-- issuing mailbox (R335). -/
  src : Source := .win 0
  /-- it missed the deadline (R334). -/
  late : Bool := false
  deriving DecidableEq, Repr

/-- Target of a display tunnel (R338). -/
structure Target where
  /-- slot (R348). -/
  slot : Nat := 0
  /-- tunnel index (R348). -/
  tun : Nat := 0
  /-- buffer address (R348). -/
  addr : Nat := 0
  /-- STRIDE (R348). -/
  stride : Nat := 0
  /-- W (R348). -/
  w : Nat := 0
  /-- H (R348). -/
  h : Nat := 0
  /-- RASTER last sent (R339). -/
  last : Raster := {}
  deriving DecidableEq, Repr

/-- A change of HPD or an end of training that waits for the end of a control restart (R343). -/
structure HpdEvent where
  /-- 0 removed, 1 asserted, 2 IRQ_HPD, 3 training ended (R343). -/
  kind : Nat := 0
  /-- EDID blocks read (R343). -/
  edid : List (List Word) := []
  /-- the sink reports a lost lock, or training failed (R343). -/
  lost : Bool := false
  /-- link rate trained (R343). -/
  rate : Nat := 0
  /-- lanes trained (R343). -/
  lanes : Nat := 0
  deriving DecidableEq, Repr

/-- One display head (ch 10). -/
structure Head where
  /-- head record in force (R344). -/
  cfg : HeadCfg := {}
  /-- head record that takes effect at the next frame start (R344). -/
  nextCfg : Option HeadCfg := none
  /-- mode record in force (R345). -/
  mode : ModeCfg := {}
  /-- mode record that takes effect at the next frame start (R345). -/
  nextMode : Option ModeCfg := none
  /-- head state (R326). -/
  st : HeadState := .off
  /-- genlock state (R332). -/
  gl : GlState := .free
  /-- consecutive frames within the lock limit (R332). -/
  glGood : Nat := 0
  /-- time since cold reset, in ns, of the last frame start (R334). -/
  startNs : Nat := 0
  /-- scheduled instant of the frame in progress, in its base (R339). -/
  anchor : Nat := 0
  /-- what waits for the end of a control restart (R343). -/
  hpdWait : List HpdEvent := []
  /-- training has failed since HPD was asserted (R326). -/
  trainFail : Bool := false
  /-- cause with which the timing stops and starts again (R349). -/
  stopCause : Nat := 0
  /-- VFP of the frame in progress (R332). -/
  vfpNow : Nat := 48
  /-- pixel clock trim of the frame in progress, parts per 10^9 (R332). -/
  trimPpb : Int := 0
  /-- k of the frame in progress (R331). -/
  frame : Nat := 0
  /-- the timing stops at the next frame start and starts again (R333). -/
  restart : Bool := false
  /-- HPD (R326). -/
  hpd : Bool := false
  /-- cause of the last change of state (R326). -/
  trainCause : Nat := 0
  /-- link rate trained (R326). -/
  rate : Nat := 0
  /-- lanes trained, 0 none (R326). -/
  lanes : Nat := 0
  /-- EDID blocks read (R348). -/
  edid : List (List Word) := []
  /-- BG in force (R334). -/
  bg : Nat := 0
  /-- BASE in force (R334). -/
  base : Plane := {}
  /-- OVERLAY in force (R334). -/
  overlay : Plane := {}
  /-- pending commit (R335). -/
  commit : Option Commit := none
  /-- COMMIT_ID last applied (R348). -/
  lastCommit : Nat := 0
  /-- targets (R338). -/
  targets : List Target := []
  /-- last e in ns (R348). -/
  lastE : Int := 0
  /-- frames since the timing started (R348). -/
  frames : Nat := 0
  /-- c_disp_underrun, c_disp_ecc, c_commit_late, c_disp_race, c_disp_bad, c_disp_unbound, c_disp_clip (R348). -/
  c : Vector Nat 7 := Vector.replicate 7 0
  deriving DecidableEq, Repr

/-- Display heads (ch 10). -/
structure Disp where
  /-- D0, D1 (R324). -/
  head : Vector Head 2 := Vector.replicate 2 {}
  /-- latest RASTER received, by tunnel index (R341). -/
  pacing : List (Nat × Raster) := []
  deriving DecidableEq, Repr

/-- Desk port states (R351). -/
inductive AttachState where
  | disabled
  | unattached
  | attachWaitSrc
  | attachWaitSnk
  | trySrc
  | tryWaitSnk
  | attachedSrc
  | attachedSnk
  | accessory
  | cableOnly
  | errorRecovery
  | fault
  | deadSink
  deriving DecidableEq, Repr

/-- Desk port power record (R375). -/
structure DeskCfg where
  /-- ENABLE (R375). -/
  enable : Bool := true
  /-- ROLE_MODE, 1 source only (R375). -/
  roleMode : Bool := false
  /-- PPS_EN (R375). -/
  ppsEn : Bool := true
  /-- EPR_EN (R375). -/
  eprEn : Bool := false
  /-- WAIT_RETRIES (R375). -/
  waitRetries : Nat := 8
  /-- PORT_W (R375). -/
  portW : Nat := 100
  deriving DecidableEq, Repr

/-- Desk port data record (R406). -/
structure DeskDataCfg where
  /-- DATA_MODE (R406). -/
  peripheral : Bool := false
  /-- DP_EN (R406). -/
  dpEn : Bool := true
  /-- MULTI_PREF (R406). -/
  multiPref : Bool := true
  /-- NCM_EN (R406). -/
  ncmEn : Bool := true
  /-- MAX_DP_RATE (R406). -/
  maxDpRate : Nat := 5
  /-- TENANT (R406). -/
  tenant : Nat := 0
  /-- CAP_BASE (R406). -/
  capBase : Nat := 0
  /-- CAP_MIB (R406). -/
  capMib : Nat := 64
  /-- REFRESH_LINES (R406). -/
  refreshLines : Nat := 8
  deriving DecidableEq, Repr

/-- Progress of a PR_Swap (R368). -/
inductive SwapPhase where
  | none
  | accepted
  | oldOff
  deriving DecidableEq, Repr

/-- Explicit contract (R358). -/
structure Contract where
  /-- voltage, mV (R379). -/
  mv : Nat := 0
  /-- current or current limit, mA (R379). -/
  ma : Nat := 0
  /-- PPS or AVS contract (R358). -/
  pps : Bool := false
  deriving DecidableEq, Repr

/-- USB map record of a mapped port (R407). -/
structure UsbMap where
  /-- KIND (R407). -/
  kind : Nat := 0
  /-- FAR_PORT (R407). -/
  farPort : Nat := 0
  /-- FAR_HUB (R407). -/
  farHub : Nat := 0
  /-- CIR (R407). -/
  cir : Nat := 15625
  deriving DecidableEq, Repr

/-- A mapped port of the internal USB hub (R398). -/
structure Mapped where
  /-- USB map record (R407). -/
  map : UsbMap := {}
  /-- mapped port state (R398). -/
  st : Nat := 0
  /-- USB tunnel (R399). -/
  tun : Option Nat := none
  /-- SPEED the device enumerated at (R400). -/
  speed : Nat := 0
  /-- tried again after 10 s (R400). -/
  retry : Bool := false
  /-- tried again only after the map or the binding changes (R400). -/
  barred : Bool := false
  /-- STATUS last reported (R411). -/
  status : Nat := 0
  deriving DecidableEq, Repr

/-- Binding of a DOCK port (R409). -/
structure Binding where
  /-- STICKY (R409). -/
  sticky : Bool := false
  /-- TENANT (R409). -/
  tenant : Nat := 0
  /-- NET_HUB (R409). -/
  netHub : Nat := 0
  /-- NET_EP (R409). -/
  netEp : Nat := 0
  /-- NET_CIR (R409). -/
  netCir : Nat := 0
  /-- VIDEO (R409). -/
  video : Nat := 0
  /-- HEAD (R409). -/
  head : Fin 2 := 0
  /-- FORMAT (R409). -/
  format : Bool := false
  /-- VIDEO_HUB (R409). -/
  videoHub : Nat := 0
  /-- ADDR (R409). -/
  addr : Nat := 0
  /-- STRIDE (R409). -/
  stride : Nat := 0
  /-- W (R409). -/
  w : Nat := 0
  /-- H (R409). -/
  h : Nat := 0
  /-- VIDEO_CIR (R409). -/
  videoCir : Nat := 0
  deriving DecidableEq, Repr

/-- Device of a PERIPHERAL port (R397). -/
structure Exported where
  /-- a device is enumerated (R397). -/
  present : Bool := false
  /-- SPEED (R400). -/
  speed : Nat := 0
  /-- it may be exported (R397). -/
  exportable : Bool := false
  /-- dock it is exported to: 0 and port, mapped port packed for local, or 1 and tunnel index (R397). -/
  dock : Option (Nat × Nat) := none
  deriving DecidableEq, Repr

/-- One desk port (ch 11, 12). -/
structure DeskPort where
  /-- desk port power record (R375). -/
  cfg : DeskCfg := {}
  /-- desk port data record (R406). -/
  data : DeskDataCfg := {}
  /-- NCM_EN and TENANT in force since the last attach (R406). -/
  dataInUse : DeskDataCfg := {}
  /-- state (R351). -/
  st : AttachState := .disabled
  /-- presents Rp in UNATTACHED (R353). -/
  asSource : Bool := false
  /-- what CC1 and CC2 see (R354). -/
  cc : Cc × Cc := (.openCc, .openCc)
  /-- VBUS switch closed (R351). -/
  vbusOn : Bool := false
  /-- VCONN sourced (R379). -/
  vconnOn : Bool := false
  /-- discharge switch on (R369). -/
  discharge : Bool := false
  /-- kept out of ATTACHWAIT_SRC until VBUS is below vSafe0V (R369). -/
  attachHeld : Bool := false
  /-- ACCESSORY kind (R379). -/
  kind : Nat := 0
  /-- instants of protective actions in ns, newest first (R360). -/
  faultTimes : List Nat := []
  /-- power record in force since the last Source_Capabilities (R375). -/
  inUse : DeskCfg := {}
  /-- PR_Swap, VCONN_Swap, DR_Swap, Request sent and not yet answered (R366). -/
  asked : Vector Bool 4 := Vector.replicate 4 false
  /-- PDOs last sent: kind (0 Fixed, 1 PPS, 2 EPR Fixed, 3 AVS), lowest and highest mV, mA or W (R357). -/
  caps : List (Nat × Nat × Nat × Nat) := []
  /-- contract (R379). -/
  contract : Option Contract := none
  /-- EPR mode (R379). -/
  epr : Bool := false
  /-- cable declares 5 A (R379). -/
  cable5A : Bool := false
  /-- cable declares 50 V and 5 A (R359). -/
  cableEpr : Bool := false
  /-- last offer, 10 mW (R379). -/
  offer : Nat := 0
  /-- Source_Capabilities sent and negotiation under way (R362). -/
  capsSent : Bool := false
  /-- W of the capabilities last sent, 10 mW (R358). -/
  capsW : Nat := 0
  /-- voltage transition under way (R358). -/
  transition : Option Contract := none
  /-- waits for its turn to be offered again (R362). -/
  reoffer : Bool := false
  /-- capabilities were reduced and 1 s runs (R363). -/
  reclaim : Bool := false
  /-- Rp 3.0 A advertised (R356). -/
  rpHigh : Bool := false
  /-- SinkTxOK (R356). -/
  sinkTxOk : Bool := true
  /-- PR_Swap under way (R368). -/
  swap : SwapPhase := .none
  /-- the hub becomes source by it (R368). -/
  swapToSrc : Bool := false
  /-- PR_Swap sent once in this attach (R364). -/
  prAsked : Bool := false
  /-- Wait answers to PR_Swap, VCONN_Swap, DR_Swap, Request (R366). -/
  waits : Vector Nat 4 := Vector.replicate 4 0
  /-- t_wait_retry runs, per message (R366). -/
  waitRun : Vector Bool 4 := Vector.replicate 4 false
  /-- the message is not sent until the next attach or Hard Reset (R366). -/
  gaveUp : Vector Bool 4 := Vector.replicate 4 false
  /-- t_src_recover runs (R367). -/
  recovering : Bool := false
  /-- HARD_RESETS (R379). -/
  hardResets : Nat := 0
  /-- VBUS_MV (R379). -/
  vbusMv : Nat := 0
  /-- IBUS_MA (R379). -/
  ibusMa : Nat := 0
  /-- current requested as sink, mA (R364). -/
  sinkMa : Nat := 0
  /-- the hub is DFP on this port (R382). -/
  dfp : Bool := false
  /-- DATA_ROLE (R410). -/
  roleHeld : Bool := false
  /-- ALT (R410). -/
  alt : Bool := false
  /-- PIN (R410). -/
  pin : Nat := 0
  /-- SBU pins carry AUX (R384). -/
  muxAux : Bool := false
  /-- sink state (R388). -/
  sink : Nat := 0
  /-- DP_RATE (R410). -/
  dpRate : Nat := 0
  /-- lanes trained (R411). -/
  dpLanes : Nat := 0
  /-- USB (R410). -/
  usb : Nat := 0
  /-- HPD signalled (R389). -/
  hpd : Bool := false
  /-- binding (R405). -/
  binding : Option Binding := none
  /-- NETWORK tunnel (R404). -/
  netTun : Option Nat := none
  /-- DISPLAY tunnel (R409). -/
  vidTun : Option Nat := none
  /-- network tunnel tried again after 10 s (R405). -/
  netRetry : Bool := false
  /-- video tunnel tried again after 10 s (R405). -/
  vidRetry : Bool := false
  /-- network tunnel waits for a change of the binding (R405). -/
  netBarred : Bool := false
  /-- video tunnel waits for a change of the binding (R405). -/
  vidBarred : Bool := false
  /-- mapped ports 2 to 7 (R396). -/
  mapped : Vector Mapped 6 := Vector.replicate 6 {}
  /-- device of a PERIPHERAL port (R397). -/
  dev : Exported := {}
  /-- CAP_BASE, CAP_MIB and REFRESH_LINES in force since the last source frame (R406). -/
  capNow : DeskDataCfg := {}
  /-- SRC_W (R410). -/
  srcW : Nat := 0
  /-- SRC_H (R410). -/
  srcH : Nat := 0
  /-- a captured frame waits to be sent (R393). -/
  frameWait : Bool := false
  /-- the sending of a frame has begun and not ended (R393). -/
  sendOn : Bool := false
  /-- damaged spans of the frame waiting to be sent: line, span (R392). -/
  damage : List (Nat × Nat) := []
  /-- spans of the frame being sent that are not yet sent (R393). -/
  sending : List (Nat × Nat) := []
  /-- next line to refresh (R395). -/
  refreshNext : Nat := 0
  /-- the next band is the first of its frame (R394). -/
  firstBand : Bool := true
  /-- c_desk_frame_drop, c_desk_split, c_usb_iso_drop, c_usb_bad, c_ncm_tagged (R410). -/
  c : Vector Nat 5 := Vector.replicate 5 0
  deriving DecidableEq, Repr

/-- Desk ports (ch 11, 12). -/
structure Desk where
  /-- C0 to C3 (R350). -/
  port : Vector DeskPort 4 := Vector.replicate 4 {}
  /-- DESK_BUDGET (R376). -/
  budget : Nat := 240
  /-- port last offered again, and when in ns (R362). -/
  offering : Option (Nat × Nat) := none
  /-- service port (R371). -/
  service : Option (Fin 4) := none
  /-- dead-feed power level: 0 2.5 W, 1 7.5 W, 2 15 W (R372). -/
  level : Nat := 0
  deriving DecidableEq, Repr

/-- PCIe port record (R430). -/
structure PcieCfg where
  /-- MODE (R430). -/
  mode : Nat := 0
  /-- MAX_GEN (R430). -/
  maxGen : Nat := 5
  /-- FUNCS (R430). -/
  funcs : Nat := 16
  deriving DecidableEq, Repr

/-- Function record (R431). -/
structure FuncCfg where
  /-- STORAGE (R431). -/
  storage : Bool := false
  /-- TENANT (R431). -/
  tenant : Nat := 0
  deriving DecidableEq, Repr

/-- Namespace map record (R432) and state of the namespace (R417). -/
structure NsMap where
  /-- VALID (R432). -/
  valid : Bool := false
  /-- VOLUME (R432). -/
  volume : Nat := 0
  /-- DRIVE_HUB (R432). -/
  driveHub : Nat := 0
  /-- CIR (R432). -/
  cir : Nat := 156250
  /-- READY (R417). -/
  ready : Bool := false
  /-- LBADS last answered (R419). -/
  lbads : Nat := 0
  /-- COUNT last answered (R419). -/
  count : Nat := 0
  /-- STORAGE tunnel (R418). -/
  tun : Option Nat := none
  /-- tried again after 10 s (R418). -/
  retry : Bool := false
  /-- waits for a change of the map (R418). -/
  barred : Bool := false
  deriving DecidableEq, Repr

/-- A storage command in progress (R416). -/
structure StorCmd where
  /-- function (R416). -/
  fn : Nat := 0
  /-- I/O queue (R416). -/
  qid : Nat := 0
  /-- NVMe command identifier (R416). -/
  cid : Nat := 0
  /-- NSID (R416). -/
  nsid : Nat := 0
  /-- storage tag (R419). -/
  tag : Nat := 0
  /-- OP (R419). -/
  op : Nat := 0
  /-- LBA (R419). -/
  lba : Nat := 0
  /-- NLB (R419). -/
  nlb : Nat := 0
  deriving DecidableEq, Repr

/-- A storage function (R413). -/
structure StorFn where
  /-- namespaces 1 to 16 (R432). -/
  ns : Vector NsMap 16 := Vector.replicate 16 {}
  /-- commands completed (R437). -/
  done : Nat := 0
  /-- c_stor_timeout (R437). -/
  timeouts : Nat := 0
  /-- c_stor_bad (R437). -/
  bad : Nat := 0
  /-- the 100 ms after a function reset run (R423). -/
  flrWait : Bool := false
  /-- queues created: 0 CQ or 1 SQ, number, size (R415). -/
  queues : List (Nat × Nat × Nat) := []
  /-- NVMe interrupt vector of each CQ whose interrupts are enabled (R413). -/
  cqIv : List (Nat × Nat) := []
  /-- Number of Queues (R415). -/
  nQueues : Nat := 16
  /-- Interrupt Coalescing (R415). -/
  coalesce : Nat := 0
  /-- Asynchronous Event Configuration (R415). -/
  aerMask : Nat := 0
  /-- outstanding Asynchronous Event Requests (R415). -/
  aers : List Nat := []
  /-- NSIDs whose attribute change is not yet reported (R417). -/
  aerNotices : List Nat := []
  /-- CC.EN (R413). -/
  ccEn : Bool := false
  /-- completions posted: queue, command identifier, status, newest first (R416). -/
  cq : List (Nat × Nat × Nat) := []
  deriving DecidableEq, Repr

/-- A volume of a drive on this hub (R433). -/
structure Volume where
  /-- VALID (R433). -/
  valid : Bool := false
  /-- SHARED (R433). -/
  shared : Bool := false
  /-- PORT (R433). -/
  port : Fin 2 := 0
  /-- TENANT (R433). -/
  tenant : Nat := 0
  /-- DRIVE_NSID (R433). -/
  nsid : Nat := 1
  /-- START (R433). -/
  start : Nat := 0
  /-- COUNT (R433). -/
  count : Nat := 1
  /-- ONLINE (R419). -/
  online : Bool := false
  /-- the volume has had a key made (R422). -/
  keyed : Bool := false
  deriving DecidableEq, Repr

/-- Drive states (R437). -/
inductive DriveState where
  | absent
  | init
  | ready
  | failed
  deriving DecidableEq, Repr

/-- NVMe drive of a root port (R424). -/
structure Drive where
  /-- state (R424). -/
  st : DriveState := .absent
  /-- namespaces, 1 first (R424). -/
  ns : List NsIdent := []
  /-- Percentage Used (R437). -/
  used : Nat := 0
  /-- Critical Warning (R437). -/
  warning : Nat := 0
  /-- CC.SHN sent (R424). -/
  shn : Bool := false
  deriving DecidableEq, Repr

/-- A request of a STORAGE tunnel or of X10 that the drive works on (R420). -/
structure DriveReq where
  /-- tunnel, none for a function of this hub (R419). -/
  tun : Option Nat := none
  /-- TAG (R419). -/
  tag : Nat := 0
  /-- VOLUME (R419). -/
  vol : Nat := 0
  /-- OP (R419). -/
  op : Nat := 0
  /-- NSID of the drive command (R420). -/
  nsid : Nat := 0
  /-- SLBA of the drive command (R420). -/
  lba : Nat := 0
  /-- NLB (R420). -/
  nlb : Nat := 0
  deriving DecidableEq, Repr

/-- P0 or P1 (R412). -/
structure PciePort where
  /-- PCIe port record in force (R430). -/
  cfg : PcieCfg := {}
  /-- link generation, 0 down (R437). -/
  linkGen : Nat := 0
  /-- lanes (R437). -/
  lanes : Nat := 0
  /-- drive of a root port (R424). -/
  drive : Drive := {}
  deriving DecidableEq, Repr

/-- PCIe ports and storage (ch 13). -/
structure Stor where
  /-- P0, P1 (R412). -/
  port : Vector PciePort 2 := Vector.replicate 2 {}
  /-- function binding in force: port * 16 + number (R414). -/
  func : Vector FuncCfg 32 := Vector.replicate 32 {}
  /-- function record that waits for a function reset (R414). -/
  nextFunc : Vector (Option FuncCfg) 32 := Vector.replicate 32 none
  /-- storage functions (R413). -/
  fn : Vector StorFn 32 := Vector.replicate 32 {}
  /-- commands in progress (R416). -/
  cmds : List StorCmd := []
  /-- volumes (R433). -/
  vol : Vector Volume 16 := Vector.replicate 16 {}
  /-- drive commands under way (R420). -/
  reqs : List DriveReq := []
  /-- storage PDUs with a reserved OP that came to this hub as the drive's hub (R419). -/
  bad : Nat := 0
  /-- tunnel and volume of each INFO answered, to which INFO_ACK is sent again (R419). -/
  asked : List (Nat × Nat) := []
  deriving DecidableEq, Repr

/-- Ethernet port record (R434). -/
structure EthCfg where
  /-- MODE (R434). -/
  mode : Nat := 0
  /-- PTP_ROLE (R434). -/
  ptpRole : Nat := 0
  /-- DELAY (R434). -/
  p2p : Bool := false
  /-- PROFILE (R434). -/
  as : Bool := false
  /-- TRANSPORT (R434). -/
  transport : Nat := 0
  /-- UNTAG_PVID (R434). -/
  untagPvid : Bool := true
  /-- PAUSE_EN (R434). -/
  pauseEn : Bool := false
  /-- DOMAIN (R434). -/
  domain : Nat := 0
  /-- LOG_SYNC (R434). -/
  logSync : Int := -3
  /-- MAX_FRAME (R434). -/
  maxFrame : Nat := 1522
  /-- PVID (R434). -/
  pvid : Nat := 1
  /-- TX_LAT (R434). -/
  txLat : Nat := 0
  /-- RX_LAT (R434). -/
  rxLat : Nat := 0
  deriving DecidableEq, Repr

/-- One Ethernet port (ch 13). -/
structure EthPort where
  /-- Ethernet port record (R434). -/
  cfg : EthCfg := {}
  /-- UP (R437). -/
  up : Bool := false
  /-- speed (R437). -/
  speed : Nat := 0
  /-- time since cold reset, in ns, until which the partner's PAUSE holds (R425). -/
  pausedTo : Nat := 0
  /-- frames that wait for a PAUSE to end (R425). -/
  txWait : List (List Byte) := []
  /-- PTP port state (R437). -/
  ptp : Nat := 0
  /-- c_eth_rx_err (R437). -/
  rxErr : Nat := 0
  /-- c_eth_vlan_drop (R437). -/
  vlanDrop : Nat := 0
  /-- frames sent (R437). -/
  sent : Nat := 0
  /-- frames received (R437). -/
  received : Nat := 0
  /-- sequence of the next Sync (R428). -/
  syncSeq : Nat := 0
  /-- two-step Sync that waits for its Follow_Up: sequence, master, receive time and correction in 2^-16 ns (R82). -/
  syncIn : Option (Nat × Nat × Int × Int) := none
  /-- receive time less departure time of the last Sync, in 2^-16 ns (R82). -/
  syncDiff : Int := 0
  /-- sequence of the last delay request (R82). -/
  reqSeq : Nat := 0
  /-- its departure time in 2^-16 ns, until it is answered (R82). -/
  reqAt : Option Int := none
  /-- two-step Pdelay_Resp that waits for its follow-up: sequence, and the time measured so far in 2^-16 ns (R82). -/
  pdIn : Option (Nat × Int) := none
  /-- mean path delay in 2^-16 ns (R82). -/
  pathDelay : Int := 0
  /-- best master heard (R428). -/
  master : Option PtpMaster := none
  /-- masters heard (R428). -/
  masters : List PtpMaster := []
  deriving DecidableEq, Repr

/-- VLAN map record held (R435). -/
structure VlanMap where
  /-- PORT (R435). -/
  port : Fin 4 := 0
  /-- VID (R435). -/
  vid : Nat := 1
  /-- TENANT (R435). -/
  tenant : Nat := 0
  /-- GROUP (R435). -/
  group : Nat := 0
  deriving DecidableEq, Repr

/-- Learning table entry (R427). -/
structure Learnt where
  /-- group (R427). -/
  group : Nat := 0
  /-- MAC address (R427). -/
  mac : Nat := 0
  /-- tunnel (R427). -/
  tun : Nat := 0
  deriving DecidableEq, Repr

/-- Ethernet (ch 13). -/
structure Eth where
  /-- E0 to E3 (R425). -/
  port : Vector EthPort 4 := Vector.replicate 4 {}
  /-- VLAN maps held (R426). -/
  maps : List VlanMap := []
  /-- learning table (R427). -/
  learn : List Learnt := []
  /-- EV218 raised with flag 1 (R438). -/
  learnFull : Bool := false
  deriving DecidableEq, Repr

/-- Feed states (R439). -/
inductive FeedState where
  | down
  | qualifying
  | good
  | low
  | overVolt
  | fetFault
  deriving DecidableEq, Repr

/-- Feed record (R460). -/
structure FeedCfg where
  /-- WARN_DV (R460). -/
  warnDv : Nat := 420
  /-- UV_DV (R460). -/
  uvDv : Nat := 400
  /-- OV_DV (R460). -/
  ovDv : Nat := 590
  /-- DEAD_US (R460). -/
  deadUs : Nat := 20
  /-- REVERT_S (R460). -/
  revertS : Nat := 10
  /-- QUAL_MS (R460). -/
  qualMs : Nat := 100
  deriving DecidableEq, Repr

/-- One feed (R439). -/
structure Feed where
  /-- state (R439). -/
  st : FeedState := .down
  /-- voltage, mV (R465). -/
  mv : Nat := 0
  /-- gate driven on (R441). -/
  gate : Bool := false
  /-- ticks below WARN_V (R439). -/
  belowWarn : Nat := 0
  /-- ticks below UV_V (R439). -/
  belowUv : Nat := 0
  /-- ticks above OV_V (R439). -/
  aboveOv : Nat := 0
  /-- ticks the reverse turn-off has held (R441). -/
  reversed : Nat := 0
  /-- gate turned off by reverse current (R441). -/
  revOff : Bool := false
  /-- LOW by diode carry (R439). -/
  carry : Bool := false
  /-- FET_FAULT because the gate did not fall (step 2 of R441) (R440). -/
  stuck : Bool := false
  deriving DecidableEq, Repr

/-- Feed switch in progress (R441). -/
inductive SwStep where
  | idle
  | gateOff
  | dead
  | gateOn
  deriving DecidableEq, Repr

/-- Metering record (R462). -/
structure MeterCfg where
  /-- ALIGN (R462). -/
  align : Bool := false
  /-- PER_CYCLE (R462). -/
  perCycle : Nat := 20
  /-- INTERVAL_CYCLES (R462). -/
  intervalCycles : Nat := 3000
  deriving DecidableEq, Repr

/-- Lighting port power record (R461). -/
structure LpCfg where
  /-- ENABLE (R461). -/
  enable : Bool := true
  /-- ILIM (R461). -/
  ilim : Nat := 64
  /-- FAULT_MS (R461). -/
  faultMs : Nat := 10
  /-- RETRY_HS (R461). -/
  retryHs : Nat := 10
  /-- RETRY_MAX (R461). -/
  retryMax : Nat := 10
  /-- INRUSH_MA (R461). -/
  inrushMa : Nat := 25
  /-- INRUSH_MS (R461). -/
  inrushMs : Nat := 100
  /-- GATE_RISE_MS (R461). -/
  gateRiseMs : Nat := 2
  /-- SHUNT_UOHM (R461). -/
  shuntUohm : Nat := 10000
  deriving DecidableEq, Repr

/-- Port power states (R444). -/
inductive LpState where
  | off
  | unseated
  | seating
  | inrush
  | on
  | retryWait
  | latched
  | lockout
  | damaged
  | unstable
  deriving DecidableEq, Repr

/-- Snapshot of a meter (R458). -/
structure Snapshot where
  /-- V code (R458). -/
  v : Nat := 0
  /-- I code (R458). -/
  i : Int := 0
  /-- E_OUT (R458). -/
  eOut : Nat := 0
  /-- E_REV (R458). -/
  eRev : Nat := 0
  /-- STAMP (R458). -/
  stamp : Stamp := 0
  deriving DecidableEq, Repr

/-- One lighting-port output (ch 14). -/
structure LightPower where
  /-- lighting port power record (R461). -/
  cfg : LpCfg := {}
  /-- fields in force since the last entry to INRUSH (R461). -/
  inUse : LpCfg := {}
  /-- state (R527). -/
  st : LpState := .unseated
  /-- seated, levels of one tick ignored (R445). -/
  seatLow : Bool := false
  /-- reading of the previous tick, seated or not (R445). -/
  lastSeat : Bool := false
  /-- seating has qualified (R445). -/
  seatOk : Bool := false
  /-- unseats in the running 10 s window (R446). -/
  unseats : Nat := 0
  /-- consecutive whole windows with 2 unseats or fewer (R446). -/
  quietWin : Nat := 0
  /-- UNSTABLE was entered from LATCHED (R446). -/
  fromLatched : Bool := false
  /-- phase 2 of INRUSH (R447). -/
  phase2 : Bool := false
  /-- gate sense past its threshold (R449). -/
  gateFull : Bool := false
  /-- fault timer (R449). -/
  faultTimer : Nat := 0
  /-- ticks not at the limit since the last count down (R449). -/
  offLimit : Nat := 0
  /-- consecutive trips (R451). -/
  trips : Nat := 0
  /-- LAST_CAUSE (R465). -/
  lastCause : Nat := 0
  /-- the calibrator runs (R451). -/
  calRun : Bool := false
  /-- the calibrator was started by DIAG.TEST (R555). -/
  calForTest : Bool := false
  /-- LATCHED follows the calibrator (R452). -/
  latchAfter : Bool := false
  /-- retry instant, in ns since cold reset (R452). -/
  retryAt : Option Nat := none
  /-- an unseat has occurred while a retry instant was pending, or in LATCHED (R453). -/
  reseat : Bool := false
  /-- the retry instant that was pending in UNSTABLE still holds (R446). -/
  noShort : Bool := false
  /-- time since cold reset, in ns, of the last re-seat that shortened a wait (R453). -/
  shortAt : Option Nat := none
  /-- ticks since INRUSH began (R447). -/
  inrushTicks : Nat := 0
  /-- the gate has risen since INRUSH began (R448). -/
  gateRisen : Bool := false
  /-- PG (R444). -/
  pg : Bool := false
  /-- output voltage, mV (R465). -/
  mv : Nat := 0
  /-- current, mA (R465). -/
  ma : Int := 0
  /-- V code of the latest sample (R465). -/
  v : Nat := 0
  /-- I code of the latest sample (R465). -/
  i : Int := 0
  /-- stamp of the latest sample (R465). -/
  stamp : Stamp := 0
  /-- E_OUT (R457). -/
  eOut : Nat := 0
  /-- E_REV (R457). -/
  eRev : Nat := 0
  /-- fraction of E_OUT below 1 uJ, in 10^-12 uJ (R457). -/
  fracOut : Nat := 0
  /-- fraction of E_REV below 1 uJ, in 10^-12 uJ (R457). -/
  fracRev : Nat := 0
  /-- PTP time in ns of the previous sample (R457). -/
  sampleAt : Option Nat := none
  /-- snapshot (R458). -/
  snap : Option Snapshot := none
  /-- E_OUT of the open window (R459). -/
  winE : Nat := 0
  /-- samples of the open window (R459). -/
  winN : Nat := 0
  /-- AMBIGUOUS samples of the open window (R459). -/
  winAmb : Nat := 0
  /-- energy placed in the next window (R459). -/
  nextE : Nat := 0
  /-- samples placed in the next window (R459). -/
  nextN : Nat := 0
  /-- AMBIGUOUS samples placed in the next window (R459). -/
  nextAmb : Nat := 0
  /-- ENERGY of the last closed window (R465). -/
  lastE : Nat := 0
  /-- SAMPLES of the last closed window (R465). -/
  lastN : Nat := 0
  /-- AMBIGUOUS of the last closed window (R465). -/
  lastAmb : Nat := 0
  /-- STEPPED of the last closed window (R465). -/
  lastStepped : Bool := false
  /-- START of the last closed window (R465). -/
  lastStart : Stamp := 0
  /-- c_lp_trip (R465). -/
  cTrip : Nat := 0
  /-- c_lp_fast (R465). -/
  cFast : Nat := 0
  /-- c_lp_unseat (R465). -/
  cUnseat : Nat := 0
  deriving DecidableEq, Repr

/-- Power path (ch 14). -/
structure Power where
  /-- feed record (R460). -/
  feedCfg : FeedCfg := {}
  /-- FEED_A, FEED_B (R439). -/
  feed : Vector Feed 2 := Vector.replicate 2 {}
  /-- selected feed (R465). -/
  selected : Option (Fin 2) := none
  /-- FORCED (R465). -/
  forced : Bool := false
  /-- step of the switch (R441). -/
  sw : SwStep := .idle
  /-- feed switched to (R441). -/
  swTo : Fin 2 := 0
  /-- cause of the switch (R466). -/
  swCause : Nat := 0
  /-- FEED_WARN (R443). -/
  warn : Bool := false
  /-- the 2 ms after the assertion of FEED_WARN run (R440). -/
  warnLead : Bool := false
  /-- the selected feed has left GOOD for undervoltage (R440). -/
  uvLeft : Bool := false
  /-- feed forced by PWR.FEED (R464). -/
  forceTo : Fin 2 := 0
  /-- FEED_A has been GOOD for REVERT_S (R440). -/
  revertRun : Bool := false
  /-- SWITCHES (R465). -/
  switches : Nat := 0
  /-- WARNS (R465). -/
  warns : Nat := 0
  /-- bus voltage last sampled, mV (R441). -/
  busMv : Nat := 0
  /-- metering record in force (R462). -/
  meterCfg : MeterCfg := {}
  /-- metering record whose ALIGN and PER_CYCLE wait for the next cycle of local phase (R462). -/
  nextMeter : Option MeterCfg := none
  /-- cycle of local phase in which that record came (R462). -/
  meterCycle : Nat := 0
  /-- INTERVAL_CYCLES that waits for the next window boundary (R462). -/
  nextInterval : Option Nat := none
  /-- lighting-port outputs (R444). -/
  lp : Vector LightPower 16 := Vector.replicate 16 {}
  /-- CYCLE of the open energy window's opening boundary (R459). -/
  winCycle : Nat := 0
  /-- stamp of the open energy window's opening boundary (R459). -/
  winStart : Stamp := 0
  deriving DecidableEq, Repr

/-- Lifecycle states (R477). -/
inductive Lifecycle where
  | blank
  | manufacture
  | deployed
  | ret
  | scrapped
  deriving DecidableEq, Repr

/-- State of a key slot (R470). -/
inductive SlotState where
  | empty
  | valid
  | bad
  deriving DecidableEq, Repr

/-- A key slot and its metadata (R469, R470). -/
structure KeySlot where
  /-- STATE (R470). -/
  st : SlotState := .empty
  /-- KIND (R470). -/
  kind : Nat := 0
  /-- USAGE (R470). -/
  usage : Nat := 0
  /-- ORIGIN (R470). -/
  origin : Nat := 0
  /-- LC_GEN (R470). -/
  lcGen : Nat := 0
  /-- CREATED (R470). -/
  created : Stamp := 0
  /-- LABEL (R470). -/
  label : List Word := []
  /-- key field (R469). -/
  key : List Word := []
  /-- the integrity tag matches (R471). -/
  tagOk : Bool := true
  deriving DecidableEq, Repr

/-- An OTP transition record (R475). -/
structure LcRecord where
  /-- state (R475). -/
  state : Lifecycle := .blank
  /-- its CRC is good (R475). -/
  crcOk : Bool := true
  deriving DecidableEq, Repr

/-- An armed lifecycle change (R476). -/
structure Arm where
  /-- target state (R476). -/
  target : Lifecycle := .blank
  /-- CHALLENGE (R476). -/
  challenge : Word := 0
  /-- mailbox (R476). -/
  src : Source := .win 0
  deriving DecidableEq, Repr

/-- Tamper record (R485). -/
structure TamperRec where
  /-- SOURCE (R485). -/
  source : Nat := 0
  /-- WHEN (R485). -/
  whn : Nat := 0
  /-- RESPONSE (R485). -/
  response : Nat := 0
  /-- AON_S (R485). -/
  aonS : Nat := 0
  /-- STAMP (R485). -/
  stamp : Stamp := 0
  /-- copied to the persistent log (R486). -/
  copied : Bool := false
  deriving DecidableEq, Repr

/-- Security record in force (R487). -/
structure SecCfg where
  /-- TAMPER_EN (R487). -/
  en : Nat := 0
  /-- TAMPER_POL (R487). -/
  pol : Nat := 0
  /-- TAMPER_ERASE (R487). -/
  erase : Nat := 0
  /-- FILTER (R487). -/
  filter : Nat := 3
  deriving DecidableEq, Repr

/-- Vault, lifecycle and tamper (ch 15). -/
structure Vault where
  /-- OTP transition records written (R475). -/
  records : List LcRecord := []
  /-- identity root, [] not programmed (R467). -/
  idRoot : List Word := []
  /-- device certificate in boot flash (R468). -/
  devCert : Cert := {}
  /-- key slots (R469). -/
  slots : Vector KeySlot 96 := Vector.replicate 96 {}
  /-- vault LOCKED (R484). -/
  locked : Bool := false
  /-- the slot store is loaded (R519). -/
  ready : Bool := false
  /-- M0 to M7 (R472). -/
  m : Vector (List Word) 8 := Vector.replicate 8 (List.replicate 12 0)
  /-- operational and intermediate certificate installed (R489). -/
  certs : Vector Cert 2 := Vector.replicate 2 {}
  /-- attestation certificate (R480). -/
  attCert : Cert := {}
  /-- deny list (R478). -/
  deny : List (List Word) := []
  /-- c_cert_time_skip (R478). -/
  timeSkip : Nat := 0
  /-- armed change (R476). -/
  arm : Option Arm := none
  /-- a lifecycle change has been committed (R476). -/
  changing : Bool := false
  /-- tamper log, newest first (R485). -/
  log : List TamperRec := []
  /-- c_tamper (R485). -/
  cTamper : Nat := 0
  /-- sources that have alarmed and are not cleared (R484). -/
  alarm : Vector Bool 7 := Vector.replicate 7 false
  /-- sources active (R484). -/
  active : Vector Bool 7 := Vector.replicate 7 false
  /-- AON seconds of the alarms of an input within 60 s (R482). -/
  alarmAt : Vector (List Nat) 4 := Vector.replicate 4 []
  /-- UNSTABLE inputs (R482). -/
  unstable : Vector Bool 4 := Vector.replicate 4 false
  /-- security record in force (R487). -/
  cfg : SecCfg := {}
  /-- tunnel indices that wait for an ephemeral slot (R471). -/
  keyWait : List Nat := []
  deriving DecidableEq, Repr

/-- Update record (R508). -/
structure UpdCfg where
  /-- UPD_MODE (R508). -/
  secondSlot : Bool := true
  /-- AUTO_CONFIRM (R508). -/
  autoConfirm : Bool := false
  /-- PEER_UPD (R508). -/
  peerUpd : Bool := false
  /-- HEALTH_S (R508). -/
  healthS : Nat := 300
  deriving DecidableEq, Repr

/-- Session states (R510). -/
inductive UpdState where
  | none
  | opened
  | committed
  deriving DecidableEq, Repr

/-- Compatibility matrix entry (R493). -/
structure MatrixEntry where
  /-- SUBJECT (R493). -/
  subject : Nat := 0
  /-- OBJECT (R493). -/
  object : Nat := 0
  /-- OSUB (R493). -/
  osub : Nat := 0
  /-- MIN (R493). -/
  min : Nat := 0
  /-- MAX (R493). -/
  max : Nat := 0
  deriving DecidableEq, Repr

/-- A component, carried by a package or in force (R491, R493). -/
structure Component where
  /-- ID (R493). -/
  id : Nat := 0
  /-- SUB (R493). -/
  sub : Nat := 0
  /-- SVN (R493). -/
  svn : Nat := 0
  /-- VERSION (R493). -/
  version : Nat := 0
  /-- OFFSET in the package that carried it (R493). -/
  offset : Nat := 0
  /-- LENGTH (R493). -/
  length : Nat := 0
  /-- DIGEST (R493). -/
  digest : Nat := 0
  /-- matrix entries of its own header, which the hub keeps (R499). -/
  matrix : List MatrixEntry := []
  /-- configuration image of component 6, as a record stream (R491). -/
  config : List Word := []
  /-- JV of its header, for component 2 (R493). -/
  jv : Nat := 0
  deriving DecidableEq, Repr

/-- Boot control block (R494). -/
structure BootBlock where
  /-- sequence number (R494). -/
  seq : Nat := 0
  /-- active slot, 0 A, 1 B (R494). -/
  active : Nat := 0
  /-- TRIAL (R502). -/
  trial : Bool := false
  /-- TRIES (R503). -/
  tries : Nat := 0
  /-- image in slot A marked FAILED (R505). -/
  aFailed : Bool := false
  /-- image in slot B marked FAILED (R505). -/
  bFailed : Bool := false
  /-- components copied at activation (R495). -/
  copyStep : Nat := 0
  /-- failures of the copy under way (R505). -/
  copyFails : Nat := 0
  /-- the session that is on trial was in-place (R495). -/
  inPlace : Bool := false
  /-- GEN kept by a ROOT (R87). -/
  gen : Nat := 0
  /-- HEALTH_S of the trial (R516). -/
  healthS : Nat := 300
  /-- its CRC-32 is good (R494). -/
  crcOk : Bool := true
  deriving DecidableEq, Repr

/-- Firmware update (ch 16). -/
structure Upd where
  /-- update record (R508). -/
  cfg : UpdCfg := {}
  /-- SESSION (R510). -/
  session : UpdState := .none
  /-- mailbox that began the session (R496). -/
  owner : Source := .win 0
  /-- TOTAL (R496). -/
  total : Nat := 0
  /-- words received, by word offset (R497). -/
  blocks : List (Nat × Word) := []
  /-- UPD_MODE of the session (R510). -/
  mode : Bool := true
  /-- LAST_CODE (R510). -/
  lastCode : Nat := 0
  /-- LAST_FALLBACK (R510). -/
  lastFallback : Nat := 255
  /-- components of the committed package (R498). -/
  package : List Component := []
  /-- the two copies of the boot control block (R494). -/
  boot : Vector BootBlock 2 := Vector.replicate 2 {}
  /-- components of slots A and B (R494). -/
  slots : Vector (List Component) 2 := Vector.replicate 2 []
  /-- golden region (R491). -/
  golden : List Component := []
  /-- the golden image is running (R510). -/
  goldenRun : Bool := false
  /-- components in force (R510). -/
  running : List Component := []
  /-- seconds left on the health timer, none when it does not run (R503). -/
  health : Option Nat := none
  /-- EV253 raised in this start (R503). -/
  lowRaised : Bool := false
  /-- the hub was joined when UPD.ACTIVATE was answered (R504). -/
  wasJoined : Bool := false
  /-- the configuration image had a structural fault (R504). -/
  cfgFault : Bool := false
  /-- ROOT role: holder of the update lease (R501). -/
  lease : Option Nat := none
  /-- ROOT role: HEALTH_S of the holder (R501). -/
  leaseHealth : Nat := 0
  /-- UPD.ACTIVATE waits for the ROOT's answer to UPD.LEASE (R501). -/
  leaseWait : Bool := false
  /-- EV251 cause to report when DOM_MGMT starts (R505). -/
  pendFallback : Option Nat := none
  /-- UPD.LEASE_END is to be sent once the hub has joined (R505). -/
  leaseEnd : Bool := false
  /-- the inactive slot holds the former active image, the fall-back (R495). -/
  otherSlot : Bool := false
  /-- nothing beyond DOM_AON and DOM_VAULT is started (R505). -/
  dead : Bool := false
  deriving DecidableEq, Repr

/-- Error log entry (R550). -/
structure LogEntry where
  /-- CLASS (R550). -/
  cls : Nat := 0
  /-- UNIT (R550). -/
  unit : Nat := 0
  /-- OUTCOME (R550). -/
  outcome : Nat := 0
  /-- EVENT (R550). -/
  event : Nat := 255
  /-- DETAIL (R550). -/
  detail : Nat := 0
  /-- STAMP (R550). -/
  stamp : Stamp := 0
  /-- AON_S (R550). -/
  aonS : Nat := 0
  /-- BOOTS (R550). -/
  boots : Nat := 0
  /-- REPEAT (R550). -/
  rep : Nat := 0
  /-- SEQ (R550). -/
  seq : Nat := 0
  deriving DecidableEq, Repr

/-- A self-test under way (R542). -/
structure UnitTest where
  /-- KIND: 1 row, 2 lane, 3 calibrator, 4 loopback (R555). -/
  kind : Nat := 0
  /-- unit as DIAG.TEST names it (R555). -/
  unit : Nat := 0
  /-- mailbox that asked for it, none when an error started it (R556). -/
  src : Option Source := none
  /-- started by DIAG.RESTORE (R555). -/
  restore : Bool := false
  deriving DecidableEq, Repr

/-- A repair table entry (R552). -/
structure Repair where
  /-- 1 row, 2 lane (R552). -/
  kind : Nat := 0
  /-- unit as DIAG.TEST names it (R552). -/
  unit : Nat := 0
  /-- spare mapped, none for a retired row or lane (R552). -/
  spare : Option Nat := none
  deriving DecidableEq, Repr

/-- Errors, self-test and logs (ch 18). -/
structure Diag where
  /-- error log, newest first (R550). -/
  log : List LogEntry := []
  /-- persistent log, newest first (R551). -/
  plog : List LogEntry := []
  /-- SEQ of the next entry (R550). -/
  nextSeq : Nat := 0
  /-- entries not yet written to boot flash, oldest first (R551). -/
  pwait : List LogEntry := []
  /-- the oldest of them has failed once (R551). -/
  pretry : Bool := false
  /-- repair table (R552). -/
  repairs : List Repair := []
  /-- self-tests under way (R542). -/
  tests : List UnitTest := []
  /-- rows that passed a test, with AON seconds (R544). -/
  passedRows : List (Nat × Nat) := []
  /-- EV040 of a lane, as 2 x port + lane, with AON seconds (R546). -/
  bursts : List (Nat × Nat) := []
  /-- c_mem_ecc_corr (R548). -/
  memCorr : Nat := 0
  /-- cold starts recorded (R550). -/
  boots : Nat := 0
  /-- engines stopped, by engine code (R549). -/
  stopped : Vector Bool 12 := Vector.replicate 12 false
  /-- lighting ports waiting for the calibrator of each Lantern engine, in order of trip (R547). -/
  calQueue : Vector (List (Fin 16)) 4 := Vector.replicate 4 []
  deriving DecidableEq, Repr

/-- Faults: none. No row of the table is left by the spec without an effect, and the block has no exception of its own;
the type is empty, so a step can never fault (safe: nothing is stopped). -/
inductive Fault where
  deriving DecidableEq, Repr

/-- Refusals. -/
inductive Refusal where
  /-- Raised by an arm of `exec` for a command whose meaning is not written yet. Safe: the model stops. -/
  | notModelled (mnemonic : String)
  deriving DecidableEq, Repr

/-- The whole hub, and the queue of commands that wait. -/
structure State where
  /-- commands that wait, first in, first out (the model's own). -/
  pending : List Instr := []
  /-- start-up, resets and domains (R512). -/
  sys : Sys := {}
  /-- place in the tree (R29). -/
  topo : Topo := {}
  /-- mailboxes (R31). -/
  mbx : Mbx := {}
  /-- phase base (R64). -/
  phase : Phase := {}
  /-- PTP time (R78). -/
  time : PtpTime := {}
  /-- scheduler (R88). -/
  sched : Sched := {}
  /-- TRIG pins (R98). -/
  trig : Vector Trig 8 := Vector.replicate 8 {}
  /-- trunk ports T0 to T3 (R111). -/
  trunk : Vector TrunkPort 4 := Vector.replicate 4 {}
  /-- rings: 0 headed here, 1 membership, or the second ring of the ROOT (R150). -/
  ring : Vector Ring 2 := Vector.replicate 2 {}
  /-- tunnels (R163). -/
  tun : Tun := {}
  /-- Ridge and Groundsheet (R196). -/
  fwd : Fwd := {}
  /-- allotment (R247). -/
  allot : Allot := {}
  /-- lighting (R262). -/
  light : Light := {}
  /-- directory (R280). -/
  dir : Dir := {}
  /-- bridges (R297). -/
  bridge : Bridge := {}
  /-- display heads (R324). -/
  disp : Disp := {}
  /-- desk ports (R350). -/
  desk : Desk := {}
  /-- PCIe ports and storage (R412). -/
  stor : Stor := {}
  /-- Ethernet (R425). -/
  eth : Eth := {}
  /-- power path (R439). -/
  pwr : Power := {}
  /-- vault (R467). -/
  vault : Vault := {}
  /-- update (R494). -/
  upd : Upd := {}
  /-- faults (R550). -/
  diag : Diag := {}
  /-- LPDDR5X bytes, canonical: rising addresses, no byte equal to 0 listed (R517). -/
  dram : List Host.Cell := []
  /-- everything the hub has sent on its ports, newest first (the model's own). -/
  outbox : List Sent := []
  /-- position in the stream of free values (the model's own). -/
  free : Nat := 0
  deriving DecidableEq, Repr

/-- The hub before VAON is applied (R518, R527): every field at its default. -/
def State.reset : State := {}

end Sys2Proof.Machine
end

