-- ==== Sys2Proof/Machine/Operands.lean ====
section
/-!
DEFINITION. Operand forms: bit fields of words (R4, R5), packed words (R46), the words of a request (R41), the fields of a
configuration record with their clamping (R58, R59), and the bytes and CRCs of cells and frames (R36, R118 to R120).
-/

namespace Sys2Proof.Machine

/-- Bits [hi:lo] of a number. -/
def fldN (n hi lo : Nat) : Nat := n / 2 ^ lo % 2 ^ (hi + 1 - lo)

/-- Bits [hi:lo] of a word (R4). -/
def fld (w : Word) (hi lo : Nat) : Nat := fldN w.toNat hi lo

/-- One bit of a word. -/
def bitAt (w : Word) (i : Nat) : Bool := w.getLsbD i

/-- A truth value as a bit. -/
def b2n (b : Bool) : Nat := if b then 1 else 0

/-- Fields, each a value and a width, laid side by side from the most significant down. -/
def packFields : List (Nat × Nat) → Nat → Nat
  | [], acc => acc
  | (v, w) :: fs, acc => packFields fs (acc * 2 ^ w + v % 2 ^ w)

/-- Total width of a list of fields. -/
def fieldsWidth (fs : List (Nat × Nat)) : Nat := fs.foldl (fun a f => a + f.2) 0

/-- Fields packed from bit 31 down, unused low bits 0 (R46). -/
def pack (fs : List (Nat × Nat)) : Word :=
  BitVec.ofNat 32 (packFields fs 0 * 2 ^ (32 - fieldsWidth fs))

/-- A number as a word. -/
def wd (n : Nat) : Word := BitVec.ofNat 32 n

/-- A number as two words, low word first (R5). -/
def wd2 (n : Nat) : List Word := [wd n, wd (n / 2 ^ 32)]

/-- A signed number as a word in two's complement. -/
def wdI (i : Int) : Word := BitVec.ofInt 32 i

/-- The number that an n-bit field holds in two's complement. -/
def sx (n v : Nat) : Int := if v < 2 ^ (n - 1) then (v : Int) else (v : Int) - (2 ^ n : Nat)

/-- Word `n` of a list, 0 beyond its end. -/
def wordAt (ws : List Word) (n : Nat) : Word := ws.getD n 0

/-- Two words as one number, low word first. -/
def u64At (ws : List Word) (n : Nat) : Nat := (wordAt ws n).toNat + 2 ^ 32 * (wordAt ws (n + 1)).toNat

/-- Word `n` of a request's data (R41). -/
def Waiting.w (r : Waiting) (n : Nat) : Word := wordAt r.data n

/-- Bits [hi:lo] of word `n` of a request's data. -/
def Waiting.f (r : Waiting) (n hi lo : Nat) : Nat := fld (r.w n) hi lo

/-- `v` brought into the range `mn` to `mx`. -/
def clampN (mn mx v : Nat) : Nat := if v < mn then mn else if mx < v then mx else v

/-- An integer brought into a range. -/
def clampI (mn mx v : Int) : Int := if v < mn then mn else if mx < v then mx else v

/-- Reader of one record's body: the body, its place in the stream, and the clamps made so far (R58, R59). -/
structure Rd where
  /-- body -/
  body : List Word := []
  /-- record index in the stream -/
  index : Nat := 0
  /-- record type -/
  type : Nat := 0
  /-- clamps, in order -/
  clamps : List Clamp := []
  deriving DecidableEq, Repr

/-- A reading step. -/
abbrev RdM := StateM Rd

/-- The field [hi:lo] of body word `w`, with `f` giving the value applied; a change is a clamp (R59). -/
def rdF (w hi lo : Nat) (f : Nat → Nat) : RdM Nat := fun r =>
  let v := fld (wordAt r.body w) hi lo
  let a := f v
  (a, if a = v then r else
    { r with clamps := r.clamps ++ [{ index := r.index, type := r.type, offset := 32 * w + lo, width := hi + 1 - lo, requested := wd v, applied := wd a }] })

/-- A numeric field, clamped to its range (R58). -/
def rdC (w hi lo mn mx : Nat) : RdM Nat := rdF w hi lo (clampN mn mx)

/-- An encoded field: an unassigned encoding takes `d` (R58). -/
def rdE (w hi lo : Nat) (ok : Nat → Bool) (d : Nat) : RdM Nat := rdF w hi lo fun v => if ok v then v else d

/-- A field that takes every value. -/
def rdR (w hi lo : Nat) : RdM Nat := rdF w hi lo id

/-- A one-bit field. -/
def rdB (w i : Nat) : RdM Bool := fun r => (bitAt (wordAt r.body w) i, r)

/-- A one-bit field whose applied value `f` fixes. -/
def rdBF (w i : Nat) (f : Bool → Bool) : RdM Bool := fun r =>
  let (v, r') := rdF w i i (fun v => b2n (f (v == 1))) r
  (v == 1, r')

/-- A signed field, clamped. -/
def rdS (w hi lo : Nat) (mn mx : Int) : RdM Int := fun r =>
  let n := hi + 1 - lo
  let (v, r') := rdF w hi lo (fun v => (BitVec.ofInt n (clampI mn mx (sx n v))).toNat) r
  (sx n v, r')

/-- A 64-bit field in two words, low word first, with `f` giving the value applied. -/
def rd64 (w : Nat) (f : Nat → Nat) : RdM Nat := fun r =>
  let v := u64At r.body w
  let a := f v
  (a, if a = v then r else
    { r with clamps := r.clamps ++ [{ index := r.index, type := r.type, offset := 32 * w, width := 64, requested := wd v, applied := wd a }] })

/-- One bit through a CRC register of width `n` with polynomial `poly`. -/
def crcBit {n : Nat} (poly : BitVec n) (c : BitVec n) (b : Bool) : BitVec n :=
  let top := c.getMsbD 0
  if top != b then (c <<< 1) ^^^ poly else c <<< 1

/-- A byte through a CRC register, most significant bit first, no reflection. -/
def crcByte {n : Nat} (poly : BitVec n) (c : BitVec n) (x : Byte) : BitVec n :=
  [7, 6, 5, 4, 3, 2, 1, 0].foldl (fun c i => crcBit poly c (x.getLsbD i)) c

/-- CRC of bytes. -/
def crcOf {n : Nat} (poly init : BitVec n) (xs : List Byte) : BitVec n := xs.foldl (crcByte poly) init

/-- CRC-16 of a service frame (R36). -/
def crc16Frame (xs : List Byte) : BitVec 16 := crcOf 0x1021#16 0xFFFF#16 xs

/-- Header CRC-16 (R119). -/
def crc16Header (xs : List Byte) : BitVec 16 := crcOf 0x8BB7#16 0xFFFF#16 xs

/-- Link CRC-32 (R120). -/
def crc32Link (xs : List Byte) : BitVec 32 := crcOf 0x04C11DB7#32 0xFFFFFFFF#32 xs

/-- The bytes of a bit vector, most significant first (R5). -/
def bytesBE {n : Nat} (v : BitVec n) (k : Nat) : List Byte :=
  (List.range k).map fun i => v.extractLsb' (8 * (k - 1 - i)) 8

/-- Bytes of a MiB. -/
def mib : Nat := 1048576

end Sys2Proof.Machine

namespace Sys2Proof

open Sys2Proof.Machine

/-- Header bits [127:16] of a cell (R118). -/
def Cell.headBits (c : Cell) : BitVec 112 :=
  c.ctype ++ c.vl ++ BitVec.ofBool c.sop ++ BitVec.ofBool c.eop ++ BitVec.ofBool c.cm ++ BitVec.ofBool c.void ++
    BitVec.ofBool c.enc ++ c.hop ++ c.tunnel ++ c.dest ++ c.seq ++ c.len ++ c.epoch ++ c.lseq

/-- Bytes 0 to 13 of a cell. -/
def Cell.headBytes (c : Cell) : List Byte := bytesBE c.headBits 14

/-- The payload as 224 bytes. -/
def Cell.payloadBytes (c : Cell) : List Byte := (c.payload ++ List.replicate (224 - c.payload.length) 0).take 224

/-- Byte `n` of the payload. -/
def Cell.byteAt (c : Cell) (n : Nat) : Nat := (c.payload.getD n 0).toNat

/-- Bytes `n` to `n + k - 1` of the payload as one number, most significant first. -/
def Cell.numAt (c : Cell) (n k : Nat) : Nat := (List.range k).foldl (fun a i => a * 256 + c.byteAt (n + i)) 0

/-- Bytes 0 to 251 of a cell, over which the link CRC runs. -/
def Cell.crcBytes (c : Cell) : List Byte := c.headBytes ++ bytesBE c.hcrc 2 ++ c.payloadBytes ++ bytesBE c.tag 12

/-- The cell with its header CRC and link CRC computed (R119, R120). -/
def Cell.sealed (c : Cell) : Cell :=
  let c1 := { c with hcrc := crc16Header c.headBytes }
  { c1 with crc := crc32Link c1.crcBytes }

/-- HCRC is good. -/
def Cell.hcrcOk (c : Cell) : Bool := c.hcrc == crc16Header c.headBytes

/-- CRC is good. -/
def Cell.crcOk (c : Cell) : Bool := c.crc == crc32Link c.crcBytes

/-- CRC is the inverse of the computed value: the cell is stomped (R120). -/
def Cell.stomped (c : Cell) : Bool := c.crc == ~~~ (crc32Link c.crcBytes)

/-- A sequenced cell (R122). -/
def Cell.sequenced (c : Cell) : Bool := c.ctype == 1 || c.ctype == 5

end Sys2Proof

namespace Sys2Proof.Machine

/-- Bytes of a number, most significant first. -/
def numBytes (v k : Nat) : List Byte := bytesBE (BitVec.ofNat (8 * k) v) k

/-- Bytes in front of zeros, `k` in all. -/
def padBytes (xs : List Byte) (k : Nat) : List Byte := (xs ++ List.replicate k 0).take k

/-- One byte of the IEEE 802.3 frame check sequence, least significant bit first (R267). -/
def fcsByte (c : BitVec 32) (x : Byte) : BitVec 32 :=
  (List.range 8).foldl (fun c _ => if c.getLsbD 0 then (c >>> 1) ^^^ 0xEDB88320#32 else c >>> 1) (c ^^^ x.setWidth 32)

/-- The IEEE 802.3 frame check sequence of a frame, in the order in which its bytes are sent (R267). -/
def etherFcs (xs : List Byte) : List Byte :=
  let c := ~~~ (xs.foldl fcsByte 0xFFFFFFFF#32)
  [c.extractLsb' 0 8, c.extractLsb' 8 8, c.extractLsb' 16 8, c.extractLsb' 24 8]

/-- Bytes of a word, least significant first, as a framed mailbox sends them (R36). -/
def wordBytesLE (w : Word) : List Byte := [w.extractLsb' 0 8, w.extractLsb' 8 8, w.extractLsb' 16 8, w.extractLsb' 24 8]

/-- The bytes of a service frame that carries these words: SYNC, TYPE, LEN, PAYLOAD and CRC, every field least significant byte first
(R36). -/
def frameBytes (type : Byte) (words : List Word) : List Byte :=
  let payload := (words.map wordBytesLE).flatten
  let len := BitVec.ofNat 16 payload.length
  let body := type :: len.extractLsb' 0 8 :: len.extractLsb' 8 8 :: payload
  let crc := crc16Frame body
  0xA5 :: body ++ [crc.extractLsb' 0 8, crc.extractLsb' 8 8]

/-- Words of a byte list, least significant byte first; a partial word is dropped. -/
def wordsLE : List Byte → List Word
  | a :: b :: c :: d :: rest => (d ++ c ++ b ++ a) :: wordsLE rest
  | _ => []

end Sys2Proof.Machine
end

