-- ==== Sys2Proof/Machine/Flags.lean ====
section
/-!
DEFINITION. Status bits, flags and interrupt terms that software reads, each computed from the state (R32, R50, R66, R29).
-/

namespace Sys2Proof.Machine

/-- Code of STATUS.STATE (R32). -/
def MbxState.code : MbxState → Nat
  | .idle => 0
  | .busy => 1
  | .done => 2
  | .offline => 3

/-- Code of STATUS.AUTH (R32). -/
def Auth.code : Auth → Nat
  | .none => 0
  | .owner => 1
  | .tenant => 2
  | .service => 3

/-- STATUS of a mailbox (R32). -/
def Mailbox.status (m : Mailbox) : Word :=
  pack [(m.lastResult, 8), (0, 12), (m.auth.code, 4), (0, 3), (b2n m.dbIgnored, 1), (b2n m.restarted, 1),
    (b2n (m.prod != m.cons), 1), (m.st.code, 2)]

/-- IRQ_EN of a mailbox. -/
def Mailbox.irqEn (m : Mailbox) : Word := pack [(0, 30), (b2n m.evqIe, 1), (b2n m.doneIe, 1)]

/-- IRQ_STATUS of a mailbox. -/
def Mailbox.irqStatus (m : Mailbox) : Word := pack [(0, 30), (b2n m.evqPend, 1), (b2n m.donePend, 1)]

/-- Entries in the event queue (R47). -/
def Mailbox.used (m : Mailbox) : Nat := (m.prod + 65536 - m.cons) % 65536

/-- The event queue is full (R47). -/
def Mailbox.full (m : Mailbox) : Bool := decide (256 ≤ m.used)

/-- Done term of the interrupt (R50). -/
def Mailbox.doneTerm (m : Mailbox) : Bool := m.donePend && m.doneIe

/-- Event term of the interrupt (R50). -/
def Mailbox.evqTerm (m : Mailbox) : Bool := m.evqPend && m.evqIe

/-- HOST_IRQ_N is driven low (R50). -/
def State.hostIrq (s : State) : Bool := s.mbx.boxes[0].doneTerm || s.mbx.boxes[0].evqTerm

/-- Code of a role (R15, R29). -/
def Role.code : Role → Nat
  | .root => 0
  | .relay => 1
  | .zone => 2

/-- Role of a code; 3 becomes ZONE (R15). -/
def roleOf (n : Nat) : Role := if n = 0 then .root else if n = 1 then .relay else .zone

/-- This hub has the ROOT role. -/
def State.isRoot (s : State) : Bool := s.sys.role == .root

/-- This hub is a ROOT that heads a tree (R17). -/
def State.headsTree (s : State) : Bool := s.isRoot && s.sys.hubId != 0

/-- This hub is in a tree: it heads one, or the ROOT has admitted it (R22). -/
def State.joined (s : State) : Bool := s.headsTree || (!s.isRoot && s.topo.join == .joined)

/-- DEPTH as the hub advertises it (R18, R29). -/
def State.depthNow (s : State) : Nat :=
  if s.headsTree then 0 else if s.joined then s.topo.depth else 255

/-- HOLDOVER of a reference stamp taken now (R66). -/
def State.holdoverFlag (s : State) : Bool := s.phase.st == .holdover || s.phase.st == .acquire

/-- SYNTH of a reference stamp taken now (R66). -/
def State.synthFlag (s : State) : Bool := s.phase.st == .synth || (!s.isRoot && s.phase.refSynth)

/-- A stamp with given flags and phase count (R9). -/
def mkStamp (holdover ambiguous loc synth : Bool) (count : Nat) : Stamp :=
  BitVec.ofNat 64 (packFields [(b2n holdover, 1), (b2n ambiguous, 1), (b2n loc, 1), (b2n synth, 1), (0, 10), (count, 50)] 0)

/-- The reference stamp now (R9, R66). -/
def State.now (s : State) : Stamp := mkStamp s.holdoverFlag false false s.synthFlag s.phase.count

/-- Phase count of the local phase now (R73). -/
def State.localCount (s : State) : Nat := (s.phase.count + 2 ^ 50 - s.phase.offset) % 2 ^ 50

/-- Phase count of a stamp: CYCLE and ARC as one number (R9). -/
def stampCount (t : Stamp) : Nat := t.toNat % 2 ^ 50

/-- Phase count `a` is later than `b` (R10). -/
def laterCount (a b : Nat) : Bool :=
  let d := (a / 2 ^ 18 + 2 ^ 32 - b / 2 ^ 18) % 2 ^ 32
  (decide (1 ≤ d) && decide (d ≤ 2 ^ 31 - 1)) || (d == 0 && decide (b % 2 ^ 18 < a % 2 ^ 18))

/-- Stamp `a` is later than stamp `b`; flags take no part (R10). -/
def stampLater (a b : Stamp) : Bool := laterCount (stampCount a) (stampCount b)

/-- The lifecycle state: the last transition record whose CRC is good (R475). -/
def State.lifecycle (s : State) : Lifecycle :=
  ((s.vault.records.filter (·.crcOk)).getLast?.map (·.state)).getD .blank

/-- Code of a lifecycle state (R477). -/
def Lifecycle.code : Lifecycle → Nat
  | .blank => 0
  | .manufacture => 1
  | .deployed => 2
  | .ret => 3
  | .scrapped => 4

/-- Lifecycle state of a code. -/
def lifecycleOf (n : Nat) : Option Lifecycle :=
  if n = 0 then some .blank else if n = 1 then some .manufacture else if n = 2 then some .deployed
  else if n = 3 then some .ret else if n = 4 then some .scrapped else none

/-- LC_GEN: records written, whether or not their CRC is good (R475). -/
def State.lcGen (s : State) : Nat := s.vault.records.length

/-- A port is held blocked: as a ring's blocked link, a mismatched bundle member or an extra path (R12, R13, R29, R147). -/
def State.portBlocked (s : State) (p : Fin 4) : Bool :=
  s.trunk[p.val].ringBlocked || s.trunk[p.val].mismatch || s.topo.extra[p.val]

/-- The trunk port carries tunnel traffic: it is ACTIVE and not held blocked (R12, R13). -/
def State.carries (s : State) (p : Fin 4) : Bool := s.trunk[p.val].st == .active && !s.portBlocked p

/-- The hub runs: start-up has ended and no reset is under way (R521). -/
def State.up (s : State) : Bool := s.sys.stage == .running

end Sys2Proof.Machine
end

