-- ==== Sys2Proof/Machine/Ops.lean ====
section
/-!
DEFINITION. The operations every family shares: sending, events and their queues (R45 to R50, R569, R593), authority classes
(R51, R477), the opcode table and the order of request checks (R42, R557 to R562), starting and answering commands (R27, R39,
R43), messages to and from the ROOT (R193, R561), free values, and LPDDR5X.
-/

namespace Sys2Proof.Machine

/-! ### Sending -/

/-- Record something sent. -/
def State.send (s : State) (o : Sent) : State := { s with outbox := o :: s.outbox }

/-- Record several things sent, in order. -/
def State.sendAll (s : State) (os : List Sent) : State := { s with outbox := os.reverse ++ s.outbox }

/-! ### Free values -/

/-- The next free value, and the state that has passed it (log entry 3). -/
def State.draw (s : State) : BitVec 384 × State := (Config.freeValue s.free, { s with free := s.free + 1 })

/-! ### LPDDR5X -/

/-- What an unlisted byte of LPDDR5X reads as (log entry 4). -/
def dramDefault : Byte := 0

/-- One byte of LPDDR5X. -/
def dramRead : List Host.Cell → Nat → Byte
  | [], _ => dramDefault
  | (a, v) :: m, x => if x = a then v else if x < a then dramDefault else dramRead m x

/-- Write one byte; the list stays in canonical form. -/
def dramWrite : List Host.Cell → Nat → Byte → List Host.Cell
  | [], x, v => if v = dramDefault then [] else [(x, v)]
  | (a, u) :: m, x, v =>
    if x = a then (if v = dramDefault then m else (x, v) :: m)
    else if x < a then (if v = dramDefault then (a, u) :: m else (x, v) :: (a, u) :: m)
    else (a, u) :: dramWrite m x v

/-- Write bytes from an address up. -/
def dramWriteBytes : List Host.Cell → Nat → List Byte → List Host.Cell
  | m, _, [] => m
  | m, x, v :: vs => dramWriteBytes (dramWrite m x v) (x + 1) vs

/-- `n` bytes from an address up. -/
def dramReadBytes (m : List Host.Cell) (x n : Nat) : List Byte := (List.range n).map fun i => dramRead m (x + i)

/-- The canonical form: addresses strictly rising and above `lo`, no byte that an unlisted address reads as. -/
def dramWfFrom : Nat → List Host.Cell → Bool
  | _, [] => true
  | lo, (a, v) :: m => decide (lo ≤ a) && decide (v ≠ dramDefault) && dramWfFrom (a + 1) m

/-- The canonical form of LPDDR5X. -/
def Memory.wf (m : List Host.Cell) : Bool := dramWfFrom 0 m

/-- LPDDR5X with bytes written at an address. -/
def State.memWrite (s : State) (a : Nat) (bs : List Byte) : State := { s with dram := dramWriteBytes s.dram a bs }

/-! ### Mailboxes -/

/-- Mailbox `i`. -/
def State.box (s : State) (i : Fin 38) : Mailbox := s.mbx.boxes[i.val]

/-- MSI-X messages that a change of a mailbox sends: each time a term goes from false to true, unless the vector is masked (R50, log entry 151). -/
def msixOf (i : Fin 38) (old new : Mailbox) : List Sent :=
  if i.val < 6 then [] else
    (if new.doneTerm && !old.doneTerm && !new.vecMask.getLsbD 0 then [Sent.msix i 0] else []) ++
      (if new.evqTerm && !old.evqTerm && !new.vecMask.getLsbD 1 then [Sent.msix i 1] else [])

/-- Change mailbox `i`, sending the MSI-X messages that follow. -/
def State.modBox (s : State) (i : Fin 38) (f : Mailbox → Mailbox) : State :=
  { s with mbx.boxes := updAt s.mbx.boxes i f, outbox := msixOf i (s.box i) (f (s.box i)) ++ s.outbox }

/-- Write an entry into the queue, which has room (R47). -/
def Mailbox.entry (m : Mailbox) (ev : Nat) (data : Word) (st : Stamp) : Mailbox :=
  { m with
    evSlots := (m.prod % 256, { seq := m.seqNext, event := ev, data := data, stamp := st }) :: m.evSlots.filter (·.1 != m.prod % 256)
    prod := (m.prod + 1) % 65536, seqNext := (m.seqNext + 1) % 65536, evqPend := true }

/-- When events were lost and there is room, EV001 EVQ_LOST comes first (R48). -/
def Mailbox.flushLost (m : Mailbox) (st : Stamp) : Mailbox :=
  if m.lost = 0 || m.full then m else { m.entry 1 (wd m.lost) st with lost := 0 }

/-- An event bound for this queue: written, or lost with SEQ advanced (R47, R48). -/
def Mailbox.push (m : Mailbox) (ev : Nat) (data : Word) (st : Stamp) : Mailbox :=
  let m := m.flushLost st
  if m.full then { m with lost := bump m.lost, seqNext := (m.seqNext + 1) % 65536 } else m.entry ev data st

/-- The entry in slot `k` of an event queue, if one was ever written there (R47). -/
def Mailbox.slot (m : Mailbox) (k : Nat) : Option EvEntry := (m.evSlots.find? (·.1 == k)).map (·.2)

/-- Exchange the events of two slots, each slot keeping its SEQ. -/
def Mailbox.swap (m : Mailbox) (j k : Nat) (a b : EvEntry) : Mailbox :=
  { m with evSlots := m.evSlots.map fun (i, e) => if i == j then (i, { b with seq := a.seq }) else if i == k then (i, { a with seq := b.seq }) else (i, e) }

/-- Move the event at the position `p` back past those of the same stamp that have a higher number, `n` places at most. -/
def Mailbox.settleN : Nat → Mailbox → Nat → Mailbox
  | 0, m, _ => m
  | n + 1, m, p =>
    let q := (p + 65535) % 65536
    match m.slot (p % 256), m.slot (q % 256) with
    | some a, some b => if a.stamp == b.stamp && decide (a.event < b.event) then (m.swap (p % 256) (q % 256) a b).settleN n q else m
    | _, _ => m

/-- Entries that the host has not yet taken and that have equal stamps stand in ascending event number (R45). -/
def Mailbox.settle (m : Mailbox) : Mailbox := m.settleN ((m.prod + 65536 - m.cons) % 65536 - 1) ((m.prod + 65535) % 65536)

/-- An event lost for this queue (R49). -/
def Mailbox.lose (m : Mailbox) : Mailbox := { m with lost := bump m.lost, seqNext := (m.seqNext + 1) % 65536 }

/-- The mailbox holds a class that receives the OWNER's events (R569). -/
def Mailbox.ownerClass (m : Mailbox) : Bool := m.auth == .owner || m.auth == .service

/-- Whether mailbox `i` may receive an event raised to `d` (R569). -/
def Mailbox.receives (m : Mailbox) (i : Fin 38) : EvDest → Bool
  | .owner => m.ownerClass
  | .only src => src == .win i
  | .both src => m.ownerClass || src == .win i
  | .tenant t => m.ownerClass || (m.auth == .tenant && m.tenant == t && t != 0)

/-- The event is bound for this queue: its class may receive it and its mask enables it (R45, R62). -/
def Mailbox.bound (m : Mailbox) (i : Fin 38) (ev : Nat) (d : EvDest) : Bool :=
  m.receives i d && (ev == 1 || m.mask.getLsbD ev)

/-- Enter an event in every queue it is bound for, in the order of stamps and event numbers (R45). -/
def State.deliver (s : State) (ev : Nat) (data : Word) (st : Stamp) (d : EvDest) : State :=
  (List.finRange 38).foldl (fun s i => if (s.box i).bound i ev d then s.modBox i (fun m => (m.push ev data st).settle) else s) s

/-- Lose an event in every queue it is bound for (R49). -/
def State.loseEvent (s : State) (ev : Nat) (d : EvDest) : State :=
  (List.finRange 38).foldl (fun s i => if (s.box i).bound i ev d then s.modBox i (·.lose) else s) s

/-- Raise an event with its DATA word and its stamp: at once, or held during a control restart, 64 at most (R45, R49). -/
def State.raiseAt (s : State) (ev : Nat) (data : Word) (st : Stamp) (d : EvDest) : State :=
  if s.mbx.restart then
    let h : HeldEvent := { event := ev, data := data, stamp := st, dest := d }
    if s.mbx.heldEvents.length < 64 then { s with mbx.heldEvents := s.mbx.heldEvents ++ [h] }
    else { s with mbx.heldLost := s.mbx.heldLost ++ [h] }
  else s.deliver ev data st d

/-- Raise an event with its DATA word, stamped now (R45, R49). -/
def State.raiseW (s : State) (ev : Nat) (data : Word) (d : EvDest) : State := s.raiseAt ev data s.now d

/-- Raise an event that carries fields, packed as R46 says. -/
def State.raise (s : State) (ev : Nat) (fs : List (Nat × Nat)) (d : EvDest := .owner) : State := s.raiseW ev (pack fs) d

/-- An event waits for the end of start-up (R521). -/
def State.holdStart (s : State) (ev : Nat) (fs : List (Nat × Nat)) : State := { s with sys.heldEvents := s.sys.heldEvents ++ [(ev, pack fs)] }

/-- Raise an event that waits while the hub starts or stands by, when no mailbox has its class (R374, R471, R483, R521; log entry 179). -/
def State.raiseOrHold (s : State) (ev : Nat) (fs : List (Nat × Nat)) : State := if s.up then s.raise ev fs else s.holdStart ev fs

/-- The slot of a limited event (R593). -/
def State.rateSlot (s : State) (k : RateKey) : Option RateSlot := s.mbx.rate.find? (·.key == k)

/-- Raise an event that is limited to `n` times in each window for each object (R593). With `hold`, a change met beyond
the limit is reported at the start of the next window. -/
def State.raiseRated (s : State) (ev obj n : Nat) (fs : List (Nat × Nat)) (d : EvDest := .owner) (hold : Bool := false)
    (ms : Bool := false) : State :=
  let k : RateKey := { event := ev, obj := obj, ms := ms }
  let slot := (s.rateSlot k).getD { key := k, dest := d }
  let rest := s.mbx.rate.filter (·.key != k)
  if slot.count < n then
    { s with mbx.rate := { slot with count := slot.count + 1 } :: rest }.raise ev fs d
  else { s with mbx.rate := { slot with count := slot.count + 1, held := if hold then some (pack fs) else slot.held } :: rest }

/-- Count `k` more of an event that carries the number met in the second, after the fields `fs` and in `w` bits, and is raised at most once in
each: it is raised when the window ends, with the whole count (R593; log entry 48). -/
def State.raiseCounted (s : State) (ev obj k : Nat) (fs : List (Nat × Nat)) (w : Nat) (d : EvDest := .owner) : State :=
  let key : RateKey := { event := ev, obj := obj }
  let n := ((s.rateSlot key).map (·.count)).getD 0 + k
  { s with mbx.rate := { key := key, count := n, held := some (pack (fs ++ [(Nat.min n (2 ^ w - 1), w)])), dest := d, atEnd := true } ::
      s.mbx.rate.filter (·.key != key) }

/-! ### Authority -/

end Sys2Proof.Machine

namespace Sys2Proof

/-- A command source's code in EV003 (R53). -/
def Source.code : Source → Nat
  | .win i => if i.val = 0 then 0 else if i.val = 1 then 1 else if i.val < 6 then 0x40 + (i.val - 2)
      else if i.val < 22 then 0x10 + (i.val - 6) else 0x20 + (i.val - 22)
  | .peer _ port => 0x30 + port.val
  | .self => 0x30

end Sys2Proof

namespace Sys2Proof.Machine

/-- The mailbox's port can hold SERVICE class: SVC_UART and desk-port service (R51). -/
def isServiceBox (i : Fin 38) : Bool := decide (1 ≤ i.val) && decide (i.val ≤ 5)

/-- SERVICE class is held now (R51, R477). -/
def State.serviceHeld (s : State) : Bool :=
  match s.lifecycle with
  | .manufacture | .ret => true
  | .deployed => s.mbx.svcWindow.isSome
  | _ => false

/-- Function of a PCIe mailbox: port * 16 + number. -/
def fnOf (i : Fin 38) : Nat := i.val - 6

/-- A PCIe function is presented: DOM_PCIE is on, its port is in endpoint mode and has that many functions (R412, R430, R514). -/
def State.fnPresent (s : State) (fn : Nat) : Bool :=
  match s.stor.port[fn / 16]? with
  | some p => s.sys.domains.getD 9 false && p.cfg.mode == 0 && decide (fn % 16 < p.cfg.funcs)
  | none => false

/-- Tenant a function is bound to, 0 none (R414). -/
def State.fnTenant (s : State) (fn : Nat) : Nat :=
  if fn % 16 = 0 then 0 else ((s.stor.func[fn]?).map (·.tenant)).getD 0

/-- Class that mailbox `i` holds (R51). -/
def State.classOf (s : State) (i : Fin 38) : Auth :=
  if !s.up then .none
  else if i.val = 0 then .owner
  else if isServiceBox i then (if s.serviceHeld then .service else .none)
  else if s.fnPresent (fnOf i) && s.lifecycle == .deployed then
    if fnOf i % 16 = 0 then .owner else if s.fnTenant (fnOf i) != 0 then .tenant else .none
  else .none

/-- A lifecycle state, and not the mailbox's port or binding, withholds the class of mailbox `i` (R33). -/
def State.classWithheld (s : State) (i : Fin 38) : Bool :=
  if i.val = 0 then false
  else if isServiceBox i then !s.serviceHeld
  else s.fnPresent (fnOf i) && s.lifecycle != .deployed && (fnOf i % 16 == 0 || s.fnTenant (fnOf i) != 0)

/-- Set AUTH and the bound tenant of every mailbox from the hub's state (R33). -/
def State.refreshAuth (s : State) : State :=
  { s with mbx.boxes := Vector.ofFn fun i => { s.box i with auth := s.classOf i, tenant := if i.val < 6 then 0 else s.fnTenant (fnOf i) } }

/-- Trunk ports that carry the upstream link: the chosen port, and its fellow when it is in a bundle (R18). -/
def State.isUpstream (s : State) (p : Fin 4) : Bool :=
  match s.topo.upstream with
  | none => false
  | some u => p == u || (s.trunk[u.val].bundled && s.trunk[p.val].bundled &&
      (s.trunk[u.val].nb.map (·.hub)) == (s.trunk[p.val].nb.map (·.hub)))

/-- The mailbox tunnel is the ROOT channel, on the current upstream link (R24). -/
def State.isRootChannel (s : State) (tun : Nat) (port : Fin 4) : Bool :=
  !s.isRoot && s.topo.rootChan == some tun && s.isUpstream port

/-- Tenant that the commands of a mailbox act for, `none` when it is not a TENANT mailbox (R52). -/
def State.srcTenant (s : State) (src : Source) : Option Nat :=
  match src with
  | .win i => if (s.box i).auth == .tenant then some (s.box i).tenant else none
  | _ => none

/-! ### Opcode table -/

/-- Class marks (R560). -/
inductive Mark where
  | any | o | t | s | s0 | p | pc | pu | pa | recd | tr
  deriving DecidableEq, Repr

/-- What LENGTH a command requires, in words of request data (R42 step 3). -/
inductive LenRule where
  | exact (n : Nat)
  | oneOf (a b : Nat)
  | range (a b : Nat)
  /-- `n` words, then a CERT block -/
  | cert (n : Nat)
  /-- a TUN.RESULT (R193) -/
  | result
  /-- an ALLOT.STAGE: 4 + 4 × COUNT, COUNT in word `w` bits [hi:lo] -/
  | counted (base per w hi lo : Nat)
  /-- KEY.DENY: 13 words for ACTION 0 and 1, 1 word for ACTION 2, any for ACTION 3 -/
  | deny
  /-- KEY.DERIVE: 7 words, then CTX of at most 64 bytes, as word 6 gives it -/
  | context
  deriving DecidableEq, Repr

/-- A row of the opcode table (R562). -/
structure OpInfo where
  /-- opcode -/
  op : Nat
  /-- classes that may issue it -/
  marks : List Mark
  /-- its length -/
  len : LenRule
  deriving DecidableEq, Repr

/-- System, configuration, event, phase, time and link opcodes (R562). -/
def opTable1 : List OpInfo := [
  ⟨0x0101, [.o, .t, .s], .exact 0⟩, ⟨0x0102, [.o, .s], .exact 1⟩, ⟨0x0103, [.o, .s], .exact 1⟩, ⟨0x0110, [.any], .exact 0⟩,
  ⟨0x0120, [.o], .exact 1⟩, ⟨0x0130, [.o], .exact 2⟩, ⟨0x0201, [.recd], .range 0 1022⟩, ⟨0x0210, [.o], .exact 1⟩,
  ⟨0x0301, [.o, .t, .s], .oneOf 0 8⟩, ⟨0x1001, [.o, .t, .s], .exact 0⟩, ⟨0x1010, [.o], .exact 5⟩, ⟨0x1011, [.o], .exact 1⟩,
  ⟨0x1101, [.o, .t, .s], .exact 0⟩, ⟨0x1102, [.o, .t, .s], .exact 3⟩, ⟨0x1110, [.o], .oneOf 0 2⟩, ⟨0x2001, [.o, .s], .exact 1⟩,
  ⟨0x2002, [.o, .s], .exact 1⟩, ⟨0x2010, [.o], .exact 1⟩, ⟨0x2020, [.o, .s0], .exact 1⟩]

/-- Tunnel, fabric and allotment opcodes (R562). -/
def opTable2 : List OpInfo := [
  ⟨0x2101, [.o, .t], .exact 6⟩, ⟨0x2102, [.o, .t], .exact 1⟩, ⟨0x2103, [.o, .t, .s], .exact 1⟩, ⟨0x2104, [.o, .t], .exact 1⟩,
  ⟨0x2110, [.o, .t], .exact 1⟩, ⟨0x2140, [.pa], .exact 56⟩, ⟨0x2141, [.pc], .cert 57⟩, ⟨0x2142, [.pc], .result⟩,
  ⟨0x2143, [.pa], .exact 1⟩, ⟨0x2144, [.pc], .exact 1⟩, ⟨0x2201, [.o, .s], .exact 0⟩, ⟨0x2202, [.o, .s], .exact 1⟩,
  ⟨0x2203, [.o, .s], .exact 1⟩, ⟨0x2210, [.pc], .exact 3⟩, ⟨0x2220, [.o, .pc], .exact 1⟩, ⟨0x2241, [.pa], .exact 1⟩,
  ⟨0x2301, [.o, .s], .exact 0⟩, ⟨0x2302, [.o, .s], .exact 1⟩, ⟨0x2303, [.o, .t, .s], .exact 1⟩, ⟨0x2310, [.pc], .counted 4 4 0 15 0⟩,
  ⟨0x2311, [.pc], .exact 1⟩, ⟨0x2320, [.o, .t], .exact 4⟩, ⟨0x2340, [.pa], .exact 4⟩, ⟨0x2341, [.pa], .exact 3⟩]

/-- Endpoint, scene, directory, display, desk, storage and Ethernet opcodes (R562). -/
def opTable3 : List OpInfo := [
  ⟨0x3001, [.o, .s], .exact 1⟩, ⟨0x3010, [.o, .t], .exact 4⟩, ⟨0x3011, [.o, .t], .exact 1⟩, ⟨0x3020, [.o, .t], .exact 2⟩,
  ⟨0x3021, [.o, .t], .counted 3 1 1 19 16⟩, ⟨0x3022, [.o, .t], .exact 3⟩, ⟨0x3023, [.o, .t], .exact 1⟩, ⟨0x3030, [.o, .t, .s], .exact 1⟩,
  ⟨0x3080, [.o, .s], .exact 1⟩, ⟨0x3081, [.o, .s0], .exact 1⟩, ⟨0x3101, [.o, .s], .exact 0⟩, ⟨0x3110, [.o, .pc], .exact 4⟩,
  ⟨0x3111, [.o, .pc], .exact 1⟩, ⟨0x3140, [.pa], .exact 2⟩, ⟨0x3201, [.o, .t, .s], .exact 1⟩, ⟨0x3202, [.o, .s], .exact 2⟩,
  ⟨0x3203, [.o, .s], .exact 0⟩, ⟨0x3210, [.o], .exact 8⟩, ⟨0x3211, [.o], .exact 1⟩, ⟨0x3240, [.pa], .counted 5 2 0 5 0⟩,
  ⟨0x3241, [.pa], .exact 3⟩, ⟨0x4001, [.o, .t, .s], .exact 1⟩, ⟨0x4002, [.o, .s], .exact 1⟩, ⟨0x4010, [.o, .t], .exact 14⟩,
  ⟨0x4011, [.o, .t], .range 2 1022⟩, ⟨0x4020, [.o, .t], .exact 6⟩, ⟨0x5001, [.o, .s], .exact 1⟩, ⟨0x5002, [.o, .s], .exact 1⟩,
  ⟨0x5010, [.o], .exact 1⟩, ⟨0x5020, [.o], .exact 10⟩, ⟨0x5801, [.o, .t, .s], .exact 1⟩, ⟨0x5802, [.o, .s], .exact 1⟩,
  ⟨0x5901, [.o, .s], .exact 1⟩, ⟨0x5910, [.o], .exact 1⟩]

/-- Power, key, update and diagnostic opcodes (R562). -/
def opTable4 : List OpInfo := [
  ⟨0x6001, [.o, .s], .exact 0⟩, ⟨0x6002, [.o, .s], .exact 1⟩, ⟨0x6003, [.o, .s], .exact 1⟩, ⟨0x6004, [.o, .s], .exact 1⟩,
  ⟨0x6010, [.o], .exact 1⟩, ⟨0x6011, [.o, .s0], .exact 1⟩, ⟨0x7001, [.o, .t, .s], .exact 0⟩, ⟨0x7002, [.o, .s], .exact 1⟩,
  ⟨0x7003, [.o, .t, .s, .p], .exact 0⟩, ⟨0x7004, [.o, .t, .p], .exact 9⟩, ⟨0x7005, [.o, .t, .s, .p], .exact 1⟩, ⟨0x7010, [.o], .exact 6⟩,
  ⟨0x7011, [.o], .exact 14⟩, ⟨0x7012, [.o], .context⟩, ⟨0x7013, [.o], .exact 1⟩, ⟨0x7014, [.o], .exact 12⟩,
  ⟨0x7015, [.o], .exact 13⟩, ⟨0x7020, [.o], .exact 0⟩, ⟨0x7021, [.o], .cert 1⟩, ⟨0x7022, [.o], .deny⟩,
  ⟨0x7030, [.tr], .exact 2⟩, ⟨0x7040, [.o, .s0], .exact 1⟩, ⟨0x7801, [.o, .s, .pu], .exact 0⟩, ⟨0x7810, [.o, .s, .pu], .exact 1⟩,
  ⟨0x7811, [.o, .s, .pu], .range 2 993⟩, ⟨0x7812, [.o, .s, .pu], .exact 0⟩, ⟨0x7813, [.o, .s, .pu], .exact 0⟩, ⟨0x7814, [.o, .s, .pu], .exact 0⟩,
  ⟨0x7820, [.o, .pu], .exact 0⟩, ⟨0x7840, [.pa], .exact 1⟩, ⟨0x7841, [.pa], .exact 1⟩, ⟨0x7E01, [.o, .s], .exact 0⟩,
  ⟨0x7E02, [.o, .s], .exact 2⟩, ⟨0x7E10, [.o, .s], .exact 1⟩, ⟨0x7E11, [.o], .exact 1⟩, ⟨0x7E12, [.o], .exact 1⟩]

/-- The assigned opcodes (R562). -/
def opTable : List OpInfo := opTable1 ++ opTable2 ++ opTable3 ++ opTable4

/-- The row of an opcode, none when it is unassigned (R557). -/
def opInfo (op : Nat) : Option OpInfo := opTable.find? (·.op == op)

/-- Words of a CERT block with a certificate of `len` bytes (R193). -/
def certWords (len : Nat) : Nat := 1 + (len + 3) / 4

/-- The request's data has the length its command requires (R42 step 3). -/
def LenRule.ok (l : LenRule) (r : Waiting) : Bool :=
  let n := r.len / 4
  r.len % 4 == 0 && decide (r.len ≤ 4088) && !r.badLen && decide (n = r.data.length) && match l with
  | .exact k => n == k
  | .oneOf a b => n == a || n == b
  | .range a b => decide (a ≤ n) && decide (n ≤ b)
  | .cert k => decide (k < n) && decide ((r.w k).toNat ≤ 2048) && n == k + certWords (r.w k).toNat
  | .result => if r.f 0 31 24 = 0 then decide (55 < n) && decide ((r.w 55).toNat ≤ 2048) && n == 55 + certWords (r.w 55).toNat else n == 4
  | .counted b per w hi lo => n == b + per * r.f w hi lo
  | .deny => if r.f 0 1 0 ≤ 1 then n == 13 else r.f 0 1 0 == 3 || n == 1
  | .context => decide ((r.w 6).toNat ≤ 64) && n == 7 + ((r.w 6).toNat + 3) / 4

/-- A transition of R475 that the lifecycle records still allow. -/
def State.transitionOk (s : State) (dst : Lifecycle) : Bool :=
  let listed := match s.lifecycle, dst with
    | .blank, .manufacture | .manufacture, .deployed | .deployed, .ret | .ret, .deployed => true
    | .manufacture, .scrapped | .deployed, .scrapped | .ret, .scrapped => true
    | _, _ => false
  listed && (dst == .scrapped || decide (s.lcGen < 63)) && decide (s.lcGen < 64)

/-- Whether a class may make a transition (R475). -/
def State.transitionClass (s : State) (dst : Lifecycle) (src : Source) : Bool :=
  let auth := match src with | .win i => (s.box i).auth | _ => .none
  match s.lifecycle, dst with
  | .blank, _ => src == .win 0
  | .manufacture, .deployed | .ret, .deployed | .ret, .scrapped => auth == .owner || auth == .service
  | _, _ => auth == .owner

/-- R42 step 2: the code that refuses the request, none when its class may issue the opcode now. -/
def State.checkClass (s : State) (info : OpInfo) (r : Waiting) : Option Nat :=
  let lcBar : Bool := (s.lifecycle == .blank && info.op != 0x7001 && info.op != 0x7030) ||
    (s.lifecycle == .scrapped && info.op / 256 == 0x70 && info.op != 0x7001)
  match r.src with
  | .self => none
  | .peer tun port =>
    let rc := s.isRootChannel tun port
    if lcBar then some 0x21
    else if info.marks.any (fun m => match m with
      | .any | .p => true
      | .pc => rc
      | .pu => rc && s.upd.cfg.peerUpd
      | .pa => s.isRoot
      | _ => false) then none else some 0x20
  | .win i =>
    let a := (s.box i).auth
    if a == .none then (if s.classWithheld i || s.lifecycle == .blank then some 0x21 else some 0x20)
    else if lcBar then some 0x21
    else if info.marks.contains .tr then
      match lifecycleOf (r.f 0 31 24) with
      | some dst => if !s.transitionOk dst then some 0x21 else if s.transitionClass dst r.src then none else some 0x20
      | none => some 0x21
    else if info.marks.any (fun m => match m with
      | .any | .recd => true
      | .o => a == .owner
      | .t => a == .tenant
      | .s => a == .service
      | .s0 => a == .service && r.f 0 3 0 == 0
      | _ => false) then none else some 0x20

/-- Groups that the golden image and a dead-feed start serve (R558). -/
def servedGroup (op : Nat) : Bool := [0x01, 0x02, 0x03, 0x70, 0x78, 0x7E].contains (op / 256)

/-- The code of the first check of R42 steps 1 to 3 and R558 that fails. -/
def State.checkRequest (s : State) (r : Waiting) : Option Nat :=
  match opInfo r.opcode with
  | none => some 0x12
  | some info =>
    match s.checkClass info r with
    | some c => some c
    | none =>
      if !info.len.ok r then some 0x11
      else if s.upd.goldenRun && !servedGroup r.opcode then some 0x31
      else if s.sys.start == 1 && !servedGroup r.opcode && r.opcode != 0x5001 && r.opcode != 0x6001 then some 0x30
      else none

/-! ### Running commands -/

/-- Start the next waiting command when none runs: check it in the order of R42, and count and report a refusal (R53). -/
def State.startNext (s : State) : State :=
  match s.mbx.running, s.mbx.restart, s.mbx.waiting with
  | none, false, r :: rest =>
    let s := { s with mbx.waiting := rest }
    match s.checkRequest r with
    | none => { s with mbx.running := some { req := r } }
    | some c =>
      let s := { s with mbx.running := some { req := r, resp := some { result := c } } }
      if c = 0x20 ∨ c = 0x21 then
        { s with mbx.authRefused := bump s.mbx.authRefused }.raiseRated 3 r.src.code 1 [(r.src.code, 8), (c, 8), (r.opcode, 16)]
      else s
  | _, _, _ => s

/-- A request taken in its turn (R43). -/
def State.submit (s : State) (r : Waiting) : State := { s with mbx.waiting := s.mbx.waiting ++ [r] }.startNext

/-- A request of the hub to itself, when the ROOT is its own peer (R193). -/
def State.submitSelf (s : State) (op : Nat) (data : List Word) : State :=
  s.submit { src := .self, opcode := op, len := 4 * data.length, data := data }

/-- A message to the ROOT: internal at the ROOT, else on the ROOT channel while it is open (R193, R484, R501). -/
def State.sendRoot (s : State) (op : Nat) (data : List Word) : State :=
  if s.isRoot then s.submitSelf op data
  else if s.topo.rootChan.isSome then s.send (.peer s.topo.rootId op data)
  else s

/-- A message of the ROOT to a hub: internal when that hub is itself (R193). -/
def State.sendHub (s : State) (hub op : Nat) (data : List Word) : State :=
  if hub = s.sys.hubId then s.submitSelf op data else s.send (.peer hub op data)

/-- A successful response. -/
def okR (data : List Word := []) : Response := { result := 0, data := data }

/-- OK, or OK_CLAMPED when a value was changed. -/
def okC (clamped : Bool) (data : List Word := []) : Response := { result := b2n clamped, data := data }

/-- A failing response. -/
def failR (code : Nat) (detail : Nat := 0) : Response := { result := code, detail := detail }

/-- Set the response of the command that runs. -/
def State.respond (s : State) (r : Response) : State :=
  { s with mbx.running := s.mbx.running.map fun x => { x with resp := some r } }

/-- The command that runs, when it has this opcode and has passed the checks of R42 steps 1 to 3. A control restart stops the MC, so that none
runs until it ends (R39, R526). -/
def State.runningOp (s : State) (op : Nat) : Option Waiting :=
  match s.mbx.running with
  | some x => if x.req.opcode = op ∧ x.resp = none ∧ s.mbx.restart = false then some x.req else none
  | none => none

/-- Carry out opcode `op`: `f` gives the new state and the response for the command that runs. Without such a command the
row does nothing (log entry 5). -/
def runCmd (op : Nat) (s : State) (f : Waiting → State → State × Response) : Host.Outcome State Fault Refusal :=
  match s.runningOp op with
  | some r => .next ((f r s).1.respond (f r s).2)
  | none => .next s

/-- A command that only reads. -/
def runRead (op : Nat) (s : State) (f : Waiting → State → Response) : Host.Outcome State Fault Refusal :=
  runCmd op s fun r s => (s, f r s)

/-! ### Lists -/

/-- Change the first element that satisfies `p`. -/
def modFirst {α : Type} (p : α → Bool) (f : α → α) : List α → List α
  | [] => []
  | x :: xs => if p x then f x :: xs else x :: modFirst p f xs

/-- Put `x` in place of every element that has the same key, or add it at the end. -/
def putBy {α : Type} (same : α → Bool) (x : α) (xs : List α) : List α :=
  if xs.any same then xs.map (fun y => if same y then x else y) else xs ++ [x]

/-- The least number from `a`, among `n` candidates, that is not in the list. -/
def leastFree (used : List Nat) : Nat → Nat → Option Nat
  | _, 0 => none
  | a, n + 1 => if used.contains a then leastFree used (a + 1) n else some a

/-- A value of a key, `d` where not listed. -/
def getKey (xs : List (Nat × Nat)) (k d : Nat) : Nat := ((xs.find? (·.1 == k)).map (·.2)).getD d

/-- Set the value of a key. -/
def setKey (xs : List (Nat × Nat)) (k v : Nat) : List (Nat × Nat) := (k, v) :: xs.filter (·.1 != k)

/-! ### Domains -/

/-- Places of the domains in the order of R512. -/
def domFabric : Nat := 4

/-- The domain is on. -/
def State.domOn (s : State) (d : Nat) : Bool := s.sys.domains.getD d false

/-- The configuration in force needs the domain (R512 table). -/
def State.domWanted (s : State) (d : Fin 14) : Bool :=
  if d.val < 5 then s.domOn d.val
  else if h : d.val < 9 then (s.trunk[d.val - 5]'(by omega)).cfg.enable
  else if d.val = 9 then s.stor.port.toList.any (·.cfg.mode != 2)
  else if d.val = 10 then s.desk.port.toList.any (·.cfg.enable)
  else if d.val = 11 then s.eth.port.toList.any (·.cfg.mode != 0)
  else if d.val = 12 then s.disp.head.toList.any (·.cfg.enable)
  else s.light.seg.toList.any (·.cfg.enable) || s.pwr.lp.toList.any (·.cfg.enable)

end Sys2Proof.Machine
end

