-- ==== Sys2Proof/Machine/Mailbox.lean ====
section
/-!
DEFINITION. Mailboxes (02_mailboxes.md): register windows, framed and PEER mailboxes, event queues, windows of limited events,
and the commands SYS.SVC_WINDOW, SYS.STATUS, SYS.COUNTERS, SYS.TOPO, CFG.CLAMPLOG and EVT.MASK.
-/

namespace Sys2Proof.Machine

/-! ### Register windows -/

/-- The mailbox has a register window (R31). -/
def hasWindow (i : Fin 38) : Bool := i.val == 0 || decide (6 ≤ i.val)

/-- The window can be reached: MGMT_SPI while DOM_MGMT is on, a PCIe function while it is presented (R585, R35). -/
def State.windowOn (s : State) (i : Fin 38) : Bool :=
  if i.val = 0 then s.domOn 2 else hasWindow i && s.domOn 9 && s.fnPresent (fnOf i)

/-- Word `n` of the request area; words not written read as 0. -/
def Mailbox.reqWord (m : Mailbox) (n : Nat) : Word := ((m.reqArea.find? (·.1 == n)).map (·.2)).getD 0

/-- The request image in the request area (R41): OPCODE, LENGTH, TAG and as many data words as LENGTH names and the area holds. -/
def Mailbox.image (m : Mailbox) (src : Source) : Waiting :=
  let w0 := m.reqWord 0
  let len := fld w0 15 0
  { src := src, opcode := fld w0 31 16, len := len, tag := m.reqWord 1,
    data := (List.range (Nat.min (len / 4) 1022)).map fun k => m.reqWord (2 + k) }

/-- A request arrives at mailbox `i`: taken in IDLE or DONE, ignored with DB_IGNORED set in BUSY or OFFLINE (R39). -/
def State.doorbell (s : State) (i : Fin 38) (r : Waiting) : State :=
  if (s.box i).st == .idle || (s.box i).st == .done then
    (s.modBox i fun m => { m with st := .busy, respArea := [] }).submit r
  else s.modBox i fun m => { m with dbIgnored := true }

/-- The hub after an access to mailbox `i`'s window: a transaction of MGMT_SPI is heard again (R34). -/
def State.spiHeard (s : State) (i : Fin 38) : State := if i.val = 0 then { s with mbx.spiIgnore := false } else s

/-- The windows whose RING is written in one FCLK cycle, in the order in which the hub takes their doorbells: the numbering of the
mailboxes is the order of R43. -/
def ringing (box : Fin 38) (value : Word) (also : List (Fin 38)) : List (Fin 38) :=
  (List.finRange 38).filter fun i => (i == box && bitAt value 0) || also.contains i

/-- One doorbell of a window that can be reached: the hub takes the whole request area at once (R39, R40; log entry 152). -/
def State.ringOne (s : State) (i : Fin 38) : State :=
  if s.windowOn i then (s.spiHeard i).doorbell i ((s.box i).image (.win i)) else s

/-- DOORBELL_RING: a write to DOORBELL; RING 1 submits the request area. `value.also` names the other windows whose RING is written in the
same FCLK cycle (R32, R39, R43). -/
def execDoorbellRing (box : Fin 38) (value : DoorbellWrite) (s : State) : Host.Outcome State Fault Refusal :=
  .next ((ringing box value.value value.also).foldl State.ringOne s)

/-- A write of CONS: one that would make PROD − CONS exceed 256 is ignored; freed space lets EV001 be written (R47, R48). -/
def State.consWrite (s : State) (i : Fin 38) (cons : Nat) : State :=
  if decide (((s.box i).prod + 65536 - cons) % 65536 ≤ 256) then
    s.modBox i fun m => ({ m with cons := cons }).flushLost s.now
  else s

/-- EVQ_CONS_WRITE (R47, R48). -/
def execEvqConsWrite (box : Fin 38) (cons : BitVec 16) (s : State) : Host.Outcome State Fault Refusal :=
  if s.windowOn box && decide (((s.box box).prod + 65536 - cons.toNat) % 65536 ≤ 256) then
    .next ((s.spiHeard box).modBox box fun m => ({ m with cons := cons.toNat }).flushLost s.now)
  else .next s

/-- EVQ_PEND_CLEAR: writing 1 to EVQ_PEND clears it only when PROD equals CONS (R50). -/
def execEvqPendClear (box : Fin 38) (s : State) : Host.Outcome State Fault Refusal :=
  if s.windowOn box && (s.box box).prod == (s.box box).cons then
    .next ((s.spiHeard box).modBox box fun m => { m with evqPend := false })
  else .next s

/-- A whole-word write to an offset of a window without behaviour of its own (R6, R32). -/
def Mailbox.write (m : Mailbox) (offset : Nat) (value : Word) : Mailbox :=
  if offset < 0x1000 then { m with reqArea := (offset / 4, value) :: m.reqArea.filter (·.1 != offset / 4) }
  else if offset = 0x2004 then
    { m with dbIgnored := m.dbIgnored && !bitAt value 4, restarted := m.restarted && !bitAt value 3 }
  else if offset = 0x2008 then { m with evqIe := bitAt value 1, doneIe := bitAt value 0 }
  else if offset = 0x200C then
    { m with donePend := m.donePend && !bitAt value 0
             evqPend := m.evqPend && !(bitAt value 1 && m.prod == m.cons) }
  else m

/-- The words of an event entry (R45). -/
def EvEntry.words (e : EvEntry) : List Word := pack [(e.seq, 16), (0, 8), (e.event, 8)] :: e.data :: wd2 e.stamp.toNat

/-- Word `n` of the response area; words that the response does not fill read as 0 (R39, log entry 14). -/
def Mailbox.respWord (m : Mailbox) (n : Nat) : Word := ((m.respArea.find? (·.1 == n)).map (·.2)).getD 0

/-- What a read of a whole word of a register window returns: DOORBELL is write-only and reads 0, reserved offsets read 0, and a slot
that no event has entered reads 0 (R6, R32, R45; log entry 14). -/
def Mailbox.read (m : Mailbox) (offset : Nat) : Word :=
  if offset < 0x1000 then m.reqWord (offset / 4)
  else if offset < 0x2000 then m.respWord ((offset - 0x1000) / 4)
  else if offset = 0x2004 then m.status
  else if offset = 0x2008 then m.irqEn
  else if offset = 0x200C then m.irqStatus
  else if offset = 0x2010 then wd m.prod
  else if offset = 0x2014 then wd m.cons
  else if 0x3000 ≤ offset && offset < 0x4000 then
    wordAt (((m.slot ((offset - 0x3000) / 16)).map EvEntry.words).getD []) (offset % 16 / 4)
  else 0

/-- A write of a whole aligned word of mailbox `i`'s window, whatever its offset (R6, R32, R39, R47, R50). -/
def State.windowWrite (s : State) (i : Fin 38) (offset : Nat) (value : Word) : State :=
  if offset = 0x2000 then (if bitAt value 0 then s.doorbell i ((s.box i).image (.win i)) else s)
  else if offset = 0x2014 then s.consWrite i (fld value 15 0)
  else s.modBox i (·.write offset value)

/-- REGISTER_WRITE: a whole aligned word is written; reserved and read-only fields ignore it (R6, R7, R32). -/
def execRegisterWrite (box : Fin 38) (offset : Nat) (value : Word) (s : State) : Host.Outcome State Fault Refusal :=
  if s.windowOn box && offset % 4 == 0 then .next ((s.spiHeard box).windowWrite box offset value) else .next s

/-- Bytes that the SPI target drives in a read: whole words from the address up, each from its lowest byte, as many bytes as the host
clocks after the dummy byte (R34). -/
def Mailbox.spiOut (m : Mailbox) (address clocks : Nat) : List Byte :=
  (((List.range ((clocks + 3) / 4)).map fun k => wordBytesLE (m.read ((address + 4 * k) % 65536))).flatten).take clocks

/-- The words of a write transaction, one after the other; a partial word is dropped (R34). -/
def State.spiWrites (s : State) (address : Nat) (ws : List Word) : State :=
  (List.range ws.length).foldl (fun s k => s.windowWrite 0 ((address + 4 * k) % 65536) (wordAt ws k)) s

/-- MGMT_SPI_BAD_TRANSACTION: a transaction, from the fall of CS_N to its rise: the instruction byte, the address, and the bytes clocked
after it. An unknown instruction byte or an address that is not a multiple of 4 makes the target ignore it until CS_N rises, without
driving SPI_SDO; instruction 0x02 writes whole words, and 0x0B reads them after a dummy byte (R32, R34, R585; log entry 153). -/
def execMgmtSpiBadTransaction (instruction : Byte) (clocked : SpiBits) (s : State) : Host.Outcome State Fault Refusal :=
  if (instruction != 0x02 && instruction != 0x0B) || clocked.address.toNat % 4 != 0 then
    .next { s with mbx.spiIgnore := true, mbx.spiSdo := false }
  else if !s.windowOn 0 then .next { s with mbx.spiSdo := false }
  else if instruction == 0x02 then
    .next ({ s with mbx.spiIgnore := false, mbx.spiSdo := false }.spiWrites clocked.address.toNat (wordsLE clocked.sdi))
  else
    .next ({ s with mbx.spiIgnore := false, mbx.spiSdo := true }.send (.spi ((s.box 0).spiOut clocked.address.toNat (clocked.sdi.length - 1))))

/-- PCIE_PARTIAL_WINDOW_ACCESS: without every byte enable of a dword set, a read returns 0 and a write has no effect; with all of them
set it is the access of the whole word (R32). -/
def execPciePartialWindowAccess (box : Fin 38) (write : Bool) (offset : Nat) (enables : BitVec 4) (value : Word) (s : State) :
    Host.Outcome State Fault Refusal :=
  if decide (6 ≤ box.val) && s.windowOn box && decide (offset < 0x4000) && offset % 4 == 0 then
    if write then .next (if enables = 0xF then s.windowWrite box offset value else s)
    else
      let w := if enables = 0xF then (s.box box).read offset else 0
      .next ({ s with mbx.pcieRead := some w }.send (.pcie (fnOf box) [w]))
  else .next s

/-- A base address register of a PCIe function (R35). -/
structure Bar where
  /-- which register it is -/
  index : Nat
  /-- 64-bit -/
  wide : Bool
  /-- prefetchable -/
  prefetch : Bool
  /-- bytes it spans -/
  size : Nat
  deriving DecidableEq, Repr

/-- BAR0 of a function in endpoint mode: 64-bit, non-prefetchable, 16 KiB, with the register window at offset 0; none where the function
is not presented (R35). -/
def State.bar0 (s : State) (fn : Nat) : Option Bar :=
  if s.fnPresent fn then some { index := 0, wide := true, prefetch := false, size := 16384 } else none

/-! ### Framed mailboxes -/

/-- A framed mailbox that can take frames: SVC_UART with DOM_MGMT on, or the service port's in a dead-feed start (R31, R373). -/
def State.frameOn (s : State) (i : Fin 38) : Bool :=
  s.domOn 2 && (i.val == 1 || (decide (2 ≤ i.val) && decide (i.val ≤ 5) && (s.desk.service.map (·.val + 2)) == some i.val))

/-- The request image of a frame's payload; one whose LEN is not 8 plus LENGTH fails R42 step 3 (R37). -/
def frameImage (i : Fin 38) (payload : List Byte) : Waiting :=
  let ws := wordsLE payload
  let n := fld (wordAt ws 0) 15 0
  { src := .win i, opcode := fld (wordAt ws 0) 31 16, len := n, tag := wordAt ws 1, data := ws.drop 2, badLen := payload.length != 8 + n }

/-- What the receiver of a framed mailbox makes of the bytes it holds. -/
inductive RxStep where
  /-- no frame has ended: the bytes kept, from SYNC on -/
  | more (held : List Byte)
  /-- a frame to discard has ended: the bytes after it -/
  | bad (rest : List Byte)
  /-- a good frame has ended: its payload, and the bytes after it -/
  | good (payload rest : List Byte)
  deriving DecidableEq, Repr

/-- The receiver over the bytes it holds. Outside a frame it skips every byte but SYNC. A frame is discarded when its LEN lies outside 8
to 4,096, where the receiver looks for SYNC again after LEN, or when its TYPE is not 0x01 or its CRC fails (R36, R37; log entry 154). -/
def rxStep (bs : List Byte) : RxStep :=
  match bs.dropWhile (· != 0xA5) with
  | sync :: type :: l0 :: l1 :: rest =>
    let n := l0.toNat + 256 * l1.toNat
    if n < 8 || 4096 < n then .bad rest
    else if rest.length < n + 2 then .more (sync :: type :: l0 :: l1 :: rest)
    else
      let payload := rest.take n
      let crc := crc16Frame (type :: l0 :: l1 :: payload)
      if type == 0x01 && (rest.drop n).take 2 == [crc.extractLsb' 0 8, crc.extractLsb' 8 8] then .good payload (rest.drop (n + 2))
      else .bad (rest.drop (n + 2))
  | held => .more held

/-- SVC_REQUEST_FRAME: bytes arrive at a framed mailbox, each within 1 ms of the one before; at most one frame ends among them. The operands
are those bytes in order, named for a whole frame after bytes outside one; each may hold any bytes, and the receiver decides. A bad frame
is discarded and counted; a good one is a request image and a doorbell (R36, R37, R373). -/
def execSvcRequestFrame (box : Fin 38) (skipped head payload crc : List Byte) (s : State) : Host.Outcome State Fault Refusal :=
  if s.frameOn box then
    match rxStep ((s.box box).rx ++ (skipped ++ head ++ payload ++ crc)) with
    | .more held => .next (s.modBox box fun m => { m with rx := held })
    | .bad rest => .next ({ s with mbx.svcBadFrame := bump s.mbx.svcBadFrame }.modBox box fun m => { m with rx := rest.dropWhile (· != 0xA5) })
    | .good payload rest =>
      .next ((s.modBox box fun m => { m with rx := rest.dropWhile (· != 0xA5) }).doorbell box (frameImage box payload))
  else .next s

/-- SVC_FRAME_GAP_TIMEOUT: more than 1 ms passes after a byte. A frame under way is discarded and counted; outside a frame nothing
happens (R37). -/
def execSvcFrameGapTimeout (box : Fin 38) (s : State) : Host.Outcome State Fault Refusal :=
  if s.frameOn box && !(s.box box).rx.isEmpty then
    .next ({ s with mbx.svcBadFrame := bump s.mbx.svcBadFrame }.modBox box fun m => { m with rx := [] })
  else .next s

/-- SVC_EVENT_FRAME_SEND: the oldest event entry goes out as a TYPE 0x03 frame (R37). -/
def execSvcEventFrameSend (box : Fin 38) (s : State) : Host.Outcome State Fault Refusal :=
  let m := s.box box
  if s.frameOn box && m.prod != m.cons then
    let e := (m.slot (m.cons % 256)).getD {}
    .next ((s.send (.frame box (frameBytes 0x03 e.words))).modBox box fun m => ({ m with cons := (m.cons + 1) % 65536 }).flushLost s.now)
  else .next s

/-! ### PEER -/

/-- PEER commands that wait (R38). -/
def State.peerWaiting (s : State) : Nat := (s.mbx.waiting.filter fun r => match r.src with | .peer _ _ => true | _ => false).length

/-- The index names a mailbox tunnel that is open (R38, R190). -/
def State.mailboxTunnel (s : State) (tun : Nat) : Bool :=
  s.tun.table.any fun t => t.idx == tun && t.p.cls == 1 && t.p.farEp == 0 && (t.st == .up || t.st == .stalled || t.st == .closing)

/-- PEER_COMMAND_PDU: the command is queued, or answered BUSY at once when 64 wait (R38). -/
def execPeerCommandPdu (tun : Nat) (port : Fin 4) (opcode : BitVec 16) (len : BitVec 16) (tag : Word) (data : List Word) (s : State) :
    Host.Outcome State Fault Refusal :=
  if s.mailboxTunnel tun then
    if 64 ≤ s.peerWaiting then .next (s.send (.answer (.peer tun port) opcode.toNat tag.toNat 0x30 0 []))
    else .next (s.submit { src := .peer tun port, opcode := opcode.toNat, len := len.toNat, tag := tag, data := data })
  else .next s

/-! ### Windows of limited events -/

/-- Limited events in ascending event number, as events of one stamp enter the queues (R45). -/
def byEvent (rs : List RateSlot) : List RateSlot := (List.range 256).flatMap fun e => rs.filter (·.key.event == e)

/-- A counting window ends: an event held back is raised with the values it now has, and counting starts afresh (R45, R593). -/
def State.endWindow (s : State) (ms : Bool) : State :=
  let (mine, other) := s.mbx.rate.partition (·.key.ms == ms)
  let s := { s with mbx.rate := other }
  (byEvent mine).foldl (fun s r => match r.held with
    | some d => (if r.atEnd then s else { s with mbx.rate := { r with count := 1, held := none } :: s.mbx.rate }).raiseW r.key.event d r.dest
    | none => s) s

/-- One AON second passes (R518, R537, R160, R503, R161). -/
def State.aonSecond (s : State) : State :=
  { s with
    sys.aonS := (s.sys.aonS + 1) % 2 ^ 32
    sys.upS := bump s.sys.upS
    trunk := Vector.ofFn fun i => let p := s.trunk[i.val]; if p.st == .active then { p with upS := bump p.upS } else p
    upd.health := s.upd.health.map (· - 1)
    ring := Vector.ofFn fun i => let r := s.ring[i.val]; if r.wtrRun then { r with wtrLeft := r.wtrLeft - 1 } else r }

/-- One FCLK millisecond passes: the windows of R145 end. -/
def State.msWindow (s : State) : State :=
  { s with trunk := s.trunk.map fun (t : TrunkPort) => { t with errBurst := Vector.replicate 2 0, burstHeld := Vector.replicate 2 false } }

/-! ### Commands -/

/-- The bits of DOMAINS, DOM_AON in bit 0 (R537). -/
def State.domainBits (s : State) : Nat := (List.range 14).foldl (fun a d => a + b2n (s.domOn d) * 2 ^ d) 0

/-- The words of SYS.STATUS (R537). -/
def State.sysStatusWords (s : State) : List Word :=
  [pack [(s.sys.cause, 8), (s.sys.start, 4), (0, 6), (s.domainBits, 14)], wd s.sys.upS, wd s.sys.aonS, pack [(s.sys.warm, 16), (s.sys.restarts, 16)]]

/-- SYS_STATUS; a TENANT sees only CAUSE (R537). -/
def execSysStatus (s : State) : Host.Outcome State Fault Refusal :=
  runRead 0x0101 s fun r s =>
    if (s.srcTenant r.src).isSome then okR [pack [(s.sys.cause, 8)], 0, 0, 0] else okR s.sysStatusWords

/-- SYS_COUNTERS: the hub-wide counters as they were before any clear (R538). -/
def execSysCounters (s : State) : Host.Outcome State Fault Refusal :=
  runCmd 0x0103 s fun r s =>
    let ws := [s.mbx.svcBadFrame, s.mbx.authRefused, s.phase.guyBad, s.tun.unknown, s.tun.dup, s.tun.bad, s.sys.schedSkip, s.sys.tableRestore].map wd
    (if bitAt (r.w 0) 0 then
      { s with mbx.svcBadFrame := 0, mbx.authRefused := 0, phase.guyBad := 0, tun.unknown := 0, tun.dup := 0, tun.bad := 0,
               sys.schedSkip := 0, sys.tableRestore := 0 }
     else s, okR ws)

/-- A mask of trunk ports from a predicate. -/
def portMask (f : Fin 4 → Bool) : Nat := (List.finRange 4).foldl (fun a p => a + b2n (f p) * 2 ^ p.val) 0

/-- UP_MASK (R29). -/
def State.upMask (s : State) : Nat := if s.joined && !s.isRoot then portMask s.isUpstream else 0

/-- A port carries a downstream link: ACTIVE, neither upstream nor blocked (log entry 6). -/
def State.downPort (s : State) (p : Fin 4) : Bool :=
  s.trunk[p.val].st == .active && !s.isUpstream p && !s.portBlocked p

/-- The words of SYS.TOPO (R29). -/
def State.topoWords (s : State) : List Word :=
  [pack [(s.sys.hubId, 16), (s.depthNow, 8), (s.sys.role.code, 2), (b2n s.joined, 1), (b2n (s.ring.toList.any (·.on)), 1), (s.upMask, 4)],
   pack [(if s.joined then s.topo.rootId else 0, 16), (portMask s.downPort, 4),
     (portMask (fun p => s.trunk[p.val].ringBlocked || s.topo.extra[p.val]), 4), (portMask (fun p => s.trunk[p.val].bundled), 4)],
   pack [(0, 16), (s.topo.lastRefusal, 8), (if s.isRoot then s.sys.depthLimit else 0, 8)]]

/-- SYS_TOPO; a TENANT sees only word 0 (R29). -/
def execSysTopo (s : State) : Host.Outcome State Fault Refusal :=
  runRead 0x0110 s fun r s =>
    if (s.srcTenant r.src).isSome then okR [wordAt s.topoWords 0, 0, 0] else okR s.topoWords

/-- SYS_SVC_WINDOW: opens, restarts or closes a service window (R54). -/
def execSysSvcWindow (s : State) : Host.Outcome State Fault Refusal :=
  runCmd 0x0120 s fun r s =>
    let asked := r.f 0 7 0
    let n := Nat.min asked 240
    if n = 0 then
      match s.mbx.svcWindow with
      | some m => ({ s with mbx.svcWindow := none }.refreshAuth.raise 5 [(0, 8), (m, 8)], okR)
      | none => (s, okR)
    else ({ s with mbx.svcWindow := some n }.refreshAuth.raise 5 [(1, 8), (n, 8)], okC (n != asked))

/-- SVC_WINDOW_EXPIRY: the minutes run out (R54). -/
def execSvcWindowExpiry (s : State) : Host.Outcome State Fault Refusal :=
  match s.mbx.svcWindow with
  | some m => .next ({ s with mbx.svcWindow := none }.refreshAuth.raise 5 [(0, 8), (m, 8)])
  | none => .next s

/-- The four words of a clamp (R59). -/
def Clamp.words (c : Clamp) : List Word := [pack [(c.index, 16), (c.type, 16)], pack [(c.offset, 16), (c.width, 8)], c.requested, c.applied]

/-- A clamp report: RECORDS, CLAMPS saturating, and up to 255 clamps (R59). -/
def clampReport (records count : Nat) (cs : List Clamp) : List Word :=
  pack [(records, 16), (Nat.min count 65535, 16)] :: ((cs.take 255).map Clamp.words).flatten

/-- CFG_CLAMPLOG: the boot clamp log from an entry on (R60). -/
def execCfgClamplog (s : State) : Host.Outcome State Fault Refusal :=
  runRead 0x0210 s fun r s => okR (clampReport 0 s.mbx.clampCount (s.mbx.clampLog.drop (r.w 0).toNat))

/-- Events that their chapters name for a TENANT, or raise only in the issuing mailbox (R569). -/
def tenantEvents : List Nat := [1, 74, 80, 81, 83, 84, 160, 161, 162, 176, 177, 178, 179, 180, 181, 182, 208, 211]

/-- The events a class may receive, as a mask (R62, R569). -/
def receivable (a : Auth) : BitVec 256 :=
  if a == .tenant then tenantEvents.foldl (fun m e => m ||| (1#256 <<< e)) 0 else BitVec.allOnes 256

/-- Eight words as a 256-bit mask, word 0 lowest. -/
def maskOf (ws : List Word) : BitVec 256 := BitVec.ofNat 256 ((List.range 8).foldl (fun a k => a + (wordAt ws k).toNat * 2 ^ (32 * k)) 0)

/-- The eight words of a mask. -/
def maskWords (m : BitVec 256) : List Word := (List.range 8).map fun k => m.extractLsb' (32 * k) 32

/-- EVT_MASK: sets or reads the issuing mailbox's mask. EV001 cannot be masked; bits for events the class may not receive are
ignored (R62). -/
def execEvtMask (s : State) : Host.Outcome State Fault Refusal :=
  runCmd 0x0301 s fun r s =>
    match r.src with
    | .win i =>
      let can := receivable (s.box i).auth
      if r.data.isEmpty then (s, okR (maskWords ((s.box i).mask &&& can)))
      else
        let m := ((maskOf r.data &&& can) ||| ((s.box i).mask &&& ~~~ can)) ||| 2#256
        (s.modBox i fun b => { b with mask := m }, okR (maskWords (m &&& can)))
    | _ => (s, okR)

end Sys2Proof.Machine
end

