-- ==== Sys2Proof/Machine/PhaseBase.lean ====
section
/-!
DEFINITION. Phase base (03_phase_base.md): mains tracking on ZX_IN, local offset, holdover and synthetic phase, Guyline requests
and responses, scheduler entries and their arming, TRIG pins and count windows, and the PHASE and TIME commands. The rows that
touch other chapters too (SCHEDULER_FIRE, GUYLINE_SYNC, TIME_RESTEP) stand in Schedule.lean.
-/

namespace Sys2Proof.Machine

/-! ### Time and frequency -/

/-- PTP time in units of 10⁻¹⁰ ns. -/
def State.ptpT (s : State) : Nat := s.time.ns * 10000000000 + s.time.sub

/-- Nanoseconds since cold reset, by a clock that no step of PTP time moves. -/
def State.clockNs (s : State) : Nat := s.time.clock / 10000000000

/-- Units of 10⁻¹⁰ ns in a second. -/
def secT : Nat := 10000000000000000000

/-- NOMINAL in force, in Hz; none while it is automatic and mains has not locked (R67). -/
def State.nominalHz (s : State) : Option Nat :=
  if s.phase.cfg.nominal = 1 then some 50 else if s.phase.cfg.nominal = 2 then some 60 else s.phase.fixedNominal

/-- The synthetic frequency, in mHz (R76). -/
def State.synthFreq (s : State) : Nat :=
  if s.phase.cfg.synthMhz != 0 then s.phase.cfg.synthMhz else (s.nominalHz.getD 50) * 1000

/-- Arcs per hour of the synthetic alignment at the PTP time now: phase count and fraction (R76). -/
def State.synthAlign (s : State) : Nat × Nat :=
  let x := s.ptpT * s.synthFreq * 262144
  let unit := secT * 1000
  (x / unit % 2 ^ 50, x % unit / 1000000000)

/-- Arcs (in a 18-bit cycle) from where the counter stands to where it ought to be, the shorter way round, forward at half a cycle (R72). -/
def arcError (want have_ : Nat) : Int :=
  let d := (want % 262144 + 262144 - have_ % 262144) % 262144
  if d ≤ 131072 then d else (d : Int) - 262144

/-- A correction of an arc rate, in mHz, held within 1 % of it (R72, R86). -/
def onePercent (freq : Nat) (corr : Int) : Int := clampI (-((freq / 100 : Nat) : Int)) (freq / 100 : Nat) corr

/-- The correction, in mHz, that would remove an error in arcs within one cycle, held within 1 % (R72; log entry 155). -/
def pullOf (err : Int) (freq : Nat) : Int := onePercent freq (err * freq / 262144)

/-- The correction, in mHz, of a loop of first order with a bandwidth of 0.5 Hz: π of the error in each second (R72; log entry 155). -/
def loopOf (err : Int) (freq : Nat) : Int := onePercent freq (err * 3142 / 262144)

/-- The arc rate in force, in mHz: the reference frequency with the correction in force. A ROOT in SYNTH that does not pull onto mains
moves to the synthetic alignment (R72, R76, R77). -/
def State.arcRate (s : State) : Nat :=
  if s.isRoot && s.phase.st == .synth && !s.phase.pulling then
    ((s.synthFreq : Int) + pullOf (arcError s.synthAlign.1 s.phase.count) s.synthFreq).toNat
  else ((s.phase.freq : Int) + s.phase.corr).toNat

/-- The reference frequency, in mHz: at the ROOT the rate of its counter, elsewhere what Guyline gives (R84, R106). -/
def State.refFreq (s : State) : Nat := if s.isRoot then s.arcRate else s.phase.freq

/-- Code of a phase base state (R65). -/
def PhState.code : PhState → Nat
  | .acquire => 0
  | .locked => 1
  | .holdover => 2
  | .synth => 3

/-- Code of a time state (R107). -/
def TState.code : TState → Nat
  | .unset => 0
  | .locked => 1
  | .diverged => 2
  | .holdover => 3

/-- Move the phase base to a state; EV096 reports each change (R65). -/
def State.setPhase (s : State) (n : PhState) : State :=
  if s.phase.st = n then s
  else { s with phase.st := n }.raise 96 [(s.phase.st.code, 4), (n.code, 4)]

/-- The first lock of PTP time: UNSET becomes LOCKED and EV101 carries the source (R78). -/
def State.timeFirstLock (s : State) (source : Nat) : State :=
  if s.time.st = .unset then { s with time.st := .locked }.raise 101 [(source, 4)] else s

/-- The nominal offset of a CONDUCTOR (R74 table). -/
def nominalOffset (conductor : Nat) : Nat :=
  if conductor = 1 then 0x15555 else if conductor = 2 then 0x2AAAB else 0

/-! ### Uncertainty -/

/-- Depth that uncertainty uses (R96). -/
def State.uncDepth (s : State) : Nat :=
  if s.isRoot || !s.phase.guyEverLocked then 0 else if s.joined then s.topo.depth else s.phase.lastDepth

/-- U in arcs for a capture term in ns, rounded up (R96). -/
def State.unc (s : State) (capture : Nat) : Nat :=
  let growth := if s.isRoot || !s.phase.guyEverLocked || !s.phase.guyLost then 0
    else s.time.cfg.growth * (s.time.clock - s.phase.guyLostAt)
  let ns := (25 * s.uncDepth + capture) * secT + growth
  (ns * 262144 * s.arcRate + 1000000000000 * secT - 1) / (1000000000000 * secT)

/-- Bounds of straddling: `s − U < B ≤ s + U` (R97). -/
def straddles (t u b : Nat) : Bool := decide (t < b + u) && decide (b ≤ t + u)

/-! ### Mains -/

/-- Mean frequency, in mHz, of the last 64 accepted cycles (R77). -/
def State.meanFreq (s : State) : Nat :=
  let total := s.phase.periods.foldl (· + ·) 0
  if total = 0 then s.phase.freq else s.phase.periods.length * 1000 * secT / total

/-- Mains is lost, noisy or out of range: it must qualify afresh, the local offset is held, and the ROOT runs in HOLDOVER at the mean of
the last 64 cycles, or stays in SYNTH (R68, R69, R70, R72, R74, R77). -/
def State.mainsLost (s : State) (zx : Nat) : State :=
  let s := { s with phase.zx := zx, phase.mainsOk := false, phase.goodRun := 0, phase.gap := true, phase.nearRun := 0, phase.offsetHeld := true }
  if !s.isRoot then s
  else match s.phase.st with
    | .locked => { s with phase.freq := s.meanFreq, phase.corr := 0, phase.pulling := false }.setPhase .holdover
    | .synth => { s with phase.pulling := false, phase.freq := s.synthFreq, phase.corr := 0 }
    | .holdover => if s.phase.pulling then { s with phase.freq := s.meanFreq, phase.pulling := false, phase.corr := 0 } else s
    | .acquire => s

/-- The edges meet the 2 % rule: each of the last periods differs from their mean by no more than 2 % (R70). -/
def periodsOk (es : List Nat) : Bool :=
  let ps := (es.zip es.tail).map fun (a, b) => a - b
  let n := ps.length
  let total : Nat := ps.foldl (· + ·) 0
  ps.all fun p => decide ((if p * n < total then total - p * n else p * n - total) * 50 ≤ total)

/-- Mean of arcs around the cycle, taken about the newest of them, to the nearest arc (R74; log entry 7). -/
def circularMean (arcs : List Nat) : Nat :=
  match arcs with
  | [] => 0
  | a0 :: _ =>
    let devs : List Int := arcs.map fun a => sx 18 ((a + 262144 - a0) % 262144)
    let sum := devs.foldl (· + ·) 0
    (((a0 : Int) + (2 * sum + (arcs.length : Int)) / (2 * (arcs.length : Int))) % 262144).toNat

/-- Distance between two arcs the shorter way round. -/
def arcDist (a b : Nat) : Nat := (sx 18 ((a + 262144 - b) % 262144)).natAbs

/-- The offset in force moves toward the measured one by at most 8 arcs (R74). -/
def stepOffset (cur target : Nat) : Nat :=
  let d := sx 18 ((target + 262144 - cur) % 262144)
  (((cur : Int) + clampI (-8) 8 d) % 262144).toNat

/-- While the reference runs SYNTH, a hub other than the ROOT holds the offset at the nominal one of its CONDUCTOR and measures none (R74). -/
def State.synthOffset (s : State) : State :=
  if !s.isRoot && (s.phase.st == .synth || s.phase.refSynth) then
    { s with phase.offset := nominalOffset s.phase.cfg.conductor, phase.offsetHeld := true, phase.edgeArcs := [] }
  else s

/-- A measured offset is applied and reported: EV099 with the flag set when it has come to lie beyond OFFSET_TOL of the nominal one, else
with the flag clear when it has moved by more than OFFSET_TOL from the last one reported (R74, R75; log entry 156). -/
def State.applyOffset (s : State) (m : Nat) : State :=
  let tol := s.phase.cfg.offsetTol
  let unexpected := decide (tol < arcDist m (nominalOffset s.phase.cfg.conductor))
  let crossed := unexpected && !s.phase.unexpected
  let moved := s.phase.reportedOffset.any fun r => decide (tol < arcDist m r)
  let s := { s with phase.measured := some m, phase.offsetHeld := false, phase.offset := stepOffset s.phase.offset m, phase.unexpected := unexpected }
  if crossed || moved then { s with phase.reportedOffset := some m }.raise 99 [(b2n crossed, 1), (m, 18)] else s

/-- A hub other than the ROOT measures its local offset over the last 64 accepted edges, and holds it while its mains is not accepted
(R74). -/
def State.measureOffset (s : State) : State :=
  if s.phase.st == .synth || s.phase.refSynth then s.synthOffset
  else
    let arcs := (s.phase.count % 262144 :: s.phase.edgeArcs).take 64
    let s := { s with phase.edgeArcs := arcs }
    if arcs.length < 64 || !s.phase.mainsOk then s else s.applyOffset (circularMean arcs)

/-- The kept entries of the Lantern engines lie at indices 964 to 967 (R88, R263; log entry 16). -/
def lanternEntry (n : Nat) : Nat := 964 + n

/-- The kept entries of the Lantern engines wait for the next grid instant of reference phase (R94, R263). -/
def State.realignLantern (s : State) : State :=
  { s with sched.entries := s.sched.entries.map fun (e : SchedEntry) => if lanternEntry 0 ≤ e.idx && decide (e.idx ≤ lanternEntry 3) then
      { e with inst := (s.phase.count / 4096 + 1) * 4096 % 2 ^ 50 } else e }

/-- Index of the kept scheduler entry of the metering cadence (R88). -/
def meterEntry : Nat := 970

/-- Local phase ARC of sample `k` of a cycle (R456). -/
def meterArc (perCycle k : Nat) : Nat := (2 * k * 262144 + perCycle) / (2 * perCycle)

/-- The first sample instant of local phase after `count` with PER_CYCLE samples a cycle (R456). -/
def nextSample (perCycle count : Nat) : Nat :=
  let cyc := count / 262144
  match (List.range perCycle).find? fun k => decide (count % 262144 < meterArc perCycle k) with
  | some k => cyc * 262144 + meterArc perCycle k
  | none => (cyc + 1) * 262144 % 2 ^ 50

/-- The first alignment has stepped the phase counter: metering goes on at its next instant, and the other kept entries of a phase base wait
for the next cycle at their arc (R88, R456). -/
def State.realignKept (s : State) : State :=
  { s with sched.entries := s.sched.entries.map fun (e : SchedEntry) => if e.idx = meterEntry then
      { e with inst := nextSample s.pwr.meterCfg.perCycle s.localCount }
    else if 968 ≤ e.idx && e.base != 2 then
      { e with inst := ((s.phase.count / 262144 + 1) * 262144 + e.inst % 262144) % 2 ^ 50 } else e }.realignLantern

/-- Length of a count window in arcs (R100). -/
def State.countWindow (s : State) : Nat := s.phase.cfg.countEighths * 32768

/-- Count windows start afresh in the window that phase now lies in (R100). -/
def State.realignCounts (s : State) : State :=
  let win := s.phase.count / s.countWindow
  { s with trig := s.trig.map fun (p : Trig) => { p with winIdx := win, count := 0, ambig := 0, nextCount := 0, nextAmbig := 0 } }

/-- The first alignment opens the count windows and the energy window that phase now lies in; what was counted before had no window of
reference phase (R100, R459; log entry 178). -/
def State.startWindows (s : State) : State :=
  let n := s.pwr.meterCfg.intervalCycles
  let c := s.phase.count / 262144 / n * n
  { s.realignCounts with
    pwr.winCycle := c
    pwr.winStart := mkStamp s.holdoverFlag false false s.synthFlag (c * 262144 % 2 ^ 50)
    pwr.lp := s.pwr.lp.map fun (x : LightPower) => { x with winE := 0, winN := 0, winAmb := 0, nextE := 0, nextN := 0, nextAmb := 0 } }

/-- With NOMINAL automatic, the first lock fixes it by the frequency measured (R67; log entry 157). -/
def State.fixNominal (s : State) (f : Nat) : State :=
  if s.phase.cfg.nominal = 0 && s.phase.fixedNominal.isNone then { s with phase.fixedNominal := some (if f < 55000 then 50 else 60) } else s

/-- An accepted edge of accepted mains: at the ROOT the first lock steps phase, a locked loop follows, and a pull onto mains counts the cycles
for which the error stays below 64 arcs (R70, R71, R72). -/
def State.acceptMains (s : State) (freq : Option Nat) : State :=
  let f := freq.getD s.phase.freq
  let err := arcError 0 s.phase.count
  let s := { s with phase.mainsOk := true, phase.zx := 2 }
  if !s.isRoot then s.fixNominal f
  else match s.phase.st with
    | .acquire =>
      let s := (({ s with phase.count := 0, phase.sub := 0, phase.freq := f }.setPhase .locked).realignKept.startWindows).fixNominal f
      if s.time.cfg.source = 0 then s.timeFirstLock 0 else s
    | .locked => { s with phase.freq := f, phase.corr := loopOf err f }
    | .holdover | .synth =>
      { s with phase.pulling := true, phase.freq := f, phase.corr := pullOf err f, phase.nearRun := if err.natAbs < 64 then s.phase.nearRun + 1 else 0 }

/-- Frequency in mHz from the last 8 periods, none before 9 edges (R70). -/
def freqOf (es : List Nat) : Option Nat :=
  match es[0]?, es[8]? with
  | some t, some e8 => some (8 * 1000 * secT / (t - e8))
  | _, _ => none

/-- The frequency measured lies outside 45 to 66 Hz (R70). -/
def freqBad (es : List Nat) : Bool :=
  match es[0]?, es[8]? with
  | some t, some e8 => decide (8 * secT < 45 * (t - e8)) || decide (66 * (t - e8) < 8 * secT)
  | _, _ => false

/-- An accepted edge: frequency, qualification and the local offset (R70 to R75). -/
def State.acceptEdge (s : State) : State :=
  let t := s.time.clock
  let es := (t :: s.phase.edges).take 17
  let ps := match s.phase.edges.head? with
    | some e => if s.phase.gap then s.phase.periods else ((t - e) :: s.phase.periods).take 64
    | none => s.phase.periods
  let s := { s with phase.edges := es, phase.lastEdge := some t, phase.periods := ps, phase.gap := false, phase.edgeCount := s.phase.edgeCount + 1 }
  let s := if freqBad es then (s.mainsLost 5).raise 98 [((freqOf es).getD 0 / 10, 16)]
    else
      let run := if periodsOk (es.take (Nat.min (s.phase.goodRun + 1) 16)) then s.phase.goodRun + 1 else 1
      let s := { s with phase.goodRun := run, phase.zx := if s.phase.mainsOk then 2 else 1 }
      if s.phase.mainsOk || decide (16 ≤ run) then s.acceptMains (freqOf es) else s
  if s.isRoot then s else s.measureOffset

/-- ZX_EDGE: a qualified level change is rejected when it comes less than a quarter of the nominal cycle after the last accepted
edge; otherwise it is accepted, frequency is measured from the last 8 periods, and mains is accepted after 16 qualifying edges
(R67, R69 to R75). -/
def execZxEdge (s : State) : Host.Outcome State Fault Refusal :=
  if s.sys.stage == .off || (s.isRoot && s.phase.cfg.synthEn) then .next s
  else
    let t := s.time.clock
    let perQuarter := match s.nominalHz with | some 50 => 200 | some 60 => 240 | _ => 264
    let early := match s.phase.lastEdge with | some e => decide ((t - e) * perQuarter < secT) | none => false
    if early then
      let s := { s with phase.rejected := bump s.phase.rejected, phase.winRej := s.phase.winRej + 1 }
      if s.phase.winRej = 9 && !s.phase.noisy then
        .next (({ s with phase.noisy := true }.mainsLost 3).raise 97 [(1, 1), (9, 16)])
      else .next s
    else if s.phase.noisy then .next { s with phase.lastEdge := some t }
    else .next s.acceptEdge

/-- MAINS_LOST_TIMEOUT: no edge accepted for 3 nominal cycles (R68). -/
def execMainsLostTimeout (s : State) : Host.Outcome State Fault Refusal :=
  if s.isRoot && s.phase.cfg.synthEn then .next s else .next (s.mainsLost (if s.phase.noisy then 3 else 4))

/-- MAINS_NOISE_WINDOW_END: a whole window with 8 rejections or fewer lets the input be used again (R69). -/
def execMainsNoiseWindowEnd (s : State) : Host.Outcome State Fault Refusal :=
  let n := s.phase.winRej
  let s := { s with phase.winRej := 0 }
  if s.phase.noisy && decide (n ≤ 8) then
    .next ({ s with phase.noisy := false, phase.zx := 1, phase.goodRun := 0 }.raise 97 [(0, 1), (n, 16)])
  else .next s

/-- Enter SYNTH from ACQUIRE: the counter steps to the synthetic alignment (R71, R76). -/
def State.enterSynth (s : State) : State :=
  let (c, f) := s.synthAlign
  let s := ({ s with phase.count := c, phase.sub := f, phase.freq := s.synthFreq }.setPhase .synth).realignKept.startWindows
  if s.time.cfg.source = 0 then s.timeFirstLock 0 else s

/-- ACQUIRE_TIMEOUT: t_acquire ends without a lock and the ROOT enters SYNTH (R71). -/
def execAcquireTimeout (s : State) : Host.Outcome State Fault Refusal :=
  if s.isRoot && s.phase.st == .acquire then .next s.enterSynth else .next s

/-- MAINS_PULL_IN_LOCK: the error has stayed below 64 arcs for 16 cycles and the ROOT enters LOCKED (R72). -/
def execMainsPullInLock (s : State) : Host.Outcome State Fault Refusal :=
  if s.isRoot && s.phase.pulling && s.phase.mainsOk && decide (16 ≤ s.phase.nearRun) then
    let mains := (freqOf s.phase.edges).getD s.phase.freq
    .next (({ s with phase.pulling := false, phase.nearRun := 0, phase.freq := mains, phase.corr := 0 }.fixNominal mains).setPhase .locked)
  else .next s

/-! ### Guyline -/

/-- Guyline runs on the lower-numbered member of a bundle (R85). -/
def State.guylinePort (s : State) (p : Fin 4) : Bool :=
  !s.trunk[p.val].bundled || (List.finRange 4).all fun q => p.val ≤ q.val || !(s.trunk[q.val].bundled &&
    (s.trunk[q.val].nb.map (·.hub)) == (s.trunk[p.val].nb.map (·.hub)))

/-- A link that Guyline runs down on. -/
def State.guylineDown (s : State) (p : Fin 4) : Bool :=
  s.trunk[p.val].st == .active && !s.isUpstream p && !s.topo.extra[p.val] && !s.trunk[p.val].mismatch && s.guylinePort p

/-- The port that the upstream Guyline arrives on. -/
def State.guylineUp (s : State) (p : Fin 4) : Bool := !s.isRoot && s.isUpstream p && s.guylinePort p && s.trunk[p.val].st == .active

/-- A hub sends Guyline downstream unless it is in ACQUIRE, or is a ROOT without hub ID (R17, R83). -/
def State.guylineSends (s : State) : Bool := s.phase.st != .acquire && !(s.isRoot && s.sys.hubId == 0)

/-- Queue a Guyline message on a trunk port (R125). -/
def State.guyQueue (s : State) (p : Fin 4) (msg rx : Nat) : State :=
  { s with trunk := updAt s.trunk p fun t => { t with guyq := t.guyq ++ [(msg, rx)] } }

/-- GUYLINE_SYNC_SEND: a Sync on every downstream link at each eighth boundary (R83). -/
def execGuylineSyncSend (s : State) : Host.Outcome State Fault Refusal :=
  .next (if s.guylineSends then (List.finRange 4).foldl (fun s p => if s.guylineDown p then s.guyQueue p 0 0 else s) s else s)

/-- GUYLINE_DELAY_REQ_SEND: a Delay request on the upstream link at every 16th eighth (R83). -/
def execGuylineDelayReqSend (s : State) : Host.Outcome State Fault Refusal :=
  .next ((List.finRange 4).foldl (fun s p => if s.guylineUp p then s.guyQueue p 1 0 else s) s)

/-- A Delay request arrives: one Delay response, carrying the receive time (R83, R84). -/
def State.guyDelayReq (s : State) (port : Fin 4) : State := if s.guylineSends && s.guylineDown port then s.guyQueue port 2 s.time.ns else s

/-- GUYLINE_DELAY_REQUEST (R83). -/
def execGuylineDelayRequest (port : Fin 4) (s : State) : Host.Outcome State Fault Refusal := .next (s.guyDelayReq port)

/-- A Delay response arrives: the link delay is ((t2 − t1) + (t4 − t3)) / 2 (R85). -/
def State.guyDelayResp (s : State) (port : Fin 4) (rxTime : Nat) : State :=
  if s.guylineUp port then
    { s with phase.linkDelay := (((s.phase.t2 : Int) - s.phase.t1) + ((rxTime : Int) - s.phase.t3)) / 2, phase.guyDelayDone := true }
  else s

/-- GUYLINE_DELAY_RESPONSE (R85). -/
def execGuylineDelayResponse (port : Fin 4) (rxTime : Nat) (s : State) : Host.Outcome State Fault Refusal := .next (s.guyDelayResp port rxTime)

/-- Number of the upstream port, 0 where there is none (log entry 158). -/
def State.upPort (s : State) : Nat := (s.topo.upstream.map (·.val)).getD 0

/-- Guyline is not followed from now: 4 Syncs and a delay exchange must come first, the growth of uncertainty counts from the first such
instant, and the hub runs in HOLDOVER at the rate last followed (R65, R77, R86, R96; log entry 40). -/
def State.dropGuyline (s : State) : State :=
  let s := { s with phase.guyLost := true, phase.guyLostAt := if s.phase.guyLost then s.phase.guyLostAt else s.time.clock, phase.corr := 0,
                    phase.guySyncs := 0, phase.guyDelayDone := false, time.st := if s.time.st == TState.unset then TState.unset else TState.holdover }
  s.setPhase .holdover

/-- Guyline is lost: EV100 flag 1, HOLDOVER at the rate last followed (R77, R86). -/
def State.loseGuyline (s : State) : State :=
  if s.isRoot || s.phase.st == .acquire || s.phase.lossReported then s
  else ({ s with phase.lossReported := true }.raise 100 [(1, 1), (s.upPort, 2)]).dropGuyline

/-- GUYLINE_LOSS: no valid Sync for 8 eighths (R86). -/
def execGuylineLoss (s : State) : Host.Outcome State Fault Refusal := .next s.loseGuyline

/-! ### Scheduler -/

/-- Entries of the shared pool in use. -/
def State.poolUsed (s : State) : List Nat := (s.sched.entries.filter (·.idx < 960)).map (·.idx)

/-- Handle of an entry: index in [9:0], generation in [15:10] (R104). -/
def schedHandle (idx gen : Nat) : Nat := idx + gen % 64 * 1024

/-- Arm an entry of the shared pool: the lowest free index, with its next generation (R88, R104). -/
def State.armEntry (s : State) (e : SchedEntry) : Option (State × SchedEntry) :=
  match leastFree s.poolUsed 0 960 with
  | none => none
  | some i =>
    let g := getKey s.sched.gens i 0
    let e := { e with idx := i, gen := g }
    some ({ s with sched.entries := s.sched.entries ++ [e], sched.gens := setKey s.sched.gens i ((g + 1) % 64) }, e)

/-- Put an entry of the hub's own, at a fixed index from 960 up (R88). -/
def State.keepEntry (s : State) (e : SchedEntry) : State :=
  { s with sched.entries := s.sched.entries.filter (·.idx != e.idx) ++ [e] }

/-- Each Lantern engine arms its kept entry: action 2 at every grid instant of reference phase from the next on (R88, R263). -/
def State.armLantern (s : State) : State :=
  (List.range 4).foldl (fun s n => s.keepEntry
    { idx := lanternEntry n, base := 0, action := 2, target := n, inst := (s.phase.count / 4096 + 1) * 4096 % 2 ^ 50, period := 4096, left := none }) s

/-- Remove an entry. -/
def State.dropEntry (s : State) (idx : Nat) : State := { s with sched.entries := s.sched.entries.filter (·.idx != idx) }

/-- Apply an instant in a base: one that is not in the future, or is earlier than 16 arcs (1.25 µs) ahead, is clamped (R91). -/
def State.applyInstant (s : State) (base v : Nat) : Nat × Bool :=
  if base = 2 then (if v < s.time.ns + 1250 then (s.time.ns + 1250, true) else (v, false))
  else
    let now := if base = 1 then s.localCount else s.phase.count
    let first := (now + 16) % 2 ^ 50
    let v := v % 2 ^ 50
    if laterCount v now && !laterCount first v then (v, false) else (first, true)

/-- The instant as the response gives it: a count, with LOCAL for a local stamp and no flag of now, or ns (R73, R104; log entry 159). -/
def instantWord (base v : Nat) : Nat := if base = 1 then v + 2 ^ 61 else v

/-- PHASE_ARM (R88, R91, R92, R104). -/
def execPhaseArm (s : State) : Host.Outcome State Fault Refusal :=
  runCmd 0x1010 s fun r s =>
    let base := if r.f 0 31 30 = 3 then 0 else r.f 0 31 30
    let action := if r.f 0 29 27 = 0 ∨ r.f 0 29 27 = 1 ∨ r.f 0 29 27 = 6 then r.f 0 29 27 else 0
    if base = 2 ∧ s.time.st = .unset then (s, failR 0x30)
    else if base ≠ 2 ∧ s.phase.st = .acquire then (s, failR 0x30)
    else
      let (first, c1) := s.applyInstant base (u64At r.data 1)
      let p := (r.w 3).toNat
      let least := if base = 2 then 1250 else 16
      let period := if p = 0 then 0 else Nat.max p least
      let count := (r.w 4).toNat
      let e : SchedEntry := {
        base := base, action := action, notify := bitAt (r.w 0) 26, target := r.f 0 23 16, inst := first,
        period := period, left := if period = 0 then some 1 else if count = 0 then none else some count, armer := some r.src }
      match s.armEntry e with
      | none => (s, failR 0x40)
      | some (s', e') =>
        (s', okC (c1 || base != r.f 0 31 30 || action != r.f 0 29 27 || period != p)
          (wd (schedHandle e'.idx e'.gen) :: wd2 (instantWord base first)))

/-- PHASE_CANCEL: cancelled 0, FIRED 1, no such entry 2 (R93, R105). -/
def execPhaseCancel (s : State) : Host.Outcome State Fault Refusal :=
  runCmd 0x1011 s fun r s =>
    let h := r.f 0 15 0
    let fired := s.sched.lastFired.contains h
    let found := s.sched.entries.any fun e => e.idx < 960 && !e.byScene && schedHandle e.idx e.gen == h
    let s := { s with
      sched.lastFired := []
      sched.entries := s.sched.entries.filter fun e => !(e.idx < 960 && !e.byScene && schedHandle e.idx e.gen == h) }
    (s, okR [pack [(if fired then 1 else if found then 0 else 2, 8)]])

/-- The words of PHASE.STATUS (R106). -/
def State.phaseStatusWords (s : State) : List Word :=
  [pack [(s.phase.st.code, 4), (s.phase.zx, 4), (Nat.min (s.unc 2) 255, 8), (0, 5), (960 - s.poolUsed.length, 11)],
   wd s.refFreq, wd (if s.isRoot then 0 else s.phase.offset)] ++ wd2 s.now.toNat ++ [wd s.phase.rejected]

/-- PHASE_STATUS. -/
def execPhaseStatus (s : State) : Host.Outcome State Fault Refusal := runRead 0x1001 s fun _ s => okR s.phaseStatusWords

/-- The words of TIME.STATUS (R107). -/
def State.timeStatusWords (s : State) : List Word :=
  [pack [(s.time.st.code, 4), (if s.isRoot then s.time.cfg.source else 2, 4),
     (if s.isRoot then s.time.cfg.srcPort else s.upPort, 2), (0, 6), (s.phase.gen, 16)],
   wdI s.time.rate, wdI (clampI (-2147483648) 2147483647 s.time.offset)] ++ wd2 s.time.ns

/-- TIME_STATUS. -/
def execTimeStatus (s : State) : Host.Outcome State Fault Refusal := runRead 0x1101 s fun _ s => okR s.timeStatusWords

/-- Signed distance of a phase count from another, by R10. -/
def countDiff (a b : Nat) : Int := sx 50 ((a % 2 ^ 50 + 2 ^ 50 - b % 2 ^ 50) % 2 ^ 50)

/-- An instant in a base as a reference phase count, by the relation in force now (R108). -/
def State.toRefCount (s : State) (base v : Nat) : Nat :=
  if base = 0 then v % 2 ^ 50
  else if base = 1 then (v + s.phase.offset) % 2 ^ 50
  else
    let d : Int := ((v : Int) * 10000000000 - s.ptpT) * (262144 * s.arcRate) / 1000000000
    (((s.phase.count : Int) * 10000000000000 + s.phase.sub + d) / 10000000000000 % (2 ^ 50 : Nat)).toNat

/-- A reference phase count in a base, with the flags of now for a phase base. A PTP time is rounded down, and 0 before the epoch (R66, R73,
R108; log entry 160). -/
def State.fromRefCount (s : State) (base c : Nat) : Nat :=
  if base = 0 then (mkStamp s.holdoverFlag false false s.synthFlag c).toNat
  else if base = 1 then (mkStamp (s.holdoverFlag || (!s.isRoot && s.phase.offsetHeld)) false true s.synthFlag ((c + 2 ^ 50 - s.phase.offset) % 2 ^ 50)).toNat
  else
    let d : Int := (countDiff c s.phase.count * 10000000000000 - s.phase.sub) * 1000000000 / ((262144 * s.arcRate : Nat) : Int)
    (((s.ptpT : Int) + d) / 10000000000).toNat

/-- TIME_CONVERT; its U is that of internal sources, saturating at 255 (R108; log entry 160). -/
def execTimeConvert (s : State) : Host.Outcome State Fault Refusal :=
  runRead 0x1102 s fun r s =>
    let fr := if r.f 0 3 2 = 3 then 0 else r.f 0 3 2
    let dst := if r.f 0 1 0 = 3 then 0 else r.f 0 1 0
    let v := u64At r.data 1
    let out := if fr = 2 && dst = 2 then v else s.fromRefCount dst (s.toRefCount fr v)
    okC (r.f 0 3 2 == 3 || r.f 0 1 0 == 3) (wd2 out ++ [pack [(0, 24), (Nat.min (s.unc 2) 255, 8)]])

/-! ### TRIG pins -/

/-- The pin counts in windows (R100). -/
def State.pinCounts (s : State) (pin : Fin 8) : Bool := s.phase.cfg.countMask.testBit pin.val

/-- An accepted edge counted in its window, and whether its stamp is ambiguous (R97, R100). -/
def State.countEdge (s : State) (pin : Fin 8) : State × Bool :=
  let t := s.phase.count
  let u := s.unc 20
  let w := s.countWindow
  let k := t / w
  let later := straddles t u ((k + 1) * w)
  let amb := later || straddles t u (k * w)
  let win := if later then k + 1 else k
  ({ s with trig := updAt s.trig pin fun p =>
      if win ≤ p.winIdx then { p with count := p.count + 1, ambig := p.ambig + b2n amb }
      else { p with nextCount := p.nextCount + 1, nextAmbig := p.nextAmbig + b2n amb } }, amb)

/-- TRIG_EDGE: an edge closer than 10 µs to the last accepted one is rejected; an accepted edge is captured with EV106 and counted
in its window (R98, R99, R100). -/
def execTrigEdge (pin : Fin 8) (rising : Bool) (s : State) : Host.Outcome State Fault Refusal :=
  let p := s.trig[pin.val]
  if p.output || s.sys.stage == .off then .next s
  else
    let t := s.time.clock
    let early := match p.lastEdge with | some e => decide (t - e < secT / 100000) | none => false
    if early then
      let s := { s with trig := updAt s.trig pin fun p => { p with winRej := p.winRej + 1, level := rising } }
      if p.winRej + 1 = 1001 && !p.ignored then
        .next ({ s with trig := updAt s.trig pin fun p => { p with ignored := true } }.raise 107 [(pin.val, 3), (1, 1)])
      else .next s
    else
      let s := { s with trig := updAt s.trig pin fun p => { p with lastEdge := some t, level := rising } }
      if p.ignored then .next s
      else
        let (s, amb) := if s.pinCounts pin then s.countEdge pin else (s, false)
        if p.edges.testBit (if rising then 0 else 1) then
          let st := mkStamp s.holdoverFlag amb false s.synthFlag s.phase.count
          .next (s.raiseAt 106 (pack [(pin.val, 3), (b2n rising, 1)]) st .owner)
        else .next s

/-- TRIG_WINDOW_END: a whole window with 1,000 rejections or fewer lets the pin be used again (R99). -/
def execTrigWindowEnd (pin : Fin 8) (s : State) : Host.Outcome State Fault Refusal :=
  let p := s.trig[pin.val]
  let s := { s with trig := updAt s.trig pin fun p => { p with winRej := 0 } }
  if p.ignored && decide (p.winRej ≤ 1000) then
    .next ({ s with trig := updAt s.trig pin fun p => { p with ignored := false } }.raise 107 [(pin.val, 3), (0, 1)])
  else .next s

/-- COUNT_WINDOW_CLOSE: EV108 with the window's count; edges placed in the next window open it (R100). -/
def execCountWindowClose (pin : Fin 8) (s : State) : Host.Outcome State Fault Refusal :=
  let p := s.trig[pin.val]
  if s.pinCounts pin && !p.output then
    .next ({ s with trig := updAt s.trig pin fun p =>
        { p with count := p.nextCount, ambig := p.nextAmbig, nextCount := 0, nextAmbig := 0, winIdx := p.winIdx + 1 } }.raise
      108 [(pin.val, 3), (Nat.min p.ambig 4095, 12), (Nat.min p.count 65535, 16)])
  else .next s

/-! ### Records -/

/-- The phase record (R101). -/
def recPhase (s : State) : RdM State := do
  let nominal ← rdE 0 31 30 (· != 3) 0
  let conductor ← rdE 0 29 28 (· != 3) 0
  let synthEn ← rdB 0 27
  let zxPol ← rdB 0 26
  let tol ← rdC 0 15 0 728 21845
  let mhz ← rdF 1 31 0 fun v => if v = 0 then 0 else clampN 45000 66000 v
  let acq ← rdC 2 31 16 1 600
  let mask ← rdR 2 15 8
  let eighths ← rdC 2 7 0 1 255
  let old := s.phase.cfg
  let s := { s with phase.cfg := { nominal := nominal, conductor := conductor, synthEn := synthEn, zxPol := zxPol, offsetTol := tol,
                                   synthMhz := mhz, tAcquire := acq, countMask := mask, countEighths := eighths } }
  let s := if old.countMask != mask || old.countEighths != eighths then s.realignCounts else s
  let s := if s.phase.offsetHeld && s.phase.measured.isNone && !s.isRoot then { s with phase.offset := nominalOffset conductor } else s
  let s := if s.isRoot && s.phase.st == .synth && !s.phase.pulling then { s with phase.freq := s.synthFreq } else s
  let s := if s.isRoot && synthEn && s.up then
    (if s.phase.st == .acquire then s.enterSynth
     else if s.phase.st == .synth then { s with phase.pulling := false, phase.freq := s.synthFreq, phase.corr := 0 }
     else { s with phase.pulling := false, phase.freq := s.synthFreq, phase.corr := 0 }.setPhase .synth) else s
  pure (if s.isRoot && synthEn then { s with phase.zx := 0, phase.mainsOk := false, phase.goodRun := 0, phase.gap := true, phase.nearRun := 0 } else if s.isRoot && old.synthEn then { s with phase.zx := 1 } else s)

/-- The time record (R102). -/
def recTime (s : State) : RdM State := do
  let source ← rdR 0 31 31
  let port ← rdR 0 27 26
  let div ← rdC 0 19 0 1 1000000
  let growth ← rdC 1 31 16 1 10000
  let a0 ← rdS 2 31 24 (-127) 127
  let a1 ← rdS 2 23 16 (-127) 127
  let a2 ← rdS 2 15 8 (-127) 127
  let a3 ← rdS 2 7 0 (-127) 127
  pure { s with time.cfg := { source := source, srcPort := port, divergeUs := div, growth := growth, asym := #v[a0, a1, a2, a3] } }

/-- The TRIG pin record (R591): a pin that becomes an input stops driving at once, one that becomes an output drives IDLE. -/
def recTrig (s : State) : RdM State := do
  let o ← rdR 0 31 24
  let rise ← rdR 0 23 16
  let fall ← rdR 0 15 8
  let idle ← rdR 0 7 0
  pure { s with trig := Vector.ofFn fun i =>
    let p := s.trig[i.val]
    let isOut := o.testBit i.val
    let lv := idle.testBit i.val
    let e := if isOut then 0 else b2n (rise.testBit i.val) + 2 * b2n (fall.testBit i.val)
    if isOut then (if p.output then { p with idle := lv, edges := e } else { p with output := true, driven := true, idle := lv, level := lv, edges := e })
    else { p with output := false, driven := false, idle := lv, edges := e } }

end Sys2Proof.Machine
end

