-- ==== Sys2Proof/Machine/Log.lean ====
section
/-!
DEFINITION. The error log: entries, folding and the queue to the persistent log (R540, R550, R551), and the self-tests an error starts
(R541, R542).
-/

namespace Sys2Proof.Machine

/-- Entries of the error log (R550). -/
def errorLogSize : Nat := 256

/-- An entry also goes to the persistent log (R551). -/
def LogEntry.persists (e : LogEntry) : Bool :=
  e.outcome == 2 || e.outcome == 3 || e.outcome == 5 || (decide (8 ≤ e.cls) && decide (e.cls ≤ 10))

/-- The entry repeats one written less than 1 s before: the same CLASS, UNIT and OUTCOME within the same AON second (log entry 8). -/
def LogEntry.repeats (e old : LogEntry) : Bool :=
  old.cls == e.cls && old.unit == e.unit && old.outcome == e.outcome && old.aonS == e.aonS

/-- Write an error or a test outcome to the error log, or fold it into REPEAT (R550, R551). -/
def State.logErr (s : State) (cls unit outcome event detail : Nat) : State :=
  let e : LogEntry := {
    cls := cls, unit := unit, outcome := outcome, event := event, detail := detail, stamp := s.now, aonS := s.sys.aonS,
    boots := s.diag.boots, seq := s.diag.nextSeq }
  if s.diag.log.any e.repeats then
    { s with diag.log := modFirst e.repeats (fun o => { o with rep := bumpTo 65535 o.rep 1 }) s.diag.log }
  else
    { s with
      diag.log := (e :: s.diag.log).take errorLogSize
      diag.nextSeq := s.diag.nextSeq + 1
      diag.pwait := if e.persists then s.diag.pwait ++ [e] else s.diag.pwait }

/-- Entries of the persistent log, and of one of its sectors (R551). -/
def plogSize : Nat := 487424

/-- Write an entry to the persistent log; in a full log the oldest sector of 2,048 entries is erased first (R551). -/
def State.plogAdd (s : State) (e : LogEntry) : State :=
  { s with diag.plog := e :: (if plogSize ≤ s.diag.plog.length then s.diag.plog.take (plogSize - 2048) else s.diag.plog) }

/-- A self-test of this unit runs (R542). -/
def State.testRuns (s : State) (kind unit : Nat) : Bool := s.diag.tests.any fun t => t.kind == kind && t.unit == unit

/-- Start a self-test, unless the unit's test runs already (R542). -/
def State.startTest (s : State) (t : UnitTest) : State :=
  if s.testRuns t.kind t.unit then s else { s with diag.tests := s.diag.tests ++ [t] }

end Sys2Proof.Machine
end

