-- ==== Sys2Proof/Machine/LightBase.lean ====
section
/-!
DEFINITION. What lighting segments and bridges share: the bridge error log (R315), bridge PDUs (R305), node states (R275), the Remund
command queue of a segment (R272, R311), segment locks (R313, R314), the end of a Remund command for its originator (R309, R315) and
segment states (R278, R289).
-/

namespace Sys2Proof.Machine

/-! ### Bridges -/

/-- Count in the bridge counters (R322). -/
def State.cntB (s : State) (i : Nat) : State := { s with bridge.c := modAt s.bridge.c i bump }

/-- Log a failure of a bridge access and raise EV160 in the originating mailbox, at most once per millisecond (R315). -/
def State.logBridge (s : State) (src : Source) (cause exp win slots target : Nat) (confirmed : Bool) (hub : Nat) : State :=
  let e : ErrLogEntry := { source := src.code, cause := cause, exp := exp, win := win, confirmed := confirmed, slots := slots, target := target, stamp := s.now, farHub := hub }
  let s := if 64 ≤ s.bridge.log.length then { s with bridge.log := s.bridge.log.drop 1 }.cntB 6 else s
  let i := s.bridge.log.length
  { s with bridge.log := s.bridge.log ++ [e] }.raiseRated 160 src.code 1 [(cause, 8), (win, 3), (i, 6)] (.only src) false true

/-- A bridge PDU: its 32-byte header, most significant byte of each field first, then its data (R5, R305). `depthId` and `hub` are those of
a LOCK. -/
def pduBytes (op status tag lsid exp slots target bytes depthId hub : Nat) (data : List Byte) : List Byte :=
  numBytes op 1 ++ numBytes status 1 ++ numBytes tag 2 ++ numBytes lsid 2 ++ numBytes exp 1 ++ numBytes slots 1 ++ numBytes target 8 ++
    numBytes bytes 2 ++ numBytes depthId 2 ++ numBytes hub 2 ++ List.replicate 10 0 ++ data

/-- Data of a bridge PDU: slots of an endpoint and alarm words with the most significant byte first, bytes of an export in the order of
their addresses (R5, R303, R305). -/
def pduData (exp : Nat) (ws : List Word) : List Byte := (ws.map fun w => if exp = 0 then bytesBE w 4 else wordBytesLE w).flatten

/-- Send a bridge PDU (R305). -/
def State.sendPdu (s : State) (tun : Option Nat) (op status tag lsid exp slots target bytes : Nat) (data : List Word) : State :=
  s.send (.bridge tun (pduBytes op status tag lsid exp slots target bytes 0 0 (pduData exp data)))

/-! ### Segments and nodes -/

/-- Segment of a number. -/
def State.sg (s : State) (g : Nat) : Segment := s.light.seg.getD g {}

/-- Change a segment. -/
def State.modSeg (s : State) (g : Nat) (f : Segment → Segment) : State := { s with light.seg := modAt s.light.seg g f }

/-- Count in a segment's counters (R293). -/
def State.cntS (s : State) (g i : Nat) : State := s.modSeg g fun x => { x with c := modAt x.c i bump }

/-- Node of a segment. -/
def Segment.node (x : Segment) (n : Nat) : Node := x.nodes.getD n {}

/-- Change a node. -/
def State.modNode (s : State) (g n : Nat) (f : Node → Node) : State := s.modSeg g fun x => { x with nodes := modAt x.nodes n f }

/-- Codes of node states (R275). -/
def NodeState.code : NodeState → Nat
  | .free => 0
  | .held => 1
  | .admitted => 2
  | .absent => 3
  | .babbling => 4

/-- Codes of segment states (R278). -/
def SegState.code : SegState → Nat
  | .off => 0
  | .run => 1
  | .jammed => 2

/-- Move a node ID to a state, with EV129 (R275). -/
def State.setNode (s : State) (g n : Nat) (st : NodeState) : State :=
  let old := ((s.sg g).node n).st
  if old = st then s
  else (s.modNode g n fun x => { x with st := st }).raise 129 [(g, 4), (n, 5), (old.code, 4), (st.code, 4)]

/-! ### The command queue of a segment -/

/-- Commands a queue holds, the one a cycle frame has carried among them. -/
def Segment.held (x : Segment) : Nat := x.queue.length + b2n x.awaiting.isSome

/-- The queue has room for `n` more commands: 64 in all, 48 of them non-posted (R272, R311). -/
def Segment.room (x : Segment) (n : Nat) (posted : Bool) : Bool :=
  decide (x.held + n ≤ 64) && (posted || decide ((x.queue.filter fun c => !c.posted).length + b2n x.awaiting.isSome + n ≤ 48))

/-- Queue commands: posted writes go ahead of every non-posted command that no cycle frame has carried (R311). -/
def State.rmQueue (s : State) (g : Nat) (cs : List RmCmd) : State :=
  s.modSeg g fun x =>
    if cs.all (·.posted) then { x with queue := (x.queue.filter (·.posted)) ++ cs ++ x.queue.filter fun c => !c.posted }
    else { x with queue := x.queue ++ cs }

/-- Read words 0 to 3 of an endpoint of a node (R282). -/
def State.readEp (s : State) (g n ep : Nat) : State := s.rmQueue g [{ cmd := .read, node := n, ep := ep, addr := 0, count := 4 }]

/-- Begin to read a node's endpoints (R282). -/
def State.readNode (s : State) (g n : Nat) : State :=
  (s.modNode g n fun x => { x with reading := true, reported := false, eps := [] }).readEp g n 0

/-- Words that name a place: PORT, NODE and EPS − 1, then the MAC address (R296). -/
def placeWords (g n : Nat) (x : Node) : List Word :=
  [pack [(g, 4), (n, 5), (0, 17), (x.epCount - 1, 6)], wd (x.mac / 65536), pack [(x.mac % 65536, 16)]]

/-- Send DIR.REPORT for a node whose endpoints have been read; a hub that is not joined holds it back (R282). -/
def State.reportNode (s : State) (g n : Nat) : State :=
  let x := (s.sg g).node n
  if x.st == .held && !x.reading && !x.reported && x.epCount != 0 && x.eps.length == x.epCount && s.joined then
    (s.modNode g n fun x => { x with reported := true }).sendRoot 0x3240
      (placeWords g n x ++ (x.eps.map fun e => [pack [(e.type, 18)], wd e.hint]).flatten)
  else s

/-- A command of the hub itself has ended: an endpoint has been read, or an ASSIGN is confirmed (R276, R282). -/
def State.hubCmdDone (s : State) (g : Nat) (c : RmCmd) (cause : Nat) (words : List Nat) : State :=
  match c.cmd with
  | .read =>
    if cause != 0 then s.modNode g c.node fun x => { x with reading := false, eps := [] }
    else
      let w := fun i => words.getD i 0
      let e : NodeEp := { type := w 0, hint := w 2 % 4096 * 4096 + w 3 % 4096 }
      let s := s.modNode g c.node fun x => { x with eps := x.eps ++ [e] }
      let x := (s.sg g).node c.node
      if x.eps.length < x.epCount then s.readEp g c.node x.eps.length
      else (s.modNode g c.node fun x => { x with reading := false }).reportNode g c.node
  | .assign =>
    if cause != 0 then s
    else ((s.modNode g c.node fun x => { x with mac := c.mac, misses := 0 }).setNode g c.node .held).raise 138 [(g, 4), (c.node, 5)]
  | _ => s

/-! ### Far accesses -/

/-- OP codes of bridge PDUs (R305). -/
def opRead : Nat := 1
/-- WRITE -/
def opWrite : Nat := 2
/-- WRITE_C -/
def opWriteC : Nat := 3

/-- A mailbox's access is complete: EP.READ and a confirmed EP.WRITE are answered; a failure is logged (R315, R322). -/
def State.epFinish (s : State) (src : Source) (a : FarAccess) : State :=
  let s := if a.cause = 0 then s else s.logBridge src a.cause 0 0 a.data.length a.target (a.op == opWriteC) 0
  if a.op = opWrite then s
  else s.respond (if a.cause = 0 then okR (if a.op = opRead then a.data else []) else failR (if a.cause = 1 then 0x40 else 0x50) a.cause)

/-- An access of the far bridge is complete: DATA, WACK, or ERR for a posted write that failed (R309, R315). -/
def State.farFinish (s : State) (a : FarAccess) : State :=
  let s := { s with bridge.far := s.bridge.far.filter (·.seq != a.seq) }
  match a.src with
  | some src => s.epFinish src a
  | none =>
    let s := if a.cause = 0 then s else s.cntB 7
    if a.op = opRead then s.sendPdu a.tun 0x81 a.cause a.tag 0 0 a.data.length a.target 0 a.data
    else if a.op = opWriteC then s.sendPdu a.tun 0x83 a.cause a.tag 0 0 0 a.target 0 []
    else if a.cause = 0 then s
    else s.sendPdu a.tun 0x82 a.cause 0 0 0 0 a.target 0 []

/-- One Remund command of a far access has ended (R309). -/
def State.farPart (s : State) (seq cause : Nat) (words : List Nat) : State :=
  match s.bridge.far.find? (·.seq == seq) with
  | none => s
  | some a =>
    let a := { a with parts := a.parts - 1, cause := if a.cause = 0 then cause else a.cause, data := a.data ++ words.map wd }
    if a.parts = 0 then s.farFinish a
    else { s with bridge.far := s.bridge.far.map fun (x : FarAccess) => if x.seq == seq then a else x }

/-- Send INTR of a node's alarm to the subscriptions that cover one of its endpoints and whose mask holds a bit of the word (R300, R317; which
endpoint of the node the PDU names is log entry 21). -/
def State.sendIntr (s : State) (g n : Nat) : State :=
  let x := (s.sg g).node n
  s.bridge.subs.foldl (fun s b =>
    let covers := fun (e : NodeEp) => e.id != 0 && decide (b.firstEp ≤ e.id) && decide (e.id < b.firstEp + 8192) && (b.tenant == 0 || e.tenant == b.tenant || e.shared)
    let named := x.eps.getD (x.alarm % 64) {}
    let ep := if covers named then some named else x.eps.find? covers
    match ep with
    | some e => if (x.alarm / 4096) &&& b.mask = 0 then s else s.sendPdu b.tun 0x86 0 0 0 0 0 (e.id * 4096) 0 [wd x.alarm]
    | none => s) s

/-- A node's alarm word has changed: EV130 and INTR, each at most 4 times a second (R274, R317). -/
def State.alarmChanged (s : State) (g n alarm : Nat) : State :=
  let s := (s.modNode g n fun x => { x with alarm := alarm }).raiseRated 130 (g * 32 + n) 4 [(g, 4), (n, 5), (alarm, 18)] .owner true
  if ((s.sg g).node n).intrCount < 4 then (s.modNode g n fun x => { x with intrCount := x.intrCount + 1 }).sendIntr g n
  else s.modNode g n fun x => { x with intrHeld := true }

/-- A Remund command has ended with a cause, 0 when it was done (R272, R309). -/
def State.rmFinish (s : State) (g : Nat) (c : RmCmd) (cause : Nat) (words : List Nat) : State :=
  match c.origin with
  | .hub => s.hubCmdDone g c cause words
  | .bridge => s.farPart c.seq cause (if c.cmd == .read && cause = 0 then words else if c.cmd == .read then List.replicate c.count 0 else [])

/-! ### Far accesses that begin -/

/-- Place of an endpoint in this hub's node table: segment, node and endpoint index (R282). -/
def State.epPlace (s : State) (id : Nat) : Option (Nat × Nat × Nat) :=
  (List.range 16).findSome? fun g => (List.range 32).findSome? fun n =>
    let x := (s.sg g).node n
    if x.st == .admitted then ((List.range x.eps.length).find? fun e => (x.eps.getD e {}).id == id).map fun e => (g, n, e) else none

/-- The endpoint is on this hub with its node ADMITTED, and the tenant may reach it (R300). -/
def State.epFor (s : State) (tenant id : Nat) : Option (Nat × Nat × Nat) :=
  (s.epPlace id).filter fun (g, n, e) =>
    let x := ((s.sg g).node n).eps.getD e {}
    tenant == 0 || x.tenant == tenant || x.shared

/-- Parts of an access: runs of at most 4 words of one endpoint, by slot address (R309, R310). -/
def epParts : Nat → Nat → Nat → List (Nat × Nat)
  | 0, _, _ => []
  | _ + 1, _, 0 => []
  | k + 1, target, n + 1 =>
    let len := Nat.min (n + 1) (Nat.min 4 (4096 - target % 4096))
    (target, len) :: epParts k (target + len) (n + 1 - len)

/-- Why a part cannot be queued: no endpoint, or its segment is not in RUN; else its place (R306). -/
def State.partPlace (s : State) (tenant target : Nat) : Nat ⊕ (Nat × Nat × Nat) :=
  match s.epFor tenant (target / 4096) with
  | none => .inl 1
  | some (g, n, e) => if (s.sg g).st == .run then .inr (g, n, e) else .inl 9

/-- Segments that an access has commands for, with how many (R309, R310). -/
def State.partsAt (s : State) (tenant g : Nat) (parts : List (Nat × Nat)) : Nat :=
  (parts.filter fun (t, _) => match s.partPlace tenant t with | .inr (g', _, _) => g' == g | .inl _ => false).length

/-- A segment is locked by another sequence than the one an access belongs to (R313). -/
def Segment.barred (x : Segment) (w : FarWait) : Bool := x.lock.any fun l => !(l.lsid == w.lsid && l.tun == w.tun)

/-- An access must wait at one of its segments: no room in the queue, a posted write of another initiator while the segment is locked, or an
access ahead that waits there and that it may not pass. Posted writes keep their order, non-posted commands keep theirs, and a read does not
pass a write of its own tunnel (R272, R311, R313). -/
def State.mustWait (s : State) (w : FarWait) (ahead : List FarWait) : Bool :=
  (List.range 16).any fun g =>
    let posted := w.op == opWrite
    let n := s.partsAt w.tenant g w.parts
    n != 0 && (!(s.sg g).room n posted || (posted && (s.sg g).barred w) ||
      ahead.any fun a => ((a.op == opWrite) == posted || (a.op == opWrite && a.tun == w.tun && a.src == w.src)) &&
        !(a.op == opWrite && (s.sg g).barred a) && s.partsAt a.tenant g a.parts != 0)

/-- Queue one part of an access, or end it with its cause. -/
def State.queuePart (s : State) (a : FarAccess) (lsid tenant : Nat) (posted : Bool) (words : List Word) (p : Nat × Nat) : State :=
  let (t, n) := p
  let k := t - a.target
  match s.partPlace tenant t with
  | .inl cause => s.farPart a.seq cause (if a.op = opRead then List.replicate n 0 else [])
  | .inr (g, node, e) =>
    s.rmQueue g [{ cmd := if a.op = opRead then .read else .write, node := node, ep := e, addr := t % 4096, count := n,
                   words := ((words.drop k).take n).map fun w => w.toNat % 2 ^ 18, origin := .bridge, src := a.src, tun := a.tun, tag := a.tag,
                   lsid := lsid, seq := a.seq, posted := posted }]

/-- An access of endpoint space begins: its parts are queued. An EP.WRITE without CONFIRM is complete once it is queued (R309, R310,
R322). -/
def State.farBegin (s : State) (w : FarWait) : State :=
  let a : FarAccess := { seq := s.bridge.nextSeq, tun := w.tun, src := w.src, tag := w.tag, op := w.op, target := w.target, parts := w.parts.length }
  let s := { s with bridge.nextSeq := s.bridge.nextSeq + 1, bridge.far := s.bridge.far ++ [a] }
  let first := s.partPlace w.tenant w.target
  let s := w.parts.foldl (fun s p => s.queuePart a w.lsid w.tenant (w.op == opWrite) w.words p) s
  if w.src.isSome && w.op == opWrite then
    match first with
    | .inl cause => s.respond (failR (if cause = 1 then 0x40 else 0x50) cause)
    | .inr _ => s.respond okR
  else s

/-- Begin an access that waits, or keep it. -/
def State.farTry (s : State) (w : FarWait) : State :=
  if s.mustWait w s.bridge.wait then { s with bridge.wait := s.bridge.wait ++ [w] } else s.farBegin w

/-- Accesses that wait begin, in order, as far as they may now (R272, R311, R313). -/
def State.farDrain (s : State) : State := s.bridge.wait.foldl State.farTry { s with bridge.wait := [] }

/-- An access of endpoint space arrives at the far bridge, or from a mailbox of this hub (R309, R310, R322). -/
def State.farStart (s : State) (tun : Option Nat) (src : Option Source) (tag lsid op target n tenant : Nat) (words : List Word) : State :=
  s.farTry { tun := tun, src := src, tag := tag, lsid := lsid, op := op, target := target, parts := epParts n target n, tenant := tenant, words := words }

/-! ### Locks -/

/-- Grant a segment to a locking sequence and say so (R313). -/
def State.grantLock (s : State) (g : Nat) (l : Lock) : State :=
  (s.modSeg g fun x => { x with lock := some l }).sendPdu l.tun 0x84 0 l.tag l.lsid 0 0 (l.ep * 4096) 0 []

/-- Release a segment; the LOCK that has waited longest takes it (R313, R314). With an outcome other than 0 the near hub is told that
its lock has ended: 1 expired, 2 lost (log entry 20). -/
def State.releaseLock (s : State) (g outcome : Nat) : State :=
  match (s.sg g).lock with
  | none => s
  | some l =>
    let s := s.modSeg g fun x => { x with lock := none }
    let s := if outcome = 0 then s else s.sendPdu l.tun 0x85 outcome 0 l.lsid 0 0 (l.ep * 4096) 0 []
    match (s.sg g).lockWait with
    | [] => s.farDrain
    | w :: rest => ((s.modSeg g fun x => { x with lockWait := rest }).grantLock g w).farDrain

/-- The hub has left the tree: what it has reported is reported again once it joins (R22, R282). -/
def State.forgetReports (s : State) : State :=
  { s with light.seg := s.light.seg.map fun (x : Segment) => { x with nodes := x.nodes.map fun (n : Node) => { n with reported := false } } }

/-- Records a directory cache holds (R280). -/
def dirCacheSize : Nat := 65536

/-- A lookup of the directory by ID, counted as a hit or a miss of the cache (R280, R296). -/
def State.dirTouch (s : State) (id : Nat) : State :=
  if s.dir.cache.contains id then { s with dir.hits := bump s.dir.hits, dir.cache := id :: s.dir.cache.filter (· != id) }
  else if s.dir.recs.any (·.id == id) then { s with dir.misses := bump s.dir.misses, dir.cache := (id :: s.dir.cache).take dirCacheSize }
  else { s with dir.misses := bump s.dir.misses }

/-- The record of an ID. -/
def State.dirRec (s : State) (id : Nat) : Option DirRec := s.dir.recs.find? (·.id == id)

/-! ### Gos -/

/-- Change a go. -/
def State.modGo (s : State) (h : Nat) (f : Go → Go) : State := { s with light.gos := modFirst (·.handle == h) f s.light.gos }

/-- Remove a go. -/
def State.dropGo (s : State) (h : Nat) : State := { s with light.gos := s.light.gos.filter (·.handle != h) }

/-- A go of a handle. -/
def State.goOf (s : State) (h : Nat) : Option Go := s.light.gos.find? (·.handle == h)

/-- Outcome 4 is taken for hubs that have not reported; it is the worst (R287). -/
def worse (a b : Nat) : Nat := Nat.max a b

/-- EV134 of a go in its arming mailbox (R287, R297). -/
def State.sceneDone (s : State) (g : Go) (worst bad : Nat) : State :=
  let s := s.dropGo g.handle
  match g.armer with
  | some src => s.raise 134 [(g.handle, 16), (worst, 4), (Nat.min bad 4095, 12)] (.only src)
  | none => s

/-- The ROOT takes the outcome of a hub for one of its tree-wide gos: EV135 unless it is 0, and EV134 when every hub has reported (R287). -/
def State.hubOutcome (s : State) (h hub outcome : Nat) : State :=
  match s.goOf h with
  | none => s
  | some g =>
    if !g.hubsLeft.contains hub then s
    else
      let g := { g with hubsLeft := g.hubsLeft.filter (· != hub), worst := worse g.worst outcome, bad := if outcome = 0 then g.bad else g.bad + 1 }
      let s := s.modGo h fun _ => g
      let s := if outcome = 0 then s else s.raise 135 [(hub, 16), (outcome, 4), (g.scene, 8)]
      if g.hubsLeft.isEmpty then s.sceneDone g g.worst g.bad else s

/-- The two words of SCENE.DONE (R294). -/
def State.doneWords (s : State) (g : Go) (outcome : Nat) : List Word := [pack [(s.sys.hubId, 16), (g.rootHandle, 16)], pack [(outcome, 8), (0, 16), (g.scene, 8)]]

/-- The outcome of a go at this hub is settled: reported to the ROOT, or in the arming mailbox. A control restart holds the report; a hub
that is not joined sends none (R286, R287). -/
def State.settleGo (s : State) (g : Go) (outcome : Nat) : State :=
  if g.origin then (s.modGo g.handle fun x => { x with ph := .settled }).hubOutcome g.handle s.sys.hubId outcome
  else if g.tree then
    let s := s.dropGo g.handle
    if !s.joined then s
    else if s.mbx.restart then { s with light.reports := s.light.reports ++ [s.doneWords g outcome] }
    else s.sendRoot 0x3140 (s.doneWords g outcome)
  else s.sceneDone g outcome (b2n (outcome != 0))

/-- Settle a go that waits for no further segment (R286). -/
def State.trySettle (s : State) (h : Nat) : State :=
  match s.goOf h with
  | some g => if g.ph == .went && g.segsLeft.isEmpty then s.settleGo g (if g.lateGo then 1 else g.outcome) else s
  | none => s

/-- A segment will not send the beacon that a go waits for (R286). -/
def State.goLeave (s : State) (g : Nat) : State :=
  (s.light.gos.map (·.handle)).foldl (fun s h => (s.modGo h fun x => { x with segsLeft := x.segsLeft.filter (· != g) }).trySettle h) s

/-- Segments a go goes on: all in RUN, or the one that holds its endpoint (R285, R286). -/
def State.goSegs (s : State) (target : Nat) : List Nat :=
  let run := (List.range 16).filter fun g => (s.sg g).st == .run
  if 0x800000 ≤ target then run
  else match s.epPlace target with
    | some (g, _, _) => run.filter (· == g)
    | none => run

/-- The instant AT of a go has come (R285, R286). -/
def State.startGo (s : State) (h : Nat) : State :=
  match s.goOf h with
  | some g => if g.ph == .armed then (s.modGo h fun x => { x with ph := .went, segsLeft := s.goSegs g.target }).trySettle h else s
  | none => s

/-- A segment has sent its first beacon at or after AT (R285, R286). -/
def State.goBeacon (s : State) (g : Nat) (late : Bool) : State :=
  let s := (s.light.gos.filter fun x => !laterCount x.inst s.phase.count).foldl (fun s x => s.startGo x.handle) s
  (s.light.gos.filter fun x => x.ph == .went && x.segsLeft.contains g).foldl (fun s x =>
    (s.modGo x.handle fun x => { x with segsLeft := x.segsLeft.filter (· != g), outcome := 0, lateGo := x.lateGo || late }).trySettle x.handle) s

/-- Report every node that waits in HELD for its IDs (R282). -/
def State.reportAll (s : State) : State :=
  (List.range 16).foldl (fun s g => (List.range 32).foldl (fun s n => s.reportNode g n) s) s

/-! ### Segment states -/

/-- Every queued command of a segment fails with cause 0x09, and its locks are released (R314). -/
def State.failSegment (s : State) (g : Nat) : State :=
  let x := s.sg g
  let cs := x.awaiting.toList ++ x.queue
  let waits := x.lockWait
  let s := s.modSeg g fun x => { x with awaiting := none, queue := [], lockWait := [] }
  let s := cs.foldl (fun s c => s.rmFinish g c 9 []) s
  let s := waits.foldl (fun s l => s.sendPdu l.tun 0x84 9 l.tag l.lsid 0 0 (l.ep * 4096) 0 []) s
  (s.releaseLock g 2).farDrain

/-- Move a segment to a state, with EV128; outside RUN nothing is queued (R278, R297). -/
def State.setSeg (s : State) (g : Nat) (st : SegState) (cause : Nat) : State :=
  let old := (s.sg g).st
  if old = st then s
  else
    let s := (s.modSeg g fun x => { x with st := st, offCause := if st == .off then cause else x.offCause }).raise 128 [(g, 4), (old.code, 4), (st.code, 4), (cause, 8)]
    if st == .run then
      s.modSeg g fun x => { x with lastFrame := none, due := none, lastStart := none, answered := true, prevPrio := false, search := false, bits := 0, sel := 0, tries := 0 }
    else (s.failSegment g).goLeave g

/-- Run or stop a segment as its ENABLE and its port power require: cause 0 configuration, 1 power (R278, R289). -/
def State.refreshSegment (s : State) (g : Nat) (cause : Nat) : State :=
  let x := s.sg g
  let pg := ((s.pwr.lp.getD g {}).pg)
  if !x.cfg.enable then s.setSeg g .off 0
  else if !pg then s.setSeg g .off 1
  else if x.st == .off then s.setSeg g .run cause
  else s

end Sys2Proof.Machine
end

