-- ==== Sys2Proof/Machine/BridgeBase.lean ====
section
/-!
DEFINITION. The near side of the bridges that tunnels also end: delayed reads (R307, R308), outstanding requests and their tags (R306),
locked sequences (R313, R314), and what a tunnel that leaves UP or closes does to them (R302, R314, R318).
-/

namespace Sys2Proof.Machine

/-- Mailbox of a PCIe function. -/
def fnSource (fn : Nat) : Source := if h : 6 + fn < 38 then .win ⟨6 + fn, h⟩ else .win 0

/-- What a slot reads as when the host must read again (R307). -/
def retrySlot : Word := 0xFFFFFFFF

/-- Complete a PCIe read with data. -/
def State.complete (s : State) (fn : Nat) (ws : List Word) : State := s.send (.pcie fn ws)

/-- Bridge tags in use (R306). -/
def State.tagsUsed (s : State) : List Nat := s.bridge.dr.map (·.tag) ++ s.bridge.out.map (·.tag)

/-- A free tag; tag 0 is taken last, since a posted write's ERR carries it (R306, R315). -/
def State.freeTag (s : State) : Option Nat :=
  match leastFree s.tagsUsed 1 255 with
  | some t => some t
  | none => if s.tagsUsed.contains 0 then none else some 0

/-- Slots of a read: whole slots of 4 bytes (R304). -/
def slotsOf (offset len : Nat) : Nat := (offset % 4 + len + 3) / 4

/-- Slot address of a window's offset in endpoint space (R303). -/
def Window.epTarget (w : Window) (offset : Nat) : Nat := (w.firstEp + offset / 16384) * 4096 + offset % 16384 / 4

/-- A window of a function. -/
def State.window (s : State) (fn win : Nat) : Window := s.bridge.windows.getD (fn * 8 + win) {}

/-- Free a delayed-read entry and its tag. -/
def State.dropDr (s : State) (tag : Nat) : State := { s with bridge.dr := s.bridge.dr.filter (·.tag != tag) }

/-- Change a delayed-read entry. -/
def State.modDr (s : State) (tag : Nat) (f : DelayedRead → DelayedRead) : State := { s with bridge.dr := modFirst (·.tag == tag) f s.bridge.dr }

/-- A delayed read is collected: its data, or 0 in every slot with the cause logged; the entry and the tag are free (R307). -/
def State.collect (s : State) (d : DelayedRead) (cause : Nat) (data : List Word) (hub : Nat) : State :=
  let n := slotsOf d.offset d.len
  let s := s.dropDr d.tag
  if cause = 0 then s.complete d.fn ((data ++ List.replicate n 0).take n)
  else
    let w := s.window d.fn d.win
    (s.logBridge (fnSource d.fn) cause 0 d.win n (w.epTarget (d.offset % 2 ^ 27)) w.confirm hub).complete d.fn (List.replicate n 0)

/-- DATA or ERR has come for a delayed read: collected at once when its completion is held, else READY (R307, R308). -/
def State.drAnswer (s : State) (d : DelayedRead) (cause : Nat) (data : List Word) (hub : Nat) : State :=
  if d.held then s.collect d cause data hub
  else s.modDr d.tag fun x => { x with st := .ready, cause := cause, data := data, hub := hub }

/-- Take an outstanding request away, with its tag. -/
def State.dropOut (s : State) (tag : Nat) : State := { s with bridge.out := s.bridge.out.filter (·.tag != tag) }

/-- Change a locked sequence. -/
def State.modSeq (s : State) (lsid : Nat) (f : LockSeq → LockSeq) : State := { s with bridge.seqs := modFirst (·.lsid == lsid) f s.bridge.seqs }

/-- A lock of a sequence has ended without UNLOCK: EV162 with outcome 1 expired or 2 lost (R314). -/
def State.lockEnded (s : State) (q : LockSeq) (outcome : Nat) : State :=
  (s.modSeq q.lsid fun x => { x with expired := true, lost := x.lost + 1 }).raise 162 [(q.lsid, 16), (outcome, 4)] (.only q.src)

/-- A bridge tunnel has left UP: the far hub releases the locks held through it, and the near hub's sequences lose theirs (R314). -/
def State.locksDown (s : State) (idx : Nat) : State :=
  let s := (List.range 16).foldl (fun s g =>
    let s := s.modSeg g fun x => { x with lockWait := x.lockWait.filter (·.tun != some idx) }
    if ((s.sg g).lock.map (·.tun)) = some (some idx) then s.releaseLock g 2 else s) s
  (s.bridge.seqs.filter fun q => q.tun == some idx).foldl (fun s q => (List.range (q.granted - q.lost)).foldl (fun s _ => s.lockEnded q 2) s) s

/-- A bridge tunnel has closed: its PENDING entries become READY with cause 0x08, the tags of outstanding requests are free and each is
logged with cause 0x08, and its subscriptions and what still waits from it end (R318). -/
def State.bridgeGone (s : State) (idx hub : Nat) : State :=
  let mine := s.bridge.dr.filter fun d => d.st == .pending && d.tun == some idx
  let s := mine.foldl (fun s d => s.drAnswer d 8 [] hub) s
  let outs := s.bridge.out.filter (·.tun == some idx)
  let s := outs.foldl (fun s o =>
    let s := (s.dropOut o.tag).logBridge (fnSource o.fn) 8 o.exp o.win o.slots o.target (o.op == opWriteC) hub
    if o.op = opRead then s.send (.pcieErr o.fn 4) else s) s
  { s with bridge.subs := s.bridge.subs.filter (·.tun != some idx), bridge.wait := s.bridge.wait.filter (·.tun != some idx) }.farDrain

/-- A window's SUBSCRIBE (R317). -/
def State.subscribe (s : State) (tun : Option Nat) (w : Window) : State :=
  if w.valid && w.intrEn && w.exp == 0 then s.sendPdu tun 6 0 0 0 0 0 (w.firstEp * 4096) 0 [wd w.intrMask] else s

/-- SUBSCRIBE is sent again when the tunnel returns to UP (R317). -/
def State.resubscribe (s : State) (idx handle : Nat) : State :=
  s.bridge.windows.toList.foldl (fun s w => if w.handle == handle then s.subscribe (some idx) w else s) s

end Sys2Proof.Machine
end

