-- ==== Sys2Proof/Machine/DeskBase.lean ====
section
/-!
DEFINITION. Desk ports as the tunnels that serve them see them: mapped ports (R398 to R402), the exported device (R397), the sink and HPD
(R388, R389), the network function (R403), and what a desk tunnel that opens, leaves UP, closes or is refused does to its port.
-/

namespace Sys2Proof.Machine

/-- A desk port. -/
def State.dk (s : State) (p : Nat) : DeskPort := s.desk.port.getD p {}

/-- Change a desk port. -/
def State.modDk (s : State) (p : Nat) (f : DeskPort → DeskPort) : State := { s with desk.port := modAt s.desk.port p f }

/-- Count in a desk port's counters (R410). -/
def State.cntK (s : State) (p i n : Nat) : State := s.modDk p fun x => { x with c := modAt x.c i fun v => bumpTo max32 v n }

/-- The port is ATTACHED_SRC or ATTACHED_SNK (R351). -/
def DeskPort.attached (x : DeskPort) : Bool := x.st == .attachedSrc || x.st == .attachedSnk

/-- The laptop sees the internal USB hub: a DOCK port in UFP role (R381, R396). -/
def DeskPort.hubShown (x : DeskPort) : Bool := x.attached && !x.data.peripheral && x.roleHeld

/-- Number `k` of a port's mapped ports, 0 for mapped port 2. -/
def DeskPort.mp (x : DeskPort) (k : Nat) : Mapped := x.mapped.getD k {}

/-- Change a mapped port. -/
def State.modMp (s : State) (p k : Nat) (f : Mapped → Mapped) : State := s.modDk p fun x => { x with mapped := modAt x.mapped k f }

/-- Set the state of a mapped port, with EV204 (R398, R402). -/
def State.setMp (s : State) (p k st status : Nat) : State :=
  if ((s.dk p).mp k).st = st then s.modMp p k fun m => { m with status := status }
  else (s.modMp p k fun m => { m with st := st, status := status }).raise 204 [(p, 2), (k + 2, 3), (st, 4), (status, 8)]

/-- State of the device of a PERIPHERAL port, coded as mapped port states are (R397, R410). -/
def Exported.code (d : Exported) : Nat := if !d.present then 0 else if !d.exportable then 4 else if d.dock.isSome then 2 else 1

/-- Change the device of a PERIPHERAL port, with EV204 when its state changes (R397). -/
def State.modDev (s : State) (p status : Nat) (f : Exported → Exported) : State :=
  let old := (s.dk p).dev.code
  let s := s.modDk p fun x => { x with dev := f x.dev }
  let new := (s.dk p).dev.code
  if old = new then s else s.raise 204 [(p, 2), (0, 3), (new, 4), (status, 8)]

/-- State of a mapped port whose device is exported to it: ON, or SPEED for a SuperSpeed device on a USB 2.0 laptop link (R398). -/
def DeskPort.shownAs (x : DeskPort) (speed : Nat) : Nat := if speed != 0 && decide (x.usb < 2) then 3 else 2

/-- Mapped ports served by a tunnel: port and number. -/
def State.mappedBy (s : State) (idx : Nat) : List (Nat × Nat) :=
  (List.range 4).flatMap fun p => (List.range 6).filterMap fun k => if ((s.dk p).mp k).tun = some idx then some (p, k) else none

/-- A tunnel of this index is UP. -/
def State.tunIsUp (s : State) (idx : Nat) : Bool := s.tun.table.any fun t => t.idx == idx && t.st == .up

/-! ### The sink and HPD -/

/-- Change the sink state, with EV202 (R388, R411). -/
def State.setSink (s : State) (p st cause : Nat) : State :=
  let x := s.dk p
  if x.sink = st then s
  else
    let s := s.modDk p fun x => if st = 3 then { x with sink := st } else { x with sink := st, srcW := 0, srcH := 0, damage := [], sending := [], frameWait := false, sendOn := false }
    let s := if st < 2 then s.modDk p fun x => { x with dpRate := 0, dpLanes := 0 } else s
    s.raise 202 [(p, 2), (st, 2), (x.dpRate, 3), (x.dpLanes, 3), (cause, 8)]

/-- The sink as alternate mode and HPD leave it (R388). -/
def State.refreshSink (s : State) (p : Nat) : State :=
  let x := s.dk p
  if !(x.alt && x.hpd) then s.setSink p 0 (if x.sink = 3 then 3 else 0) else if x.sink = 0 then s.setSink p 1 0 else s

/-- Attention to the laptop: HPD and IRQ_HPD (R389). -/
def State.attention (s : State) (p : Nat) (irq : Bool) : State :=
  if h : p < 4 then (if (s.dk p).alt then s.send (.vdm ⟨p, h⟩ 6 true [b2n (s.dk p).hpd, b2n irq]) else s) else s

/-- The port's video target is ready (R389). -/
def State.videoReady (s : State) (p : Nat) : Bool :=
  let x := s.dk p
  match x.binding with
  | none => false
  | some b => b.video == 1 || (b.video == 2 && (match x.vidTun with | some i => s.tunIsUp i | none => false))

/-- HPD follows the target (R389). -/
def State.refreshHpd (s : State) (p : Nat) : State :=
  let want := (s.dk p).data.dpEn && s.videoReady p
  if (s.dk p).hpd = want then s
  else ((s.modDk p fun x => { x with hpd := want }).attention p want).refreshSink p

/-! ### Desk tunnels -/

/-- A USB tunnel PDU: UOP, PORT, STATUS and SPEED, then the USB packet (R400). -/
def State.usbPdu (s : State) (idx uop port status speed : Nat) (data : List Byte) : State :=
  s.send (.pdu idx 4 (numBytes uop 1 ++ numBytes port 1 ++ numBytes status 1 ++ numBytes speed 1 ++ data))


/-- A desk port's tunnel leaves UP: the mapped port shows disconnected, the network function is disconnected, HPD follows (R389, R402,
R403). -/
def State.deskTunDown (s : State) (idx : Nat) : State :=
  let s := (s.mappedBy idx).foldl (fun s (p, k) => s.setMp p k 1 0) s
  (List.range 4).foldl (fun s p =>
    let x := s.dk p
    let s := if x.netTun = some idx ∧ x.dataInUse.ncmEn = true then s.raise 205 [(p, 2), (0, 1)] else s
    if x.vidTun = some idx then s.refreshHpd p else s) s

/-- A desk port's tunnel enters UP: ATTACH is sent, the network function is connected, HPD follows (R389, R400, R403). -/
def State.deskTunUp (s : State) (idx : Nat) : State :=
  let s := (s.mappedBy idx).foldl (fun s (p, k) => s.usbPdu idx 1 ((s.dk p).mp k).map.farPort 0 0 []) s
  (List.range 4).foldl (fun s p =>
    let x := s.dk p
    let s := if x.netTun = some idx ∧ x.dataInUse.ncmEn = true then s.raise 205 [(p, 2), (1, 1)] else s
    if x.vidTun = some idx then s.refreshHpd p else s) s

/-- A desk port's tunnel has closed: it may be opened again after 10 s, and a device exported through it is free (R397, R400, R405). -/
def State.deskTunGone (s : State) (idx : Nat) : State :=
  let s := (s.mappedBy idx).foldl (fun s (p, k) => s.modMp p k fun m => { m with tun := none, retry := !m.barred }) s
  (List.range 4).foldl (fun s p =>
    let s := s.modDk p fun x => if x.netTun = some idx then { x with netTun := none, netRetry := !x.netBarred } else x
    let s := s.modDk p fun x => if x.vidTun = some idx then { x with vidTun := none, vidRetry := !x.vidBarred } else x
    let s := s.refreshHpd p
    if (s.dk p).dev.dock = some (1, idx) then s.modDev p 0 fun d => { d with dock := none } else s) s

/-- A refusal that holds until the map or the binding changes (R400, R405, R418). -/
def lastingRefusal (reason : Nat) : Bool := reason == 1 || reason == 6

/-- A desk port's tunnel is refused (R398, R400, R405). -/
def State.deskTunRefused (s : State) (idx reason : Nat) : State :=
  let bar := lastingRefusal reason
  let s := (s.mappedBy idx).foldl (fun s (p, k) => (s.modMp p k fun m => { m with barred := bar }).setMp p k 4 0) s
  (List.range 4).foldl (fun s p =>
    let s := s.modDk p fun x => if x.netTun = some idx then { x with netBarred := bar } else x
    s.modDk p fun x => if x.vidTun = some idx then { x with vidBarred := bar } else x) s

end Sys2Proof.Machine
end

