-- ==== Sys2Proof/Machine/Ridge.lean ====
section
/-!
DEFINITION. Ridge and Groundsheet (06_ridge.md): classification, pools, queues, windows, the per-egress decision (R242 to R245), the
crossbar scheduler, cut-through, the resequencer, ordered updates, barriers, and the FWD commands and records.
-/

namespace Sys2Proof.Machine

/-! ### Links as the fabric sees them -/

/-- The other port of T0 with T1, and T2 with T3 (R146). -/
def pairPort (p : Nat) : Nat := if p % 2 = 0 then p + 1 else p - 1

/-- Trunk port of a number. -/
def State.tp (s : State) (p : Nat) : TrunkPort := s.trunk.getD p {}

/-- Change trunk port `p`. -/
def State.modTp (s : State) (p : Nat) (f : TrunkPort → TrunkPort) : State :=
  { s with trunk := modAt s.trunk p f }

/-- The fellow of a member of a formed bundle. -/
def State.fellow (s : State) (e : Nat) : Option Nat := if e < 4 && (s.tp e).bundled then some (pairPort e) else none

/-- Lanes in use of a port. -/
def TrunkPort.lanesUp (t : TrunkPort) : Nat := b2n t.lane[0] + b2n t.lane[1]

/-- Rate of one lane after FEC, in Gb/s (R111). -/
def laneGbps (rate : Nat) : Nat := if rate = 0 then 100 else if rate = 1 then 50 else 25

/-- Tunnel payload rate of a port at the rate and lanes in force, in kb/s (R111). -/
def TrunkPort.payloadKbps (t : TrunkPort) : Nat := t.lanesUp * laneGbps t.rate * 875000

/-- Cell time of a port in units of 0.01 ns, 0 without a lane (R111). -/
def TrunkPort.cellTime (t : TrunkPort) : Nat := if t.lanesUp = 0 then 0 else 204800 / (t.lanesUp * laneGbps t.rate)

/-- Payload rate of an egress in kb/s (R241). -/
def State.egressKbps (s : State) (e : Nat) : Nat := if e < 4 then (s.tp e).payloadKbps else 560000000

/-! ### Counters -/

/-- Count in a fabric counter (R226). -/
def State.cntF (s : State) (i n : Nat) : State := { s with fwd.c := modAt s.fwd.c i fun x => bumpTo max32 x n }

/-- Count in a link counter of a port (R157). -/
def State.cntL (s : State) (p i n : Nat) : State := s.modTp p fun t => { t with c := modAt t.c i fun x => bumpTo max32 x n }

/-! ### Pools -/

/-- Credits a port's record grants, all VLs. -/
def LinkCfg.credit (c : LinkCfg) : Nat := c.credits.toList.foldl (· + ·) 0

/-- CREDIT pool (R210). -/
def State.creditPool (s : State) : Nat := s.trunk.toList.foldl (fun a t => if t.cfg.enable then a + t.cfg.credit else a) 0

/-- LOCAL pool (R210). -/
def State.localPool (s : State) : Nat := 11 * s.fwd.cfg.localMin

/-- SHARED pool (R210). -/
def State.sharedSize (s : State) : Nat := 65536 - s.creditPool - s.localPool - s.fwd.retiredRows.length

/-- SHARED_FREE (R211). -/
def State.sharedFree (s : State) : Nat := s.sharedSize - s.fwd.sharedUsed

/-- EV068 when SHARED_FREE crosses its bounds (R211). -/
def State.sharedCheck (s : State) : State :=
  if !s.fwd.sharedLow && decide (s.sharedFree * 16 < s.sharedSize) then
    { s with fwd.sharedLow := true }.raise 68 [(1, 1), (Nat.min s.sharedFree 65535, 16)]
  else if s.fwd.sharedLow && decide (s.sharedSize < s.sharedFree * 8) then
    { s with fwd.sharedLow := false }.raise 68 [(0, 1), (Nat.min s.sharedFree 65535, 16)]
  else s

/-- Index of a VL in a vector over VL1 to VL6. -/
def vlIdx (vl : Nat) : Nat := vl - 1

/-- A receiver's credit comes free: LIMIT advances, unless an advance is withheld (R130, R132). -/
def TrunkPort.freeCredit (t : TrunkPort) (vl : Nat) : TrunkPort :=
  let v := vlIdx vl
  let t := { t with held := modAt t.held v (· - 1) }
  if t.withhold.getD v 0 = 0 then { t with limitTx := modAt t.limitTx v fun x => (x + 1) % 65536, creditDue := true }
  else { t with withhold := modAt t.withhold v (· - 1) }

/-- The space of a cell is free again; a copy from a replay buffer holds none (R130, R149, R210). -/
def State.freeCell (s : State) (c : QCell) : State :=
  if c.pool = 0 then s.modTp c.ingress (·.freeCredit c.cell.vl.toNat)
  else if c.pool = 1 then { s with fwd.localUsed := modAt s.fwd.localUsed c.ingress (· - 1) }
  else if c.pool = 2 then { s with fwd.sharedUsed := s.fwd.sharedUsed - 1 }.sharedCheck
  else s

/-! ### Queues -/

/-- The VL queue of an egress (R212). -/
def vlQueue (e vl : Nat) : QKey := { egress := e, tunQ := false, id := vl }

/-- A queue as it stands by default (R239). Its commit bucket starts empty (log entry 9). -/
def newQueue (k : QKey) : Queue :=
  if !k.tunQ && k.id == 1 then { key := k, cr := 15625, cd := 64 } else { key := k }

/-- A queue. -/
def State.queueOf (s : State) (k : QKey) : Queue := (s.fwd.queues.find? (·.key == k)).getD (newQueue k)

/-- Put a queue back. -/
def State.putQueue (s : State) (q : Queue) : State := { s with fwd.queues := putBy (·.key == q.key) q s.fwd.queues }

/-- The egress that stands in for a port: the other member, when the bundle runs on that one alone (R149). -/
def State.standIn (s : State) (e : Nat) : Nat := if e < 4 && (s.tp (pairPort e)).alone then pairPort e else e

/-- Egresses that serve a queue: its own, and for a tunnel queue the fellow of a formed bundle (R201, R245). -/
def State.serves (s : State) (q : QKey) (e : Nat) : Bool := q.egress == e || (q.tunQ && (s.fellow q.egress == some e || s.standIn q.egress == e))

/-- VL of a queue: its own, or that of the cells of its tunnel (R124, R212). -/
def Queue.vl (q : Queue) : Nat :=
  if q.key.tunQ then ((q.cells.head?.map (·.cell.vl.toNat))).getD 6 else q.key.id

/-- Change egress `e`. -/
def State.modEgress (s : State) (e : Nat) (f : Egress → Egress) : State := { s with fwd.egress := modAt s.fwd.egress e f }

/-- Egress of a number. -/
def State.eg (s : State) (e : Nat) : Egress := s.fwd.egress.getD e {}

/-- VL profile of a VL (R225). -/
def State.profile (s : State) (vl : Nat) : VlProfile := s.fwd.prof.getD (vlIdx vl) {}

/-- A queue that wakes joins the end of the active list of each egress that serves it (R244). -/
def State.wake (s : State) (k : QKey) : State :=
  { s with fwd.egress := s.fwd.egress.mapIdx fun e (x : Egress) =>
      if s.serves k e && !x.active.contains k then { x with active := x.active ++ [k] } else x }

/-- A queue that is empty leaves the active lists with deficit 0; a released tunnel queue is freed (R219, R243). -/
def State.rest (s : State) (k : QKey) : State :=
  let q := s.queueOf k
  if q.cells.isEmpty then
    let s := { s with fwd.egress := s.fwd.egress.map fun (x : Egress) => { x with active := x.active.filter (· != k) } }
    if q.freeing then { s with fwd.queues := s.fwd.queues.filter (·.key != k) }
    else s.putQueue { q with deficit := 0, deficit2 := 0 }
  else s

/-- Add a cell at the end of a queue, marked when the queue's depth has reached MARK (R212, R214). -/
def State.append (s : State) (k : QKey) (c : QCell) : State :=
  let q := s.queueOf k
  let marked := decide ((s.profile c.cell.vl.toNat).mark ≤ q.cells.length)
  let c := { c with q := k, cell := if marked then { c.cell with cm := true } else c.cell }
  let s := (if marked then s.cntF 3 1 else s).putQueue { q with cells := q.cells ++ [c] }
  if q.cells.isEmpty then s.wake k else s

/-- The number that a cell takes when it is first added to a queue (R220). -/
def State.nextSerial (s : State) : State := { s with fwd.serial := s.fwd.serial + 1 }

/-- A cell is added to the queue of its classification (R197, R212, R214). -/
def State.enqueue (s : State) (k : QKey) (c : QCell) : State := s.nextSerial.append k { c with serial := s.fwd.serial }

/-- A cell leaves the hub or is discarded: its space is free (R130, R210). -/
def State.leave (s : State) (c : QCell) : State := s.freeCell c

/-! ### Barriers -/

/-- Every cell in the hub that has been classified (R221). -/
def State.allCells (s : State) : List QCell :=
  (s.fwd.queues.map (·.cells)).flatten ++ (s.fwd.egress.toList.map (·.window)).flatten ++ (s.trunk.toList.map (·.resend)).flatten ++
    (s.fwd.entries.map fun e => e.data.heldCells ++ e.status.heldCells).flatten ++ (s.ring.toList.map (·.heldCells)).flatten

/-- Generations that a barrier does not cover: those of later barriers, and the current one. -/
def State.laterGens (s : State) (b : Barrier) : List Nat :=
  s.fwd.bgen :: ((s.fwd.barriers.dropWhile (·.id != b.id)).drop 1).map (·.gen)

/-- Cells still counted for a barrier (R221). -/
def State.barrierCount (s : State) (b : Barrier) : Nat :=
  (s.allCells.filter fun c => !(s.laterGens b).contains c.bgen).length

/-- Report the end of a barrier: EV066, or FWD.BARRIER_DONE to the ROOT, kept until a control restart ends (R221, R223, R228). -/
def State.reportBarrier (s : State) (b : Barrier) (outcome remaining : Nat) : State :=
  if b.byOwner then s.raise 66 [(b.id, 2), (outcome, 2), (Nat.min remaining 65535, 16)]
  else
    let w := pack [(s.sys.hubId, 16), (b.id, 2), (outcome, 2), (Nat.min remaining 4095, 12)]
    if s.mbx.restart then { s with fwd.barrierDone := s.fwd.barrierDone ++ [w] } else s.sendRoot 0x2241 [w]

/-- End the barriers that can end, in the order in which they were issued (R221, R222). -/
def State.endBarriersN : Nat → State → State
  | 0, s => s
  | n + 1, s =>
    match s.fwd.barriers with
    | [] => s
    | b :: rest =>
      let left := s.barrierCount b
      if left = 0 then
        endBarriersN n (({ s with fwd.barriers := rest }).reportBarrier b (if b.timedOut then (if b.flush then 2 else 1) else 0) 0)
      else if b.timedOut && !b.flush then endBarriersN n (({ s with fwd.barriers := rest }).reportBarrier b 1 left)
      else s

/-- End every barrier that can end. -/
def State.endBarriers (s : State) : State := s.endBarriersN 3

/-! ### Classification -/

/-- Where a classified cell goes. -/
structure Dest where
  /-- egress -/
  egress : Nat := 0
  /-- target queue -/
  key : QKey := {}
  /-- alternate egress, 15 none -/
  alt : Nat := 15
  /-- lowest ring link of the primary path -/
  lo : Nat := 255
  /-- highest ring link of the primary path -/
  hi : Nat := 0
  /-- ring -/
  which : Nat := 0
  /-- it goes the other way round the ring -/
  way : Bool := false
  deriving DecidableEq, Repr

/-- What classification does with a cell (R201). -/
inductive Classed where
  | joinCell
  | miss
  | expired
  /-- its path crosses the second failed link of a ring; the egress it would have left by -/
  | ringLost (egress : Nat)
  | dest (d : Dest)
  deriving DecidableEq, Repr

/-- The valid entry of a TUNNEL (R198). -/
def State.entryOf (s : State) (tunnel : Nat) : Option FwdEntry := s.fwd.entries.find? fun e => e.tunnel == tunnel && e.valid

/-- Cells queued for a member: its VL queue and its egress window (R148, R201). -/
def State.memberLoad (s : State) (e vl : Nat) : Nat := (s.queueOf (vlQueue e vl)).cells.length + (s.eg e).window.length

/-- The member of a bundle that takes a cell: a mailbox cell the lower one, another the one with fewer cells (R148). -/
def State.memberFor (s : State) (e : Nat) (c : Cell) : Nat :=
  match s.fellow e with
  | none => s.standIn e
  | some f =>
    let lo := Nat.min e f
    let hi := Nat.max e f
    if c.ctype == 5 || decide (s.memberLoad lo c.vl.toNat ≤ s.memberLoad hi c.vl.toNat) then lo else hi

/-- The failed link of a ring lies in a range of links (R152). -/
def inRange (x lo hi : Nat) : Bool := decide (lo ≤ x) && decide (x ≤ hi)

/-- Ring of a number. -/
def State.rg (s : State) (w : Nat) : Ring := s.ring.getD w {}

/-- The hub has the ring, and the port is one of its two. -/
def Ring.lists (r : Ring) (p : Nat) : Bool := r.on && (r.portA.val == p || r.portB.val == p)

/-- Ring that a ring port belongs to: 0 the ring this hub heads, 1 the ring a RELAY is a member of, or the ROOT's second ring; a ZONE hub
has none (R13, R14, R155, R156; log entry 24). -/
def State.ringOf (s : State) (p : Nat) : Option Nat :=
  if !(s.tp p).cfg.ring then none
  else if (s.rg 0).lists p then some 0
  else if s.sys.role == .relay || (s.isRoot && (s.rg 1).lists p) then some 1
  else none

/-- A ring has a failed link (R152). -/
def Ring.hasFailed (r : Ring) : Bool := r.on && r.failed != 255

/-- Classify a sequenced cell by its TUNNEL (R201, R152, R153). -/
def State.classify (s : State) (ingress : Nat) (c : Cell) : Classed :=
  if c.tunnel = 0 then .joinCell
  else match s.entryOf c.tunnel.toNat with
  | none => .miss
  | some e =>
    let r := s.rg e.which
    let hit := e.ringsteer && r.hasFailed && inRange r.failed e.linkLo e.linkHi
    let hit2 := e.ringsteer && r.hasFailed && (match r.failed2 with | some f => inRange f e.linkLo e.linkHi | none => hit)
    let eg0 := if hit then e.alternate else e.primary
    if eg0 < 4 && ingress < 4 && c.hop == 0 then .expired
    else if hit != hit2 then .ringLost eg0
    else
      let eg := s.memberFor eg0 c
      .dest {
        egress := eg, key := if e.qsel && !hit then { egress := e.primary, tunQ := true, id := e.qid } else vlQueue eg c.vl.toNat
        alt := if e.ringsteer && !hit then e.alternate else 15, lo := e.linkLo, hi := e.linkHi, which := e.which, way := hit }

/-! ### The per-egress decision -/

/-- One whole cell in a bucket, in units of 2⁻³² cell (R232). -/
def wholeCell : Nat := 4294967296

/-- The code that orders queues for the rotating pointers: VL queues, then tunnel queues. -/
def QKey.code (k : QKey) : Nat := if k.tunQ then 8 + k.id else k.id

/-- Credit for a VL at a port: (LIMIT − SENT) mod 2¹⁶ lies between 1 and 32,768 (R129). -/
def TrunkPort.credit (t : TrunkPort) (vl : Nat) : Bool :=
  let d := (t.limitRx.getD (vlIdx vl) 0 + 65536 - t.sent.getD (vlIdx vl) 0) % 65536
  decide (1 ≤ d) && decide (d ≤ 32768)

/-- An egress has credit for a VL; an internal egress needs none (R242). -/
def State.creditAt (s : State) (e vl : Nat) : Bool := decide (4 ≤ e) || (s.tp e).credit vl

/-- Domain of the ports behind an internal egress, in the order of R512: PCIe, desk, Ethernet, lighting and display; the others run with
DOM_FABRIC (R195, R512). -/
def egressDomain (e : Nat) : Nat :=
  if e = 4 ∨ e = 5 then 9 else if e = 6 then 10 else if e = 7 then 11 else if e = 8 then 13 else if e = 9 then 12 else domFabric

/-- An Ethernet port that has been sent PAUSE sends nothing until it ends (R425). -/
def State.ethPaused (s : State) (x : EthPort) : Bool := decide (s.clockNs < x.pausedTo)

/-- The port behind an egress can take cells: a trunk port that is ACTIVE and not blocked, an internal port whose domain is on and that is
not paused (R12, R13, R202, R425). -/
def State.portReady (s : State) (e : Nat) : Bool :=
  if h : e < 4 then s.carries ⟨e, h⟩ else s.domOn (egressDomain e) && !(e == 7 && s.eth.port.toList.any s.ethPaused)

/-- A queue is ready at an egress: it holds a cell, is open and has credit; a mailbox cell leaves by the lower member of a bundle (R148,
R242). -/
def State.queueReady (s : State) (e : Nat) (q : Queue) : Bool :=
  !q.cells.isEmpty && !q.closed && s.creditAt e q.vl &&
    !((q.cells.head?.any fun c => c.cell.ctype == 5) && (s.fellow e).any fun f => decide (f < e))

/-- The cell's EXCESS bit (R237). -/
def isExcess (c : Cell) : Bool := c.epoch.getLsbD 7

/-- A queue is committed-ready at an egress (R242). -/
def State.committedReady (s : State) (e : Nat) (q : Queue) : Bool :=
  s.queueReady e q && (match q.cells.head? with | some c => !isExcess c.cell | none => false) && decide (wholeCell ≤ q.tok)

/-- Isochronous queues are those of VL1 and VL2 (R239). -/
def Queue.iso (q : Queue) : Bool := decide (q.vl ≤ 2)

/-- The queue with the least code of a list. -/
def leastCode : List Queue → Option Queue
  | [] => none
  | q :: qs => match leastCode qs with
    | none => some q
    | some r => if r.key.code < q.key.code then some r else some q

/-- The next queue after a rotating pointer. -/
def nextAfter (ptr : Nat) (qs : List Queue) : Option Queue :=
  match leastCode (qs.filter fun q => decide (ptr < q.key.code)) with
  | some q => some q
  | none => leastCode qs

/-- The committed-ready queue that steps 1 and 2 of the decision find (R242, R243). -/
def State.committedChoice (s : State) (e : Nat) : Option Queue :=
  let qs := s.fwd.queues.filter fun q => s.serves q.key e && s.committedReady e q
  let x := s.eg e
  match nextAfter x.isoPtr (qs.filter fun q => q.iso && q.vl == 1) with
  | some q => some q
  | none => match nextAfter x.isoPtr (qs.filter (·.iso)) with
    | some q => some q
    | none => nextAfter x.comPtr (qs.filter fun q => !q.iso)

/-- The active list split at its first ready queue (R243). -/
def State.drrSplit (s : State) (e : Nat) : List QKey → List QKey → Option (QKey × List QKey × List QKey)
  | _, [] => none
  | pre, k :: ks => if s.queueReady e (s.queueOf k) then some (k, pre, ks) else s.drrSplit e (pre ++ [k]) ks

/-- The queue the decision chooses at an egress with room, and whether by steps 1 or 2. -/
def State.choice (s : State) (e : Nat) : Option (QKey × Bool) :=
  if 8 ≤ (s.eg e).window.length || !s.portReady e then none
  else match s.committedChoice e with
    | some q => some (q.key, true)
    | none => (s.drrSplit e [] (s.eg e).active).map fun (k, _, _) => (k, false)

/-- Deficit of a queue at an egress (R245). -/
def Queue.deficitAt (q : Queue) (e : Nat) : Nat := if e = q.key.egress then q.deficit else q.deficit2

/-- Set the deficit of a queue at an egress. -/
def Queue.setDeficit (q : Queue) (e d : Nat) : Queue := if e = q.key.egress then { q with deficit := d } else { q with deficit2 := d }

/-- Quantum of a queue (R239). -/
def Queue.quantum (q : Queue) : Nat := Nat.min (q.weight * q.contrib) 65535

/-- Spend what a choice costs: a commit token, or one of the deficit (R242, R243, R258). -/
def Queue.spend (q : Queue) (e : Nat) (committed : Bool) : Queue :=
  if committed then { q with tok := q.tok - wholeCell, committed := bump q.committed }
  else
    let d := if q.deficitAt e = 0 then q.quantum else q.deficitAt e
    { q with excessTx := bump q.excessTx }.setDeficit e (d - 1)

/-- EPOCH as a hub that sends the cell on a link writes it (R237). -/
def State.stampEpoch (s : State) (e : Nat) (c : Cell) : Cell :=
  if e < 4 then { c with epoch := BitVec.ofNat 8 ((if isExcess c then 128 else 0) + s.allot.epochNo % 128) } else c

/-- Move the pointers and the active list as a choice does (R243). -/
def State.turn (s : State) (e : Nat) (k : QKey) (committed : Bool) : State :=
  let q := s.queueOf k
  if committed then s.modEgress e fun x => if q.iso then { x with isoPtr := k.code } else { x with comPtr := k.code }
  else match s.drrSplit e [] (s.eg e).active with
    | none => s
    | some (k', pre, post) =>
      let first := k' :: post ++ pre
      let d := if q.deficitAt e = 0 then q.quantum else q.deficitAt e
      s.modEgress e fun x => { x with active := if d = 1 then post ++ pre ++ [k'] else first }

/-- The head cell of a queue enters the window of an egress, or is dropped when a barrier has marked it (R202, R222, R243). -/
def State.takeHead (s : State) (e : Nat) (k : QKey) (committed : Bool) : State :=
  let q := s.queueOf k
  match q.cells with
  | [] => s
  | c :: rest =>
    if c.flush then (((s.putQueue { q with cells := rest }).cntF 15 1).leave c).rest k
    else
      let s := s.turn e k committed
      let s := s.putQueue { q.spend e committed with cells := rest }
      (s.modEgress e fun x => { x with window := x.window ++ [{ c with cell := s.stampEpoch e c.cell }] }).rest k

/-- One decision of an egress (R243). -/
def State.decide1 (s : State) (e : Nat) : State :=
  match s.choice e with
  | some (k, committed) => s.takeHead e k committed
  | none => s

/-- EGRESS_DECISION (R202, R242 to R245). -/
def execEgressDecision (egress : Fin 15) (s : State) : Host.Outcome State Fault Refusal := .next (s.decide1 egress.val)

/-! ### Crossbar -/

/-- An ingress requests an egress: the window holds a cell that arrived on it and has not crossed (R203). -/
def State.requests (s : State) (i j : Nat) : Bool := (s.eg j).window.any fun c => c.ingress == i && !c.crossed

/-- The first of 16 found by counting upward from a pointer. -/
def countUp (ptr : Nat) (f : Nat → Bool) : Option Nat := ((List.range 16).map fun k => (ptr + k) % 16).find? f

/-- What one slot of matching has reached. -/
structure Match where
  /-- pairs matched, ingress and egress -/
  pairs : List (Nat × Nat) := []
  /-- pairs matched in the first iteration -/
  first : List (Nat × Nat) := []
  deriving DecidableEq, Repr

/-- One iteration of request, grant and accept (R203). -/
def State.iterate (s : State) (reserved : List (Nat × Nat)) (m : Match) (isFirst : Bool) : Match :=
  let taken := reserved ++ m.pairs
  let freeI : Nat → Bool := fun i => !taken.any (·.1 == i)
  let freeE : Nat → Bool := fun j => !taken.any (·.2 == j)
  let grants : List (Nat × Nat) := (List.range 15).filterMap fun j =>
    if freeE j then (countUp (s.eg j).gPtr fun i => freeI i && s.requests i j).map fun i => (i, j) else none
  let accepts : List (Nat × Nat) := (List.range 15).filterMap fun i =>
    (countUp (s.fwd.aPtr.getD i 0) fun j => grants.contains (i, j)).map fun j => (i, j)
  { pairs := m.pairs ++ accepts, first := if isFirst then accepts else m.first }

/-- The matching of a slot: three iterations over what cut-through leaves (R203). -/
def State.matching (s : State) (reserved : List (Nat × Nat)) : Match :=
  let m1 := s.iterate reserved {} true
  let m2 := s.iterate reserved m1 false
  s.iterate reserved m2 false

/-- Pointers move on accepts of the first iteration (R204). -/
def State.movePointers (s : State) (first : List (Nat × Nat)) : State :=
  first.foldl (fun s (i, j) =>
    ({ s with fwd.aPtr := modAt s.fwd.aPtr i fun _ => (j + 1) % 16 }).modEgress j fun x => { x with gPtr := (i + 1) % 16 }) s

/-- The oldest cell of a window that arrived on an ingress crosses (R205). -/
def State.cross (s : State) (i j : Nat) : State :=
  s.modEgress j fun x => { x with window := modFirst (fun c => c.ingress == i && !c.crossed) (fun c => { c with crossed := true }) x.window }

/-- Hand a cell over at an internal port. Whether ECN translation was on when a NETWORK cell with CM was classified goes with it (R209, R215,
R224). -/
def State.handOver (s : State) (j : Nat) (c : QCell) : State :=
  let s := s.send (.fabric j c.cell)
  if c.cell.cm && c.cell.vl == 5 then { s with fwd.handed := s.fwd.handed ++ [(c.cell.tunnel.toNat, c.cell.seq.toNat, c.ecn)] } else s

/-- Cells of an internal window that have crossed leave to the port, in order (R202, R222). -/
def State.drainInternalN : Nat → State → Nat → State
  | 0, s, _ => s
  | n + 1, s, j =>
    match (s.eg j).window with
    | c :: rest =>
      if c.crossed then
        let s := s.modEgress j fun x => { x with window := rest }
        drainInternalN n (if c.flush then (s.cntF 15 1).leave c else (s.handOver j c).leave c) j
      else s
    | [] => s

/-- Send the frames of an Ethernet port whose PAUSE has ended (R425). -/
def State.ethResume (s : State) (p : Fin 4) : State :=
  let x := s.eth.port[p]
  if x.txWait.isEmpty || s.ethPaused x then s
  else x.txWait.foldl (fun s f => s.send (.eth p f)) { s with eth.port := modAt s.eth.port p.val fun x => { x with txWait := [], sent := bumpTo max32 x.sent x.txWait.length } }

/-- Deliver at every internal egress. -/
def State.drainInternal (s : State) : State := (List.range 11).foldl (fun s k => s.drainInternalN 8 (k + 4)) s

/-- CROSSBAR_SLOT: cut-through pairs are reserved, the rest is matched, and each matched pair moves one cell; frames that a PAUSE has held go on (R203
to R207, R425). -/
def execCrossbarSlot (s : State) : Host.Outcome State Fault Refusal :=
  let reserved := s.fwd.cut.map fun c => (c.ingress, c.egress)
  let m := s.matching reserved
  let cut := (s.fwd.cut.map fun (c : CutThrough) => { c with slots := c.slots - 1 }).filter fun c => decide (0 < c.slots)
  let s := m.pairs.foldl (fun s (i, j) => s.cross i j) ({ s with fwd.cut := cut }.movePointers m.first)
  .next ((List.finRange 4).foldl (fun s p => s.ethResume p) s.drainInternal)

/-! ### Cut-through and admission -/

/-- A cell that enters the hub with its classification (R201). -/
def State.qcell (s : State) (ingress pool : Nat) (c : Cell) (d : Dest) : QCell :=
  { cell := c, ingress := ingress, pool := pool, bgen := s.fwd.bgen, alt := d.alt, lo := d.lo, hi := d.hi, which := d.which, way := d.way,
    ecn := s.fwd.cfg.ecnEn }

/-- Every condition of cut-through holds (R206). An internal egress has no cell time of R111, so its rate always allows it
(log entry 10). -/
def State.canCut (s : State) (ingress : Nat) (c : Cell) (d : Dest) (pool : Nat) : Bool :=
  let e := d.egress
  let q := s.queueOf d.key
  let enabled := s.fwd.cfg.ctMask.testBit e
  let empty := q.cells.isEmpty && !(s.eg e).window.any (·.q == d.key)
  let rate := decide (4 ≤ ingress) || decide (4 ≤ e) || decide ((s.tp ingress).cellTime ≤ (s.tp e).cellTime)
  let ingFree := !s.fwd.cut.any (·.ingress == ingress)
  enabled && empty && rate && ingFree && s.creditAt e c.vl.toNat &&
    (((s.putQueue { q with cells := [s.qcell ingress pool c d] }).wake d.key).choice e).map (·.1) == some d.key

/-- Slots a cut-through transfer holds (R207). -/
def State.cutSlots (s : State) (ingress : Nat) : Nat := ((s.tp ingress).cellTime + 319) / 320

/-- A cell starts by cut-through: it takes its commit token or its turn like a queued one and is not marked (R206, R207, R214, R245). -/
def State.startCut (s : State) (ingress pool : Nat) (c : Cell) (d : Dest) : State :=
  let qc := { s.qcell ingress pool c d with q := d.key, crossed := decide (ingress < 4), cut := decide (ingress < 4), serial := s.fwd.serial }
  let q := s.queueOf d.key
  let s := ((s.nextSerial.putQueue { q with cells := [qc] }).wake d.key).cntF 1 1
  let s := s.decide1 d.egress
  if ingress < 4 then { s with fwd.cut := s.fwd.cut ++ [{ ingress := ingress, egress := d.egress, slots := s.cutSlots ingress }] } else s

/-- An admitted cell starts by cut-through or is stored in its queue (R197, R206). -/
def State.place (s : State) (ingress pool : Nat) (c : Cell) (d : Dest) : State :=
  if s.canCut ingress c d pool then s.startCut ingress pool c d
  else (s.cntF 2 1).enqueue d.key (s.qcell ingress pool c d)

/-- SHARED rows that the cells of a queue hold. -/
def Queue.sharedHeld (q : Queue) : Nat := (q.cells.filter (·.pool == 2)).length

/-- Whether a cell of an internal ingress can be admitted, and to which pool (R210, R211). -/
def State.poolFor (s : State) (ingress : Nat) (c : Cell) (d : Dest) : Option Nat :=
  if s.fwd.localUsed.getD ingress 0 < s.fwd.cfg.localMin then some 1
  else
    let q := s.queueOf d.key
    let p := s.profile c.vl.toNat
    if q.cells.length < p.max && decide (q.sharedHeld * 2 ^ p.shift < s.sharedFree) then some 2 else none

/-- Charge a pool with one row. -/
def State.charge (s : State) (ingress pool : Nat) : State :=
  if pool = 1 then { s with fwd.localUsed := modAt s.fwd.localUsed ingress (· + 1) }
  else { s with fwd.sharedUsed := s.fwd.sharedUsed + 1 }.sharedCheck

/-- A cell whose revert moves it back to its primary while HOLD runs is held (R153). -/
def State.heldByRevert (s : State) (d : Dest) : Bool :=
  let r := s.rg d.which
  d.alt != 15 && r.holding && inRange r.recovered d.lo d.hi

/-- Hold a cell for the rest of HOLD. -/
def State.holdForRevert (s : State) (c : QCell) (d : Dest) : State :=
  { s with ring := modAt s.ring d.which fun r => { r with heldCells := r.heldCells ++ [{ c with q := d.key }] } }

/-- Place a cell, or hold it for HOLD. -/
def State.placeOrHold (s : State) (ingress pool : Nat) (c : Cell) (d : Dest) : State :=
  if s.heldByRevert d then s.holdForRevert (s.qcell ingress pool c d) d else s.place ingress pool c d

/-- Remove the first element that satisfies `p`. -/
def dropFirst {α : Type} (p : α → Bool) : List α → List α
  | [] => []
  | x :: xs => if p x then xs else x :: dropFirst p xs

/-! ### Resequencer -/

/-- The status space (R217). -/
def inStatus (c : Cell) : Bool := c.ctype == 1 && c.dest == 1

/-- Context of a space of an entry. -/
def FwdEntry.ctx (e : FwdEntry) (status : Bool) : FwdCtx := if status then e.status else e.data

/-- Put a context back. -/
def FwdEntry.setCtx (e : FwdEntry) (status : Bool) (x : FwdCtx) : FwdEntry := if status then { e with status := x } else { e with data := x }

/-- How far a SEQ lies behind E. -/
def FwdCtx.behind (x : FwdCtx) (seq : Nat) : Nat := (x.e + 65536 - seq) % 65536

/-- Remember when a SEQ passed: the hub knows the last 1,024 SEQ values below E (R218). -/
def FwdCtx.note (x : FwdCtx) (seq now : Nat) : FwdCtx :=
  { x with passed := (seq, now) :: x.passed.filter fun (q, _) => q != seq && decide (x.behind q ≤ 1024) }

/-- Held cells that have become next, passed in order (R218). -/
def FwdCtx.drainN : Nat → FwdCtx → Nat → FwdCtx × List QCell
  | 0, x, _ => (x, [])
  | n + 1, x, now =>
    match x.heldCells.find? (·.cell.seq.toNat == x.e) with
    | none => (x, [])
    | some c =>
      let x := { x with heldCells := dropFirst (·.cell.seq.toNat == x.e) x.heldCells, e := (x.e + 1) % 65536 }.note c.cell.seq.toNat now
      let (x, cs) := drainN n x now
      (x, c :: cs)

/-- Cells that are next, passed. -/
def FwdCtx.drain (x : FwdCtx) (now : Nat) : FwdCtx × List QCell := x.drainN (x.heldCells.length + 1) now

/-- Pass the held cells below a SEQ in order, counting the SEQ values skipped on the way, and set E to it (R218). -/
def FwdCtx.skipN : Nat → FwdCtx → Nat → Nat → FwdCtx × List QCell × Nat
  | 0, x, _, _ => (x, [], 0)
  | n + 1, x, dst, now =>
    if x.e = dst then (x, [], 0)
    else
      match x.heldCells.find? (·.cell.seq.toNat == x.e) with
      | some c =>
        let x := { x with heldCells := dropFirst (·.cell.seq.toNat == x.e) x.heldCells, e := (x.e + 1) % 65536 }.note c.cell.seq.toNat now
        let (x, cs, k) := skipN n x dst now
        (x, c :: cs, k)
      | none =>
        let (x, cs, k) := skipN n { x with e := (x.e + 1) % 65536 } dst now
        (x, cs, k + 1)

/-- Skip up to a SEQ. -/
def FwdCtx.skipTo (x : FwdCtx) (dst now : Nat) : FwdCtx × List QCell × Nat := x.skipN ((dst + 65536 - x.e) % 65536) dst now

/-- What the resequencer did with a cell. -/
structure RsqOut where
  /-- the context after -/
  x : FwdCtx := {}
  /-- cells passed, in order -/
  pass : List QCell := []
  /-- the cell is held -/
  hold : Bool := false
  /-- SEQ values skipped -/
  skips : Nat := 0
  /-- the cell is a duplicate -/
  dup : Bool := false
  /-- the cell is late -/
  late : Bool := false
  deriving DecidableEq, Repr

/-- A cell of a member of a formed bundle that is not beyond the window (R218). -/
def FwdCtx.near (x : FwdCtx) (c : QCell) (now win : Nat) : RsqOut :=
  let seq := c.cell.seq.toNat
  let d := (seq + 65536 - x.e) % 65536
  if d = 0 then
    let (x, cs) := ({ x with e := (x.e + 1) % 65536 }.note seq now).drain now
    { x := x, pass := c :: cs }
  else if d < 32768 then
    if d < win then { x := { x with heldCells := x.heldCells ++ [{ c with waited := true }] }, hold := true } else { x := x, pass := [c] }
  else if decide (x.behind seq ≤ 1024) && x.passed.any fun (q, t) => q == seq && decide (now - t ≤ 32000) then { x := x, dup := true }
  else { x := x.note seq now, pass := [c], late := true }

/-- A cell of a member of a formed bundle (R218). -/
def FwdCtx.reseq (x : FwdCtx) (c : QCell) (now win : Nat) : RsqOut :=
  let seq := c.cell.seq.toNat
  let d := (seq + 65536 - x.e) % 65536
  if win ≤ d ∧ d < 32768 then
    let (x, cs, k) := x.skipTo ((seq + 65536 + 1 - win) % 65536) now
    let (x, more) := x.drain now
    let r := x.near c now win
    { r with pass := cs ++ more ++ r.pass, skips := k }
  else x.near c now win

/-- A cell of a port that is not a member of a formed bundle: passed at once, with E past it, and then what has become next (R217). -/
def FwdCtx.follow (x : FwdCtx) (seq now : Nat) : FwdCtx × List QCell :=
  let d := (seq + 65536 - x.e) % 65536
  ((if d < 32768 then { x with e := (seq + 1) % 65536 } else x).note seq now).drain now

/-- Change the valid entry of a TUNNEL. -/
def State.modEntry (s : State) (tunnel : Nat) (f : FwdEntry → FwdEntry) : State :=
  { s with fwd.entries := s.fwd.entries.map fun (e : FwdEntry) => if e.tunnel == tunnel then f e else e }

/-- Cells the resequencer has passed go to the target in force (R219). -/
def State.passCells (s : State) (cs : List QCell) : State :=
  cs.foldl (fun s c => match s.classify c.ingress c.cell with
    | .dest d =>
      let again := { s.qcell c.ingress 0 c.cell d with bgen := c.bgen, flush := c.flush, ecn := c.ecn }
      if s.heldByRevert d then s.holdForRevert again d
      else if c.waited then (s.cntF 2 1).enqueue d.key again
      else s.place c.ingress 0 c.cell d
    | .miss => ((s.cntF 0 1).raiseRated 67 0 1 [(c.ingress, 4), (c.cell.tunnel.toNat, 20)]).leave c
    | .expired => (s.cntL c.ingress 13 1).leave c
    | .ringLost e => (s.cntL e 17 1).leave c
    | .joinCell => s.leave c) s

/-- The virtual lane of the cells that an entry classifies (R220). -/
def State.noteVl (s : State) (c : Cell) : State := s.modEntry c.tunnel.toNat fun e => { e with vl := c.vl.toNat }

/-- A classified cell that the resequencer passes at once: the context of its entry follows it, and what has become next is passed behind it
(R217). -/
def State.passOn (s : State) (ingress pool : Nat) (c : Cell) (d : Dest) : State :=
  match s.entryOf c.tunnel.toNat with
  | none => s
  | some e =>
    let st := inStatus c
    let (x, next) := (e.ctx st).follow c.seq.toNat s.clockNs
    ((s.modEntry e.tunnel fun e => { e.setCtx st x with vl := c.vl.toNat }).placeOrHold ingress pool c d).passCells next

/-! ### Offers of the internal ports -/

/-- An internal port offers a whole cell: it is classified, and enters its pool or waits (R201, R210, R211). -/
def State.offerNow (s : State) (ingress : Nat) (c : Cell) : State × Bool :=
  match s.classify ingress c with
  | .joinCell => (s, true)
  | .miss => ((s.cntF 0 1).raiseRated 67 0 1 [(ingress, 4), (c.tunnel.toNat, 20)], true)
  | .expired => (s, true)
  | .ringLost e => (s.cntL e 17 1, true)
  | .dest d =>
    match s.poolFor ingress c d with
    | none => (s, false)
    | some p => ((s.charge ingress p).passOn ingress p c d, true)

/-- Offer a cell; one that cannot enter waits behind those of its ingress that wait already (R211). -/
def State.offer (s : State) (ingress : Nat) (c : Cell) : State :=
  if s.fwd.blocked.any (·.1 == ingress) then { s with fwd.blocked := s.fwd.blocked ++ [(ingress, c)] }
  else
    let (s', ok) := s.offerNow ingress c
    if ok then s' else { s with fwd.blocked := s.fwd.blocked ++ [(ingress, c)] }

/-- SHARED_ADMIT_RETRY: the ingress offers its waiting cell again (R211). -/
def execSharedAdmitRetry (ingress : Fin 15) (s : State) : Host.Outcome State Fault Refusal :=
  match s.fwd.blocked.find? (·.1 == ingress.val) with
  | none => .next s
  | some (_, c) =>
    let (s', ok) := s.offerNow ingress.val c
    if ok then .next { s' with fwd.blocked := dropFirst (·.1 == ingress.val) s'.fwd.blocked } else .next s

/-- Every cell of a frame can be admitted, one after the other; the state with them admitted (R211). -/
def State.admitFrame (s : State) (ingress : Nat) : List Cell → Option State
  | [] => some s
  | c :: cs =>
    let (s', ok) := s.offerNow ingress c
    if ok then s'.admitFrame ingress cs else none

/-- Count skips and raise EV069 (R218, R230). -/
def State.noteSkips (s : State) (tunnel : Nat) (_status : Bool) (k : Nat) : State :=
  if k = 0 then s
  else
    (s.cntF 7 k).raiseCounted 69 0 k [(tunnel, 20)] 8

/-- A classified cell from a trunk port goes through the resequencer and on to its target (R197, R217, R218). -/
def State.arriveClassified (s : State) (port : Nat) (c : Cell) (d : Dest) : State :=
  match s.entryOf c.tunnel.toNat with
  | none => s
  | some e =>
    let st := inStatus c
    let qc := s.qcell port 0 c d
    let x := e.ctx st
    let s := s.noteVl c
    if !((s.tp port).bundled || (s.tp port).alone) then s.passOn port 0 c d
    else
      let r := x.reseq qc s.clockNs s.fwd.cfg.rsqWin
      let s := s.modEntry e.tunnel fun e => e.setCtx st r.x
      let s := s.noteSkips e.tunnel st r.skips
      let s := if r.hold then s.cntF 6 1 else s
      let s := if r.late then s.cntF 9 1 else s
      let s := s.passCells r.pass
      if r.dup then (s.cntF 8 1).leave qc else s

/-- A sequenced cell accepted on a trunk port, not for TUNNEL 0, is classified and taken on (R197, R201). Its credit is held from
acceptance and freed at once where the cell is discarded. -/
def State.arrive (s : State) (port : Nat) (c : Cell) : State :=
  let qc : QCell := { cell := c, ingress := port }
  match s.classify port c with
  | .joinCell => s.freeCell qc
  | .miss => ((s.cntF 0 1).raiseRated 67 0 1 [(port, 4), (c.tunnel.toNat, 20)]).freeCell qc
  | .expired => (s.cntL port 13 1).freeCell qc
  | .ringLost e => (s.cntL e 17 1).freeCell qc
  | .dest d => s.arriveClassified port c d

/-- A hole ends: E skips to the lowest held SEQ ahead, after what E has already gone past while its bundle was broken (R217, R218; log
entry 26). -/
def FwdCtx.endHole (x : FwdCtx) (now : Nat) : FwdCtx × List QCell × Nat :=
  let ahead := fun (c : QCell) => (c.cell.seq.toNat + 65536 - x.e) % 65536
  let behind := x.heldCells.filter fun c => decide (32768 ≤ ahead c)
  let rest := x.heldCells.filter fun c => decide (ahead c < 32768)
  let x := { x with heldCells := rest }
  match (rest.map ahead).min? with
  | none => (x, behind, 0)
  | some d =>
    let (x, cs, k) := x.skipTo ((x.e + d) % 65536) now
    let (x, more) := x.drain now
    (x, behind ++ cs ++ more, k)

/-- RSQ_HOLE_TIMEOUT: the hole at E has stood for RSQ_US (R218). -/
def execRsqHoleTimeout (tunnel : BitVec 20) (status : Bool) (s : State) : Host.Outcome State Fault Refusal :=
  match s.entryOf tunnel.toNat with
  | none => .next s
  | some e =>
    if (e.ctx status).heldCells.isEmpty then .next s
    else
      let (x, cs, k) := (e.ctx status).endHole s.clockNs
      let s := s.modEntry e.tunnel fun e => e.setCtx status x
      .next ((s.noteSkips e.tunnel status k).passCells cs)

/-! ### Ring steering of queued cells -/

/-- A queued cell's primary egress is barred (R152). -/
def State.barred (s : State) (w : Nat) (c : QCell) : Bool :=
  c.alt != 15 && c.which == w && (s.rg w).hasFailed && inRange (s.rg w).failed c.lo c.hi

/-- Move the barred cells of one queue to the alternate egress. Each keeps its number, so the mark of an ordered hold moves with the cells
ahead of it (R152, R219). -/
def State.steerQueue (s : State) (w : Nat) (q : Queue) : State :=
  let moving := q.cells.filter (s.barred w)
  if moving.isEmpty then s
  else
    let s := s.putQueue { q with cells := q.cells.filter fun c => !s.barred w c }
    let s := moving.foldl (fun s c =>
      s.append (vlQueue (s.memberFor c.alt c.cell) c.cell.vl.toNat) { c with alt := 15, way := true }) s
    s.rest q.key

/-- Steer the queued cells of a ring (R152). -/
def State.steer (s : State) (w : Nat) : State := s.fwd.queues.foldl (fun s q => s.steerQueue w (s.queueOf q.key)) s

/-- A queued cell's way round a ring crosses a link: its primary path, or the rest of the ring when it goes the other way (R152). -/
def QCell.crosses (c : QCell) (w l : Nat) : Bool :=
  c.which == w && (if c.way then !inRange l c.lo c.hi else c.alt != 15 && inRange l c.lo c.hi)

/-- Queued cells whose way crosses the second failed link are discarded (R153 SEGMENTED). -/
def State.discardSegmented (s : State) (w f2 : Nat) : State :=
  s.fwd.queues.foldl (fun s q0 =>
    let q := s.queueOf q0.key
    let lost := q.cells.filter fun c => c.crosses w f2
    let s := s.putQueue { q with cells := q.cells.filter fun c => !c.crosses w f2 }
    (lost.foldl (fun s c => (s.cntL q.key.egress 17 1).leave c) s).rest q.key) s

/-! ### Groundsheet errors -/

/-- Unit of a row as DIAG.TEST names it: bank in [15:10], row in [9:0] (R555). -/
def rowUnit (bank row : Nat) : Nat := bank * 1024 + row

/-- Take a row out of use and start its test, unless it is out already or under test (R213, R541, R542). -/
def State.testRow (s : State) (bank row : Nat) : State :=
  ({ s with fwd.outRows := if s.fwd.outRows.contains (bank, row) then s.fwd.outRows else s.fwd.outRows ++ [(bank, row)] }).startTest
    { kind := 1, unit := rowUnit bank row }

/-- A cell as a trunk port sends it: HOP one less when it came over a link, the LSEQ it takes, and both CRCs (R119 to R121). -/
def QCell.onLink (c : QCell) (lseq : Nat) : Cell :=
  ({ c.cell with lseq := BitVec.ofNat 16 lseq, hop := if c.ingress < 4 then c.cell.hop - 1 else c.cell.hop } : Cell).sealed

/-- The stomped form of a cell: the bitwise inverse of its CRC (R138). -/
def stompedForm (c : Cell) : Cell := { c with crc := ~~~ c.crc }

/-- The newest cut-through cell of an ingress at an egress is found bad: stomped toward a trunk egress, where it takes no LSEQ, discarded at an internal one, its
space free at once (R138, R208). -/
def State.stompCut (s : State) (ingress egress : Nat) (ecc : Bool) : State :=
  match (s.eg egress).window.reverse.find? (fun c => c.ingress == ingress && c.cut) with
  | none => s
  | some c =>
    let s := s.modEgress egress fun x => { x with window := dropFirst (· == c) x.window }
    let s := { s with fwd.cut := s.fwd.cut.filter fun t => !(t.ingress == ingress && t.egress == egress) }
    let s := if h : egress < 4 then
        (s.cntL egress 7 1).send (.cell ⟨egress, h⟩ (stompedForm (c.onLink (s.tp egress).lseqNext)))
      else if ecc then s.cntF 13 1 else s
    s.leave c

/-- GS_ECC_ERROR: a read of a row meets an error. A corrected one is counted, and the 16th in one row within 1 s starts the row
test. On an uncorrectable one the cell read out for the pair is discarded, or stomped when its head has left by cut-through;
EV064 is raised and the row is tested (R208, R213, R540, R541). -/
def execGsEccError (bank : Fin 64) (row : Fin 1024) (ingress egress : Fin 15) (corrected : Option Nat) (s : State) :
    Host.Outcome State Fault Refusal :=
  match corrected with
  | some n =>
    let s := (s.cntF 11 1).logErr 1 bank.val 0 255 row.val
    .next (if 16 ≤ n then s.testRow bank.val row.val else s)
  | none =>
    let s := (s.cntF 12 1).raise 64 [(bank.val, 6), (row.val, 10)]
    let s := s.logErr 1 bank.val 4 64 (2 ^ 31 + row.val)
    let s := s.testRow bank.val row.val
    if s.fwd.cut.any fun t => t.ingress == ingress.val && t.egress == egress.val then .next (s.stompCut ingress.val egress.val true)
    else
      match (s.eg egress.val).window.find? (fun c => c.ingress == ingress.val && !c.crossed) with
      | some c =>
        .next (((s.modEgress egress.val fun x => { x with window := dropFirst (· == c) x.window }).cntF 13 1).leave c)
      | none => .next s

end Sys2Proof.Machine
end

