-- ==== Sys2Proof/Machine/Fabric.lean ====
section
/-!
DEFINITION. Changing forwarding entries, ordered updates and barriers (R198 to R200, R219 to R223), the FWD commands (R226 to R229), and
the fabric and VL profile records (R224, R225).
-/

namespace Sys2Proof.Machine

/-! ### Entries -/

/-- The queue that an entry's cells are added to while no ring steers them: for a bundle without a tunnel queue, the lower member's. -/
def FwdEntry.target (e : FwdEntry) (vl : Nat) : QKey :=
  if e.qsel then { egress := e.primary, tunQ := true, id := e.qid } else vlQueue e.primary vl

/-- The entry as FWD.SET and FWD.GET answer it (R199). -/
def FwdEntry.words (e : FwdEntry) : List Word :=
  [pack [(e.tunnel, 20), (b2n e.valid, 1), (b2n e.qsel, 1), (0, 1), (b2n e.ringsteer, 1), (e.ver, 8)],
   pack [(e.primary, 4), (e.alternate, 4), (e.which, 1), (0, 7), (e.linkLo, 8), (e.linkHi, 8)],
   pack [(e.holdUs, 16), (0, 2), (if e.qsel then e.qid else 0, 14)]]

/-- The port is a ring port of a ring of this hub (R200). -/
def State.isRingPort (s : State) (which p : Nat) : Bool := decide (p < 4) && s.ringOf p == some which

/-- Tunnel queues in use. -/
def State.qidsUsed (s : State) : List Nat := (s.fwd.queues.filter (·.key.tunQ)).map (·.key.id)

/-- Valid entries (R229). -/
def State.entryCount (s : State) : Nat := (s.fwd.entries.filter (·.valid)).length

/-- Release a tunnel queue: it is freed when it is empty, and not before (R219). -/
def State.releaseQueue (s : State) (k : QKey) : State := (s.putQueue { s.queueOf k with freeing := true, closed := false, drainIds := [] }).rest k

/-- Open a queue held closed (R220). -/
def State.openQueue (s : State) (k : QKey) : State :=
  if s.fwd.queues.any (·.key == k) then s.putQueue { s.queueOf k with closed := false, drainIds := [] } else s

/-- The cells of target queues that a drain mark is set behind, by their numbers: queued, to be sent again, or in a window, whether chosen or
by cut-through (R220). -/
def State.cellsOf (s : State) (ks : List QKey) : List Nat := (s.allCells.filter fun c => c.serial != 0 && ks.contains c.q).map (·.serial)

/-- Remove an entry: its tunnel queue is released, the cells its resequencer holds are discarded and the context is dropped; VER
advances (R200, R219). -/
def State.removeEntry (s : State) (e : FwdEntry) : State :=
  let lost := e.data.heldCells ++ e.status.heldCells
  let s := s.modEntry e.tunnel fun e => { e with valid := false, ver := (e.ver + 1) % 256, data := {}, status := {} }
  let s := lost.foldl (fun s c => s.leave c) (s.cntF 10 lost.length)
  if e.qsel then s.releaseQueue { egress := e.primary, tunQ := true, id := e.qid } else s

/-- What a FWD.SET asks for, with the changes R200 makes. -/
structure SetPlan where
  /-- the entry as it will stand, but for VER, QID and context -/
  e : FwdEntry := {}
  /-- ordered update -/
  ordered : Bool := false
  /-- a value was changed -/
  clamped : Bool := false
  deriving DecidableEq, Repr

/-- The fields of a FWD.SET applied one at a time (R200). -/
def State.setPlan (s : State) (w0 w1 w2 : Word) : SetPlan :=
  let tunnel := fld w0 31 12
  let old := s.entryOf tunnel
  let primary := fld w1 31 28
  let alternate := fld w1 27 24
  let which := fld w1 23 23
  let lo := fld w1 15 8
  let hi := fld w1 7 0
  let steerOk := s.isRingPort which primary && s.isRingPort which alternate && decide (lo ≤ hi)
  let steer := bitAt w0 8 && steerOk
  let keeps : Bool := match old with | some o => o.qsel && o.primary == primary | none => false
  let canQ := decide (primary < 4) && (keeps || (leastFree s.qidsUsed 0 16384).isSome)
  let qsel := bitAt w0 10 && canQ
  let ordered := bitAt w0 9 && qsel && old.isSome
  let hold0 := fld w2 31 16
  let hold := clampN 1 1000 hold0
  { e := { tunnel := tunnel, qsel := qsel, ringsteer := steer, primary := primary, alternate := if steer then alternate else 0,
           which := if steer then which else 0, linkLo := if steer then lo else 0, linkHi := if steer then hi else 0, holdUs := hold,
           qid := match old with | some o => if keeps then o.qid else (leastFree s.qidsUsed 0 16384).getD 0
                                 | none => (leastFree s.qidsUsed 0 16384).getD 0 }
    ordered := ordered
    clamped := (bitAt w0 8 && !steer) || (bitAt w0 10 && !qsel) || (bitAt w0 9 && !ordered) || hold != hold0 }

/-- The target queues of an entry as it stands: its tunnel queue, or the VL queue of the egress that its ring leaves it, of both members of a
bundle. An entry that has classified no cell has nothing in any of them (R152, R201, R220). -/
def State.oldTargets (s : State) (o : FwdEntry) : List QKey :=
  let away := o.ringsteer && (s.rg o.which).hasFailed && inRange (s.rg o.which).failed o.linkLo o.linkHi
  if o.qsel && !away then [{ egress := o.primary, tunQ := true, id := o.qid }]
  else if o.vl = 0 then []
  else
    let e := if away then o.alternate else o.primary
    (e :: s.standIn e :: (s.fellow e).toList).map fun e => vlQueue e o.vl

/-- The new tunnel queue of an entry: with an ordered update it stays closed behind the drain mark (R200, R220). -/
def State.takeQueue (s : State) (e : FwdEntry) (ordered : Bool) (old : List QKey) : State :=
  let k : QKey := { egress := e.primary, tunQ := true, id := e.qid }
  let ahead := s.cellsOf old
  if old.contains k then s
  else if ordered && !ahead.isEmpty then s.putQueue { newQueue k with closed := true, drainIds := ahead }
  else s.putQueue (newQueue k)

/-- Install or change an entry (R198, R200, R219, R220). -/
def State.installEntry (s : State) (p : SetPlan) : State :=
  match s.fwd.entries.find? (·.tunnel == p.e.tunnel) with
  | none =>
    let s := { s with fwd.entries := s.fwd.entries ++ [{ p.e with ver := 1 }] }
    if p.e.qsel then s.takeQueue p.e false [] else s
  | some o =>
    if !o.valid then
      let s := s.modEntry p.e.tunnel fun _ => { p.e with ver := (o.ver + 1) % 256 }
      if p.e.qsel then s.takeQueue p.e false [] else s
    else
      let old := s.oldTargets o
      let s := if o.qsel then s.openQueue { egress := o.primary, tunQ := true, id := o.qid } else s
      let s := s.modEntry p.e.tunnel fun e => { p.e with ver := (e.ver + 1) % 256, vl := e.vl, data := e.data, status := e.status }
      let s := if p.e.qsel then s.takeQueue p.e p.ordered old else s
      if o.qsel && !(p.e.qsel && p.e.primary == o.primary) then s.releaseQueue { egress := o.primary, tunQ := true, id := o.qid } else s

/-- Carry out a FWD.SET (R200). The ROOT's allotment service writes its own entries the same way (R198). -/
def State.fwdSet (s : State) (w0 w1 w2 : Word) : State × Response :=
  let tunnel := fld w0 31 12
  let removal := !bitAt w0 11 || fld w1 31 28 == 15
  let answer := fun (s : State) (e : FwdEntry) => ((s.fwd.entries.find? (·.tunnel == tunnel)).getD e).words
  if removal then
    match s.entryOf tunnel with
    | none => (s, okC (bitAt w0 11) ({ tunnel := tunnel, valid := false, ver := ((s.fwd.entries.find? (·.tunnel == tunnel)).map (·.ver)).getD 0, holdUs := 0 } : FwdEntry).words)
    | some e => let s := s.removeEntry e; (s, okC (bitAt w0 11) (answer s e))
  else if (s.entryOf tunnel).isNone && decide (32768 ≤ s.entryCount) then (s.raise 71 [(tunnel, 20)], failR 0x40)
  else
    let p := s.setPlan w0 w1 w2
    let s := s.installEntry p
    (s, okC p.clamped (answer s p.e))

/-- FWD_SET (R199, R200, R219, R220). -/
def execFwdSet (s : State) : Host.Outcome State Fault Refusal :=
  runCmd 0x2210 s fun r s => s.fwdSet (r.w 0) (r.w 1) (r.w 2)

/-- FWD_GET: the entry of a TUNNEL, VALID 0 if none (R199, R227). -/
def execFwdGet (s : State) : Host.Outcome State Fault Refusal :=
  runRead 0x2203 s fun r s =>
    okR (((s.fwd.entries.find? (·.tunnel == r.f 0 31 12)).getD { tunnel := r.f 0 31 12, valid := false, holdUs := 0 }).words)

/-! ### Ordered holds -/

/-- The tunnel queue of a TUNNEL's entry. -/
def State.tunnelQueue (s : State) (tunnel : Nat) : Option QKey :=
  match s.entryOf tunnel with
  | some e => if e.qsel then some { egress := e.primary, tunQ := true, id := e.qid } else none
  | none => none

/-- A queue that opens takes its place in the active lists if it holds cells. -/
def State.openAndWake (s : State) (k : QKey) : State :=
  let s := s.openQueue k
  if (s.queueOf k).cells.isEmpty then s else s.wake k

/-- ORDERED_HOLD_DRAIN: every cell ahead of the mark has left, so the queue opens (R220). -/
def execOrderedHoldDrain (tunnel : BitVec 20) (s : State) : Host.Outcome State Fault Refusal :=
  match s.tunnelQueue tunnel.toNat with
  | some k =>
    let q := s.queueOf k
    if q.closed && !s.allCells.any (fun c => q.drainIds.contains c.serial) then .next (s.openAndWake k) else .next s
  | none => .next s

/-- ORDERED_HOLD_EXPIRY: HOLD_US has passed, so the queue opens; EV070 and `c_hold_expired` (R220). -/
def execOrderedHoldExpiry (tunnel : BitVec 20) (s : State) : Host.Outcome State Fault Refusal :=
  match s.tunnelQueue tunnel.toNat with
  | some k =>
    if (s.queueOf k).closed then .next (((s.openAndWake k).cntF 16 1).raise 70 [(tunnel.toNat, 20)]) else .next s
  | none => .next s

/-! ### Barriers -/

/-- FWD_BARRIER: the generation advances; the response holds the ID and the cells counted (R221, R228). -/
def execFwdBarrier (s : State) : Host.Outcome State Fault Refusal :=
  runCmd 0x2220 s fun r s =>
    if 3 ≤ s.fwd.barriers.length then (s, failR 0x30)
    else
      let ms := clampN 1 10000 (r.f 0 31 16)
      let owner := match r.src with | .win _ => true | _ => false
      let b : Barrier := { id := s.fwd.bgen, gen := s.fwd.bgen, flush := bitAt (r.w 0) 0, byOwner := owner, timeoutMs := ms }
      let s := { s with fwd.barriers := s.fwd.barriers ++ [b], fwd.bgen := (s.fwd.bgen + 1) % 4 }
      (s, okC (ms != r.f 0 31 16) [pack [(b.id, 8), (0, 8), (Nat.min (s.barrierCount b) 65535, 16)]])

/-- BARRIER_DRAIN: barriers whose cells have all left end, in order (R221). -/
def execBarrierDrain (s : State) : Host.Outcome State Fault Refusal := .next s.endBarriers

/-- Mark the cells a barrier still counts for discard (R222). -/
def State.flushCells (s : State) (b : Barrier) : State :=
  let later := s.laterGens b
  let mark := fun (c : QCell) => if later.contains c.bgen then c else { c with flush := true }
  let ctx := fun (x : FwdCtx) => { x with heldCells := x.heldCells.map mark }
  { s with
    fwd.queues := s.fwd.queues.map fun (q : Queue) => { q with cells := q.cells.map mark }
    fwd.egress := s.fwd.egress.map fun (x : Egress) => { x with window := x.window.map mark }
    trunk := s.trunk.map fun (t : TrunkPort) => { t with resend := t.resend.map mark }
    fwd.entries := s.fwd.entries.map fun (e : FwdEntry) => { e with data := ctx e.data, status := ctx e.status }
    ring := s.ring.map fun (r : Ring) => { r with heldCells := r.heldCells.map mark } }

/-- BARRIER_TIMEOUT: TIMEOUT_MS passes; with FLUSH the cells still counted are marked for discard, else the barrier ends with outcome
1 in its turn (R222). -/
def execBarrierTimeout (id : Fin 4) (s : State) : Host.Outcome State Fault Refusal :=
  match s.fwd.barriers.find? (·.id == id.val) with
  | none => .next s
  | some b =>
    let s := { s with fwd.barriers := s.fwd.barriers.map fun (x : Barrier) => if x.id == id.val then { x with timedOut := true } else x }
    .next ((if b.flush then s.flushCells b else s).endBarriers)

/-- FWD_BARRIER_DONE: the ROOT receives a hub's report; it has no data to answer and holds no state for it (R228). -/
def execFwdBarrierDone (s : State) : Host.Outcome State Fault Refusal := runRead 0x2241 s fun _ _ => okR

/-! ### Status -/

/-- The words of FWD.STATUS (R229). -/
def State.fwdStatusWords (s : State) : List Word :=
  [pack [(s.sharedFree, 16), (s.sharedSize, 16)], pack [(s.creditPool, 16), (s.localPool, 16)],
   pack [(s.fwd.spares.toList.foldl (· + ·) 0, 16), (s.fwd.retiredRows.length, 16)],
   pack [(32768 - s.entryCount, 16), (16384 - s.qidsUsed.length, 16)], pack [(s.fwd.barriers.length, 8)]]

/-- FWD_STATUS (R229). -/
def execFwdStatus (s : State) : Host.Outcome State Fault Refusal := runRead 0x2201 s fun _ s => okR s.fwdStatusWords

/-- FWD_COUNTERS: the counters as before any clear (R226, R227). -/
def execFwdCounters (s : State) : Host.Outcome State Fault Refusal :=
  runCmd 0x2202 s fun r s =>
    (if bitAt (r.w 0) 0 then { s with fwd.c := Vector.replicate 17 0 } else s, okR (s.fwd.c.toList.map wd))

/-! ### Records -/

/-- The fabric record; LOCAL_MIN waits for the next cold reset (R224). -/
def recFabric (s : State) : RdM State := do
  let ct ← rdR 0 31 16
  let ecn ← rdB 0 15
  let win ← rdC 0 10 0 16 1024
  let us ← rdC 1 31 16 2 1000
  let localMin ← rdC 1 15 0 64 1024
  pure { s with fwd.cfg := { ctMask := ct, ecnEn := ecn, rsqWin := win, rsqUs := us,
                             localMin := if s.up then s.fwd.cfg.localMin else localMin } }

/-- The VL profile record (R225). -/
def recVlProfile (s : State) : RdM State := do
  let vl ← rdF 0 31 29 (clampN 1 6)
  let mark ← rdC 0 15 0 1 16384
  let max ← rdC 1 31 16 16 16384
  let shift ← rdC 1 3 0 0 7
  pure { s with fwd.prof := modAt s.fwd.prof (vlIdx vl) fun _ => { mark := mark, max := max, shift := shift } }

end Sys2Proof.Machine
end

