-- ==== Sys2Proof/Machine/StorBase.lean ====
section
/-!
DEFINITION. Storage functions as their tunnels see them: the state of a namespace (R417), completions (R416), and what a storage tunnel
that opens, leaves UP, closes or is refused does (R418, R419, R423); and the learning table's entries of a tunnel (R427).
-/

namespace Sys2Proof.Machine

/-- A storage function, port * 16 + number. -/
def State.sfn (s : State) (f : Nat) : StorFn := s.stor.fn.getD f {}

/-- Change a storage function. -/
def State.modFn (s : State) (f : Nat) (g : StorFn → StorFn) : State := { s with stor.fn := modAt s.stor.fn f g }

/-- A namespace of a function, 0 for NSID 1. -/
def StorFn.nsp (x : StorFn) (k : Nat) : NsMap := x.ns.getD k {}

/-- Change a namespace. -/
def State.modNs (s : State) (f k : Nat) (g : NsMap → NsMap) : State := s.modFn f fun x => { x with ns := modAt x.ns k g }

/-- An NVMe status: SCT in [11:9], SC in [8:1] (R419). -/
def nvmeStatus (sct sc : Nat) : Nat := sct * 512 + sc * 2

/-- Transient Transport Error (R423). -/
def stTransport : Nat := nvmeStatus 0 0x22

/-- Namespace Not Ready (R417). -/
def stNotReady : Nat := nvmeStatus 0 0x82

/-- LBA Out of Range (R420). -/
def stRange : Nat := nvmeStatus 0 0x80

/-- Invalid Namespace or Format (R423). -/
def stNamespace : Nat := nvmeStatus 0 0x0B

/-- Invalid Command Opcode (R415). -/
def stOpcode : Nat := nvmeStatus 0 0x01

/-- Invalid Field in Command (R415). -/
def stField : Nat := nvmeStatus 0 0x02

/-- The interrupt of a CQ: NVMe interrupt vector n is MSI-X vector n + 2 of the function; the admin CQ has NVMe vector 0 (R50, R413). -/
def State.cqInterrupt (s : State) (f q : Nat) : State :=
  if h : 6 + f < 38 then
    match (if q = 0 then some 0 else ((s.sfn f).cqIv.find? (·.1 == q)).map (·.2)) with
    | some n => if (s.box ⟨6 + f, h⟩).vecMask.getLsbD (n + 2) then s else s.send (.msix ⟨6 + f, h⟩ (n + 2))
    | none => s
  else s

/-- Post a CQ entry: queue, command identifier, status (R416). -/
def State.post (s : State) (f q cid status : Nat) : State :=
  (s.modFn f fun x => { x with cq := (q, cid, status) :: x.cq, done := bump x.done }).cqInterrupt f q

/-- A storage command in progress completes; after a function reset its completion is discarded (R416, R423). -/
def State.finishCmd (s : State) (c : StorCmd) (status : Nat) : State :=
  let s := { s with stor.cmds := s.stor.cmds.filter (·.tag != c.tag) }
  if (s.sfn c.fn).flrWait then s else s.post c.fn c.qid c.cid status

/-- Report namespace attribute changes through outstanding Asynchronous Event Requests, one each (R417). -/
def State.notices (s : State) (f : Nat) : State :=
  match (s.sfn f).aers, (s.sfn f).aerNotices with
  | cid :: rest, _ :: _ => (s.modFn f fun x => { x with aers := rest, aerNotices := [] }).post f 0 cid 0
  | _, _ => s

/-- Set a namespace READY or OFFLINE, with EV208 and the asynchronous event (R417). -/
def State.setNs (s : State) (f k : Nat) (ready : Bool) : State :=
  if ((s.sfn f).nsp k).ready = ready then s
  else
    let s := (s.modNs f k fun n => { n with ready := ready }).raise 208 [(f / 16, 1), (f % 16, 4), (k + 1, 5), (b2n ready, 1)] (.tenant (s.fnTenant f))
    (s.modFn f fun x => { x with aerNotices := x.aerNotices ++ [k + 1] }).notices f

/-- The tunnel of a namespace is down, or its map changes: its commands complete with Transient Transport Error and it is OFFLINE
(R423, R432). -/
def State.nsDown (s : State) (f k : Nat) : State :=
  let cs := s.stor.cmds.filter fun c => c.fn == f && c.nsid == k + 1
  (cs.foldl (fun s c => s.finishCmd c stTransport) s).setNs f k false

/-- Namespaces served by a tunnel: function and number. -/
def State.nsBy (s : State) (idx : Nat) : List (Nat × Nat) :=
  (List.range 32).flatMap fun f => (List.range 16).filterMap fun k => if ((s.sfn f).nsp k).tun = some idx then some (f, k) else none

/-- A storage PDU: its 32-byte header, most significant byte of each field first, then its data, bytes in the order of their addresses. `info`
holds STATE, LBADS and COUNT of an INFO_ACK (R5, R419). -/
def storBytes (op vol tag status nlb lba : Nat) (info : List Nat) (data : List Word) : List Byte :=
  numBytes op 1 ++ numBytes vol 1 ++ numBytes tag 2 ++ numBytes status 2 ++ numBytes nlb 2 ++ numBytes lba 8 ++ numBytes (info.getD 0 0) 1 ++
    numBytes (info.getD 1 0) 1 ++ numBytes (info.getD 2 0) 8 ++ List.replicate 6 0 ++ (data.map wordBytesLE).flatten

/-- Send a storage PDU on a tunnel (R419). -/
def State.storPdu (s : State) (idx op vol tag status nlb lba : Nat) (info : List Nat) (data : List Word) : State :=
  s.send (.pdu idx 5 (storBytes op vol tag status nlb lba info data))

/-- A storage tunnel enters UP: end A sends INFO (R419). -/
def State.storTunUp (s : State) (idx : Nat) : State :=
  (s.nsBy idx).foldl (fun s (f, k) => s.storPdu idx 6 ((s.sfn f).nsp k).volume 0 0 0 0 [] []) s

/-- A storage tunnel leaves UP (R423). -/
def State.storTunDown (s : State) (idx : Nat) : State := (s.nsBy idx).foldl (fun s (f, k) => s.nsDown f k) s

/-- A storage tunnel has closed: it may be opened again after 10 s, and requests that came through it have no one to answer (R418). -/
def State.storTunGone (s : State) (idx : Nat) : State :=
  let s := (s.nsBy idx).foldl (fun s (f, k) => s.modNs f k fun n => { n with tun := none, retry := n.valid && !n.barred }) s
  { s with
    stor.reqs := s.stor.reqs.filter (·.tun != some idx)
    stor.asked := s.stor.asked.filter (·.1 != idx) }

/-- A storage tunnel is refused (R418). -/
def State.storTunRefused (s : State) (idx reason : Nat) : State :=
  (s.nsBy idx).foldl (fun s (f, k) => s.modNs f k fun n => { n with barred := reason == 1 || reason == 6 }) s

/-- Entries the learning table holds (R427). -/
def learnSize : Nat := 4096

/-- EV218 with flag 0 once the learning table has room again (R427, R438). -/
def State.learnRoom (s : State) : State :=
  if s.eth.learnFull && decide (s.eth.learn.length < learnSize) then { s with eth.learnFull := false }.raise 218 [(0, 1)] else s

/-- Addresses learnt against a tunnel go with it (R427). -/
def State.ethTunGone (s : State) (idx : Nat) : State :=
  { s with eth.learn := s.eth.learn.filter (·.tun != idx) }.learnRoom

end Sys2Proof.Machine
end

