-- ==== Sys2Proof/Machine/TunGone.lean ====
section
/-!
DEFINITION. What the users of a tunnel do when it enters UP, leaves UP, closes or is refused.
-/

namespace Sys2Proof.Machine

/-- Handle of an entry (R165). -/
def Tunnel.handle (t : Tunnel) : Nat := t.gen * 65536 + t.idx

/-- A tunnel has left UP (R314, R389, R402, R403, R423). -/
def State.tunDown (s : State) (t : Tunnel) : State := ((s.locksDown t.idx).deskTunDown t.idx).storTunDown t.idx

/-- A tunnel has entered UP (R317, R389, R400, R403, R419). -/
def State.tunUp (s : State) (t : Tunnel) : State := ((s.resubscribe t.idx t.handle).deskTunUp t.idx).storTunUp t.idx

/-- Targets of a tunnel that has closed are removed, with EV182 (R338). -/
def State.targetsGone (s : State) (idx : Nat) : State :=
  let s := { s with disp.pacing := s.disp.pacing.filter (·.1 != idx) }
  [0, 1].foldl (fun s h =>
    let x : Head := s.disp.head.getD h {}
    match x.targets.find? (·.tun == idx) with
    | none => s
    | some t =>
      let tenant := ((s.disp.head.getD 0 {}).cfg.pair && h == 1)
      let own : Head := s.disp.head.getD (if tenant then 0 else h) {}
      ({ s with disp.head := modAt s.disp.head h fun y => { y with targets := y.targets.filter (·.tun != idx) } }).raise 182
        [(h, 1), (t.slot, 2), (0, 1), (idx, 14)] (.tenant own.cfg.tenant)) s

/-- A tunnel has closed: bridges, targets, desk ports, storage and the learning table let go of it; when it was the ROOT channel, what had
been reported through it is forgotten (R282, R318, R338, R400, R405, R418). -/
def State.tunGone (s : State) (t : Tunnel) : State :=
  let s := s.bridgeGone t.idx t.farHub
  let s := (((s.targetsGone t.idx).deskTunGone t.idx).storTunGone t.idx).ethTunGone t.idx
  if s.topo.rootChan == some t.idx then { s with topo.rootChan := none }.forgetReports else s

/-- A tunnel has been refused with a reason (R400, R405, R418). -/
def State.tunRefused (s : State) (t : Tunnel) (reason : Nat) : State := (s.deskTunRefused t.idx reason).storTunRefused t.idx reason

end Sys2Proof.Machine
end

