-- ==== Sys2Proof/Machine/TunBase.lean ====
section
/-!
DEFINITION. Tunnel ends (05_tunnels.md): certificates (R478), ephemeral keys (R471), table entries and handles (R163 to R165), cells a
tunnel end sends (R177, R180, R181, R235), policers (R234), states, closing (R185 to R187) and rekeying (R178, R179).
-/

namespace Sys2Proof.Machine

/-! ### Certificates and keyshares -/

/-- A key slot as it reads: while slot 48 is BAD, every stored slot reads as BAD (R469, R471). -/
def State.slot (s : State) (n : Nat) : KeySlot :=
  let k : KeySlot := s.vault.slots.getD n {}
  if n < 48 && s.vault.slots[48].st == .bad then { k with st := .bad } else k

/-- A slot holds a key that can be used: it is VALID and its tag matches (R471). -/
def State.slotUsable (s : State) (n : Nat) : Bool := (s.slot n).st == .valid && (s.slot n).tagOk

/-- Check code of a certificate chain that should name a hub (R478): the first check that fails. -/
def State.certCode (s : State) (c : Cert) (hub : Nat) : Nat :=
  if !s.slotUsable 0 then 8
  else if !c.parses || decide (2048 < c.len) then 1
  else if c.prints.any (fun p => s.vault.deny.contains p) then 7
  else if !c.sigs then 2
  else if !c.anchored then 3
  else if !c.usage then 6
  else if c.hub != hub then 5
  else if s.time.st != .unset && (decide (s.time.ns < c.notBefore) || decide (c.notAfter < s.time.ns)) then 4
  else 0

/-- Check a certificate chain: a skipped check 4 is counted, and a refusal raises EV245 (R478, R490). -/
def State.checkCert (s : State) (c : Cert) (hub : Nat) : State × Nat :=
  let code := s.certCode c hub
  let s := if s.time.st == .unset && (code == 0) then { s with vault.timeSkip := bump s.vault.timeSkip } else s
  (if code = 0 then s else s.raise 245 [(code, 8), (c.hub, 16)], code)

/-- The certificate this hub presents: its operational certificate, else its device certificate (R479). -/
def State.ownCert (s : State) : Cert := if s.vault.certs[0].len = 0 then s.vault.devCert else s.vault.certs[0]

/-- The CERT block of a certificate (R193). -/
def certBlock (c : Cert) : List Word := wd c.len :: (c.words ++ List.replicate ((c.len + 3) / 4 - c.words.length) 0).take ((c.len + 3) / 4)

/-- OPEN_PARAMS as words (R190). -/
def OpenParams.words (p : OpenParams) : List Word :=
  [pack [(p.cls, 3), (0, 5), (p.farEp, 24)], pack [(p.farHub, 16), (p.tenant, 16)], pack [(p.cir, 24)], pack [(p.pir, 24)],
   pack [(p.cbs, 16), (p.pbs, 16)], pack [(0, 8), (p.nearEp, 24)]]

/-- An ephemeral private key that the vault draws: 12 words (R171, R175). -/
def State.drawEph (s : State) : List Word × State :=
  let (v, s) := s.draw
  ((List.range 12).map fun i => v.extractLsb' (32 * i) 32, s)

/-- The P-384 public key of a private key in SEC 1 uncompressed form, 97 bytes (R175). -/
def publicBytes (k : List Word) : List Byte := 4#8 :: bytesBE (Config.publicPoint k) 96

/-- The public key in a keyshare (R175). -/
def sharePublic (share : List Word) : List Byte := ((share.take 25).flatMap wordBytesLE).take 97

/-- What the signature of a keyshare covers: the public key, the hub ID and OPEN_PARAMS, and at end B the public key of end A (R175; log
entry 163). -/
def shareMessage (pub : List Byte) (hub : Nat) (p : OpenParams) (pubA : List Byte) : List Byte :=
  pub ++ numBytes hub 2 ++ p.words.flatMap wordBytesLE ++ pubA

/-- The keyshare of an ephemeral key, signed with the hub's identity key; `pubA` is empty at end A (R175). -/
def State.makeShare (s : State) (k : List Word) (p : OpenParams) (pubA : List Byte) : List Word × State :=
  let (r, s) := s.draw
  let pub := publicBytes k
  let sig := Config.ecdsa s.vault.slots[1].key (Config.sha384Bytes (shareMessage pub s.sys.hubId p pubA)) r
  (wordsLE (pub ++ [0, 0, 0] ++ bytesBE sig 96), s)

/-- The label of the key derivation (R176). -/
def tunnelLabel : List Byte := "WH-TUNNEL".toList.map fun c => BitVec.ofNat 8 c.toNat

/-- The tunnel key: both ends derive it from the shared secret, the tunnel number, the hub IDs of end A and end B, KGEN, and the public keys
of end A and end B (R176). -/
def tunnelKey (priv farShare ownShare : List Word) (endA : Bool) (number hubA hubB kgen : Nat) : Nat :=
  let pubA := sharePublic (if endA then ownShare else farShare)
  let pubB := sharePublic (if endA then farShare else ownShare)
  (Config.tunnelKdf (Config.ecdh priv (sharePublic farShare)) tunnelLabel
    (numBytes number 3 ++ numBytes hubA 2 ++ numBytes hubB 2 ++ numBytes kgen 2 ++ bytesBE (Config.sha384Bytes (pubA ++ pubB)) 48)).toNat

/-- The vault can make a keyshare: it is not LOCKED and slot 1 is VALID (R471, R484). -/
def State.canSign (s : State) : Bool := !s.vault.locked && s.slotUsable 1

/-! ### The tunnel table -/

/-- Tunnel states as codes (R185). -/
def TunState.code : TunState → Nat
  | .closed => 0
  | .opening => 1
  | .up => 2
  | .stalled => 3
  | .closing => 4

/-- Entry of an index in use. -/
def State.tunAt (s : State) (idx : Nat) : Option Tunnel := s.tun.table.find? (·.idx == idx)

/-- Entry that a handle names (R165). -/
def State.tunByHandle (s : State) (h : Nat) : Option Tunnel := s.tun.table.find? (·.handle == h)

/-- Entry of a tunnel number. -/
def State.tunByNumber (s : State) (n : Nat) : Option Tunnel := if n = 0 then none else s.tun.table.find? (·.number == n)

/-- Change the entry of an index. -/
def State.modTun (s : State) (idx : Nat) (f : Tunnel → Tunnel) : State :=
  { s with tun.table := s.tun.table.map fun (t : Tunnel) => if t.idx == idx then f t else t }

/-- A reliable class (R168). -/
def reliable (cls : Nat) : Bool := cls != 2 && cls != 5

/-- VL of a class (R168). -/
def classVl (cls : Nat) : Nat := if cls = 0 ∨ cls = 1 then 1 else if cls = 7 then 6 else cls

/-- Hop ceiling of a class (R25). -/
def classCeiling (cls : Nat) : Nat :=
  if cls = 0 then 64 else if cls = 2 then 100 else if cls = 3 then 66 else if cls = 4 then 166 else if cls = 5 then 200 else 255

/-- Starting HOP of a class (R168, R169). -/
def startHop (cls : Nat) : Nat := classCeiling cls - 1

/-- Crossbar port of a class's users: X8 lighting, X11 mailbox tunnels, X9 display writes, X6 desk ports, X10 storage crypto, X7 Ethernet and
X4 PCIe. End A of a DISPLAY or NETWORK tunnel is a desk port's DP ingress or CDC-NCM function, at X6 (R195; log entry 11). -/
def classPort (cls : Nat) (endA : Bool := false) : Nat :=
  if cls = 0 then 8 else if cls = 1 then 11 else if cls = 2 then (if endA then 6 else 9) else if cls = 3 then 6 else if cls = 4 then 10
  else if cls = 5 then (if endA then 6 else 7) else 4

/-- Crossbar port that a tunnel's cells enter by: a BULK tunnel that a PCIe host has opened, by its own PCIe port (R195). -/
def Tunnel.port (t : Tunnel) : Nat :=
  match t.owner with
  | some (.win i) => if t.p.cls = 6 && decide (22 ≤ i.val) then 5 else classPort t.p.cls t.endA
  | _ => classPort t.p.cls t.endA

/-- DEST of the cells this end sends: FAR_EP toward end B, NEAR_EP toward end A (R166, R190). -/
def Tunnel.toward (t : Tunnel) : Nat := if t.endA then t.p.farEp else t.p.nearEp

/-- TUNNEL of the cells this end sends (R164). -/
def Tunnel.tx (t : Tunnel) : Nat := if t.endA then 2 * t.number else 2 * t.number + 1

/-- TUNNEL of the cells this end receives (R164). -/
def Tunnel.rx (t : Tunnel) : Nat := if t.endA then 2 * t.number + 1 else 2 * t.number

/-- Change the state of an entry, with EV080 (R194); the tunnel's users learn when it enters or leaves UP. -/
def State.setTun (s : State) (idx : Nat) (st : TunState) (cause : Nat) : State :=
  match s.tunAt idx with
  | none => s
  | some t =>
    if t.st = st then s
    else
      let s := (s.modTun idx fun t => { t with st := st }).raise 80 [(idx, 14), (t.st.code, 3), (st.code, 3), (cause, 8)] (.tenant t.p.tenant)
      if st == .up then s.tunUp t else if t.st == .up then s.tunDown t else s

/-! ### Ephemeral keys -/

/-- The lowest free volatile slot of 72 to 95 (R469). -/
def State.freeEph (s : State) : Option Nat :=
  (List.range 24).map (· + 72) |>.find? fun k => (s.vault.slots.toList.getD k {}).st == .empty

/-- Give an entry an ephemeral slot, or let it wait in order of request (R471). -/
def State.takeEph (s : State) (idx : Nat) : State :=
  match s.freeEph with
  | some k =>
    let (key, s) := s.drawEph
    ({ s with vault.slots := modAt s.vault.slots k fun _ =>
      { st := .valid, kind := 4, usage := 4, lcGen := s.lcGen, created := s.now, key := key } }).modTun idx fun t => { t with eph := some k }
  | none => { s with vault.keyWait := s.vault.keyWait ++ [idx] }

/-- The ephemeral private key of an entry. -/
def State.ephKey (s : State) (t : Tunnel) : List Word := ((t.eph.map fun k => (s.vault.slots.toList.getD k {}).key)).getD []

/-- Make the keyshare of an entry that holds an ephemeral slot; end B signs the public key of end A with it (R171, R175, R178). -/
def State.ownKeyshare (s : State) (t : Tunnel) : List Word × State :=
  s.makeShare (s.ephKey t) t.p (if t.endA then [] else sharePublic t.farShare)

/-- An entry gives its ephemeral slot back; the next that waits takes it (R471). -/
def State.dropEph (s : State) (idx : Nat) : State :=
  let s := { s with vault.keyWait := s.vault.keyWait.filter (· != idx) }
  match (s.tunAt idx).bind (·.eph) with
  | none => s
  | some k =>
    let s := ({ s with vault.slots := modAt s.vault.slots k fun _ => {} }).modTun idx fun t => { t with eph := none }
    match s.vault.keyWait with
    | [] => s
    | i :: rest => { s with vault.keyWait := rest }.takeEph i

/-! ### Opening and closing entries -/

/-- Take a table entry at the lowest free index, with the next generation (R163, R165). -/
def State.takeTun (s : State) (t : Tunnel) : Option (State × Nat) :=
  match leastFree (s.tun.table.map (·.idx)) 0 16384 with
  | none => none
  | some i =>
    let g := getKey s.tun.gens i 0
    some ({ s with tun.table := s.tun.table ++ [{ t with idx := i, gen := g, retries := s.tun.cfg.e2eRetries }], tun.gens := setKey s.tun.gens i ((g + 1) % 65536) }, i)

/-- Begin to open a tunnel as end A: a table entry in OPENING and an ephemeral key (R171 steps 1 and 2). The hub's own engines have no
owning mailbox. -/
def State.openTun (s : State) (p : OpenParams) (owner : Option Source) : Option (State × Nat) :=
  match s.takeTun { p := p, endA := true, farHub := p.farHub, owner := owner } with
  | none => none
  | some (s, i) => some ((s.setTun i .opening 0).takeEph i, i)

/-- Open a tunnel for an engine of the hub; a full table or a hub that is not joined opens none. -/
def State.openOwn (s : State) (p : OpenParams) : State × Option Nat :=
  if !s.joined then (s, none)
  else match s.openTun p none with
    | some (s, i) => (s, some i)
    | none => (s, none)

/-- Remove an entry: its keys are zeroized, the ephemeral slot is free, and its users learn that it has closed. -/
def State.removeTun (s : State) (idx : Nat) : State :=
  match s.tunAt idx with
  | none => s
  | some t =>
    let s := s.dropEph idx
    let s := if t.st == .up then (s.modTun idx fun t => { t with st := .closed }).tunDown t else s
    ({ s with
      tun.table := s.tun.table.filter (·.idx != idx)
      allot.requests := s.allot.requests.filter (·.2 != idx) }).tunGone t

/-- Enter CLOSED, with EV080 (R186, R187). -/
def State.closeTun (s : State) (idx cause : Nat) : State := (s.setTun idx .closed cause).removeTun idx

/-- Move every tunnel to CLOSED at once, with one EV082 (R187). -/
def State.closeAll (s : State) (cause : Nat) : State :=
  let n := s.tun.table.length
  let s := s.tun.table.foldl (fun s t => s.removeTun t.idx) s
  s.raise 82 [(Nat.min n 65535, 16), (cause, 8)]

/-- TUN.RELEASE and TUN.CLOSED data: TUNNEL toward end B and cause (R193). -/
def releaseWord (number cause : Nat) : Word := pack [(2 * number, 20), (0, 4), (cause, 8)]

/-- Send TUN.RELEASE to the ROOT, once (R186 step 5). -/
def State.sendRelease (s : State) (idx cause : Nat) : State :=
  match s.tunAt idx with
  | none => s
  | some t =>
    if t.released || t.number = 0 then s
    else (s.modTun idx fun t => { t with released := true }).sendRoot 0x2143 [releaseWord t.number cause]

/-! ### Cells a tunnel end sends -/

/-- Take one token from the committed bucket when it holds a whole cell: the cell is then committed, else excess (R234, R235). -/
def Tunnel.takeC (t : Tunnel) : Tunnel × Bool :=
  if wholeCell ≤ t.cTok then ({ t with cTok := t.cTok - wholeCell }, false) else ({ t with excess := bump t.excess }, true)

/-- The header and payload of a cell of a tunnel, before the seal (R118, R168, R177, R180, R237). -/
def Tunnel.cell (t : Tunnel) (ctype dest ctr : Nat) (sop eop excess : Bool) (payload : List Byte) : Cell :=
  { ctype := BitVec.ofNat 4 ctype, vl := BitVec.ofNat 3 (classVl t.p.cls), sop := sop, eop := eop, enc := true,
    hop := BitVec.ofNat 8 (startHop t.p.cls), tunnel := BitVec.ofNat 20 t.tx, dest := BitVec.ofNat 24 dest, seq := BitVec.ofNat 16 ctr,
    len := BitVec.ofNat 8 payload.length, epoch := if excess then 128#8 else 0#8, payload := payload }

/-- KGEN and key in use for sending: an answering end keeps the older key until it has accepted a cell under the newer (R178). -/
def Tunnel.keyTx (t : Tunnel) : Nat × Nat :=
  match t.oldKey with
  | some k => if !t.rxNew && t.answered == some t.kgen then k else (t.kgen, t.key)
  | none => (t.kgen, t.key)

/-- The IV of a cell: TUNNEL, SPACE, the low bits of KGEN and the counter of the space (R177). -/
def cellIv (tunnel : BitVec 20) (status : Bool) (kgen ctr : Nat) : BitVec 96 :=
  tunnel ++ BitVec.ofBool status ++ BitVec.ofNat 11 kgen ++ BitVec.ofNat 64 ctr

/-- The associated data of a cell: its header with CM, VOID, ENC, HOP, EPOCH, LSEQ and HCRC set to 0 (R121, R177). -/
def cellAssoc (c : Cell) : List Byte :=
  ({ c with cm := false, void := false, enc := false, hop := 0, epoch := 0, lseq := 0 } : Cell).headBytes ++ [0, 0]

/-- Encrypt a cell of a tunnel under the key for sending: all 224 payload bytes, those beyond LEN being 0, and the tag (R177). -/
def Tunnel.seal (t : Tunnel) (status : Bool) (ctr : Nat) (c : Cell) : Cell :=
  let (kgen, key) := t.keyTx
  let k := BitVec.ofNat 256 key
  let iv := cellIv c.tunnel status kgen ctr
  let text := c.payloadBytes
  { c with payload := (List.range 224).map (Config.gcmByte k iv text), tag := Config.gcmTag k iv (cellAssoc c) text }

/-- Offer a new cell of a tunnel at its port, counted under the key it is sent with (R179, R195). -/
def State.emit (s : State) (idx : Nat) (c : Cell) (ingress : Nat) : State :=
  (s.modTun idx fun t => { t with txUnderKey := t.txUnderKey + 1 }).offer ingress c

/-- Emit a data, mailbox or control cell with the next ESEQ; a reliable sender holds it until an ACK covers it (R180, R182). -/
def State.emitSeq (s : State) (idx ctype dest : Nat) (sop eop excess : Bool) (payload : List Byte) (ingress : Option Nat) : State :=
  match s.tunAt idx with
  | none => s
  | some t =>
    let c := t.seal false t.txEseq (t.cell ctype dest (t.txEseq % 65536) sop eop excess payload)
    let s := s.modTun idx fun t => { t with
      txEseq := (t.txEseq + 1) % 2 ^ 64
      lastData := if ctype == 1 && dest == 0 then t.lastData else some t.txEseq
      unacked := if reliable t.p.cls then t.unacked ++ [{ eseq := t.txEseq, cell := c }] else t.unacked }
    s.emit idx c (ingress.getD t.port)

/-- A reliable sender holds 512 unacknowledged cells and sends no new one (R182). -/
def Tunnel.full (t : Tunnel) : Bool := reliable t.p.cls && decide (512 ≤ t.unacked.length)

/-- Payload of a control or status cell (R181). -/
def cmsgPayload (cmsg cause kgen eseq : Nat) (share : List Word) : List Byte :=
  [BitVec.ofNat 8 cmsg, BitVec.ofNat 8 cause] ++ numBytes kgen 2 ++ numBytes eseq 8 ++
    (if share.isEmpty then [] else List.replicate 4 0 ++ share.flatMap wordBytesLE)

/-- Emit a control cell, or let it wait while the sender is full; it takes no token from P (R182, R235). -/
def State.emitControl (s : State) (idx : Nat) (payload : List Byte) : State :=
  match s.tunAt idx with
  | none => s
  | some t =>
    if t.full || !t.ctlWait.isEmpty then
      s.modTun idx fun t => { t with ctlWait := t.ctlWait ++ [{ ctype := 1, dest := 0, sop := true, eop := true, payload := payload }] }
    else
      let (t', ex) := t.takeC
      (s.modTun idx fun _ => t').emitSeq idx 1 0 true true ex payload none

/-! ### Rekeying -/

/-- Send REKEY_OFFER with a new keyshare, once the entry has an ephemeral slot (R178, R471). -/
def State.sendOffer (s : State) (idx k : Nat) : State :=
  match s.tunAt idx with
  | none => s
  | some t =>
    if t.eph.isNone || !t.ownShare.isEmpty then s
    else
      let (share, s) := s.ownKeyshare t
      (s.modTun idx fun t => { t with ownShare := share }).emitControl idx (cmsgPayload 5 0 k 0 share)

/-- Offer a rekey: REKEY_OFFER with KGEN + 1 and a new keyshare (R178, R179). -/
def State.offerRekey (s : State) (idx : Nat) : State :=
  match s.tunAt idx with
  | none => s
  | some t =>
    if t.offer.isSome || !(t.st == .up || t.st == .stalled) || !s.canSign then s
    else
      let k := (t.kgen + 1) % 65536
      ((s.modTun idx fun t => { t with offer := some k, offerRetry := false, repeats := 8, ownShare := [] }).takeEph idx).sendOffer idx k

/-- A direction that has sent 2³² cells under one key offers a rekey, unless it waits to offer again; at 2³³ it stops (R179). -/
def State.noteSent (s : State) (idx : Nat) : State :=
  match s.tunAt idx with
  | none => s
  | some t =>
    let s := if decide (2 ^ 33 ≤ t.txUnderKey) && !t.keyStop then
        let s := s.modTun idx fun t => { t with keyStop := true, stall := 7 }
        if t.st == .up then s.setTun idx .stalled 7 else s
      else s
    if decide (2 ^ 32 ≤ t.txUnderKey) && !t.offerRetry then s.offerRekey idx else s

/-- Send a data or mailbox cell with the next ESEQ. -/
def State.sendSeq (s : State) (idx ctype dest : Nat) (sop eop excess : Bool) (payload : List Byte) (ingress : Option Nat := none) : State :=
  (s.emitSeq idx ctype dest sop eop excess payload ingress).noteSent idx

/-- Send a control cell. -/
def State.sendControl (s : State) (idx cmsg cause kgen eseq : Nat) (share : List Word := []) : State :=
  (s.emitControl idx (cmsgPayload cmsg cause kgen eseq share)).noteSent idx

/-- Send a status cell with the next SSEQ (R180, R181, R235). -/
def State.sendStatus (s : State) (idx cmsg eseq : Nat) : State :=
  match s.tunAt idx with
  | none => s
  | some t =>
    let (t', ex) := t.takeC
    let c := t.seal true t.txSseq (t.cell 1 1 (t.txSseq % 65536) true true ex (cmsgPayload cmsg 0 0 eseq []))
    ((s.modTun idx fun _ => { t' with txSseq := (t.txSseq + 1) % 2 ^ 64 }).emit idx c t.port).noteSent idx

/-- Send an ACK of what has been delivered in order, if anything has (R182). -/
def State.sendAck (s : State) (idx : Nat) : State :=
  match s.tunAt idx with
  | none => s
  | some t =>
    let s := s.modTun idx fun t => { t with sinceAck := 0, ackTimer := false }
    if t.rxEseq = 0 then s else s.sendStatus idx 1 (t.rxEseq - 1)

/-- The offering end abandons its rekey and keeps the current key (R179). -/
def State.dropOffer (s : State) (idx : Nat) (retry : Bool) : State :=
  (s.modTun idx fun t => { t with offer := none, offerRetry := retry, ownShare := [] }).dropEph idx

/-- Derive the key of a new KGEN from this end's keyshare and the other's, and keep the older key until it can be retired (R176, R178). -/
def State.newKey (s : State) (idx kgen : Nat) : State :=
  match s.tunAt idx with
  | none => s
  | some t =>
    let own := s.sys.hubId
    let key := tunnelKey (s.ephKey t) t.farShare t.ownShare t.endA t.number (if t.endA then own else t.farHub) (if t.endA then t.farHub else own) kgen
    s.modTun idx fun t => { t with
      oldKey := some (t.kgen, t.key), kgen := kgen, key := key, rxNew := false, newEseq := none, newSseq := none, keyAt := s.clockNs, offer := none
      ownShare := [] }

/-- This end sends under the newer key from now (R178, R179). -/
def State.startKey (s : State) (idx : Nat) : State :=
  s.modTun idx fun t => { t with keyEnd := t.txEseq, txUnderKey := 0, keyStop := false }

/-- A rekey completes: EV083, and a direction stopped at the key limit goes on (R179, R194). -/
def State.rekeyed (s : State) (idx kgen : Nat) : State :=
  match s.tunAt idx with
  | none => s
  | some t =>
    let s := s.raise 83 [(idx, 14), (kgen, 16)] (.tenant t.p.tenant)
    if t.st == .stalled && t.stall == 7 then (s.modTun idx fun t => { t with stall := 0 }).setTun idx .up 1 else s

/-! ### Closing -/

/-- Send CLOSE with the ESEQ of the last data cell; the spec names none where no data cell has been sent (R181; log entry 164). -/
def State.sendClose (s : State) (idx cause : Nat) : State :=
  match s.tunAt idx with
  | none => s
  | some t =>
    match t.lastData with
    | some e => s.sendControl idx 3 cause 0 e
    | none => let (v, s) := s.draw; s.sendControl idx 3 cause 0 (v.extractLsb' 0 64).toNat

/-- Release once the close exchange is complete and this end's cells are acknowledged (R186 steps 4 and 5). -/
def State.maybeRelease (s : State) (idx : Nat) : State :=
  match s.tunAt idx with
  | none => s
  | some t =>
    if t.st == .closing && t.gotClose && t.began && (t.unacked.isEmpty || !reliable t.p.cls) then s.sendRelease idx t.closeCause else s

/-- Begin the close of a tunnel (R174, R186 step 1). In OPENING there is no exchange: the release follows once the number is known. -/
def State.beginClose (s : State) (idx cause : Nat) : State :=
  match s.tunAt idx with
  | none => s
  | some t =>
    if t.st == .opening then
      let s := (s.modTun idx fun t => { t with began := true, closeCause := cause, gotClose := true }).setTun idx .closing cause
      s.maybeRelease idx
    else if t.st == .up || t.st == .stalled then
      let s := (s.modTun idx fun t => { t with began := true, closeCause := cause, repeats := 8 }).setTun idx .closing cause
      (s.modTun idx fun t => { t with waiting := [] }).sendClose idx cause
    else s

/-! ### Policers -/

/-- Bucket gain of a tick at a rate, to the nearest 2⁻³² cell: rate × 0.0524288 / 1,792 cells (R232). -/
def tickGain (rate : Nat) : Nat := (rate * 2 ^ 51 + 8960000000) / 17920000000

/-- Fill the buckets of a policer at a refill tick and cut them to their depths (R232, R234). -/
def Tunnel.refill (t : Tunnel) : Tunnel :=
  { t with cTok := Nat.min (t.cTok + tickGain t.p.cir) (t.p.cbs * wholeCell), pTok := Nat.min (t.pTok + tickGain t.p.pir) (t.p.pbs * wholeCell) }

/-- The policer of a data cell: a cell needs a token of P; with one of C it is committed (R234). -/
def Tunnel.police (t : Tunnel) : Option (Tunnel × Bool) :=
  if t.pTok < wholeCell then none else some ({ t with pTok := t.pTok - wholeCell }.takeC)

/-- A tunnel takes a new cell: it is UP, its direction is not stopped, and a reliable sender holds fewer than 512 (R179, R182). -/
def Tunnel.canSend (t : Tunnel) : Bool := t.st == .up && !t.keyStop && !t.full

/-- Send the control cells and the cells of mailbox PDUs that wait, each as soon as there is room: they do not wait for the policer (R182,
R235). -/
def State.sendCtlN : Nat → State → Nat → State
  | 0, s, _ => s
  | n + 1, s, idx =>
    match s.tunAt idx with
    | none => s
    | some t =>
      match t.ctlWait with
      | [] => s
      | c :: rest =>
        if t.full || (c.ctype == 5 && !t.canSend) then s
        else
          let (t', ex) := t.takeC
          sendCtlN n ((s.modTun idx fun _ => { t' with ctlWait := rest }).sendSeq idx c.ctype.toNat c.dest.toNat c.sop c.eop ex c.payload) idx

/-- Send the data cells that wait at a tunnel's port, as far as its policer lets them (R234). -/
def State.sendDataN : Nat → State → Nat → State
  | 0, s, _ => s
  | n + 1, s, idx =>
    match s.tunAt idx with
    | none => s
    | some t =>
      match t.waiting with
      | [] => s
      | c :: rest =>
        if !t.canSend then s
        else
          match t.police with
          | none => s
          | some (t', ex) =>
            sendDataN n ((s.modTun idx fun _ => { t' with waiting := rest }).sendSeq idx 1 c.dest.toNat c.sop c.eop ex c.payload) idx

/-- Send what waits at a tunnel's port. -/
def State.sendWaiting (s : State) (idx : Nat) : State :=
  let s := s.sendCtlN (((s.tunAt idx).map (·.ctlWait.length)).getD 0) idx
  s.sendDataN (((s.tunAt idx).map (·.waiting.length)).getD 0) idx

/-- An opening tunnel enters UP: both buckets full, counters at 0 (R171 step 9, R180, R234). -/
def State.enterUp (s : State) (idx : Nat) : State :=
  match s.tunAt idx with
  | none => s
  | some t =>
    (s.modTun idx fun _ => { t with
      cTok := t.p.cbs * wholeCell, pTok := t.p.pbs * wholeCell, upAt := none, txEseq := 0, rxEseq := 0, txSseq := 0, rxSseq := 0, quiet := false }).setTun idx .up 1

end Sys2Proof.Machine
end

