-- ==== Sys2Proof/Machine/Allotment.lean ====
section
/-!
DEFINITION. Allotment (07_allotment.md): staging and applying epochs (R247 to R252, R255, R256), queue parameters and commit scaling (R239
to R241), the refill tick (R232, R233), the ROOT's allotment service (R172, R240, R252, R253), and the ALLOT commands (R257 to R260).
-/

namespace Sys2Proof.Machine

/-! ### Epochs -/

/-- An epoch number is ahead of another (R247). -/
def epochAhead (e f : Nat) : Bool :=
  let d := (e + 2 ^ 32 - f % 2 ^ 32) % 2 ^ 32
  decide (1 ≤ d) && decide (d ≤ 2 ^ 31 - 1)

/-- An allotment entry as clamped, with the number of fields changed (R256). -/
def clampEntry (w0 w1 w2 w3 : Word) : AllotEntry × Nat :=
  let kind := fld w0 31 28
  if kind = 1 then
    let vl := fld w0 22 20
    let vl' := if bitAt w0 23 then vl else clampN 1 6 vl
    let wt := fld w1 7 0
    let wt' := if wt = 0 then 1 else wt
    let cd := fld w2 31 16
    let cd' := clampN 1 4096 cd
    let cn := fld w2 15 0
    let cn' := clampN 1 4096 cn
    ({ kind := 1, w0 := pack [(1, 4), (fld w0 27 24, 4), (fld w0 23 23, 1), (vl', 3), (fld w0 19 0, 20)],
       w1 := pack [(fld w1 31 8, 24), (wt', 8)], w2 := pack [(cd', 16), (cn', 16)], w3 := 0 },
     b2n (vl' != vl) + b2n (wt' != wt) + b2n (cd' != cd) + b2n (cn' != cn))
  else
    let cir := fld w1 31 8
    let pir := fld w2 31 8
    let pir' := Nat.max pir cir
    let cbs := fld w3 31 16
    let cbs' := clampN 1 4096 cbs
    let pbs := fld w3 15 0
    let pbs' := clampN cbs' 4096 pbs
    ({ kind := 2, w0 := pack [(2, 4), (0, 8), (fld w0 19 0, 20)], w1 := pack [(cir, 24)], w2 := pack [(pir', 24)],
       w3 := pack [(cbs', 16), (pbs', 16)] },
     b2n (pir' != pir) + b2n (cbs' != cbs) + b2n (pbs' != pbs))

/-- The entries of a STAGE, clamped. -/
def stageEntries (data : List Word) : Nat → Nat → List AllotEntry × Nat
  | 0, _ => ([], 0)
  | n + 1, k =>
    let b := 4 + 4 * k
    let (e, c) := clampEntry (wordAt data b) (wordAt data (b + 1)) (wordAt data (b + 2)) (wordAt data (b + 3))
    let (es, cs) := stageEntries data n (k + 1)
    (e :: es, c + cs)

/-- The first entry whose KIND is reserved (R255). -/
def reservedEntry (data : List Word) (count : Nat) : Option Nat :=
  (List.range count).find? fun k => let kd := fld (wordAt data (4 + 4 * k)) 31 28; kd != 1 && kd != 2

/-- The next eighth boundary at or after a phase count (R248). -/
def eighthUp (c : Nat) : Nat := (c + 32767) / 32768 * 32768 % 2 ^ 50

/-- Staged entries held, of all pending epochs (R248). -/
def State.stagedHeld (s : State) : Nat := s.allot.pendingEp.foldl (fun a e => a + e.entries.length) 0

/-- The epoch number may be staged: a hub that has had none in force since it joined takes the first staged to it (R247, R248). -/
def State.stageNumberOk (s : State) (no : Nat) : Bool :=
  match s.allot.pendingEp.find? (·.no == no) with
  | some e => !e.closed && (!s.allot.numbered || epochAhead no s.allot.epochNo)
  | none =>
    if s.allot.numbered then epochAhead no s.allot.epochNo
    else match s.allot.pendingEp with
      | [] => true
      | e :: _ => epochAhead no e.no

/-- Index of the kept scheduler entry of a new pending epoch (R88, R249). -/
def State.epochSlot (s : State) : Nat := (leastFree (s.sched.entries.map (·.idx)) 960 4).getD 963

/-- Put an epoch among the pending ones, in number order. -/
def insertEpoch (e : Epoch) : List Epoch → List Epoch
  | [] => [e]
  | x :: xs => if epochAhead x.no e.no then e :: x :: xs else x :: insertEpoch e xs

/-- Take back the STAGE last run, which a control restart finds not yet answered (R250). -/
def State.unstage (s : State) : State :=
  match s.allot.undo with
  | none => s
  | some (no, old) =>
    let s := { s with allot.undo := none }
    if s.allot.pendingEp.any (·.no == no) then
      let s := { s with allot.pendingEp := s.allot.pendingEp.filter (·.no != no) }
      match old with
      | some e => { s with allot.pendingEp := insertEpoch e s.allot.pendingEp }
      | none => { s with sched.entries := s.sched.entries.filter fun (e : SchedEntry) => !(e.action == 5 && e.target == no) }
    else s

/-- Carry out an ALLOT.STAGE (R247, R248, R250, R255). -/
def State.stage (s : State) (data : List Word) : State × Response :=
  let no := (wordAt data 0).toNat
  let count := fld (wordAt data 3) 15 0
  let last := bitAt (wordAt data 3) 31
  match reservedEntry data count with
  | some k => (s, failR 0x10 k)
  | none =>
    if !s.stageNumberOk no then (s, failR 0x51)
    else if 8192 < s.stagedHeld + count then (s, failR 0x40)
    else
      let (es, clamps) := stageEntries data count 0
      match s.allot.pendingEp.find? (·.no == no) with
      | some e =>
        let past := !laterCount e.inst s.phase.count
        let e' : Epoch := { e with entries := e.entries ++ es, closed := last, late := e.late || (last && past), fired := e.fired || (last && past) }
        ({ s with allot.pendingEp := s.allot.pendingEp.map fun (x : Epoch) => if x.no == no then e' else x },
         okC (clamps != 0) (pack [(e'.entries.length, 16), (clamps, 16)] :: wd2 e'.inst))
      | none =>
        if 4 ≤ s.allot.pendingEp.length then (s, failR 0x40)
        else
          let given := u64At data 1 % 2 ^ 50
          let up := eighthUp given
          let floor := (s.allot.pendingEp.filter fun x => epochAhead no x.no).foldl (fun a x => if laterCount x.inst a then x.inst else a) up
          let atC := b2n (floor != given)
          let past := !laterCount floor s.phase.count
          let e : Epoch := { no := no, inst := floor, closed := last, entries := es, fired := last && past, late := last && past }
          let slot := s.epochSlot
          let s := { s with allot.pendingEp := insertEpoch e s.allot.pendingEp }
          let s := if past then s else s.keepEntry { idx := slot, action := 5, target := no, inst := floor, left := some 1 }
          (s, okC (clamps + atC != 0) (pack [(es.length, 16), (clamps + atC, 16)] :: wd2 floor))

/-- Report an epoch's outcome: EV072, and ALLOT.APPLIED to the ROOT, kept until a control restart ends (R250, R251, R260). -/
def State.reportEpoch (s : State) (no outcome orphans : Nat) : State :=
  let ws := [pack [(s.sys.hubId, 16), (outcome, 8)], wd no, pack [(0, 16), (Nat.min orphans 65535, 16)]]
  let s := s.raise 72 [(outcome, 4), (no, 16)]
  if s.mbx.restart then { s with allot.reports := s.allot.reports ++ [ws] }
  else if s.isRoot || s.joined then s.sendRoot 0x2341 ws else s

/-- The queue that a selector names, none when it names no queue (R250, R256, R258). -/
def State.selected (s : State) (w0 : Word) : Option QKey :=
  let e := fld w0 27 24
  if e = 15 then none
  else if bitAt w0 23 then
    match s.entryOf (fld w0 19 0) with
    | some x => if x.qsel && s.serves { egress := x.primary, tunQ := true, id := x.qid } e then some { egress := x.primary, tunQ := true, id := x.qid } else none
    | none => none
  else some (vlQueue e (clampN 1 6 (fld w0 22 20)))

/-- Apply one entry; false when it names nothing (R239, R249, R250, R253, R256). -/
def State.applyEntry (s : State) (e : AllotEntry) : State × Bool :=
  if e.kind = 1 then
    match s.selected e.w0 with
    | none => (s, false)
    | some k =>
      let q := s.queueOf k
      let cd := fld e.w2 31 16
      (s.putQueue { q with cr := fld e.w1 31 8, weight := fld e.w1 7 0, cd := cd, contrib := fld e.w2 15 0, tok := Nat.min q.tok (cd * wholeCell) }, true)
  else
    match s.tun.table.find? fun t => t.tx == fld e.w0 19 0 && t.number != 0 with
    | none => (s, false)
    | some t =>
      let cir0 := fld e.w1 31 8
      let cir := if t.p.cls = 2 then Nat.max cir0 1 else cir0
      let pir := if t.p.cls = 2 then cir else Nat.max (fld e.w2 31 8) cir
      let cbs := fld e.w3 31 16
      let pbs := fld e.w3 15 0
      let own := t.endA && t.change.isSome
      let s := s.modTun t.idx fun t => { t with
        p := { t.p with cir := cir, pir := pir, cbs := cbs, pbs := pbs }
        change := none, cTok := Nat.min t.cTok (cbs * wholeCell), pTok := Nat.min t.pTok (pbs * wholeCell) }
      (if own || t.st == .opening then s else s.raise 74 [(t.idx, 14), (0, 8)] (.tenant t.p.tenant), true)

/-- Apply an epoch: its entries, the number in force, the report, and the openings it carries (R249, R250, R252). -/
def State.applyEpoch (s : State) (e : Epoch) : State :=
  let (s, orphans) := e.entries.foldl (fun (s, n) x => let (s, ok) := s.applyEntry x; (s, if ok then n else n + 1)) (s, 0)
  let s := { s with
    allot.epochNo := e.no, allot.applied := true, allot.numbered := true, allot.lastAt := e.inst
    allot.orphan := bumpTo max32 s.allot.orphan orphans
    allot.late := if e.late then bump s.allot.late else s.allot.late
    allot.pendingEp := s.allot.pendingEp.filter (·.no != e.no), allot.gone := s.allot.gone.filter fun n => epochAhead n e.no }
  let s := s.reportEpoch e.no (b2n e.late) orphans
  s.tun.table.foldl (fun s t => match t.upAt with
    | some a => if t.st == .opening && !t.marked && !laterCount a e.inst then s.enterUp t.idx else s
    | none => s) s

/-- Discard an epoch that was not closed when AT arrived (R250). -/
def State.discardEpoch (s : State) (e : Epoch) : State :=
  { s with
    allot.epochNo := e.no, allot.numbered := true, allot.lastAt := e.inst, allot.incomplete := bump s.allot.incomplete
    allot.pendingEp := s.allot.pendingEp.filter (·.no != e.no), allot.gone := s.allot.gone.filter fun n => epochAhead n e.no }.reportEpoch e.no 2 0

/-- The scheduler entry of an epoch fires (R249, R250). -/
def State.epochFires (s : State) (no : Nat) : State :=
  match s.allot.pendingEp.find? (·.no == no) with
  | none => s
  | some e =>
    if e.closed then { s with allot.pendingEp := s.allot.pendingEp.map fun (x : Epoch) => if x.no == no then { x with fired := true } else x }
    else s.discardEpoch e

/-- Remove the scheduler entries of epochs. -/
def State.dropEpochEntries (s : State) : State := { s with sched.entries := s.sched.entries.filter (·.action != 5) }

/-- TIME.RESTEP or a change of GEN discards every pending epoch, with outcome 3 for each (R250). -/
def State.invalidateEpochs (s : State) : State :=
  let es := s.allot.pendingEp
  let s := ({ s with allot.pendingEp := [], allot.gone := s.allot.gone ++ es.map (fun (e : Epoch) => e.no), allot.invalid := bumpTo max32 s.allot.invalid es.length }).dropEpochEntries
  es.foldl (fun s e => s.reportEpoch e.no 3 0) s

/-- A hub that leaves the tree discards its pending epochs without a report (R250). -/
def State.forgetEpochs (s : State) : State := ({ s with allot.pendingEp := [], allot.gone := [] }).dropEpochEntries

/-! ### Commit scaling -/

/-- Sum of the CRs of an egress's queues, in rate units; a VL1 queue that stands at its default counts too (R239, R241). -/
def State.crSum (s : State) (e : Nat) : Nat :=
  let qs := s.fwd.queues.filter fun q => s.serves q.key e
  qs.foldl (fun a q => a + q.cr) (if qs.any (·.key == vlQueue e 1) then 0 else 15625)

/-- S × 100 of an egress, rounded down (R258, R261). -/
def scale100 : Option (Nat × Nat) → Nat
  | none => 100
  | some (pay, sum) => pay * 100 / sum

/-- Start or stop scaling at an egress, with EV073 (R241). A trunk port without a lane has no payload rate and is not scaled. -/
def State.rescale (s : State) (e : Nat) : State :=
  let pay := s.egressKbps e
  let sum := 64 * s.crSum e
  let was := (s.eg e).scale
  if pay != 0 && decide (pay < sum) then
    let s := s.modEgress e fun x => { x with scale := some (pay, sum) }
    if was.isNone then s.raise 73 [(1, 1), (e, 4), (pay * 100 / sum, 8)] else s
  else if was.isSome then (s.modEgress e fun x => { x with scale := none }).raise 73 [(0, 1), (e, 4), (100, 8)]
  else s

/-- Gain of a commit bucket at a tick: CR, or CR × S while its egress is scaled (R232, R241). -/
def queueGain (cr : Nat) : Option (Nat × Nat) → Nat
  | none => tickGain cr
  | some (pay, sum) => (cr * pay * 2 ^ 51 + 8960000000 * sum) / (17920000000 * sum)

/-- Fill a queue's commit bucket and cut it to its depth (R232, R239). -/
def State.refillQueue (s : State) (q : Queue) : Queue :=
  { q with tok := Nat.min (q.tok + queueGain q.cr (s.eg q.key.egress).scale) (q.cd * wholeCell) }

/-- The VL1 queues of every egress are in use from the start, since their CR fills their buckets (R239). -/
def State.listVl1 (s : State) : State :=
  (List.range 15).foldl (fun s e => if s.fwd.queues.any (·.key == vlQueue e 1) then s else s.putQueue (newQueue (vlQueue e 1))) s

/-- REFILL_TICK: closed epochs that have fired apply in number order, scaling starts or stops, every bucket gains its tokens, and
cells that wait for tokens are offered again (R232 to R234, R241, R249). -/
def execRefillTick (s : State) : Host.Outcome State Fault Refusal :=
  let s := (s.allot.pendingEp.filter fun e => e.closed && e.fired).foldl (fun s e => s.applyEpoch e) s
  let s := (List.range 15).foldl (fun s e => s.rescale e) s.listVl1
  let s := { s with fwd.queues := s.fwd.queues.map s.refillQueue, tun.table := s.tun.table.map Tunnel.refill }
  .next (s.tun.table.foldl (fun s t => s.sendWaiting t.idx) s)

/-! ### The ROOT's allotment service -/

/-- AT of the next epoch the ROOT names: the first eighth boundary at least 4 eighths ahead, one epoch to a boundary (R247, R248). -/
def State.nextAt (s : State) : Nat :=
  let a := eighthUp (s.phase.count + 4 * 32768)
  match s.allot.namedAt with
  | some b => if laterCount a b then a else (b + 32768) % 2 ^ 50
  | none => a

/-- Hubs an epoch is staged to: every joined hub (R247). -/
def State.treeHubs (s : State) : List Nat := s.sys.hubId :: s.topo.hubs.map (·.hub)

/-- The STAGEs of an epoch for one hub, at most 254 entries in each, the last with LAST (R248, R255). -/
def stagesFor (no inst : Nat) : Nat → List (List Word) → List (List Word)
  | 0, _ => []
  | n + 1, es =>
    let now := es.take 254
    let rest := es.drop 254
    (wd no :: wd2 inst ++ [pack [(b2n rest.isEmpty, 1), (0, 15), (now.length, 16)]] ++ now.flatten) ::
      (if rest.isEmpty then [] else stagesFor no inst n rest)

/-- Send a STAGE to a hub; the ROOT takes its own (R193, R247). -/
def State.stageTo (s : State) (hub : Nat) (data : List Word) : State :=
  if hub = s.sys.hubId then (s.stage data).1 else s.send (.peer hub 0x2310 data)

/-- Name an epoch and stage it to every joined hub, with the entries given for each (R247, R248). During a control restart of the ROOT no epoch is
named; the entries wait for the first after it (R250; log entry 171). -/
def State.nameEpoch (s : State) (entries : List (Nat × List Word)) : State × Nat :=
  let no := s.allot.nextEpoch
  let inst := s.nextAt
  if s.mbx.restart then ({ s with allot.heldShapes := s.allot.heldShapes ++ entries }, inst)
  else
  let s := { s with
    allot.nextEpoch := if no = 2 ^ 32 - 1 then 1 else no + 1, allot.namedAt := some inst, allot.named := ((no, entries) :: s.allot.named).take 8 }
  let s := s.treeHubs.foldl (fun s h =>
    let es := (entries.filter (·.1 == h)).map (·.2)
    (stagesFor no inst (es.length + 1) es).foldl (fun s data => s.stageTo h data) s) s
  (s, inst)

/-- Queue selector of a leg, as word 0 of a QSHAPE entry (R256). -/
def legSelector (number cls : Nat) (l : Leg) : Word :=
  pack [(1, 4), (l.egress, 4), (b2n l.qsel, 1), (if l.qsel then 0 else classVl cls, 3), (if l.qsel then 2 * number + b2n l.back else 0, 20)]

/-- Stage what waited for a control restart of the ROOT to end (R250; log entry 171). -/
def State.nameHeld (s : State) : State :=
  if s.allot.heldShapes.isEmpty then s else ({ s with allot.heldShapes := [] }.nameEpoch s.allot.heldShapes).1

/-- The tunnel is open: its end B has accepted it and it has not been released (R240). -/
def RootTun.stands (t : RootTun) : Bool := t.stage == .resulted

/-- The QSHAPE entry of a queue at a hub, from every open tunnel whose paths leave through it (R240). WEIGHT stays 1 (log entry 12). -/
def State.shapeOf (s : State) (hub : Nat) (sel : Word) : List Word :=
  let mine := ((s.tun.rootTuns.filter (·.stands)).map fun t => (t.legs.filter fun l => l.hub == hub && legSelector t.number t.p.cls l == sel).map fun l => (t.p, l.primary)).flatten
  let cr := Nat.min (mine.foldl (fun a (p, _) => a + p.cir) 0) 0xFFFFFF
  let cd := clampN 16 4096 (mine.foldl (fun a (p, _) => a + p.cbs) 0)
  let n := clampN 1 4096 (mine.filter (·.2)).length
  [sel, pack [(cr, 24), (1, 8)], pack [(cd, 16), (n, 16)], 0]

/-- The QSHAPE entries of every queue that a tunnel's legs concern (R240). -/
def State.shapesFor (s : State) (number cls : Nat) (legs : List Leg) : List (Nat × List Word) :=
  (legs.map fun l => (l.hub, legSelector number cls l)).eraseDups.map fun (h, sel) => (h, s.shapeOf h sel)

/-- A POLICE entry (R256). -/
def policeWords (tunnel : Nat) (p : OpenParams) : List Word :=
  [pack [(2, 4), (0, 8), (tunnel, 20)], pack [(p.cir, 24)], pack [(p.pir, 24)], pack [(p.cbs, 16), (p.pbs, 16)]]

/-- FWD.SET words of a leg (R199). -/
def legEntry (number : Nat) (valid : Bool) (l : Leg) : List Word :=
  [pack [(2 * number + b2n l.back, 20), (b2n valid, 1), (b2n l.qsel, 1), (0, 1), (b2n l.steer, 1)],
   pack [(l.egress, 4), (l.alternate, 4), (l.which, 1), (0, 7), (l.lo, 8), (l.hi, 8)], pack [(1, 16)]]

/-- Send a FWD.SET to a hub; the ROOT writes its own entries directly (R198). -/
def State.fwdSetAt (s : State) (hub : Nat) (ws : List Word) : State :=
  if hub = s.sys.hubId then (s.fwdSet (wordAt ws 0) (wordAt ws 1) (wordAt ws 2)).1 else s.send (.peer hub 0x2210 ws)

/-- Install the forwarding entries of a tunnel on every hub of its paths (R171 step 6). -/
def State.installLegs (s : State) (number : Nat) (legs : List Leg) : State :=
  (legs.filter (·.entry)).foldl (fun s l => s.fwdSetAt l.hub (legEntry number true l)) s

/-- Remove the forwarding entries of a tunnel, under FWD.BARRIER (R186 step 5). -/
def State.removeLegs (s : State) (number : Nat) (legs : List Leg) : State :=
  let s := (legs.filter (·.entry)).foldl (fun s l => s.fwdSetAt l.hub (legEntry number false l)) s
  ((legs.map (·.hub)).eraseDups.filter (· != s.sys.hubId)).foldl (fun s h => s.send (.peer h 0x2220 [pack [(10000, 16)]])) s

/-- Payload rate of a link direction in kb/s, as reported; both members of a bundle count (R172). -/
def State.linkKbps (s : State) (hub port : Nat) : Nat :=
  match s.tun.rates.find? fun r => r.hub == hub && r.port == port with
  | none => 0
  | some r =>
    if r.bundled then
      r.units + ((s.tun.rates.find? fun x => x.hub == hub && x.port == pairPort port && x.bundled).map (·.units)).getD 0
    else r.units

/-- CIRs of the admitted tunnels across a link direction (R172); a member of a bundle carries what its fellow does. -/
def State.linkCir (s : State) (hub port : Nat) (except : Nat) : Nat :=
  let same := fun (l : Leg) => l.hub == hub && (l.egress == port ||
    (l.egress == pairPort port && s.tun.rates.any fun r => r.hub == hub && r.port == port && r.bundled))
  ((s.tun.rootTuns.filter fun t => t.number != except && t.legs.any same).map (·.p.cir)).foldl (· + ·) 0

/-- Link directions that legs cross. -/
def legLinks (legs : List Leg) : List (Nat × Nat) := ((legs.filter (·.egress < 4)).map fun l => (l.hub, l.egress)).eraseDups

/-- A CIR fits every link direction of the legs, beside the tunnels already admitted (R172, R253). -/
def State.cirFits (s : State) (legs : List Leg) (cir except : Nat) : Bool :=
  (legLinks legs).all fun (h, p) => decide ((s.linkCir h p except + cir) * 6400 ≤ s.tun.cfg.admitPct * s.linkKbps h p)

/-- EV085 where a link direction's committed sum has come to exceed its share, or has fallen back within it (R172, R194). -/
def State.checkOver (s : State) : State :=
  s.tun.rates.foldl (fun s r0 =>
    match s.tun.rates.find? fun r => r.hub == r0.hub && r.port == r0.port with
    | none => s
    | some r =>
      let now := decide (s.tun.cfg.admitPct * s.linkKbps r.hub r.port < s.linkCir r.hub r.port 0 * 6400)
      if now = r.flagged then s
      else ({ s with tun.rates := s.tun.rates.map fun (x : LinkRate) => if x.hub == r.hub && x.port == r.port then { x with flagged := now } else x }).raise
        85 [(r.hub, 16), (r.port, 2), (b2n now, 1)]) s

/-- A hub's report of a link's rate (R172). -/
def State.setRate (s : State) (hub port kbps : Nat) (bundled : Bool) : State :=
  let old := ((s.tun.rates.find? fun r => r.hub == hub && r.port == port).map (·.flagged)).getD false
  let r : LinkRate := { hub := hub, port := port, units := kbps, bundled := bundled, flagged := old }
  ({ s with tun.rates := putBy (fun (x : LinkRate) => x.hub == hub && x.port == port) r s.tun.rates }).checkOver

/-- LINK_RATE_REPORT: the ROOT takes a hub's report of the rate and lane count of a link (R172). -/
def execLinkRateReport (hub : BitVec 16) (port : Fin 4) (kbps : Nat) (bundled : Bool) (s : State) : Host.Outcome State Fault Refusal :=
  .next (if s.headsTree then s.setRate hub.toNat port.val kbps bundled else s)

/-- This hub's report of the rate of a trunk port: to the ROOT on the ROOT channel, or its own entry at the ROOT (R172). -/
def State.reportRate (s : State) (p : Nat) : State :=
  let k := (s.tp p).payloadKbps
  if s.headsTree then s.setRate s.sys.hubId p k (s.tp p).bundled
  else if s.joined then s.send (.linkRate p k) else s

/-! ### Commands -/

/-- ALLOT_STAGE (R248, R250, R255). -/
def execAllotStage (s : State) : Host.Outcome State Fault Refusal :=
  runCmd 0x2310 s fun r s =>
    let no := (r.w 0).toNat
    let (s', a) := s.stage r.data
    ({ s' with allot.undo := if a.result = 0 ∨ a.result = 1 then some (no, s.allot.pendingEp.find? (·.no == no)) else none }, a)

/-- ALLOT_CANCEL: 0 cancelled, 1 already applied or discarded, 2 no such epoch (R250, R260). -/
def execAllotCancel (s : State) : Host.Outcome State Fault Refusal :=
  runCmd 0x2311 s fun r s =>
    let no := (r.w 0).toNat
    if s.allot.pendingEp.any (·.no == no) then
      ({ s with
          allot.pendingEp := s.allot.pendingEp.filter (·.no != no), allot.gone := s.allot.gone ++ [no]
          sched.entries := s.sched.entries.filter fun (e : SchedEntry) => !(e.action == 5 && e.target == no) }, okR [0])
    else (s, okR [pack [(if no == 0 || (epochAhead no s.allot.epochNo && !s.allot.gone.contains no) then 2 else 1, 8)]])

/-- The words of ALLOT.STATUS (R257). -/
def State.allotStatusWords (s : State) : List Word :=
  [wd s.allot.epochNo, pack [(s.allot.pendingEp.length, 8), (0, 10), (8192 - s.stagedHeld, 14)]] ++ wd2 s.allot.lastAt ++
    [s.allot.late, s.allot.incomplete, s.allot.invalid, s.allot.orphan, s.allot.skew, s.allot.policeDrop].map wd ++
    [wd ((List.range 15).foldl (fun a e => a + b2n (s.eg e).scale.isSome * 2 ^ e) 0)]

/-- ALLOT_STATUS (R257). -/
def execAllotStatus (s : State) : Host.Outcome State Fault Refusal := runRead 0x2301 s fun _ s => okR s.allotStatusWords

/-- The words of ALLOT.QUEUE for a queue (R258). -/
def State.queueWords (s : State) (k : QKey) : List Word :=
  let q := s.queueOf k
  let d := if (s.fellow k.egress).isSome && k.tunQ && decide (pairPort k.egress < k.egress) then q.deficit2 else q.deficit
  [pack [(q.cr, 24), (q.weight, 8)], pack [(q.cd, 16), (q.contrib, 16)], pack [(q.tok / wholeCell, 16), (Nat.min d 65535, 16)],
   pack [(Nat.min q.cells.length 65535, 16), (scale100 (s.eg k.egress).scale, 8), (0, 6), (b2n ((s.eg k.egress).active.contains k), 1), (b2n q.closed, 1)],
   wd q.committed, wd q.excessTx]

/-- ALLOT_QUEUE (R256, R258). -/
def execAllotQueue (s : State) : Host.Outcome State Fault Refusal :=
  runRead 0x2302 s fun r s =>
    match s.selected (r.w 0) with
    | some k => okC (!bitAt (r.w 0) 23 && (r.f 0 22 20 == 0 || r.f 0 22 20 == 7)) (s.queueWords k)
    | none => okR (List.replicate 6 0)

/-- Whether a mailbox may see a tunnel: a TENANT only its own (R52, R189). -/
def State.seesTun (s : State) (src : Source) (t : Tunnel) : Bool :=
  match s.srcTenant src with
  | some n => t.p.tenant == n
  | none => true

/-- The tunnel that a handle names for a mailbox (R189). -/
def State.tunFor (s : State) (r : Waiting) (h : Nat) : Option Tunnel :=
  match s.tunByHandle h with
  | some t => if s.seesTun r.src t then some t else none
  | none => none

/-- ALLOT_POLICER (R259). -/
def execAllotPolicer (s : State) : Host.Outcome State Fault Refusal :=
  runRead 0x2303 s fun r s =>
    match s.tunFor r (r.w 0).toNat with
    | some t => okR [pack [(t.p.cir, 24)], pack [(t.p.pir, 24)], pack [(t.p.cbs, 16), (t.p.pbs, 16)],
        pack [(t.cTok / wholeCell, 16), (t.pTok / wholeCell, 16)], wd t.excess, wd t.drops]
    | none => okR (List.replicate 6 0)

/-- Rates and depths clamped as OPEN_PARAMS are (R170, R190), and whether one was changed. -/
def clampRates (cls cir pir cbs pbs : Nat) : OpenParams × Bool :=
  let cir' := if cls = 2 ∧ cir = 0 then 1 else cir
  let pir' := if cls = 2 then cir' else Nat.max pir cir'
  let cbs' := clampN 1 4096 cbs
  let pbs' := clampN cbs' 4096 pbs
  ({ cls := cls, cir := cir', pir := pir', cbs := cbs', pbs := pbs' }, cir' != cir || pir' != pir || cbs' != cbs || pbs' != pbs)

/-- Ask the ROOT for other rates of a tunnel with ALLOT.REQUEST (R253). -/
def State.askRates (s : State) (t : Tunnel) (c : OpenParams) : State :=
  let p := { t.p with cir := c.cir, pir := c.pir, cbs := c.cbs, pbs := c.pbs }
  let s := s.modTun t.idx fun t => { t with change := some p }
  let s := { s with allot.requests := s.allot.requests.filter (fun (x : Nat × Nat) => x.2 != t.idx) ++ [(t.number, t.idx)] }
  s.sendRoot 0x2340 [pack [(2 * t.number, 20)], pack [(p.cir, 24)], pack [(p.pir, 24)], pack [(p.cbs, 16), (p.pbs, 16)]]

/-- ALLOT_CHANGE: sends ALLOT.REQUEST to the ROOT and is answered at once (R253, R260). -/
def execAllotChange (s : State) : Host.Outcome State Fault Refusal :=
  runCmd 0x2320 s fun r s =>
    match s.tunFor r (r.w 0).toNat with
    | none => (s, okR)
    | some t =>
      if t.st != .up then (s, failR 0x30)
      else
        let (c, ch) := clampRates t.p.cls (r.f 1 31 8) (r.f 2 31 8) (r.f 3 31 16) (r.f 3 15 0)
        (s.askRates t c, okC ch)

/-- Hub at the other end of the mailbox tunnel a PEER command came on; this hub for its own (R38). -/
def State.peerHub (s : State) (src : Source) : Nat :=
  match src with
  | .peer tun _ => ((s.tunAt tun).map (·.farHub)).getD 0
  | _ => s.sys.hubId

/-- The ROOT's answer to a rate change arrives: EV074 at end A, or at either end when it is refused (R253). -/
def State.changeAnswered (s : State) (tunnel reason : Nat) : State :=
  match s.allot.requests.find? (·.1 == tunnel / 2) with
  | none => s
  | some (_, idx) =>
    let s := { s with allot.requests := s.allot.requests.filter (fun (x : Nat × Nat) => x.2 != idx) }
    match s.tunAt idx with
    | none => s
    | some t =>
      let s := if reason = 0 then s else s.modTun idx fun t => { t with change := none }
      if t.endA || reason != 0 then s.raise 74 [(idx, 14), (reason, 8)] (.tenant t.p.tenant) else s

/-- ADMISSION_DENIED with a reason, in DETAIL and in the data (R564, R566). -/
def denyR (reason : Nat) (data : List Word) : Response := { result := 0x60, detail := reason, data := data }

/-- The ROOT's decision on a rate change (R253). -/
def State.decideChange (s : State) (hub tunnel cir pir cbs pbs : Nat) : State × Response :=
  match s.tun.rootTuns.find? fun t => t.number == tunnel / 2 with
  | none => (s, denyR 1 [pack [(1, 8)], 0, 0])
  | some t =>
    if t.hubA != hub && t.hubB != hub then (s, denyR 1 [pack [(1, 8)], 0, 0])
    else if t.p.cir < cir && !s.cirFits t.legs cir t.number then (s, denyR 3 [pack [(3, 8)], 0, 0])
    else
      let p := { t.p with cir := cir, pir := pir, cbs := cbs, pbs := pbs }
      let s := { s with tun.rootTuns := s.tun.rootTuns.map fun (x : RootTun) => if x.number == t.number then { x with p := p } else x }
      let es := (t.hubA, policeWords (2 * t.number) p) :: (t.hubB, policeWords (2 * t.number + 1) p) :: s.shapesFor t.number t.p.cls t.legs
      let (s, inst) := s.nameEpoch es
      (s.checkOver, okR (0 :: wd2 inst))

/-- ALLOT_REQUEST: run at the ROOT as a command; with `ans`, the ROOT's answer to this hub's own request arrives, with its TUNNEL and
REASON (R253, R260). -/
def execAllotRequest (ans : Option (BitVec 20 × Byte)) (s : State) : Host.Outcome State Fault Refusal :=
  match ans with
  | some (tunnel, reason) => .next (s.changeAnswered tunnel.toNat reason.toNat)
  | none => runCmd 0x2340 s fun r s =>
      let (s', a) := s.decideChange (s.peerHub r.src) (r.f 0 31 12) (r.f 1 31 8) (r.f 2 31 8) (r.f 3 31 16) (r.f 3 15 0)
      (if r.src == .self then s'.changeAnswered (r.f 0 31 12) (fld (wordAt a.data 0) 31 24) else s', a)

/-- What an entry of an epoch sets, at the values of now; nothing for a tunnel that has closed (R251). -/
def State.entryNow (s : State) (hub : Nat) (e : List Word) : Option (Nat × List Word) :=
  let w0 := wordAt e 0
  if fld w0 31 28 = 1 then some (hub, s.shapeOf hub w0)
  else (s.tun.rootTuns.find? fun t => t.number == fld w0 19 1).map fun t => (hub, policeWords (fld w0 19 0) t.p)

/-- ALLOT_APPLIED: the ROOT takes a hub's outcome; EV076 for outcomes 1 to 3, and the values of an epoch reported with outcome 2 or 3
are staged again at a later epoch. Of an epoch that the ROOT no longer remembers it stages every value of that hub (R251, R260; log entry 172). -/
def execAllotApplied (s : State) : Host.Outcome State Fault Refusal :=
  runCmd 0x2341 s fun r s =>
    let hub := r.f 0 31 16
    let outcome := r.f 0 15 8
    let s := if outcome = 0 then s else s.raise 76 [(hub, 16), (outcome, 4)]
    if outcome = 2 ∨ outcome = 3 then
      let sels := (((s.tun.rootTuns.filter (·.stands)).map fun t => (t.legs.filter (·.hub == hub)).map (legSelector t.number t.p.cls)).flatten).eraseDups
      let polices := (s.tun.rootTuns.filter fun t => t.hubA == hub || t.hubB == hub).map fun t =>
        (hub, policeWords (if t.hubA = hub then 2 * t.number else 2 * t.number + 1) t.p)
      let again := match s.allot.named.find? (·.1 == (r.w 1).toNat) with
        | some (_, es) => (es.filter (·.1 == hub)).filterMap fun e => s.entryNow hub e.2
        | none => (sels.map fun sel => (hub, s.shapeOf hub sel)) ++ polices
      ((s.nameEpoch again).1, okR)
    else (s, okR)

end Sys2Proof.Machine
end

