-- ==== Sys2Proof/Machine/Bridge.lean ====
section
/-!
DEFINITION. Endpoint and window bridges (09_bridge.md): accesses through BAR2 (R301 to R312), the far bridge (R300, R309 to R317), answers,
locked sequences (R313, R314), the EP commands (R321, R322) and the export and bridge records (R319, R320).
-/

namespace Sys2Proof.Machine

/-! ### Windows -/

/-- Tunnel of a window: none for this hub's own exports; `some none` when its tunnel is not UP (R302). -/
def State.windowTun (s : State) (w : Window) : Option (Option Nat) :=
  if w.handle = 0 then none
  else match s.tunByHandle w.handle with
    | some t => if t.st == .up then some (some t.idx) else some none
    | none => some none

/-- The function has a BAR2 that answers (R301, R430). -/
def State.bar2On (s : State) (fn : Nat) : Bool := s.domOn 9 && s.fnPresent fn && s.up

/-- LSID that accesses through a window carry: that of its complete sequence (R313). -/
def State.windowLsid (s : State) (fn win : Nat) : Nat :=
  ((s.bridge.seqs.find? fun q => q.fn == fn && q.win == win && q.complete && !q.expired).map (·.lsid)).getD 0

/-- Writes of a window in write-confirm mode that still wait for their WACK (R316). -/
def State.unconfirmed (s : State) (fn win : Nat) : Bool :=
  (s.bridge.out.any fun o => o.fn == fn && o.win == win && o.op == opWriteC) || s.bridge.port.any fun p => p.fn == fn && p.off / 2 ^ 27 == win

/-- Byte of an export that a window's offset names (R303). -/
def Window.memTarget (w : Window) (offset : Nat) : Nat := w.page * 4096 + offset

/-- Log a failure of a window's access at this hub. -/
def State.logWindow (s : State) (fn win cause slots target : Nat) : State :=
  let w := s.window fn win
  s.logBridge (fnSource fn) cause w.exp win slots target w.confirm 0

/-- Runs of consecutive writable slots, each run with its first slot number and at most `most` words; a run ends where `cut` begins a new
one. -/
def slotRuns (ok : BitVec 4 → Bool) (cut : Nat → Bool) (most : Nat) : List (BitVec 4 × Word) → Nat → List (Nat × List Word) → List (Nat × List Word)
  | [], _, acc => acc.reverse
  | (en, v) :: rest, i, acc =>
    if !ok en then slotRuns ok cut most rest (i + 1) acc
    else match acc with
      | (k, ws) :: old =>
        if k + ws.length = i && ws.length < most && !cut i then slotRuns ok cut most rest (i + 1) ((k, ws ++ [v]) :: old)
        else slotRuns ok cut most rest (i + 1) ((i, [v]) :: acc)
      | [] => slotRuns ok cut most rest (i + 1) [(i, [v])]

/-- Every byte of a word, or bytes 0 to 2 of an endpoint slot, are enabled (R304). -/
def slotOk (exp : Nat) (en : BitVec 4) : Bool := if exp = 0 then en &&& 7 == 7 else en == 0xF

/-- Delayed reads of a window that a write to a slot frees (R307). -/
def State.freeWritten (s : State) (fn win offset slots : Nat) : State :=
  { s with bridge.dr := s.bridge.dr.filter fun d =>
      !(d.fn == fn && d.win == win && decide (d.offset / 4 < offset / 4 + slots) && decide (offset / 4 < d.offset / 4 + slotsOf d.offset d.len)) }

/-- Hub whose exports a window reaches, 0 for this one. -/
def State.windowHub (s : State) (w : Window) : Nat := if w.handle = 0 then 0 else ((s.tunByHandle w.handle).map (·.farHub)).getD 0

/-- Prefetched bytes of every window that a write overlaps are dropped, each counted (R312). -/
def State.dropOverlap (s : State) (exp hub start n : Nat) : State :=
  let hit := fun (p : Prefetched) =>
    let w := s.window p.fn p.win
    w.exp == exp && s.windowHub w == hub && decide (p.start < start + n) && decide (start < p.start + p.data.length)
  (s.bridge.pf.filter hit).foldl (fun s _ => s.cntB 4) { s with bridge.pf := s.bridge.pf.filter fun p => !hit p }

/-- Send one run of a write as WRITE, or as WRITE_C with a tag (R305, R310, R316). -/
def State.sendRun (s : State) (fn win : Nat) (tun : Option Nat) (target : Nat) (ws : List Word) : State :=
  let w := s.window fn win
  let slots := if w.exp = 0 then ws.length else 0
  let bytes := if w.exp = 0 then 0 else 4 * ws.length
  let lsid := if w.exp = 0 then s.windowLsid fn win else 0
  if !w.confirm then s.sendPdu tun opWrite 0 0 lsid w.exp slots target bytes ws
  else match s.freeTag with
    | none => s
    | some tag =>
      let o : BrWrite := { fn := fn, win := win, tag := tag, op := opWriteC, exp := w.exp, target := target, slots := slots, bytes := bytes, tun := tun }
      { s with bridge.out := s.bridge.out ++ [o] }.sendPdu tun opWriteC 0 tag lsid w.exp slots target bytes ws

/-- A write through a valid window whose target can be reached. -/
def State.remundWindow (s : State) (fn win off : Nat) (slots : List (BitVec 4 × Word)) (tun : Option Nat) : State :=
  let w := s.window fn win
  let base := off % 2 ^ 27
  let first := if w.exp = 0 then base / 4 else 0
  let addr := fun (i : Nat) => if w.exp = 0 then w.epTarget (base + 4 * i) else w.memTarget (base / 4 * 4 + 4 * i)
  let runs := if w.exp = 0 then slotRuns (slotOk 0) (fun i => (first + i) % 4096 == 0) 16 slots 0 [] else slotRuns (slotOk w.exp) (fun _ => false) 1024 slots 0 []
  if w.confirm && decide (256 < s.tagsUsed.length + runs.length) then { s with bridge.port := s.bridge.port ++ [{ fn := fn, off := off, slots := slots }] }
  else
    let bad := (List.range slots.length).filter fun i => !slotOk w.exp ((slots.getD i (0, 0)).1)
    let s := bad.foldl (fun s i => s.logWindow fn win 5 (b2n (w.exp == 0)) (addr i)) s
    let s := if w.exp = 0 then s.freeWritten fn win off slots.length else s.dropOverlap w.exp (s.windowHub w) (w.memTarget base) (4 * slots.length)
    runs.foldl (fun s (k, ws) => s.sendRun fn win tun (addr k) ws) s

/-- A write of a function's BAR2 (R301 to R306, R310, R316). -/
def State.bar2Write (s : State) (fn off : Nat) (slots : List (BitVec 4 × Word)) : State :=
  let win := off / 2 ^ 27
  let w := s.window fn win
  if !w.valid then s.send (.pcieErr fn 1)
  else match s.windowTun w with
    | some none => s.logWindow fn win 8 (if w.exp = 0 then slots.length else 0) (if w.exp = 0 then w.epTarget (off % 2 ^ 27) else w.memTarget (off % 2 ^ 27))
    | t => s.remundWindow fn win off slots (t.bind id)

/-- Writes that wait at their ports go on, in order, once tags are free; a function's writes stay in order (R306). -/
def State.portDrain (s : State) : State :=
  s.bridge.port.foldl (fun s p =>
    if s.bridge.port.any (·.fn == p.fn) then { s with bridge.port := s.bridge.port ++ [p] } else s.bar2Write p.fn p.off p.slots) { s with bridge.port := [] }

/-- A read of export 0 through a window: the delayed read cases of R307. -/
def State.epRead (s : State) (fn win offset len : Nat) (tun : Option Nat) : State :=
  let w := s.window fn win
  let n := slotsOf offset len
  let retry := fun (s : State) => s.complete fn (List.replicate n retrySlot)
  match s.bridge.dr.find? fun d => d.fn == fn && d.win == win && d.offset == offset && d.len == len with
  | some d =>
    if d.st == .ready then (s.collect d d.cause d.data d.hub).portDrain
    else (s.modDr d.tag fun x => { x with held := true }).cntB 0
  | none =>
    match s.freeTag with
    | none => retry (s.cntB 1)
    | some tag =>
      if 16 ≤ (s.bridge.dr.filter (·.fn == fn)).length then retry (s.cntB 1)
      else
        let d : DelayedRead := { fn := fn, win := win, offset := offset, len := len, tag := tag, held := true, tun := tun }
        { s with bridge.dr := s.bridge.dr ++ [d] }.sendPdu tun opRead 0 tag (s.windowLsid fn win) 0 n (w.epTarget (offset % 2 ^ 27)) 0 []

/-- Prefetched bytes of a window that hold a read wholly (R312). -/
def State.prefetched (s : State) (fn win start n : Nat) : Option Prefetched :=
  s.bridge.pf.find? fun p => p.fn == fn && p.win == win && decide (p.start ≤ start) && decide (start + n ≤ p.start + p.data.length)

/-- A read of exports 1 to 15 through a window: held until DATA arrives (R309, R312, R316). -/
def State.memRead (s : State) (fn win offset len : Nat) (tun : Option Nat) : State :=
  let w := s.window fn win
  let n := slotsOf offset len
  let target := w.memTarget (offset % 2 ^ 27 / 4 * 4)
  match s.prefetched fn win target (4 * n) with
  | some p => (s.cntB 3).complete fn (wordsLE ((p.data.drop (target - p.start)).take (4 * n)))
  | none =>
    match s.freeTag with
    | none => s.complete fn (List.replicate n retrySlot)
    | some tag =>
      let wait := w.confirm && s.unconfirmed fn win
      let o : BrWrite := { fn := fn, win := win, tag := tag, op := opRead, exp := w.exp, target := target, bytes := 4 * n, tun := tun, sent := !wait }
      let s := { s with bridge.out := s.bridge.out ++ [o] }
      if wait then s else s.sendPdu tun opRead 0 tag 0 w.exp 0 target (4 * n) []

/-- BAR2_READ: function, offset in BAR2 and length in bytes (R301 to R304, R307, R309, R316). -/
def execBar2Read (fn : BitVec 5) (offset : BitVec 30) (len : BitVec 13) (s : State) : Host.Outcome State Fault Refusal :=
  let f := fn.toNat
  let off := offset.toNat
  let win := off / 2 ^ 27
  let w := s.window f win
  let n := slotsOf off len.toNat
  if !s.bar2On f || len == 0 then .next s
  else if !w.valid then .next (s.send (.pcieErr f 1))
  else match s.windowTun w with
    | some none =>
      if w.exp = 0 then .next ((s.logWindow f win 8 n (w.epTarget (off % 2 ^ 27))).complete f (List.replicate n 0))
      else .next ((s.logWindow f win 8 0 (w.memTarget (off % 2 ^ 27))).send (.pcieErr f 4))
    | t =>
      let tun := t.bind id
      if w.exp = 0 then
        if 64 < len.toNat || decide (off % 16384 + len.toNat > 16384) then
          .next ((s.logWindow f win 11 n (w.epTarget (off % 2 ^ 27))).send (.pcieErr f 1))
        else if w.confirm && s.unconfirmed f win then .next (s.complete f (List.replicate n retrySlot))
        else .next (s.epRead f win off len.toNat tun)
      else .next (s.memRead f win off len.toNat tun)

/-- BAR2_WRITE: consecutive slots with their byte enables; a write of a window in write-confirm mode that lacks tags waits at its port,
and so does what the function writes after it (R301 to R306, R310, R316). -/
def execBar2Write (fn : BitVec 5) (offset : BitVec 30) (slots : List (BitVec 4 × Word)) (s : State) : Host.Outcome State Fault Refusal :=
  .next (if !s.bar2On fn.toNat then s
    else if s.bridge.port.any (·.fn == fn.toNat) then { s with bridge.port := s.bridge.port ++ [{ fn := fn.toNat, off := offset.toNat, slots := slots }] }
    else s.bar2Write fn.toNat offset.toNat slots)

/-- DELAYED_READ_HOLD_END: the held completion is given with the retry answer (R307). -/
def execDelayedReadHoldEnd (tag : Byte) (s : State) : Host.Outcome State Fault Refusal :=
  match s.bridge.dr.find? fun d => d.tag == tag.toNat && d.held with
  | some d => .next ((s.modDr d.tag fun x => { x with held := false }).complete d.fn (List.replicate (slotsOf d.offset d.len) retrySlot))
  | none => .next s

/-- DELAYED_READ_COLLECT_EXPIRY: a READY entry is discarded (R308). -/
def execDelayedReadCollectExpiry (tag : Byte) (s : State) : Host.Outcome State Fault Refusal :=
  match s.bridge.dr.find? fun d => d.tag == tag.toNat && d.st == .ready with
  | some d => .next (((s.dropDr d.tag).cntB 2).logWindow d.fn d.win 10 (slotsOf d.offset d.len) ((s.window d.fn d.win).epTarget (d.offset % 2 ^ 27))).portDrain
  | none => .next s

/-- MEM_READ_TIMEOUT: a memory read completes as Completer Abort (R309). -/
def execMemReadTimeout (tag : Byte) (s : State) : Host.Outcome State Fault Refusal :=
  match s.bridge.out.find? fun o => o.tag == tag.toNat && o.op == opRead with
  | some o => .next (((s.dropOut o.tag).logWindow o.fn o.win 8 0 o.target).send (.pcieErr o.fn 4)).portDrain
  | none => .next s

/-- PREFETCH_EXPIRY (R312). -/
def execPrefetchExpiry (fn : BitVec 5) (win : BitVec 3) (s : State) : Host.Outcome State Fault Refusal :=
  .next { s with bridge.pf := s.bridge.pf.filter fun p => !(p.fn == fn.toNat && p.win == win.toNat) }

/-! ### The far side: endpoints -/

end Sys2Proof.Machine

namespace Sys2Proof

/-- Tunnel index of a PDU's source, none for this hub's own bridge. -/
def BrFrom.index : BrFrom → Option Nat
  | .tun i => some i.toNat
  | .fn _ => none

end Sys2Proof

namespace Sys2Proof.Machine

/-- Tenant of a PDU's source (R300). -/
def State.fromTenant (s : State) (src : BrFrom) : Nat :=
  match src with
  | .tun i => ((s.tunAt i.toNat).map (·.p.tenant)).getD 0
  | .fn n => s.fnTenant n.toNat

/-- The tunnel is one that reaches an export: an endpoint bridge tunnel for export 0, a memory bridge tunnel for the others (R299, R302). -/
def bridgeTunnel (t : Tunnel) (exp : Nat) : Bool :=
  if exp = 0 then t.p.cls == 0 else t.p.cls == 6 && t.p.farEp == 0x800000 && t.p.farHub != 0

/-- A PDU is heard: it comes on a bridge tunnel, or it is this hub's own (R299). -/
def State.hears (s : State) (src : BrFrom) : Bool :=
  match src with
  | .tun i => (s.tunAt i.toNat).any fun t => bridgeTunnel t 0 || bridgeTunnel t 1
  | .fn _ => true

/-- A PDU's tunnel reaches the export that it names (R299). -/
def State.reaches (s : State) (src : BrFrom) (exp : Nat) : Bool :=
  match src with
  | .tun i => (s.tunAt i.toNat).any fun t => bridgeTunnel t exp
  | .fn _ => true

/-- Cause for an export that a tunnel does not reach: as for one that does not exist (R300, R306). -/
def noExport (exp : Nat) : Nat := if exp = 0 then 1 else 12

/-! ### The far side: memory -/

/-- Size of an export in bytes (R319). -/
def ExportCfg.size (e : ExportCfg) : Nat := 2 ^ e.sizeLog2

/-- An export that the tenant may reach (R300). -/
def State.exportFor (s : State) (tenant exp : Nat) : Option ExportCfg :=
  let e := s.bridge.exports.getD exp {}
  if e.valid && (tenant == 0 || e.tenant == tenant || e.shared) then some e else none

/-- A word of LPDDR5X, least significant byte at the lowest address. -/
def State.memWord (s : State) (a : Nat) : Word :=
  (dramRead s.dram (a + 3)) ++ (dramRead s.dram (a + 2)) ++ (dramRead s.dram (a + 1)) ++ (dramRead s.dram a)

/-- Words of LPDDR5X. -/
def State.memWords (s : State) (a n : Nat) : List Word := (List.range n).map fun i => s.memWord (a + 4 * i)

/-- Bytes a read of an export with SEFREE fetches beyond the request: to PREFETCH bytes, the end of the export and the next 4 KiB boundary
(R312). -/
def State.extraBytes (s : State) (e : ExportCfg) (target n : Nat) : Nat :=
  if e.sefree then
    let stop := target + n
    Nat.min (4096 - n) (Nat.min s.bridge.cfg.prefetch (Nat.min (e.size - stop) ((4096 - stop % 4096) % 4096)))
  else 0

/-- LPDDR5X range that an export may reach: below the hub area (R298, R517). -/
def State.dramReach (s : State) (a n : Nat) : Bool := decide (a + n ≤ s.sys.hubBase) && s.domOn 3

/-- A read of an export: cause and words; `dev` is what the device of a root port answers (R298, R303, R306, R312). -/
def State.exportRead (s : State) (tenant exp target n : Nat) (dev : Option (List Word)) : Nat × List Word :=
  match s.exportFor tenant exp with
  | none => (12, [])
  | some e =>
    if e.size < target + n then (6, [])
    else if e.kind = 0 then
      let k := n + s.extraBytes e target n
      if s.dramReach (e.base + target) k then (0, s.memWords (e.base + target) (k / 4)) else (7, [])
    else match dev with
      | some ws => (0, ws.take ((n + s.extraBytes e target n) / 4))
      | none => (7, [])

/-- A write of an export (R298, R303, R306). -/
def State.exportWrite (s : State) (tenant exp target : Nat) (ws : List Word) (dev : Bool) : State × Nat :=
  match s.exportFor tenant exp with
  | none => (s, 12)
  | some e =>
    if e.size < target + 4 * ws.length then (s, 6)
    else if e.kind = 0 then
      if s.dramReach (e.base + target) (4 * ws.length) then (s.memWrite (e.base + target) (ws.map wordBytesLE).flatten, 0) else (s, 7)
    else (s, if dev then 0 else 7)

/-- BRIDGE_READ (R300, R309, R312). -/
def execBridgeRead (src : BrFrom) (tag lsid : BitVec 16) (exp : BitVec 4) (slots : Byte) (target : BitVec 64) (bytes : BitVec 16)
    (dev : Option (List Word)) (s : State) : Host.Outcome State Fault Refusal :=
  if !s.hears src then .next s
  else if !s.reaches src exp.toNat then .next ((s.cntB 7).sendPdu src.index 0x81 (noExport exp.toNat) tag.toNat 0 exp.toNat 0 target.toNat 0 [])
  else if exp = 0 then .next (s.farStart src.index none tag.toNat lsid.toNat opRead target.toNat (clampN 1 16 slots.toNat) (s.fromTenant src) [])
  else
    let (cause, ws) := s.exportRead (s.fromTenant src) exp.toNat target.toNat bytes.toNat dev
    let s := if cause = 0 then s else s.cntB 7
    .next (s.sendPdu src.index 0x81 cause tag.toNat 0 exp.toNat 0 target.toNat (4 * ws.length) ws)

/-- BRIDGE_WRITE: WRITE, or WRITE_C with `confirmed` (R300, R310, R315, R316). -/
def execBridgeWrite (src : BrFrom) (confirmed : Bool) (tag lsid : BitVec 16) (exp : BitVec 4) (target : BitVec 64) (data : List Word) (dev : Bool)
    (s : State) : Host.Outcome State Fault Refusal :=
  let op := if confirmed then opWriteC else opWrite
  if !s.hears src || data.isEmpty then .next s
  else if !s.reaches src exp.toNat then
    .next ((s.cntB 7).sendPdu src.index (if confirmed then 0x83 else 0x82) (noExport exp.toNat) (if confirmed then tag.toNat else 0) 0 exp.toNat 0 target.toNat 0 [])
  else if exp = 0 then .next (s.farStart src.index none tag.toNat lsid.toNat op target.toNat data.length (s.fromTenant src) data)
  else
    let (s, cause) := s.exportWrite (s.fromTenant src) exp.toNat target.toNat data dev
    let s := if cause = 0 then s else s.cntB 7
    .next (if confirmed then s.sendPdu src.index 0x83 cause tag.toNat 0 exp.toNat 0 target.toNat 0 []
      else if cause = 0 then s else s.sendPdu src.index 0x82 cause 0 0 exp.toNat 0 target.toNat 0 [])

/-- A sequence is upstream of another: the smaller depth, then the lower hub ID, then the lower source code (R314). -/
def Lock.upstream (a b : Lock) : Bool :=
  decide (a.depth < b.depth) || (a.depth == b.depth && (decide (a.hub < b.hub) || (a.hub == b.hub && decide (a.source < b.source))))

/-- BRIDGE_LOCK: granted, refused, or left waiting (R313, R314). -/
def execBridgeLock (src : BrFrom) (tag lsid : BitVec 16) (target : BitVec 64) (depth source : Byte) (hub : BitVec 16) (s : State) :
    Host.Outcome State Fault Refusal :=
  let l : Lock := { lsid := lsid.toNat, hub := hub.toNat, depth := depth.toNat, source := source.toNat, ep := target.toNat / 4096,
                    tun := src.index, tag := tag.toNat }
  let answer := fun (s : State) (status : Nat) => s.sendPdu src.index 0x84 status tag.toNat lsid.toNat 0 0 target.toNat 0 []
  if !s.hears src then .next s
  else match s.partPlace (s.fromTenant src) target.toNat with
    | .inl cause => .next (answer (s.cntB 7) cause)
    | .inr (g, _, _) =>
      match (s.sg g).lock with
      | none => .next (s.grantLock g l)
      | some held =>
        if held.lsid = l.lsid && held.tun = l.tun then .next (answer s 0)
        else if l.upstream held then .next (s.modSeg g fun x => { x with lockWait := x.lockWait ++ [l] })
        else .next (answer s 0x10)

/-- BRIDGE_UNLOCK (R313). -/
def execBridgeUnlock (src : BrFrom) (tag lsid : BitVec 16) (target : BitVec 64) (s : State) : Host.Outcome State Fault Refusal :=
  if !s.hears src then .next s
  else
    let mine := fun (l : Lock) => l.lsid == lsid.toNat && l.tun == src.index && l.ep == target.toNat / 4096
    let s := (List.range 16).foldl (fun s g =>
      let s := s.modSeg g fun x => { x with lockWait := x.lockWait.filter fun l => !mine l }
      if (s.sg g).lock.any mine then s.releaseLock g 0 else s) s
    .next (s.sendPdu src.index 0x85 0 tag.toNat lsid.toNat 0 0 target.toNat 0 [])

/-- LOCK_EXPIRY (R313, R314). -/
def execLockExpiry (seg : Fin 16) (s : State) : Host.Outcome State Fault Refusal := .next (s.releaseLock seg.val 1)

/-- BRIDGE_SUBSCRIBE (R317). -/
def execBridgeSubscribe (src : BrFrom) (firstEp : BitVec 24) (mask : BitVec 6) (s : State) : Host.Outcome State Fault Refusal :=
  if !s.hears src then .next s
  else
    let b : Subscription := { tun := src.index, src := match src with | .fn n => some (fnSource n.toNat) | .tun _ => none,
                              firstEp := firstEp.toNat, mask := mask.toNat, tenant := s.fromTenant src }
    .next { s with bridge.subs := putBy (fun (x : Subscription) => x.tun == b.tun && x.src == b.src && x.firstEp == b.firstEp) b s.bridge.subs }

/-! ### Locked sequences -/

/-- Send LOCK, or UNLOCK, for an endpoint of a sequence, with DEPTH_ID, HUB and a tag of its own; without a free tag it is not sent (R306, R313). -/
def State.sendLockPdu (s : State) (q : LockSeq) (op ep : Nat) : State :=
  match s.freeTag with
  | none => s
  | some tag =>
    let o : BrWrite := { fn := q.fn, win := q.win, tag := tag, op := op, target := ep * 4096, tun := q.tun, lsid := q.lsid }
    { s with bridge.out := s.bridge.out ++ [o] }.send (.bridge q.tun
      (pduBytes op 0 tag q.lsid 0 0 (ep * 4096) 0 ((if s.joined then s.depthNow else 255) * 256 + q.src.code) s.sys.hubId []))

/-- Release every lock a sequence holds (R313, R314). -/
def State.releaseSeq (s : State) (q : LockSeq) : State := (q.eps.take q.granted).foldl (fun s ep => s.sendLockPdu q 5 ep) s

/-- Remove a sequence. -/
def State.dropSeq (s : State) (lsid : Nat) : State := { s with bridge.seqs := s.bridge.seqs.filter (·.lsid != lsid) }

/-- Answer EP.LOCK for the mailbox of a sequence, when that command runs. -/
def State.answerLock (s : State) (q : LockSeq) (r : Response) : State :=
  match s.runningOp 0x3022 with
  | some c => if c.src = q.src then s.respond r else s
  | none => s

/-- LOCK_ACK: the next lock, the end of EP.LOCK, a back-off after a refusal, or a failure (R313, R314). -/
def State.lockAck (s : State) (q : LockSeq) (status : Nat) : State :=
  if status = 0 then
    let q := { q with granted := q.granted + 1 }
    let s := s.modSeq q.lsid fun _ => q
    match q.eps[q.granted]? with
    | some ep => s.sendLockPdu q 4 ep
    | none => (s.modSeq q.lsid fun x => { x with complete := true }).answerLock q (okR [pack [(0, 16), (q.lsid, 16)]])
  else if status = 0x10 then
    let s := (s.cntB 5).releaseSeq q
    let q := { q with granted := 0, refusals := q.refusals + 1, backoff := true }
    if 16 ≤ q.refusals then
      ((s.dropSeq q.lsid).answerLock q (failR 0x51)).raise 162 [(q.lsid, 16), (3, 4)] (.only q.src)
    else s.modSeq q.lsid fun _ => q
  else ((s.releaseSeq q).dropSeq q.lsid).answerLock q (failR (if status = 1 then 0x40 else 0x50) status)

/-- LOCK_BACKOFF_END: the whole sequence is sent again (R314). -/
def execLockBackoffEnd (lsid : BitVec 16) (s : State) : Host.Outcome State Fault Refusal :=
  match s.bridge.seqs.find? fun q => q.lsid == lsid.toNat && q.backoff with
  | some q => .next (((s.modSeq q.lsid fun x => { x with backoff := false })).sendLockPdu { q with backoff := false } 4 (q.eps.headD 0))
  | none => .next s

/-! ### Answers -/

/-- Window of this hub whose accesses go that way and cover a slot address: whom a posted write's ERR is for (R315). -/
def State.windowFor (s : State) (tun : Option Nat) (target : Nat) : Option (Nat × Nat) :=
  let handle := match tun with | some i => ((s.tunAt i).map (·.handle)).getD 0 | none => 0
  (((List.range 256).map fun k => (k / 8, k % 8)).find? fun (fn, win) =>
    let w := s.window fn win
    w.valid && w.handle == handle && (if w.exp = 0 then decide (w.firstEp * 4096 ≤ target) && decide (target < (w.firstEp + 8192) * 4096)
      else decide (w.page * 4096 ≤ target) && decide (target < w.page * 4096 + 2 ^ 27)))

/-- A memory read has its answer: the words asked for, with more kept as prefetched bytes, or Completer Abort (R309, R312). -/
def State.memAnswer (s : State) (o : BrWrite) (status : Nat) (data : List Word) (hub : Nat) : State :=
  let s := s.dropOut o.tag
  if status != 0 then
    (s.logBridge (fnSource o.fn) status o.exp o.win 0 o.target (s.window o.fn o.win).confirm hub).send (.pcieErr o.fn 4)
  else
    let n := o.bytes / 4
    let s := s.complete o.fn ((data ++ List.replicate n 0).take n)
    let more := ((data.drop n).map wordBytesLE).flatten
    if more.isEmpty then s
    else { s with bridge.pf := s.bridge.pf.filter (fun p => !(p.fn == o.fn && p.win == o.win)) ++
      [{ fn := o.fn, win := o.win, start := o.target + o.bytes, data := more }] }

/-- Memory reads of a window that waited for WACKs are sent once none is outstanding (R316). -/
def State.sendHeldReads (s : State) (fn win : Nat) : State :=
  if s.unconfirmed fn win then s
  else
    let due := s.bridge.out.filter fun o => o.fn == fn && o.win == win && o.op == opRead && !o.sent
    let s := { s with bridge.out := s.bridge.out.map fun (o : BrWrite) => if o.fn == fn && o.win == win then { o with sent := true } else o }
    due.foldl (fun s o => s.sendPdu o.tun opRead 0 o.tag 0 o.exp 0 o.target o.bytes []) s

/-- A WRITE_C has its WACK; a failure is logged (R315, R316). -/
def State.wack (s : State) (o : BrWrite) (status hub : Nat) : State :=
  let s := s.dropOut o.tag
  let s := if status = 0 then s else s.logBridge (fnSource o.fn) status o.exp o.win o.slots o.target true hub
  s.sendHeldReads o.fn o.win

/-- What an answer does: DATA, ERR, WACK, LOCK_ACK or UNLOCK_ACK; a PDU with a reserved OP is discarded and counted in `c_br_bad`
(R305, R307 to R309, R313 to R316). -/
def State.bridgeAnswer (s : State) (tun : Option (BitVec 14)) (op status : Byte) (tag lsid : BitVec 16) (target : BitVec 64) (data : List Word) : State :=
  let t := tun.map (·.toNat)
  let hub := match t with | some i => ((s.tunAt i).map (·.farHub)).getD 0 | none => 0
  let out := fun (k : Nat) => s.bridge.out.find? fun o => o.tag == tag.toNat && o.op == k && o.tun == t && o.sent
  let dr := s.bridge.dr.find? fun d => d.tag == tag.toNat && d.st == .pending && d.tun == t
  if op = 0x81 then
    match dr, out opRead with
    | some d, _ => (s.drAnswer d status.toNat data hub)
    | none, some o => (s.memAnswer o status.toNat data hub)
    | none, none => s
  else if op = 0x82 then
    match (if tag = 0 then none else dr), s.windowFor t target.toNat with
    | some d, _ => (s.drAnswer d status.toNat [] hub)
    | none, some (fn, win) => (s.logBridge (fnSource fn) status.toNat (s.window fn win).exp win 0 target.toNat false hub)
    | none, none => s
  else if op = 0x83 then (match out opWriteC with | some o => s.wack o status.toNat hub | none => s)
  else if op = 0x84 then
    match out 4, s.bridge.seqs.find? (·.lsid == lsid.toNat) with
    | some o, some q => ((s.dropOut o.tag).lockAck q status.toNat)
    | some o, none => (s.dropOut o.tag)
    | none, _ => s
  else if op = 0x85 then
    match out 5, s.bridge.seqs.find? fun q => q.lsid == lsid.toNat && q.tun == t with
    | some o, _ => (s.dropOut o.tag)
    | none, some q => (if status = 0 || q.granted ≤ q.lost then s else s.lockEnded q status.toNat)
    | none, none => s
  else if op.toNat ≤ 6 && op != 0 || op = 0x86 then s
  else s.cntB 8

/-- BRIDGE_ANSWER: DATA, ERR, WACK, LOCK_ACK or UNLOCK_ACK; a PDU with a reserved OP is discarded and counted in `c_br_bad`
(R305, R307 to R309, R313 to R316). -/
def execBridgeAnswer (tun : Option (BitVec 14)) (op status : Byte) (tag lsid : BitVec 16) (target : BitVec 64) (data : List Word) (s : State) :
    Host.Outcome State Fault Refusal :=
  .next (s.bridgeAnswer tun op status tag lsid target data).portDrain

/-- BRIDGE_INTR: EV161 in the mailbox of each window that covers the endpoint and asks for the bits (R317). -/
def execBridgeIntr (tun : Option (BitVec 14)) (ep : BitVec 24) (alarm : BitVec 18) (s : State) : Host.Outcome State Fault Refusal :=
  let handle := match tun with | some i => ((s.tunAt i.toNat).map (·.handle)).getD 0 | none => 0
  let bits := alarm.toNat / 4096
  .next ((List.range 256).foldl (fun s k =>
    let w := s.window (k / 8) (k % 8)
    if w.valid && w.intrEn && w.exp == 0 && w.handle == handle && decide (w.firstEp ≤ ep.toNat) && decide (ep.toNat < w.firstEp + 8192) &&
        (bits &&& w.intrMask) != 0 then
      s.raise 161 [(ep.toNat, 24), (bits, 6)] (.only (fnSource (k / 8)))
    else s) s)

/-! ### Commands -/

/-- Function of a request's mailbox, none when it is not a PCIe function (R321). -/
def fnOfSrc (src : Source) : Option Nat :=
  match src with
  | .win i => if 6 ≤ i.val then some (i.val - 6) else none
  | _ => none

/-- EP_BRIDGE: the counters as they were before any clear (R322). -/
def execEpBridge (s : State) : Host.Outcome State Fault Refusal :=
  runCmd 0x3001 s fun r s =>
    let locks := s.bridge.seqs.foldl (fun a q => a + (q.granted - q.lost)) 0
    let ws := pack [(256 - s.tagsUsed.length, 16), (locks, 16)] :: s.bridge.c.toList.map wd
    (if bitAt (r.w 0) 0 then { s with bridge.c := Vector.replicate 9 0 } else s, okR ws)

/-- The words of a window descriptor (R301). -/
def Window.words (w : Window) (win : Nat) : List Word :=
  [pack [(win, 3), (b2n w.valid, 1), (b2n w.confirm, 1), (b2n w.intrEn, 1), (0, 2), (w.exp, 4)], wd w.handle, pack [(w.intrMask, 6), (0, 2), (w.firstEp, 24)], wd w.page]

/-- EP_WINDOW (R301, R302, R317, R321). -/
def execEpWindow (s : State) : Host.Outcome State Fault Refusal :=
  runCmd 0x3010 s fun r s =>
    match fnOfSrc r.src with
    | none => (s, failR 0x40)
    | some fn =>
      let win := r.f 0 31 29
      let exp := r.f 0 23 20
      let handle := (r.w 1).toNat
      let asked := bitAt (r.w 0) 28
      let tunnel := s.tunFor r handle
      let reach := if handle = 0 then exp == 0 || (s.bridge.exports.getD exp {}).valid
        else match tunnel with
          | some t => t.st == .up && bridgeTunnel t exp
          | none => false
      let intr := bitAt (r.w 0) 26
      let w : Window := {
        valid := asked && reach, confirm := bitAt (r.w 0) 27, intrEn := intr && exp == 0, exp := exp, handle := handle
        intrMask := r.f 2 31 26, firstEp := r.f 2 23 0, page := (r.w 3).toNat }
      let s := { s with bridge.windows := modAt s.bridge.windows (fn * 8 + win) fun _ => w }
      let s := s.subscribe (if handle = 0 then none else tunnel.map (·.idx)) w
      (s, if asked && !reach then { result := 0x40, data := w.words win } else okC (intr && exp != 0) (w.words win))

/-- EP_WINGET (R321). -/
def execEpWinget (s : State) : Host.Outcome State Fault Refusal :=
  runRead 0x3011 s fun r s =>
    match fnOfSrc r.src with
    | none => failR 0x40
    | some fn => okR ((s.window fn (r.f 0 31 29)).words (r.f 0 31 29))

/-- An access of this mailbox runs already. -/
def State.epRuns (s : State) (src : Source) : Bool :=
  (s.bridge.far.any fun a => a.src == some src && a.op != opWrite) || s.bridge.wait.any (·.src == some src)

/-- Tenant that a mailbox's accesses are made for. -/
def State.accessTenant (s : State) (r : Waiting) : Nat := (s.srcTenant r.src).getD 0

/-- EP_READ: the command is answered when its Remund commands have ended (R322). -/
def execEpRead (s : State) : Host.Outcome State Fault Refusal :=
  match s.runningOp 0x3020 with
  | some r =>
    let n := r.f 1 19 16 + 1
    if s.epRuns r.src then .next s
    else if 4096 < r.f 1 11 0 + n then .next (s.respond (failR 0x50 11))
    else .next (s.farStart none (some r.src) 0 0 opRead (r.f 0 23 0 * 4096 + r.f 1 11 0) n (s.accessTenant r) [])
  | none => .next s

/-- EP_WRITE: without CONFIRM it completes when queued, with CONFIRM when its Remund commands are confirmed (R322). -/
def execEpWrite (s : State) : Host.Outcome State Fault Refusal :=
  match s.runningOp 0x3021 with
  | some r =>
    let n := r.f 1 19 16 + 1
    let confirm := bitAt (r.w 0) 31
    let target := r.f 0 23 0 * 4096 + r.f 1 11 0
    let tenant := s.accessTenant r
    if s.epRuns r.src then .next s
    else if 4096 < r.f 1 11 0 + n then .next (s.respond (failR 0x50 11))
    else .next (s.farStart none (some r.src) 0 0 (if confirm then opWriteC else opWrite) target n tenant (r.data.drop 2))
  | none => .next s

/-- EP_LOCK: answered when every lock is granted (R313, R314, R322). -/
def execEpLock (s : State) : Host.Outcome State Fault Refusal :=
  match s.runningOp 0x3022 with
  | some r =>
    match fnOfSrc r.src with
    | none => .next (s.respond (failR 0x40))
    | some fn =>
      let win := r.f 0 31 29
      let w := s.window fn win
      match s.bridge.seqs.find? fun q => q.fn == fn && q.win == win with
      | some q => .next (if q.complete || q.expired then s.respond (failR 0x30) else s)
      | none =>
        if !w.valid || w.exp != 0 then .next (s.respond (failR 0x40))
        else match s.windowTun w with
          | some none => .next (s.respond (failR 0x50 8))
          | t =>
            let eps := [r.f 1 23 0] ++ (if r.f 2 23 0 = 0 then [] else [r.f 2 23 0])
            let q : LockSeq := { lsid := s.bridge.nextLsid, fn := fn, win := win, eps := eps, src := r.src, tun := t.bind id }
            if s.freeTag.isNone then .next s
            else
              let next := if s.bridge.nextLsid = 65535 then 1 else s.bridge.nextLsid + 1
              .next ({ s with bridge.nextLsid := next, bridge.seqs := s.bridge.seqs ++ [q] }.sendLockPdu q 4 (eps.headD 0))
  | none => .next s

/-- EP_UNLOCK (R313, R321, R322). -/
def execEpUnlock (s : State) : Host.Outcome State Fault Refusal :=
  runCmd 0x3023 s fun r s =>
    match fnOfSrc r.src with
    | none => (s, failR 0x40)
    | some fn =>
      match s.bridge.seqs.find? fun q => q.lsid == r.f 0 15 0 && q.fn == fn && q.complete with
      | none => (s, okR [pack [(2, 8)]])
      | some q =>
        let s := s.releaseSeq q
        (s.dropSeq q.lsid, okR [pack [(b2n q.expired, 8)]])

/-- The six words of an error log entry (R315). -/
def ErrLogEntry.words (e : ErrLogEntry) : List Word :=
  pack [(e.source, 8), (e.cause, 8), (e.exp, 4), (e.win, 3), (b2n e.confirmed, 1), (e.slots, 8)] :: wd2 e.target ++ wd2 e.stamp.toNat ++
    [pack [(e.farHub, 16)]]

/-- EP_ERRLOG: a TENANT sees only entries of its own function (R322). -/
def execEpErrlog (s : State) : Host.Outcome State Fault Refusal :=
  runRead 0x3030 s fun r s =>
    let seen := if (s.srcTenant r.src).isSome then s.bridge.log.filter (·.source == r.src.code) else s.bridge.log
    let es := (seen.drop (r.f 0 5 0)).take 16
    okR (pack [(seen.length, 16), (es.length, 16)] :: (es.map ErrLogEntry.words).flatten)

/-- An EP command that runs is given up: Remund commands that no cycle frame has carried are withdrawn, and a sequence that is being
locked is released (R39, R318, R322). -/
def State.abortEp (s : State) : State :=
  match s.mbx.running with
  | some x =>
    if x.resp.isSome then s
    else if x.req.opcode = 0x3020 ∨ x.req.opcode = 0x3021 then
      let mine := fun (c : RmCmd) => c.origin == .bridge && c.src == some x.req.src && !c.posted && !c.carried
      { s with
        light.seg := s.light.seg.map fun (g : Segment) => { g with queue := g.queue.filter fun c => !mine c }
        bridge.far := s.bridge.far.filter fun a => !(a.src == some x.req.src && a.op != opWrite)
        bridge.wait := s.bridge.wait.filter (·.src != some x.req.src) }.farDrain
    else if x.req.opcode = 0x3022 then
      (s.bridge.seqs.filter fun q => q.src == x.req.src && !q.complete).foldl (fun s q => (s.releaseSeq q).dropSeq q.lsid) s
    else s
  | none => s

/-! ### Records -/

/-- The export record (R319). -/
def recExport (s : State) : RdM State := do
  let n ← rdC 0 31 28 1 15
  let kind ← rdE 0 27 26 (· != 3) 0
  let sefree ← rdB 0 25
  let shared ← rdB 0 24
  let size ← rdC 0 23 16 12 27
  let tenant ← rdR 0 15 0
  let base ← rd64 1 fun v => v / 2 ^ size * 2 ^ size
  let valid ← rdB 3 31
  let e : ExportCfg := { kind := kind, sefree := sefree, shared := shared, sizeLog2 := size, tenant := tenant, base := base, valid := valid }
  pure { s with bridge.exports := modAt s.bridge.exports n fun _ => e }

/-- The bridge record (R320). -/
def recBridge (s : State) : RdM State := do
  let hold ← rdC 0 31 16 10 1000
  let coll ← rdC 0 15 0 1 1000
  let lock ← rdC 1 31 16 5 1000
  let pf ← rdF 1 15 0 fun v => Nat.min v 4096 / 64 * 64
  pure { s with bridge.cfg := { holdUs := hold, collectMs := coll, lockMs := lock, prefetch := pf } }

end Sys2Proof.Machine
end

