-- ==== Sys2Proof/Machine/EthBase.lean ====
section
/-!
DEFINITION. Frames of NETWORK tunnels: the translation of CM to ECN at the receiving end (R215), and the hand-over to X7 or X6 (R404, R427).
-/

namespace Sys2Proof.Machine

/-- Byte `n` of a frame. -/
def frByte (f : List Byte) (n : Nat) : Nat := (f.getD n 0).toNat

/-- Two bytes of a frame. -/
def frHalf (f : List Byte) (n : Nat) : Nat := frByte f n * 256 + frByte f (n + 1)

/-- Put a byte of a frame. -/
def frPut (f : List Byte) (n v : Nat) : List Byte := f.set n (BitVec.ofNat 8 v)

/-- Place of the EtherType after up to `k` IEEE 802.1Q tags, from byte 12 on. -/
def etherAt (f : List Byte) : Nat → Nat → Nat
  | 0, n => n
  | k + 1, n => if frHalf f n = 0x8100 ∨ frHalf f n = 0x88A8 then etherAt f k (n + 4) else n

/-- Cells of a frame. -/
def frameCells (f : List Byte) : Nat := (f.length + 223) / 224

/-- The cells of a frame that is carried as one PDU (R166). -/
def pduCells (dest : Nat) (f : List Byte) : List Cell :=
  (List.range (frameCells f)).map fun k =>
    { ctype := 1, dest := BitVec.ofNat 24 dest, sop := k == 0, eop := k + 1 == frameCells f, payload := (f.drop (224 * k)).take 224 }

/-- A frame from a laptop goes into its port's NETWORK tunnel at X6 as one PDU, whose cells wait for the policer (R234, R236, R404). -/
def State.laptopFrame (s : State) (idx : Nat) (f : List Byte) : State :=
  (s.modTun idx fun t => { t with waiting := t.waiting ++ pduCells t.toward f }).sendWaiting idx

/-- One's complement sum of two 16-bit numbers. -/
def add1c (a b : Nat) : Nat := if a + b < 65536 then a + b else a + b - 65535

/-- What ECN translation does to a frame: nothing, only counted as Not-ECT, or marked CE (R215). -/
inductive EcnAct where
  | same
  | notEct
  | ce (frame : List Byte)
  deriving DecidableEq, Repr

/-- ECN translation of a frame whose PDU carried CM (R215). -/
def ecnTranslate (f : List Byte) : EcnAct :=
  let n := etherAt f 2 12
  let p := n + 2
  if frHalf f n = 0x0800 then
    let e := frByte f (p + 1) % 4
    if e = 0 then .notEct
    else if e = 3 then .same
    else
      let old := frHalf f p
      let f1 := frPut f (p + 1) (frByte f (p + 1) / 4 * 4 + 3)
      let sum := 65535 - add1c (add1c (65535 - frHalf f (p + 10)) (65535 - old)) (frHalf f1 p)
      .ce (frPut (frPut f1 (p + 10) (sum / 256)) (p + 11) (sum % 256))
  else if frHalf f n = 0x86DD then
    let b := frByte f (p + 1)
    let e := b / 16 % 4
    if e = 0 then .notEct else if e = 3 then .same else .ce (frPut f (p + 1) (b / 64 * 64 + 48 + b % 16))
  else .same

/-- A whole frame leaves a NETWORK tunnel: marked when a cell of its PDU carried CM, then handed to the laptop of the desk port whose
tunnel it is, or to X7 (R215, R404, R427). -/
def State.frameUp (s : State) (idx : Nat) (cm : Bool) (f : List Byte) : State :=
  let (s, f) := if cm then
      match ecnTranslate f with
      | .same => (s, f)
      | .notEct => (s.cntF 5 1, f)
      | .ce g => (s.cntF 4 1, g)
    else (s, f)
  match (List.finRange 4).find? fun p => (s.dk p.val).netTun == some idx with
  | some p => s.send (.usb p (2 :: f.map (·.toNat)))
  | none => s.send (.pdu idx 6 f)

end Sys2Proof.Machine
end

