-- ==== Sys2Proof/Machine/Topology.lean ====
section
/-!
DEFINITION. Roles, trees and joining (01_topology.md): the upstream (R18, R23), the join sequence (R19 to R21, R167), leaving the tree
(R22, R23, R187), and a tunnel's hop counts (R25, R172).
-/

namespace Sys2Proof.Machine

/-! ### Version and masks -/

/-- Jenridun version of this hub: JV of the Main bundle that runs (R493), else the version the board was delivered with. -/
def State.version (s : State) : Nat :=
  match s.upd.running.find? (·.id == 2) with
  | some c => if c.jv = 0 then Config.version.val else c.jv
  | none => Config.version.val

/-- A version lies within 1 of another (R117, R500). -/
def versionNear (a b : Nat) : Bool := decide (a ≤ b + 1) && decide (b ≤ a + 1)

/-- Mask of the upstream link's ports (R30). -/
def State.upstreamMask (s : State) : Nat := portMask s.isUpstream

/-! ### Choosing the upstream -/

/-- A neighbour shows by its depth that it has its upstream through this hub: it is deeper, on a port that is neither the upstream nor of a
ring. It no longer has when it is out of the tree, or, once this hub is, when it shows another depth than it did (`was`) (R18, R23; log entry
167). -/
def State.noteBelow (s : State) (p : Fin 4) (was : Nat) : State :=
  let d := ((s.trunk[p.val].nb).map (·.depth)).getD 255
  let deeper := s.joined && !s.isUpstream p && (s.ringOf p.val).isNone && decide (s.depthNow < d)
  let gone := decide (255 ≤ d) || (!s.joined && d != was)
  { s with topo.below := updAt s.topo.below p fun b => (b || deeper) && !gone }

/-- The way from a member of a ring to its head, out of one of its ring ports, meets a failed link: out of its first port it crosses the
links below its position, out of the other those from its position on (R150, R154). -/
def Ring.cutOff (r : Ring) (p : Nat) : Bool :=
  let cut := fun (f : Nat) => if r.portA.val = p then decide (f < r.pos) else decide (r.pos ≤ f)
  r.failed != 255 && (cut r.failed || r.failed2.any cut)

/-- A ring port that does not lead to the ROOT: one of a ring that this RELAY hub heads, or one whose way to the head is cut (R13, R154). -/
def State.ringBars (s : State) (p : Nat) : Bool :=
  match s.ringOf p with
  | none => false
  | some w => w == 0 || (s.rg w).cutOff p

/-- A port whose link may be the upstream: ACTIVE, not blocked, the lower member of a bundle, its neighbour in the tree and not below this
hub (R18, R23, R154). -/
def State.upCandidate (s : State) (p : Fin 4) : Bool :=
  let t := s.trunk[p.val]
  t.st == .active && !s.portBlocked p && !(t.bundled && p.val % 2 == 1) && !s.topo.below[p.val] && !s.ringBars p.val &&
    (match t.nb with | some n => decide (n.depth < 255) | none => false)

/-- Depth a port's neighbour advertises. -/
def State.nbDepth (s : State) (p : Fin 4) : Nat := ((s.trunk[p.val].nb).map (·.depth)).getD 255

/-- The better of two candidates: the smaller depth, then the lower port (R18). -/
def State.betterUp (s : State) (best : Option (Fin 4)) (p : Fin 4) : Option (Fin 4) :=
  if !s.upCandidate p then best
  else match best with
    | none => some p
    | some b => if s.nbDepth p < s.nbDepth b then some p else best

/-- The upstream that R18 chooses. -/
def State.chooseUp (s : State) : Option (Fin 4) := (List.finRange 4).foldl s.betterUp none

/-- A hub that may join: not a ROOT, with a hub ID, an identity key and a vault that is not LOCKED (R15, R19, R471, R484). -/
def State.mayJoin (s : State) : Bool := !s.isRoot && s.sys.hubId != 0 && s.canSign

/-- Parameters of a ROOT channel: a mailbox tunnel with depths of 64 cells and no committed rate (R168, R190; log entry 13). -/
def rootChanParams (far : Nat) : OpenParams := { cls := 1, farEp := 0, farHub := far, cir := 0, pir := 0xFFFFFF, cbs := 64, pbs := 64 }

/-- A request or a reply of the join: its kind and numbers, the keyshare and the CERT block of the hub that makes it (R19, R167, R175). -/
def joinWords (head : List Nat) (share : List Word) (cert : Cert) : List Nat := head ++ (share ++ certBlock cert).map (·.toNat)

/-- Send a join request on the chosen upstream, with a new keyshare and this hub's certificate (R19 step 2, R167). -/
def State.sendJoin (s : State) : State :=
  match s.topo.upstream with
  | none => { s with topo.join := .idle }
  | some p =>
    if s.mayJoin then
      let (k, s) := s.drawEph
      let (share, s) := s.makeShare k (rootChanParams 0) []
      { s with topo.join := .waiting, topo.joinKey := k, topo.joinShare := share }.send
        (.join p (joinWords [0, s.sys.hubId, s.sys.role.code, s.nbDepth p + 1, s.version] share s.ownCert))
    else { s with topo.join := .idle }

/-- Leave the tree: every tunnel closes at once, EV010 with depth 0xFF, pending epochs are discarded, and the join sequence starts
again when a candidate exists (R23, R187, R250). -/
def State.leaveTree (s : State) : State :=
  let s := { s with phase.lastDepth := s.topo.depth, topo.join := .idle, topo.depth := 255, topo.rootChan := none, topo.proxied := [] }
  let s := ((s.closeAll 4).forgetEpochs.forgetReports).raise 10 [(0, 4), (255, 8)]
  { s with topo.upstream := s.chooseUp }.sendJoin

/-- The upstream moves: the hub keeps its place and its tunnels, takes the new depth, and restores Guyline (R23, R24, R86). -/
def State.moveUpstream (s : State) (p : Fin 4) : State :=
  let d := Nat.min (s.nbDepth p + 1) 254
  let s := { s with topo.upstream := some p, topo.depth := d }
  let s := s.raise 10 [(s.upstreamMask, 4), (d, 8)]
  if s.phase.st == .acquire then s else s.dropGuyline

/-- Two ports of one link: the members of a bundle, or the member that a bundle runs on and the one that has dropped (R11, R149). -/
def State.sameLink (s : State) (a b : Fin 4) : Bool :=
  pairPort a.val == b.val && ((s.tp a.val).bundled || (s.tp a.val).alone || (s.tp b.val).alone)

/-- Choose the upstream afresh after a change of links, blocks or neighbours' depths (R18, R19, R23). -/
def State.retree (s : State) : State :=
  if s.isRoot || s.sys.hubId == 0 then s
  else
    let new := s.chooseUp
    if s.topo.join == .joined then
      match new with
      | none => s.leaveTree
      | some p => if s.topo.upstream.any fun u => u == p || s.sameLink u p then { s with topo.upstream := some p, topo.depth := Nat.min (s.nbDepth p + 1) 254 }
        else s.moveUpstream p
    else if s.topo.upstream = new then (if s.topo.join == .idle && new.isSome then s.sendJoin else s)
    else { s with topo.upstream := new }.sendJoin

/-! ### The ROOT's view -/

/-- The ROOT's record of a hub (R19). -/
def State.hubRec (s : State) (h : Nat) : Option HubRec := s.topo.hubs.find? (·.hub == h)

/-- A hub is joined, or is the ROOT itself. -/
def State.inTree (s : State) (h : Nat) : Bool := (h == s.sys.hubId && s.headsTree) || (s.hubRec h).isSome

/-- Members of a ring, named by its head and the head's PORT_A, as far as those that have joined show: as many as have joined, and no fewer
than the farthest position among them (R150). -/
def State.ringSize (s : State) (head : Nat × Nat) : Nat :=
  let rs := s.topo.hubs.filter fun r => r.ring == some head
  rs.foldl (fun a r => Nat.max a r.pos) rs.length

/-- From a hub up to the ROOT, a ring member's next being its head. -/
def State.upChain : Nat → State → Nat → List Nat
  | 0, _, h => [h]
  | n + 1, s, h =>
    match s.hubRec h with
    | none => [h]
    | some r => h :: upChain n s (match r.ring with | some head => head.1 | none => r.parent)

/-- Hops of one step up: on the primary path, and with the worst link of a ring failed (R25, R172). -/
def State.stepHops (s : State) (h : Nat) : Nat × Nat :=
  match s.hubRec h with
  | some r =>
    match r.ring with
    | some head =>
      let m := s.ringSize head + 1
      (Nat.min r.pos (m - r.pos), Nat.max r.pos (m - r.pos))
    | none => (1, 1)
  | none => (0, 0)

/-- Both ends of the last steps are members of one ring: the hops between them round it (R151, R172). -/
def State.ringHops (s : State) (x y : Option Nat) : Option (Nat × Nat) :=
  match x.bind s.hubRec, y.bind s.hubRec with
  | some a, some b =>
    if a.ring.isSome && a.ring == b.ring then
      let m := s.ringSize (a.ring.getD (0, 0)) + 1
      let open' := (m - 1) / 2
      let lo := Nat.min a.pos b.pos
      let hi := Nat.max a.pos b.pos
      let straight := hi - lo
      let primary := if hi ≤ open' ∨ open' < lo then straight else m - straight
      some (primary, Nat.max straight (m - straight))
    else none
  | _, _ => none

/-- Hops of a path between two hubs of the tree: the primary path, and the protected hop count (R25, R172). -/
def State.pathHops (s : State) (a b : Nat) : Nat × Nat :=
  let ca := s.upChain 70 a
  let cb := s.upChain 70 b
  match ca.find? cb.contains with
  | none => (0, 256)
  | some c =>
    let xs := ca.takeWhile (· != c)
    let ys := cb.takeWhile (· != c)
    let add := fun (p : Nat × Nat) (h : Nat) => let q := s.stepHops h; (p.1 + q.1, p.2 + q.2)
    match s.ringHops xs.getLast? ys.getLast? with
    | some r => (xs.dropLast ++ ys.dropLast).foldl add r
    | none => (xs ++ ys).foldl add (0, 0)

/-! ### Paths -/

/-- The link that the head blocks while the ring is whole: the one whose nearer end is farthest from it, the lower on a tie (R151). -/
def ringMiddle (members : Nat) : Nat := members / 2

/-- A part of a path: one link, with the port that each of its hubs sends on, or a way round a ring between two of its places, the head being
place 0. -/
inductive PathPart where
  | link (hub port far farPort : Nat)
  | ring (id : Nat × Nat) (i j : Nat)
  deriving DecidableEq, Repr

/-- The same part the other way. -/
def PathPart.flip : PathPart → PathPart
  | .link h p f q => .link f q h p
  | .ring id i j => .ring id j i

/-- The part of a path from a hub one step up (R25). -/
def State.upPart (s : State) (h : Nat) : PathPart :=
  match s.hubRec h with
  | none => .link h 0 h 0
  | some r => match r.ring with
    | some id => .ring id r.pos 0
    | none => .link h r.port r.parent r.parentPort

/-- The parts of the primary path between two hubs: up to the lowest hub that both share and down again, or across a ring of which the last
steps are both members (R25, R172). -/
def State.pathParts (s : State) (a b : Nat) : List PathPart :=
  let ca := s.upChain 70 a
  let cb := s.upChain 70 b
  match ca.find? cb.contains with
  | none => []
  | some c =>
    let xs := ca.takeWhile (· != c)
    let ys := cb.takeWhile (· != c)
    let ups := fun (l : List Nat) => l.map s.upPart
    let downs := fun (l : List Nat) => (l.reverse.map s.upPart).map PathPart.flip
    match xs.getLast?.map s.upPart, ys.getLast?.map s.upPart with
    | some (.ring r i _), some (.ring q j _) => if r = q then ups xs.dropLast ++ .ring r i j :: downs ys.dropLast else ups xs ++ downs ys
    | _, _ => ups xs ++ downs ys

/-- The member at a place of a ring. -/
def State.ringMember (s : State) (id : Nat × Nat) (x : Nat) : HubRec :=
  (s.topo.hubs.find? fun r => r.ring == some id && r.pos == x).getD { hub := id.1 }

/-- The hub at a place of a ring. -/
def State.ringHub (s : State) (id : Nat × Nat) (x : Nat) : Nat := if x = 0 then id.1 else (s.ringMember id x).hub

/-- The port by which the hub at a place of a ring sends toward the next place, or toward the one before. -/
def State.ringOut (s : State) (id : Nat × Nat) (x : Nat) (up : Bool) : Nat :=
  if x = 0 then (if up then id.2 else ((s.topo.hubs.find? fun r => r.ring == some id).map (·.headB)).getD 0)
  else if up then (s.ringMember id x).portB else (s.ringMember id x).port

/-- WHICH of a ring at the hub in one of its places (R199). -/
def State.ringWhich (s : State) (id : Nat × Nat) (x : Nat) : Nat :=
  if x != 0 then 1 else b2n (id.1 == s.sys.hubId && (s.rg 1).on && (s.rg 1).portA.val == id.2)

/-- The legs of a way round a ring from place `i` to place `j`, as if the ring were whole: on the primary path each hub steers by the ring links
that lie before it, with its other ring port as alternate; the hubs on the rest of the ring carry the alternate path on toward `j` (R152, R171,
R172; log entry 165). -/
def State.ringLegs (s : State) (id : Nat × Nat) (i j : Nat) (back : Bool) : List Leg :=
  let n := s.ringSize id
  let place := fun x => (x + n - ringMiddle n) % (n + 1)
  let up := decide (place i < place j)
  ((List.range (n + 1)).filter (· != j)).flatMap fun x =>
    let hub := s.ringHub id x
    let ahead := s.ringOut id x up
    let behind := s.ringOut id x (!up)
    let on := if up then decide (place i ≤ place x) && decide (place x < place j) else decide (place j < place x) && decide (place x ≤ place i)
    if on then
      let lo := if up then x else if x = 0 || decide (j < x) then j else 0
      let hi := if up then (if x < j then j - 1 else n) else if x = 0 then n else x - 1
      [{ hub := hub, back := back, egress := ahead, steer := true, alternate := behind, which := s.ringWhich id x, lo := lo, hi := hi },
       { hub := hub, back := back, egress := behind, primary := false, entry := false }]
    else [{ hub := hub, back := back, egress := behind, primary := false }]

/-- The legs of a part of a path. -/
def State.partLegs (s : State) (back : Bool) : PathPart → List Leg
  | .link h p _ _ => [{ hub := h, back := back, egress := p }]
  | .ring id i j => s.ringLegs id i j back

/-- The legs of a tunnel between two hubs in both directions, on its primary and alternate paths, down to the internal port at which each end
takes its cells. `queues` names the hubs and directions that the ROOT gives a tunnel queue (R171, R172, R198; log entry 31). -/
def State.pathLegs (s : State) (a b cls : Nat) (queues : List (Nat × Bool)) : List Leg :=
  let ps := s.pathParts a b
  let there := ps.flatMap (s.partLegs false) ++ [{ hub := b, egress := classPort cls }]
  let back := (ps.reverse.map PathPart.flip).flatMap (s.partLegs true) ++ [{ hub := a, back := true, egress := classPort cls true }]
  (there ++ back).map fun l => { l with qsel := l.entry && decide (l.egress < 4) && queues.contains (l.hub, l.back) }

/-! ### Admission -/

/-- The placement breaks the placement rules by role (R13, R14, R20). -/
def State.placementBad (s : State) (role : Role) (place : Place) : Bool :=
  let parentRole := if place.parent = s.sys.hubId then some Role.root else (s.hubRec place.parent).map (·.role)
  let children := s.topo.hubs.filter fun r => r.parent == place.parent
  let ringBad := match place.ring with
    | none => false
    | some head =>
      role != .relay || decide (32 ≤ s.ringSize head) ||
        (let rings := (s.topo.hubs.filterMap (·.ring)).eraseDups.filter fun x => x.1 == head.1
         let most := match (if head.1 = s.sys.hubId then some Role.root else (s.hubRec head.1).map (·.role)) with
           | some .root => 2
           | some .relay => 1
           | _ => 0
         !rings.contains head && decide (most ≤ rings.length))
  role == .root || parentRole.isNone || (parentRole == some .zone && (role != .zone || !children.isEmpty)) || ringBad

/-- Code of the first reason to refuse a join (R20). -/
def State.joinReason (s : State) (hub depth version : Nat) (role : Role) (place : Place) (certCode : Nat) : Option Nat :=
  if hub = 0 || s.inTree hub then some 1
  else if s.placementBad role place then some 2
  else if s.sys.depthLimit < depth then some 3
  else if certCode != 0 then some 4
  else if !versionNear version s.version then some 5
  else none

/-- Numbers that no tunnel may take now (R164). -/
def State.numbersUsed (s : State) : List Nat := s.tun.rootTuns.map (·.number) ++ s.tun.quarantine

/-- The lowest free tunnel number (R164). -/
def State.freeNumber (s : State) : Option Nat := leastFree s.numbersUsed 1 0x7FFFF

/-- Take the table entry of a ROOT channel, keyed by the join's keyshares, and enter UP (R167, R175, R176). -/
def State.openRootChan (s : State) (far number hops : Nat) (endA : Bool) (cert : Cert) (share : List Word) (key : Nat) : State × Option Nat :=
  match s.takeTun { p := rootChanParams far, endA := endA, farHub := far, number := number, hops := hops, key := key, farCert := cert, farShare := share } with
  | none => (s, none)
  | some (s, i) => ((s.setTun i .opening 1).enterUp i, some i)

/-- Answer a join request: on the port it came on, or to the hub that carried it; the answer that admits carries the ROOT's keyshare and
certificate (R167, R175). -/
def State.answerJoin (s : State) (via : Option (Fin 4)) (carrier hub : Nat) (reason number hops : Nat) (share : List Word) : State :=
  let head := [1, hub, reason, number, hops, s.sys.hubId]
  let ws := if reason = 255 then joinWords head share s.ownCert else head
  match via with
  | some p => s.send (.join p ws)
  | none => s.send (.tun (((s.hubRec carrier).map (·.chan)).getD 0) 1 ws)

/-- The ROOT admits a hub: it enters it in its record, and opens its ROOT channel with the lowest free tunnel number, keyed by the join's
keyshares; with no number or no table entry free it refuses with 0x02 (R19, R20, R164, R167, R240; log entry 166). -/
def State.admitHub (s : State) (via : Option (Fin 4)) (carrier : Nat) (r : HubRec) (share : List Word) : State :=
  let refuse := fun (s : State) => s.answerJoin via carrier r.hub 2 0 0 []
  match s.freeNumber with
  | none => refuse s
  | some n =>
    let s0 := s
    let s := { s with topo.hubs := s.topo.hubs ++ [r] }
    let hops := (s.pathHops r.hub s.sys.hubId).2
    let (k, s) := s.drawEph
    let (own, s) := s.makeShare k (rootChanParams 0) (sharePublic share)
    let (s, idx) := s.openRootChan r.hub n hops false r.cert share (tunnelKey k share own false n r.hub s.sys.hubId 0)
    match idx with
    | none => refuse s0
    | some i =>
      let legs := s.pathLegs r.hub s.sys.hubId 1 []
      let t : RootTun := { number := n, stage := .resulted, hubA := r.hub, hubB := s.sys.hubId, handleB := ((s.tunAt i).map (·.handle)).getD 0,
                           p := rootChanParams s.sys.hubId, hops := hops, legs := legs }
      let s := { s with
        topo.hubs := s.topo.hubs.map fun (x : HubRec) => if x.hub == r.hub then { x with chan := i } else x
        tun.rootTuns := s.tun.rootTuns ++ [t] }
      let s := (s.installLegs n legs).answerJoin via carrier r.hub 255 n hops own
      (s.nameEpoch (s.shapesFor n 1 legs)).1

/-- JOIN_REQUEST: a join request arrives on TUNNEL 0 of a port, or at the ROOT through the hub that carries it. The ROOT checks the
refusal reasons in order and replies; another joined hub carries it to the ROOT. `key.sigOk` says whether the signature of the keyshare verifies. A
blocked port takes none (R12, R17, R19 to R21, R167, R175; log entry 166). -/
def execJoinRequest (via : Option (Fin 4)) (hub : BitVec 16) (role : BitVec 2) (depth : Byte) (version : Byte) (cert : Cert) (key : JoinKey)
    (place : Place) (s : State) : Host.Outcome State Fault Refusal :=
  let onUp := match via with | some p => s.isUpstream p | none => false
  let blocked := match via with | some p => s.portBlocked p | none => false
  let bad := fun (s : State) => match via with | some p => s.cntL p.val 14 1 | none => s
  if blocked then .next s
  else if onUp || !s.joined then .next (bad s)
  else if s.headsTree then
    let (s, code) := s.checkCert cert hub.toNat
    let rl := roleOf role.toNat
    match s.joinReason hub.toNat depth.toNat version.toNat rl place (if code = 0 && !key.sigOk then 2 else code) with
    | some reason => .next (s.answerJoin via place.parent hub.toNat reason 0 0 [])
    | none =>
      .next (s.admitHub via place.parent
        { hub := hub.toNat, role := rl, depth := depth.toNat, parent := place.parent, parentPort := place.parentPort, ring := place.ring, pos := place.pos,
          port := place.port, portB := place.portB, headB := place.headB, cert := cert, version := version.toNat } key.share)
  else
    match via with
    | none => .next s
    | some p =>
      .next (({ s with topo.proxied := s.topo.proxied ++ [(p, hub.toNat)] }).send
        (.tun (s.topo.rootChan.getD 0) 0 (joinWords [hub.toNat, role.toNat, depth.toNat, version.toNat] key.share cert)))

/-- A refused join: EV009, LAST_REFUSAL, and a retry after `t_join_retry` (R19 steps 5 and 6). -/
def State.joinRefused (s : State) (reason : Nat) : State :=
  { s with topo.join := .retry, topo.lastRefusal := reason }.raise 9 [(reason, 8)]

/-- An admitted hub opens its ROOT channel on the upstream link, advertises its depth and raises EV008; a lease left from a fall-back ends
(R19 step 4, R505). -/
def State.joinAdmitted (s : State) (p : Fin 4) (rootId number hops : Nat) (cert : Cert) (share : List Word) : State :=
  let key := tunnelKey s.topo.joinKey share s.topo.joinShare true number s.sys.hubId rootId 0
  let (s, idx) := s.openRootChan rootId number hops true cert share key
  let d := Nat.min (s.nbDepth p + 1) 254
  let s := { s with topo.join := .joined, topo.depth := d, topo.rootId := rootId, topo.rootChan := idx, topo.everJoined := true, topo.joinKey := [], topo.joinShare := [], allot.applied := false, allot.numbered := false }
  let s := s.raise 8 [(d, 8), (s.upstreamMask, 4)]
  let s := if s.upd.leaseEnd then { s with upd.leaseEnd := false }.sendRoot 0x7841 [pack [(s.sys.hubId, 16), (0, 16)]] else s
  ((List.range 4).foldl (fun s q => if (s.tp q).st == .active then s.reportRate q else s) s).reportAll

/-- JOIN_REPLY: a reply arrives on TUNNEL 0 of a port, or on the ROOT channel for a hub whose request this hub carried. `reason` is none
when the hub is admitted; it is then admitted only when the ROOT's certificate passes its checks and `auth.key.sigOk`, the signature of the keyshare,
verifies (R12, R19, R167, R175; log entry 166). -/
def execJoinReply (via : Option (Fin 4)) (hub : BitVec 16) (reason : Option Byte) (rootId : BitVec 16) (number : BitVec 19) (hops : Byte) (auth : JoinAuth)
    (s : State) : Host.Outcome State Fault Refusal :=
  match via with
  | none =>
    match s.topo.proxied.find? (·.2 == hub.toNat) with
    | some (p, _) =>
      .next (({ s with topo.proxied := s.topo.proxied.filter (·.2 != hub.toNat) }).send
        (.join p (let head := [1, hub.toNat, ((reason.map fun (r : Byte) => r.toNat).getD 255), number.toNat, hops.toNat, rootId.toNat]
          if reason.isSome then head else joinWords head auth.key.share auth.cert)))
    | none => .next s
  | some p =>
    if s.portBlocked p then .next s
    else if s.topo.join == .waiting && s.topo.upstream == some p && hub.toNat == s.sys.hubId then
      match reason with
      | some r => .next (s.joinRefused r.toNat)
      | none =>
        let (s, code) := s.checkCert auth.cert rootId.toNat
        .next (if code != 0 || !auth.key.sigOk then s.joinRefused 4 else s.joinAdmitted p rootId.toNat number.toNat hops.toNat auth.cert auth.key.share)
    else .next (s.cntL p.val 14 1)

/-- JOIN_REPLY_TIMEOUT: no reply within 1 s counts as a refusal with reason 0x00 (R19 step 6). -/
def execJoinReplyTimeout (s : State) : Host.Outcome State Fault Refusal :=
  .next (if s.topo.join == .waiting then s.joinRefused 0 else s)

/-- JOIN_RETRY: 10 s after a refusal the join runs again from step 2 (R19 step 5). -/
def execJoinRetry (s : State) : Host.Outcome State Fault Refusal :=
  .next (if s.topo.join == .retry then s.sendJoin else s)

/-! ### Departure at the ROOT -/

/-- The ROOT takes a tunnel apart: entries, committed rate, TUN.CLOSED to both ends, and the quarantine of its number (R186 step 5). -/
def State.dismantle (s : State) (t : RootTun) (cause : Nat) : State :=
  let s := s.removeLegs t.number t.legs
  let s := { s with
    tun.rootTuns := s.tun.rootTuns.filter (·.number != t.number)
    tun.quarantine := s.tun.quarantine ++ [t.number] }
  let (s, _) := s.nameEpoch (s.shapesFor t.number t.p.cls t.legs)
  let w := releaseWord t.number cause
  ((s.sendHub t.hubA 0x2144 [w]).sendHub t.hubB 0x2144 [w]).checkOver

/-- The ROOT treats a hub as departed: its tunnels close and it leaves the directory of hubs (R187). -/
def State.hubDeparted (s : State) (hub : Nat) : State :=
  let mine := s.tun.rootTuns.filter fun t => t.hubA == hub || t.hubB == hub
  let s := { s with topo.hubs := s.topo.hubs.filter (·.hub != hub), tun.rates := s.tun.rates.filter (·.hub != hub) }
  mine.foldl (fun s t => s.dismantle t 3) s

end Sys2Proof.Machine
end

