-- ==== Sys2Proof/Machine/Tunnels.lean ====
section
/-!
DEFINITION. Tunnels (05_tunnels.md): opening and refusing (R171 to R174), rekeying (R178, R179), delivery (R180 to R185), closing (R186,
R187), the TUN commands (R189 to R193) and the tunnel record (R188).
-/

namespace Sys2Proof.Machine

/-! ### Messages -/

/-- OPEN_PARAMS from word `n` on, as they stand (R190). -/
def readOpen (ws : List Word) (n : Nat) : OpenParams :=
  { cls := fld (wordAt ws n) 31 29, farEp := fld (wordAt ws n) 23 0, farHub := fld (wordAt ws (n + 1)) 31 16,
    tenant := fld (wordAt ws (n + 1)) 15 0, cir := fld (wordAt ws (n + 2)) 31 8, pir := fld (wordAt ws (n + 3)) 31 8,
    cbs := fld (wordAt ws (n + 4)) 31 16, pbs := fld (wordAt ws (n + 4)) 15 0, nearEp := fld (wordAt ws (n + 5)) 23 0 }

/-- TUNNEL toward end B and protected hop count (R193). -/
def tunnelWord (number hops : Nat) : Word := pack [(2 * number, 20), (hops, 8)]

/-- A TUN.RESULT that refuses (R193). -/
def refusal (reason handleA handleB number hops : Nat) : List Word := [pack [(reason, 8)], wd handleA, wd handleB, tunnelWord number hops]

/-! ### Ephemeral slots that come free -/

/-- Send REKEY_ACCEPT for an offer of the other end: the new key is derived, and this end sends under it once it has accepted a cell
under it (R178). -/
def State.answerOffer (s : State) (idx k : Nat) : State :=
  match s.tunAt idx with
  | none => s
  | some t =>
    let (share, s) := s.ownKeyshare t
    let s := s.modTun idx fun t => { t with farOffer := none, answered := some k, ownShare := share, ansShare := share }
    ((s.sendControl idx 6 0 k 0 share).newKey idx k).dropEph idx

/-- A rekey that waited for an ephemeral slot goes on once it has one (R471). -/
def State.serveKey (s : State) (idx : Nat) : State :=
  match s.tunAt idx with
  | none => s
  | some t =>
    if t.eph.isNone then s
    else match t.farOffer, t.offer with
      | some k, _ => s.answerOffer idx k
      | none, some k => s.sendOffer idx k
      | none, none => s

/-- Serve the rekeys that have been given a slot. -/
def State.serveKeys (s : State) : State := s.tun.table.foldl (fun s t => s.serveKey t.idx) s

/-! ### Opening at end A -/

/-- End A is refused: CLOSED, EV081, and TUN.RELEASE when a number was assigned (R171 step 10). -/
def State.refuseTun (s : State) (idx reason : Nat) : State :=
  match s.tunAt idx with
  | none => s
  | some t =>
    let s := (s.sendRelease idx 2).setTun idx .closed 2
    let s := s.raise 81 [(idx, 14), (reason, 8)] (.tenant t.p.tenant)
    ((s.tunRefused t reason).removeTun idx).serveKeys

/-- TUN_OPEN: a table entry in OPENING and its handle; admission follows (R170, R171, R174, R190). -/
def execTunOpen (s : State) : Host.Outcome State Fault Refusal :=
  runCmd 0x2101 s fun r s =>
    let p := readOpen r.data 0
    let cls := if p.cls = 7 then 6 else p.cls
    let (c, ch) := clampRates cls p.cir p.pir p.cbs p.pbs
    let tenant := (s.srcTenant r.src).getD p.tenant
    let p' := { p with cls := cls, cir := c.cir, pir := c.pir, cbs := c.cbs, pbs := c.pbs, tenant := tenant }
    if !s.joined then (s, failR 0x30)
    else match s.openTun p' (some r.src) with
      | none => (s, failR 0x40)
      | some (s', i) => (s', okC (ch || p.cls == 7) [wd (((s'.tunAt i).map (·.handle)).getD 0)])

/-- TUN_ADMIT_SEND: the keyshare is ready and TUN.ADMIT goes to the ROOT; a vault that cannot sign refuses with 0x07 (R171 step 2,
R471). -/
def execTunAdmitSend (idx : BitVec 14) (s : State) : Host.Outcome State Fault Refusal :=
  match s.tunAt idx.toNat with
  | none => .next s
  | some t =>
    if t.st != .opening || !t.endA || t.number != 0 || !t.ownShare.isEmpty then .next s
    else if !s.canSign then .next (s.refuseTun t.idx 7)
    else if t.eph.isNone then .next s
    else
      let (share, s) := s.ownKeyshare t
      .next ((s.modTun t.idx fun t => { t with ownShare := share }).sendRoot 0x2140 (t.p.words ++ wd t.handle :: share))

/-! ### Admission at the ROOT -/

/-- Hub of end B: FAR_HUB, or the hub of the directory record of FAR_EP (R171 step 3, R190). -/
def State.resolveB (s : State) (p : OpenParams) : Option Nat :=
  if p.farHub != 0 then some p.farHub else (s.dir.recs.find? fun d => d.id == p.farEp && d.present).map (·.hub)

/-- Certificate that a hub presented at join; the ROOT's own for itself (R175). -/
def State.certOf (s : State) (hub : Nat) : Cert := if hub = s.sys.hubId then s.ownCert else ((s.hubRec hub).map (·.cert)).getD {}

/-- The ROOT checks an admission in table order: end B, the tunnel number, the protected hop count and the legs of the primary and alternate
paths, or the reason to refuse (R172, R173). -/
def State.admitCheck (s : State) (hubA : Nat) (p : OpenParams) (queues : List (Nat × Bool)) : Except Nat (Nat × Nat × Nat × List Leg) :=
  match s.resolveB p with
  | none => .error 1
  | some hubB =>
    if hubB = hubA || !s.inTree hubB then .error 1
    else
      let hops := (s.pathHops hubA hubB).2
      let legs := s.pathLegs hubA hubB p.cls queues
      if classCeiling p.cls < hops then .error 2
      else if !s.cirFits legs p.cir 0 then .error 3
      else match s.freeNumber with
        | none => .error 4
        | some n => .ok (hubB, n, hops, legs)

/-- TUN_ADMIT: run at the ROOT. `queues` names the hubs and directions at which the ROOT gives the tunnel a queue of its own, which no rule
decides (R171 step 3, R172, R198; log entry 31). -/
def execTunAdmit (queues : List (Nat × Bool)) (s : State) : Host.Outcome State Fault Refusal :=
  runCmd 0x2140 s fun r s =>
    let p := readOpen r.data 0
    let handle := (r.w 6).toNat
    let hubA := s.peerHub r.src
    let share := (r.data.drop 7).take 49
    let s := if p.farHub = 0 then s.dirTouch p.farEp else s
    match s.admitCheck hubA p queues with
    | .error reason => (s.sendHub hubA 0x2142 (refusal reason handle 0 0 0), okR)
    | .ok (hubB, n, hops, legs) =>
      let t : RootTun := { number := n, stage := .offered, hubA := hubA, hubB := hubB, handleA := handle, p := p, hops := hops, legs := legs, keyshareA := share }
      let s := { s with tun.rootTuns := s.tun.rootTuns ++ [t] }
      (s.sendHub hubB 0x2141 ([tunnelWord n hops, pack [(hubA, 16)]] ++ p.words ++ share ++ certBlock (s.certOf hubA)), okR)

/-- Change an admission of the ROOT. -/
def State.modRootTun (s : State) (n : Nat) (f : RootTun → RootTun) : State :=
  { s with tun.rootTuns := s.tun.rootTuns.map fun (t : RootTun) => if t.number == n then f t else t }

/-- The ROOT refuses an admission it has offered: TUN.RESULT to end A, and the number waits for TUN.RELEASE (R171 steps 7 and 10). -/
def State.refuseAdmission (s : State) (t : RootTun) (reason : Nat) : State :=
  (s.modRootTun t.number fun t => { t with stage := .released, legs := [] }).sendHub t.hubA 0x2142 (refusal reason t.handleA 0 t.number t.hops)

/-- End B's answer to TUN.OFFER reaches the ROOT: it installs forwarding entries, names an epoch and sends TUN.RESULT to both ends, or
refuses. Once a control restart has begun it only notes what has been reached (R171 steps 5 to 7, R174, R252). -/
def State.offerAnswered (s : State) (number reason handleB : Nat) (share : List Word) : State :=
  match s.tun.rootTuns.find? fun t => t.number == number && t.stage == .offered with
  | none => s
  | some t =>
    if t.marked then (if reason = 0 then s.modRootTun number fun t => { t with stage := .accepted, handleB := handleB } else s)
    else if reason != 0 then s.refuseAdmission t reason
    else
      let s := s.modRootTun number fun t => { t with stage := .resulted, handleB := handleB }
      let s := s.installLegs number t.legs
      let (s, inst) := s.nameEpoch (s.shapesFor number t.p.cls t.legs)
      let s := s.modRootTun number fun t => { t with epochAt := inst }
      let head := [0, wd t.handleA, wd handleB, tunnelWord number t.hops] ++ wd2 inst
      let s := s.sendHub t.hubA 0x2142 (head ++ share ++ certBlock (s.certOf t.hubB))
      (s.sendHub t.hubB 0x2142 (head ++ t.keyshareA ++ certBlock (s.certOf t.hubA))).checkOver

/-- TUN_OFFER_ANSWER: the PEER answer to TUN.OFFER arrives (R171 steps 5 and 6). -/
def execTunOfferAnswer (number : BitVec 19) (reason : Byte) (handleB : Word) (share : List Word) (s : State) : Host.Outcome State Fault Refusal :=
  .next (s.offerAnswered number.toNat reason.toNat handleB.toNat share)

/-- TUN_OFFER_TIMEOUT: no answer within 200 ms; the ROOT refuses with 0x08 (R171 step 5, R173). -/
def execTunOfferTimeout (number : BitVec 19) (s : State) : Host.Outcome State Fault Refusal :=
  match s.tun.rootTuns.find? fun t => t.number == number.toNat && t.stage == .offered with
  | none => .next s
  | some t => .next (s.refuseAdmission t 8)

/-! ### End B -/

/-- An endpoint of this hub with the ID belongs to the tenant or is shared (R282). -/
def State.ownsEndpoint (s : State) (ep tenant : Nat) : Bool :=
  s.light.seg.toList.any fun g => g.nodes.toList.any fun n => n.eps.any fun e => e.id == ep && (e.tenant == tenant || e.shared)

/-- End B refuses with reason 0x06: the far endpoint does not belong to TENANT and is not shared (R173, R282, R299, R338, R399, R418,
R426). -/
def State.tenantBars (s : State) (p : OpenParams) : Bool :=
  if p.tenant = 0 then false
  else if p.cls = 0 then decide (16 ≤ p.farEp) && decide (p.farEp < 0x800000) && !s.ownsEndpoint p.farEp p.tenant
  else if p.cls = 2 then !s.disp.head.toList.any fun h => h.cfg.tenant == p.tenant
  else if p.cls = 3 then
    !s.desk.port.toList.any fun d => d.cfg.enable && d.data.peripheral && (d.data.tenant == 0 || d.data.tenant == p.tenant)
  else if p.cls = 4 then !s.stor.vol.toList.any fun v => v.valid && (v.tenant == p.tenant || v.shared)
  else if p.cls = 5 then s.eth.maps.any fun m => m.group == p.farEp && m.tenant != 0 && m.tenant != p.tenant
  else if p.cls = 6 && p.farEp == 0x800000 then !s.bridge.exports.toList.any fun e => e.valid && (e.tenant == p.tenant || e.shared)
  else decide (16 ≤ p.farEp) && decide (p.farEp < 0x800000) && !s.ownsEndpoint p.farEp p.tenant

/-- End B checks an offer and takes it with the key it derives: its reason, its handle and its keyshare (R171 step 5, R175, R176). -/
def State.takeOffer (s : State) (r : Waiting) (cert : Cert) (sigOk : Bool) : State × Nat × Nat × List Word :=
  let number := r.f 0 31 12 / 2
  let hops := r.f 0 11 4
  let hubA := r.f 1 31 16
  let p := readOpen r.data 2
  let shareA := (r.data.drop 8).take 49
  if 16384 ≤ s.tun.table.length then (s, 5, 0, [])
  else if s.tenantBars p then (s, 6, 0, [])
  else
    let (s, code) := s.checkCert cert hubA
    if code != 0 || !sigOk || !s.canSign then (s, 7, 0, [])
    else
      let (k, s) := s.drawEph
      let (share, s) := s.makeShare k p (sharePublic shareA)
      let key := tunnelKey k shareA share false number hubA s.sys.hubId 0
      match s.takeTun { p := p, endA := false, farHub := hubA, number := number, hops := hops, key := key, farCert := cert, farShare := shareA } with
      | none => (s, 5, 0, [])
      | some (s, i) => (s.setTun i .opening 1, 0, ((s.tunAt i).map (·.handle)).getD 0, share)

/-- TUN_OFFER: end B accepts with its keyshare, or refuses. It waits while no ephemeral slot is free. At the ROOT the answer is handled
internally (R171 step 5, R193, R471). -/
def execTunOffer (cert : Cert) (sigOk : Bool) (s : State) : Host.Outcome State Fault Refusal :=
  if s.freeEph.isNone then .next s
  else runCmd 0x2141 s fun r s =>
    let (s, reason, handle, share) := s.takeOffer r cert sigOk
    let s := if r.src == .self then s.offerAnswered (r.f 0 31 12 / 2) reason handle share else s
    if reason = 0 then (s, okR (0 :: wd handle :: share)) else (s, denyR reason [pack [(reason, 8)], 0])

/-! ### TUN.RESULT -/

/-- TUN.RESULT at end B (R171 steps 7 and 9). -/
def State.resultAtB (s : State) (idx reason inst : Nat) : State :=
  if reason != 0 then s.closeTun idx 2
  else (s.modTun idx fun t => { t with upAt := some inst }).maybeRelease idx

/-- TUN.RESULT at end A: it checks end B's keyshare and derives the key, or is refused (R171 steps 8 and 10). A tunnel that is closing
in OPENING is released once its number is known (R174). -/
def State.resultAtA (s : State) (t : Tunnel) (reason number hops inst : Nat) (share : List Word) (cert : Cert) (sigOk : Bool) : State :=
  let s := s.modTun t.idx fun t => { t with number := number, hops := hops }
  if t.st == .closing then s.maybeRelease t.idx
  else if reason != 0 then s.refuseTun t.idx reason
  else
    let hub := if t.p.farHub = 0 then cert.hub else t.p.farHub
    let (s, code) := s.checkCert cert hub
    if code != 0 || !sigOk then s.refuseTun t.idx 7
    else
      let key := tunnelKey (s.ephKey t) share t.ownShare true number s.sys.hubId hub 0
      ((s.modTun t.idx fun t => { t with
        key := key, farHub := hub, farCert := cert, farShare := share, upAt := some inst, ownShare := [] }).dropEph t.idx).serveKeys

/-- TUN_RESULT: each end takes the handle that is its own (R193). -/
def execTunResult (cert : Cert) (sigOk : Bool) (s : State) : Host.Outcome State Fault Refusal :=
  runCmd 0x2142 s fun r s =>
    let reason := r.f 0 31 24
    let number := r.f 3 31 12 / 2
    let inst := u64At r.data 4 % 2 ^ 50
    let atB := s.tun.table.find? fun t => !t.endA && t.number == number && t.handle == (r.w 2).toNat
    let atA := s.tun.table.find? fun t => t.endA && t.number == 0 && t.handle == (r.w 1).toNat && (t.st == .opening || t.st == .closing)
    match atB, atA with
    | some t, _ => (s.resultAtB t.idx reason inst, okR)
    | none, some t => (s.resultAtA t reason number (r.f 3 11 4) inst ((r.data.drop 6).take 49) cert sigOk, okR)
    | none, none => (s, okR)

/-- TUN_OPEN_TIMEOUT: `t_open` ends without TUN.RESULT (R171 step 10, R173). -/
def execTunOpenTimeout (idx : BitVec 14) (s : State) : Host.Outcome State Fault Refusal :=
  match s.tunAt idx.toNat with
  | none => .next s
  | some t => .next (if t.st == .opening && t.endA && t.upAt.isNone then s.refuseTun t.idx 0x0A else s)

/-- Mark what a control restart finds opening: ends in OPENING, and at the ROOT the admissions of steps 3 to 7 (R174). -/
def State.markOpenings (s : State) : State :=
  { s with
    tun.table := s.tun.table.map fun (t : Tunnel) => if t.st == .opening then { t with marked := true } else t
    tun.rootTuns := s.tun.rootTuns.map fun (t : RootTun) => if t.stage == .offered then { t with marked := true } else t }

/-- Openings that a control restart has found are aborted after it: each end with reason 0x09, and at the ROOT the admissions of steps 3 to 7,
with a refusing TUN.RESULT to each end they had reached (R174). -/
def State.abortOpenings (s : State) : State :=
  let s := s.tun.table.foldl (fun s t => if t.st == .opening && t.marked then s.refuseTun t.idx 9 else s) s
  s.tun.rootTuns.foldl (fun s t =>
    if t.marked && (t.stage == .offered || t.stage == .accepted) then
      (s.refuseAdmission t 9).sendHub t.hubB 0x2142 (refusal 9 t.handleA t.handleB t.number t.hops)
    else s) s

/-! ### Host commands -/

/-- TUN_CLOSE: starts the close exchange (R186 step 1, R189). -/
def execTunClose (s : State) : Host.Outcome State Fault Refusal :=
  runCmd 0x2102 s fun r s =>
    match s.tunFor r (r.w 0).toNat with
    | some t => (s.beginClose t.idx 0, okR)
    | none => (s, okR)

/-- The words of TUN.STATUS (R191). -/
def Tunnel.statusWords (t : Tunnel) : List Word :=
  [pack [(t.st.code, 3), (t.p.cls, 3), (b2n t.endA, 1), (0, 1), (t.p.farEp, 24)], pack [(t.farHub, 16), (t.p.tenant, 16)],
   pack [(t.tx, 20), (t.hops, 8)], pack [(t.keyTx.1, 16)]] ++ wd2 t.txEseq ++ wd2 t.rxEseq ++ [wd t.tagFail, wd t.retx, wd t.gap]

/-- TUN_STATUS (R189, R191). -/
def execTunStatus (s : State) : Host.Outcome State Fault Refusal :=
  runRead 0x2103 s fun r s =>
    match s.tunFor r (r.w 0).toNat with
    | some t => okR t.statusWords
    | none => okR (List.replicate 11 0)

/-- Insert a tunnel in INDEX order. -/
def insertTun (t : Tunnel) : List Tunnel → List Tunnel
  | [] => [t]
  | u :: us => if t.idx < u.idx then t :: u :: us else u :: insertTun t us

/-- TUN_LIST: TOTAL, COUNT and handles in INDEX order (R192). -/
def execTunList (s : State) : Host.Outcome State Fault Refusal :=
  runRead 0x2104 s fun r s =>
    let mine := (s.tun.table.filter fun t => s.seesTun r.src t).foldr insertTun []
    let page := (mine.filter fun t => decide (r.f 0 13 0 ≤ t.idx)).take 1020
    okR (pack [(mine.length, 16), (page.length, 16)] :: page.map fun t => wd t.handle)

/-- TUN_REKEY: this end offers; a vault that cannot sign gives VAULT_FAULT (R179, R471, R484). -/
def execTunRekey (s : State) : Host.Outcome State Fault Refusal :=
  runCmd 0x2110 s fun r s =>
    match s.tunFor r (r.w 0).toNat with
    | some t => if !s.canSign then (s, failR 0x70) else (s.offerRekey t.idx, okR)
    | none => (s, okR)

/-! ### Release -/

/-- TUN_RELEASE: the ROOT removes the tunnel of one of whose ends it comes (R186 step 5). -/
def execTunRelease (s : State) : Host.Outcome State Fault Refusal :=
  runCmd 0x2143 s fun r s =>
    let hub := s.peerHub r.src
    match s.tun.rootTuns.find? fun t => t.number == r.f 0 31 12 / 2 && (t.hubA == hub || t.hubB == hub) with
    | some t => (s.dismantle t (r.f 0 7 0), okR)
    | none => (s, okR)

/-- TUN_CLOSED: the end enters CLOSED, with cause 3 when it was not already closing (R186 step 6, R187). -/
def execTunClosed (s : State) : Host.Outcome State Fault Refusal :=
  runCmd 0x2144 s fun r s =>
    match s.tunByNumber (r.f 0 31 12 / 2) with
    | some t => ((s.closeTun t.idx (if t.st == .closing then t.closeCause else 3)).serveKeys, okR)
    | none => (s, okR)

/-- TUN_NUMBER_QUARANTINE_END: 2 s after its release a number is free again (R164). -/
def execTunNumberQuarantineEnd (number : BitVec 19) (s : State) : Host.Outcome State Fault Refusal :=
  .next { s with tun.quarantine := s.tun.quarantine.filter fun (n : Nat) => n != number.toNat }

/-! ### Retransmission -/

/-- Retransmit in order from an ESEQ, each cell exactly as first sent; E2E_RETRIES times without an ACK is STALLED (R182, R188). -/
def State.retransmit (s : State) (idx start : Nat) : State :=
  match s.tunAt idx with
  | none => s
  | some t =>
    let again := t.unacked.filter fun u => decide (start ≤ u.eseq)
    let spent := again.any fun u => decide (t.retries ≤ u.retries)
    let s := if spent && t.st == .up then (s.modTun idx fun t => { t with stall := 5 }).setTun idx .stalled 5 else s
    if spent && t.st != .stalled then s
    else
      let s := s.modTun idx fun t => { t with
        retx := bumpTo max32 t.retx again.length
        unacked := t.unacked.map fun (u : Unacked) => if start ≤ u.eseq then { u with retries := Nat.min (u.retries + 1) 31 } else u }
      again.foldl (fun s u => s.offer t.port u.cell) s

/-- ESEQ of the oldest unacknowledged cell. -/
def Tunnel.oldest (t : Tunnel) : Nat := (t.unacked.head?.map (·.eseq)).getD 0

/-- TUN_RTO_EXPIRY: `t_rto` passes without an ACK of the oldest cell; in STALLED the sender goes on every `t_tkeep` (R182). -/
def execTunRtoExpiry (idx : BitVec 14) (s : State) : Host.Outcome State Fault Refusal :=
  match s.tunAt idx.toNat with
  | none => .next s
  | some t => .next (if reliable t.p.cls && !t.unacked.isEmpty then s.retransmit t.idx t.oldest else s)

/-- TUN_ACK_TIMER: the ACK that has become due (R182). -/
def execTunAckTimer (idx : BitVec 14) (s : State) : Host.Outcome State Fault Refusal :=
  match s.tunAt idx.toNat with
  | none => .next s
  | some t => .next (if reliable t.p.cls && (t.ackTimer || decide (16 ≤ t.sinceAck)) then s.sendAck t.idx else s)

/-- TUN_KEEPALIVE_SEND: nothing sent for `t_tkeep` (R185). -/
def execTunKeepaliveSend (idx : BitVec 14) (s : State) : Host.Outcome State Fault Refusal :=
  match s.tunAt idx.toNat with
  | none => .next s
  | some t => .next (if t.st == .up || t.st == .stalled then s.sendStatus t.idx 0 0 else s)

/-- TUN_DEAD_TIMEOUT: nothing received for `t_tdead` (R185). -/
def execTunDeadTimeout (idx : BitVec 14) (s : State) : Host.Outcome State Fault Refusal :=
  match s.tunAt idx.toNat with
  | none => .next s
  | some t =>
    let s := s.modTun t.idx fun t => { t with quiet := true }
    .next (if t.st == .up then (s.modTun t.idx fun t => { t with stall := 6 }).setTun t.idx .stalled 6 else s)

/-- The hub whose ROOT channel ends at this entry of the ROOT. -/
def State.channelHub (s : State) (idx : Nat) : Option Nat := (s.topo.hubs.find? fun h => s.isRoot && h.chan == idx).map (·.hub)

/-- TUN_STALL_CLOSE: STALLED for 8 × `t_tdead`. The tunnel closes with cause 6; a hub whose ROOT channel stalls leaves the tree, and the
ROOT treats such a hub as departed (R185, R187). -/
def execTunStallClose (idx : BitVec 14) (s : State) : Host.Outcome State Fault Refusal :=
  match s.tunAt idx.toNat with
  | none => .next s
  | some t =>
    if t.st != .stalled then .next s
    else if s.topo.rootChan == some t.idx then .next s.leaveTree
    else match s.channelHub t.idx with
      | some h => .next (((s.closeTun t.idx 6).hubDeparted h).serveKeys)
      | none => .next (((s.sendRelease t.idx 6).closeTun t.idx 6).serveKeys)

/-- TUN_CLOSE_TIMEOUT: `t_close` ends and the end goes on to release; one further second later it enters CLOSED (R186 steps 4 to 6). -/
def execTunCloseTimeout (idx : BitVec 14) (second : Bool) (s : State) : Host.Outcome State Fault Refusal :=
  match s.tunAt idx.toNat with
  | none => .next s
  | some t =>
    if t.st != .closing then .next s
    else if second then .next ((s.closeTun t.idx t.closeCause).serveKeys)
    else .next (if t.endA || t.began then s.sendRelease t.idx t.closeCause else s)

/-- LOSSY_REPEAT_TIMER: an unanswered CLOSE or REKEY_OFFER of a lossy class is sent again as a new cell, at most 8 times (R183). -/
def execLossyRepeatTimer (idx : BitVec 14) (s : State) : Host.Outcome State Fault Refusal :=
  match s.tunAt idx.toNat with
  | none => .next s
  | some t =>
    if reliable t.p.cls || t.repeats = 0 then .next s
    else
      let s := s.modTun t.idx fun t => { t with repeats := t.repeats - 1 }
      if t.st == .closing && t.began && !t.gotClose then .next (s.sendClose t.idx t.closeCause)
      else match t.offer with
        | some k => .next (if t.ownShare.isEmpty then s else s.sendControl t.idx 5 0 k 0 t.ownShare)
        | none => .next s

/-! ### Rekey timers -/

/-- REKEY_MIN_EXPIRY: end A offers (R179). -/
def execRekeyMinExpiry (idx : BitVec 14) (s : State) : Host.Outcome State Fault Refusal :=
  match s.tunAt idx.toNat with
  | none => .next s
  | some t => .next (if t.endA then s.offerRekey t.idx else s)

/-- REKEY_ACCEPT_TIMEOUT: no REKEY_ACCEPT within 100 ms of the offer; the rekey is abandoned (R179). -/
def execRekeyAcceptTimeout (idx : BitVec 14) (s : State) : Host.Outcome State Fault Refusal :=
  match s.tunAt idx.toNat with
  | none => .next s
  | some t => .next (if t.offer.isSome && !t.ownShare.isEmpty then (s.dropOffer t.idx true).serveKeys else s)

/-- REKEY_RETRY: 60 s after it was abandoned the rekey is offered again (R179). -/
def execRekeyRetry (idx : BitVec 14) (s : State) : Host.Outcome State Fault Refusal :=
  match s.tunAt idx.toNat with
  | none => .next s
  | some t => .next (if t.offerRetry then s.offerRekey t.idx else s)

/-- The older key is of no more use: this end sends under the newer, what it has sent under the older is acknowledged, and the counter values
below the first accepted under the newer have been delivered or skipped, or 1 s has passed; a lossy class keeps it for 1 s (R178). -/
def State.oldKeyDone (s : State) (t : Tunnel) : Bool :=
  let second := decide (t.keyAt + 10 ^ 9 ≤ s.clockNs)
  let taken := second || (match t.newEseq with | some n => decide (n ≤ t.rxEseq) | none => false)
  t.keyTx.1 == t.kgen && (if reliable t.p.cls then taken && t.unacked.all fun u => decide (t.keyEnd ≤ u.eseq) else second)

/-- OLD_KEY_RETIRE: the older key is zeroized once it is of no more use (R178). -/
def execOldKeyRetire (idx : BitVec 14) (s : State) : Host.Outcome State Fault Refusal :=
  match s.tunAt idx.toNat with
  | none => .next s
  | some t => .next (if s.oldKeyDone t then s.modTun t.idx fun t => { t with oldKey := none, newEseq := none, newSseq := none } else s)

/-! ### Receiving -/

/-- The counter with low 16 bits `seq` that lies nearest the expected value (R180). -/
def rebuild (expected seq : Nat) : Nat :=
  let v := (expected : Int) + sx 16 ((seq + 65536 - expected % 65536) % 65536)
  (if v < 0 then v + 65536 else v).toNat

/-- An ACK arrives: cells up to its ESEQ are free, and a tunnel stalled for want of progress is UP again (R182). -/
def State.ackReceived (s : State) (idx eseq : Nat) : State :=
  match s.tunAt idx with
  | none => s
  | some t =>
    let left := t.unacked.filter fun u => decide (eseq < u.eseq)
    let s := s.modTun idx fun t => { t with unacked := left }
    let s := if left.length < t.unacked.length && t.st == .stalled && t.stall == 5 then
      (s.modTun idx fun t => { t with stall := 0 }).setTun idx .up 1 else s
    (s.maybeRelease idx).sendWaiting idx

/-- A CLOSE arrives (R186 steps 2 and 3, R183). -/
def State.closeReceived (s : State) (idx cause eseq : Nat) : State :=
  match s.tunAt idx with
  | none => s
  | some t =>
    if t.st == .closing then
      let s := (s.modTun idx fun t => { t with gotClose := true, closeEseq := eseq }).maybeRelease idx
      if t.began || reliable t.p.cls then s else s.sendControl idx 4 0 0 0
    else
      let s := (s.modTun idx fun t => { t with gotClose := true, closeEseq := eseq, closeCause := cause, waiting := [] }).setTun idx .closing 3
      s.sendControl idx 4 0 0 0

/-- A CLOSE_ACK arrives (R186 step 4). -/
def State.closeAcked (s : State) (idx : Nat) : State :=
  match s.tunAt idx with
  | none => s
  | some t => if t.st == .closing then (s.modTun idx fun t => { t with gotClose := true, repeats := 0 }).maybeRelease idx else s

/-- Take the other end's offer: answer it with a new keyshare, or wait for an ephemeral slot (R178, R471). -/
def State.takeRekeyOffer (s : State) (idx k : Nat) (share : List Word) : State :=
  ((s.modTun idx fun t => { t with farOffer := some k, farShare := share }).takeEph idx).serveKey idx

/-- A REKEY_OFFER arrives; a repeat of one that this end has answered is answered again with the same keyshare (R178, R179, R183). -/
def State.offerReceived (s : State) (idx k : Nat) (share : List Word) (shareOk : Bool) : State :=
  match s.tunAt idx with
  | none => s
  | some t =>
    if !shareOk || !s.canSign then s
    else if t.answered == some k && !reliable t.p.cls then s.sendControl idx 6 0 k 0 t.ansShare
    else if t.farOffer.isSome || k != (t.kgen + 1) % 65536 then s
    else match t.offer with
      | some _ => if s.sys.hubId < t.farHub then s else (s.dropOffer idx false).takeRekeyOffer idx k share
      | none => s.takeRekeyOffer idx k share

/-- A REKEY_ACCEPT arrives: the offering end sends under the new key from its next cell, a KEEPALIVE when it has nothing else (R178). -/
def State.acceptReceived (s : State) (idx k : Nat) (share : List Word) (shareOk : Bool) : State :=
  match s.tunAt idx with
  | none => s
  | some t =>
    if t.offer != some k || !shareOk then s
    else
      let s := (((s.modTun idx fun t => { t with farShare := share, repeats := 0 }).newKey idx k).startKey idx).dropEph idx
      let s := s.rekeyed idx k
      let s := if t.waiting.isEmpty then s.sendStatus idx 0 0 else s.sendWaiting idx
      s.serveKeys

/-- A control cell is delivered (R181). -/
def State.control (s : State) (idx : Nat) (c : Cell) (shareOk : Bool) : State :=
  let k := c.numAt 2 2
  let share := (List.range 49).map fun i => BitVec.ofNat 32 (c.byteAt (16 + 4 * i) + c.byteAt (17 + 4 * i) * 256 + c.byteAt (18 + 4 * i) * 65536 + c.byteAt (19 + 4 * i) * 16777216)
  match c.byteAt 0 with
  | 3 => s.closeReceived idx (c.byteAt 1) (c.numAt 4 8)
  | 4 => s.closeAcked idx
  | 5 => s.offerReceived idx k share shareOk
  | 6 => s.acceptReceived idx k share shareOk
  | _ => { s with tun.bad := bump s.tun.bad }

/-- A status cell is delivered (R181, R182). -/
def State.status (s : State) (idx : Nat) (c : Cell) : State :=
  match c.byteAt 0 with
  | 0 => s
  | 1 => s.ackReceived idx (c.numAt 4 8)
  | 2 => s.retransmit idx (c.numAt 4 8)
  | _ => { s with tun.bad := bump s.tun.bad }

/-- A NETWORK cell with CM that its tunnel end takes: whether ECN translation was on when the cell was classified (R215, R224). -/
def State.takeHanded (s : State) (c : Cell) : State × Bool :=
  let mine := fun (x : Nat × Nat × Bool) => x.1 == c.tunnel.toNat && x.2.1 == c.seq.toNat
  match s.fwd.handed.find? mine with
  | some x => ({ s with fwd.handed := dropFirst mine s.fwd.handed }, x.2.2)
  | none => (s, s.fwd.cfg.ecnEn)

/-- Deliver a data, mailbox or control cell by its DEST. A NETWORK receiver discards what remains of a PDU that has lost a cell, and
keeps whether a cell of the PDU carried CM with ECN translation on (R166, R183, R215, R224). -/
def State.deliverCell (s : State) (t : Tunnel) (c : Cell) (shareOk : Bool) : State :=
  if c.ctype == 1 && c.dest == 0 then s.control t.idx c shareOk
  else if t.p.cls = 5 then
    let skip := t.pduSkip && !c.sop
    let (s, ecn) := if c.cm then s.takeHanded c else (s, false)
    let cm := ecn || (t.pduCm && !c.sop)
    let pdu := (if c.sop then [] else t.pdu) ++ c.payloadBytes.take c.len.toNat
    let s := s.modTun t.idx fun t => { t with pduSkip := skip && !c.eop, pduCm := cm, pdu := if skip || c.eop then [] else pdu }
    if skip then s
    else
      let s := s.send (.deliver t.idx c)
      if c.eop then s.frameUp t.idx cm pdu else s
  else s.send (.deliver t.idx c)

/-- Count a cell delivered in order, and send or time its ACK (R182). -/
def State.delivered (s : State) (idx : Nat) : State :=
  match s.tunAt idx with
  | none => s
  | some t =>
    if !reliable t.p.cls then s
    else if 16 ≤ t.sinceAck + 1 then s.sendAck idx
    else s.modTun idx fun t => { t with sinceAck := t.sinceAck + 1, ackTimer := true }

/-- A NACK for the ESEQ expected has been sent within `t_rto`, 1.2 µs for each hop of the protected hop count and 20 µs (R182; log entry
25). -/
def Tunnel.nackedNow (t : Tunnel) (ns : Nat) : Bool :=
  match t.nackSent with
  | some (e, at') => e == t.rxEseq && decide (ns < at' + 1200 * t.hops + 20000)
  | none => false

/-- A data or control cell whose tag is good (R182 to R184). -/
def State.dataCell (s : State) (t : Tunnel) (c : Cell) (shareOk : Bool) : State :=
  let n := rebuild t.rxEseq c.seq.toNat
  if n < t.rxEseq then
    let s := { s with tun.dup := bump s.tun.dup }
    if reliable t.p.cls then s.sendAck t.idx else s
  else if n = t.rxEseq then
    ((s.modTun t.idx fun t => { t with rxEseq := n + 1, nackSent := none }).deliverCell t c shareOk).delivered t.idx
  else if reliable t.p.cls then
    if t.nackedNow s.clockNs then s
    else (s.modTun t.idx fun t => { t with nackSent := some (t.rxEseq, s.clockNs) }).sendStatus t.idx 2 t.rxEseq
  else
    let t' := { t with pduSkip := true }
    let s := s.modTun t.idx fun t => { t with gap := bumpTo max32 t.gap (n - t.rxEseq), rxEseq := n + 1, pduSkip := t.p.cls == 5 }
    s.deliverCell t' c shareOk

/-- The cell's counter in its own space. -/
def Tunnel.counterOf (t : Tunnel) (c : Cell) : Nat := rebuild (if inStatus c then t.rxSseq else t.rxEseq) c.seq.toNat

/-- The tag is good under a key that still serves for this counter: the newer key always does, the older for counters below the first
accepted under the newer (R178). -/
def Tunnel.keyServes (t : Tunnel) (c : Cell) (newer : Bool) : Bool :=
  newer || (t.oldKey.isSome && (!t.rxNew ||
    (match (if inStatus c then t.newSseq else t.newEseq) with | some n => decide (t.counterOf c < n) | none => true)))

/-- The first cell under the newer key is accepted: the answering end sends under it from then on, and its rekey is complete (R178). -/
def State.noteNewKey (s : State) (t : Tunnel) (c : Cell) (newer : Bool) : State :=
  if !newer || t.oldKey.isNone then s
  else
    let n := t.counterOf c
    let s := s.modTun t.idx fun t => { t with
      rxNew := true
      newEseq := if inStatus c || t.newEseq.isSome then t.newEseq else some n
      newSseq := if inStatus c && t.newSseq.isNone then some n else t.newSseq }
    if t.rxNew || t.answered != some t.kgen then s else (s.startKey t.idx).rekeyed t.idx t.kgen

/-- A cell that fails its tag, or is not encrypted: `c_tag_fail`, and EV084 at most once per second (R184). -/
def State.tagFailed (s : State) (t : Tunnel) : State :=
  (s.modTun t.idx fun t => { t with tagFail := bump t.tagFail }).raiseCounted 84 t.idx 1 [(t.idx, 14)] 16 (.tenant t.p.tenant)

/-- TUNNEL_CELL_RECEIVE: the first row of R184's table that matches. `tag` says under which key the tag is good: none, the newer (true)
or the older (false); `shareOk` whether a keyshare's signature verifies. A mark on a cell of a class other than NETWORK is counted (R216). -/
def execTunnelCellReceive (cell : Cell) (tag : Option Bool) (shareOk : Bool) (s : State) : Host.Outcome State Fault Refusal :=
  match s.tun.table.find? fun t => t.number != 0 && t.rx == cell.tunnel.toNat with
  | none => .next { s with tun.unknown := bump s.tun.unknown }
  | some t =>
    match cell.enc, tag with
    | true, some newer =>
      if !t.keyServes cell newer then .next (s.tagFailed t)
      else
        let s := (s.modTun t.idx fun t => { t with quiet := false }).noteNewKey t cell newer
        let s := if t.st == .stalled && t.stall == 6 then (s.modTun t.idx fun t => { t with stall := 0 }).setTun t.idx .up 1 else s
        let s := if cell.cm && t.p.cls != 5 then s.cntF 3 1 else s
        if inStatus cell then
          let n := rebuild t.rxSseq cell.seq.toNat
          .next (if n < t.rxSseq then s else (s.modTun t.idx fun t => { t with rxSseq := n + 1 }).status t.idx cell)
        else .next (match s.tunAt t.idx with | some t => s.dataCell t cell shareOk | none => s)
    | _, _ => .next (s.tagFailed t)

/-! ### Sending -/

/-- DATA_CELL_OFFER: an internal port offers a data cell, which waits its turn at the policer, or with `pdu` a cell of a mailbox PDU, which does
not and which only a MGMT tunnel carries (R166, R168, R179, R182, R234, R235). -/
def execDataCellOffer (idx : BitVec 14) (pdu : Bool) (dest : BitVec 24) (sop eop : Bool) (payload : List Byte) (s : State) :
    Host.Outcome State Fault Refusal :=
  match s.tunAt idx.toNat with
  | none => .next s
  | some t =>
    if t.st != .up && t.st != .stalled then .next s
    else
      let c : Cell := { ctype := 1, dest := dest, sop := sop, eop := eop, payload := payload.take 224 }
      .next ((s.modTun t.idx fun t =>
        if pdu && t.p.cls == 1 then { t with ctlWait := t.ctlWait ++ [{ c with ctype := 5 }] } else { t with waiting := t.waiting ++ [c] }).sendWaiting t.idx)

/-! ### Record -/

/-- The tunnel record (R188). -/
def recTunnel (s : State) : RdM State := do
  let pct ← rdC 0 31 24 50 100
  let retries ← rdC 0 23 16 1 16
  let rekey ← rdC 0 15 0 10 10080
  let keep ← rdC 1 31 16 10 1000
  let dead ← rdC 1 15 0 (4 * keep) 10000
  pure { s with tun.cfg := { admitPct := pct, e2eRetries := retries, rekeyMin := rekey, keepMs := keep, deadMs := dead } }.checkOver

end Sys2Proof.Machine
end

