-- ==== Sys2Proof/Machine/Display.lean ====
section
/-!
DEFINITION. Display heads (10_display.md): outputs and training, timing and genlock, planes and commits, the locked pair, display tunnels
and their targets, and the DISP commands.
-/

namespace Sys2Proof.Machine

/-! ### Heads -/

/-- A head. -/
def State.hd (s : State) (h : Nat) : Head := s.disp.head.getD h {}

/-- Change a head. -/
def State.modHead (s : State) (h : Nat) (f : Head → Head) : State := { s with disp.head := modAt s.disp.head h f }

/-- D0 and D1 form a locked pair (R336). -/
def State.paired (s : State) : Bool := (s.hd 0).cfg.pair

/-- The head whose timing generator a head runs on (R336). -/
def State.timingHead (s : State) (h : Nat) : Nat := if s.paired then 0 else h

/-- Heads that run on the timing generator of a head (R336). -/
def State.followers (s : State) (h : Nat) : List Nat := if s.paired && h == 0 then [0, 1] else [h]

/-- TENANT of a head (R336, R346). -/
def State.headTenant (s : State) (h : Nat) : Nat := (s.hd (s.timingHead h)).cfg.tenant

/-- Mailboxes that receive a head's events (R349). -/
def State.headDest (s : State) (h : Nat) : EvDest := .tenant (s.headTenant h)

/-- A mailbox may name a head (R346). -/
def State.seesHead (s : State) (src : Source) (h : Nat) : Bool :=
  match s.srcTenant src with
  | some t => s.headTenant h == t
  | none => true

/-- Count in a head's counters (R348). -/
def State.cntH (s : State) (h i : Nat) : State := s.modHead h fun x => { x with c := modAt x.c i bump }

/-- Codes of head states (R326). -/
def HeadState.code : HeadState → Nat
  | .off => 0
  | .noSink => 1
  | .training => 2
  | .run => 3
  | .nofit => 4

/-- Codes of genlock states (R332). -/
def GlState.code : GlState → Nat
  | .free => 0
  | .locking => 1
  | .locked => 2

/-- Change a head's state, with EV176 (R327, R349). -/
def State.setHead (s : State) (h : Nat) (st : HeadState) (cause : Nat) : State :=
  let old := (s.hd h).st
  if old = st then s
  else (s.modHead h fun x => { x with st := st, trainCause := cause }).raise 176 [(h, 1), (old.code, 4), (st.code, 4), (cause, 8)] (s.headDest h)

/-- Change the genlock state of a timing generator, with EV177 (R332, R349). -/
def State.setGl (s : State) (h : Nat) (g : GlState) (eNs : Int) : State :=
  let old := (s.hd h).gl
  if old = g then s
  else
    let us := (BitVec.ofInt 16 (clampI (-32768) 32767 (eNs / 1000))).toNat
    (s.modHead h fun x => { x with gl := g, glGood := 0 }).raise 177 [(h, 1), (old.code, 2), (g.code, 2), (us, 16)] (s.headDest h)

/-! ### Timing -/

/-- HTOTAL (R328). -/
def ModeCfg.htotal (m : ModeCfg) : Nat := m.hact + m.hfp + m.hsync + m.hbp

/-- VTOTAL (R328). -/
def ModeCfg.vtotal (m : ModeCfg) : Nat := m.vsync + m.vbp + m.vact + m.vfp

/-- Raster line of active line 0 (R328). -/
def ModeCfg.active0 (m : ModeCfg) : Nat := m.vsync + m.vbp

/-- The fields of a mode that fix its timing. -/
def ModeCfg.timing (m : ModeCfg) : List Nat := [m.hact, m.hfp, m.hsync, m.hbp, m.vact, m.vfp, m.vsync, m.vbp]

/-- NOMINAL for the frame rate: 50 Hz when the phase record leaves it automatic (R328). -/
def State.frameNominal (s : State) : Nat := if s.phase.cfg.nominal = 2 then 60 else 50

/-- The nominal frame period in ns, as a fraction (R328). -/
def State.framePeriod (s : State) (c : HeadCfg) : Nat × Nat :=
  if c.genlock = 1 then (1000000000 * c.q, s.frameNominal * c.p) else (1000000000 * c.d, c.n)

/-- A quotient rounded to the nearest integer, halves up. -/
def roundDiv (a : Int) (b : Nat) : Int := (2 * a + b) / (2 * b : Nat)

/-- The frame reference of a head is available (R331). -/
def State.glAvail (s : State) (c : HeadCfg) : Bool :=
  if c.genlock = 1 then s.phase.st != .acquire else if c.genlock = 2 then s.time.st != .unset else false

/-- Scheduled start of frame `k`: arcs after its anchor, or PTP time in ns (R331). -/
def schedFrame (c : HeadCfg) (k : Nat) : Nat :=
  if c.genlock = 1 then (roundDiv (k * 262144 * c.q : Nat) c.p).toNat else (roundDiv (k * c.d * 1000000000 : Nat) c.n).toNat

/-- The frame that starts now and its error e in ns, taken the shorter way round the frame period, forward at exactly half (R332). -/
def State.frameError (s : State) (c : HeadCfg) : Nat × Int :=
  if c.genlock = 1 then
    let unit := 10000000000000
    let x := s.phase.count % (262144 * c.q) * unit + s.phase.sub
    let k := x * c.p / (262144 * c.q * unit)
    let d0 : Int := (x : Int) - (schedFrame c k * unit : Nat)
    let d1 : Int := (x : Int) - (schedFrame c (k + 1) * unit : Nat)
    let ns := fun (d : Int) => roundDiv d (2621440 * s.phase.freq)
    if d0 ≤ -d1 then (k, ns d0) else (k + 1, ns d1)
  else
    let k := s.time.ns * c.n / (c.d * 1000000000)
    let d0 : Int := (s.time.ns : Int) - schedFrame c k
    let d1 : Int := (s.time.ns : Int) - schedFrame c (k + 1)
    if d0 ≤ -d1 then (k, d0) else (k + 1, d1)

/-- Scheduler entry of a head (R88, R331). -/
def frameEntry (h : Nat) : Nat := 968 + h

/-- Instant of frame `k` in the base of the head's reference. -/
def State.frameInstant (s : State) (c : HeadCfg) (k : Nat) : Nat :=
  if c.genlock = 1 then (s.phase.count / (262144 * c.q) * (262144 * c.q) + schedFrame c k) % 2 ^ 50 else schedFrame c k

/-- Arm the kept entry of a head for the frame after `k`; a head that runs as FREE has none (R331). -/
def State.armFrame (s : State) (h k : Nat) : State :=
  let c := (s.hd h).cfg
  if s.glAvail c then
    s.keepEntry { idx := frameEntry h, base := if c.genlock = 1 then 0 else 2, action := 4, target := h, inst := s.frameInstant c (k + 1), left := none }
  else s.dropEntry (frameEntry h)

/-- Arm the kept entry of a head at the next instant of its cadence (R94, R331). -/
def State.rearmFrame (s : State) (h : Nat) : State := s.armFrame h (s.frameError (s.hd h).cfg).1

/-- Whole raster lines since the frame start, at the pixel clock of the frame in progress. -/
def State.rasterLine (s : State) (h : Nat) : Nat :=
  let x := s.hd h
  let (num, den) := s.framePeriod x.cfg
  let clk : Nat := ((1000000000 : Int) + x.trimPpb).toNat
  (s.clockNs - x.startNs) * x.mode.vtotal * den * clk / (num * 1000000000)

/-! ### Links -/

/-- Payload per lane used for the fit, in Mb/s (R325). -/
def lanePayload (rate : Nat) : Nat := [1296, 2160, 4320, 6480, 9600, 12960].getD rate 0

/-- The mode fits the trained link (R325). The pair shares mode and frame rate (R336). -/
def State.fits (s : State) (h : Nat) : Bool :=
  let t := s.hd (s.timingHead h)
  let (num, den) := s.framePeriod t.cfg
  let px := den * 1000000000 * t.mode.htotal * t.mode.vtotal
  let bpp := if t.mode.bpc then 30 else 24
  decide (px ≤ 1200000000 * num) && decide (px * bpp ≤ lanePayload (s.hd h).rate * 1000000 * (s.hd h).lanes * num)

/-- State of a head whose timing generator runs (R326, R327). -/
def State.sinkState (s : State) (h : Nat) : HeadState :=
  let x := s.hd h
  if !x.hpd || x.trainFail then .noSink else if x.lanes = 0 then .training else if s.fits h then .run else .nofit

/-- HPD has been high for 2 ms: EDID is read and training begins (R326). -/
def State.hpdHigh (s : State) (h : Nat) (edid : List (List Word)) : State :=
  let s := (s.modHead h fun x => { x with hpd := true, edid := edid, lanes := 0, rate := 0, trainFail := false }).raise 181 [(h, 1), (1, 2)] (s.headDest h)
  if (s.hd h).st == .off then s else s.setHead h .training 1

/-- HPD has been low for 2 ms: the head enters NO_SINK (R326). -/
def State.hpdLow (s : State) (h : Nat) : State :=
  let s := (s.modHead h fun x => { x with hpd := false, lanes := 0, rate := 0, trainFail := false }).raise 181 [(h, 1), (0, 2)] (s.headDest h)
  if (s.hd h).st == .off then s else s.setHead h .noSink 1

/-- An IRQ_HPD pulse: the link is trained again when the sink reports that it has lost lock (R326). -/
def State.irqHpd (s : State) (h : Nat) (lost : Bool) : State :=
  let s := s.raise 181 [(h, 1), (2, 2)] (s.headDest h)
  if !lost then s
  else
    let st := (s.hd h).st
    if st == .run || st == .nofit then (s.modHead h fun x => { x with lanes := 0, rate := 0 }).setHead h .training 2
    else if st == .off then s.modHead h fun x => { x with lanes := 0, rate := 0 }
    else s

/-- Training has ended, at a rate and lane count or at none (R326). -/
def State.trained (s : State) (h : Nat) (lost : Bool) (rate lanes : Nat) : State :=
  let x := s.hd h
  if x.st != .training then s
  else if lost then (s.modHead h fun x => { x with trainFail := true }).setHead h .noSink 3
  else
    let s := s.modHead h fun x => { x with rate := rate, lanes := lanes }
    s.setHead h (s.sinkState h) x.trainCause

/-- What waits for the end of a control restart (R343). -/
def State.hpdEvent (s : State) (h : Nat) (e : HpdEvent) : State :=
  if s.mbx.restart then s.modHead h fun x => { x with hpdWait := x.hpdWait ++ [e] }
  else if e.kind = 0 then s.hpdLow h
  else if e.kind = 1 then s.hpdHigh h e.edid
  else if e.kind = 2 then s.irqHpd h e.lost
  else s.trained h e.lost e.rate e.lanes

/-- HPD changes and training that waited are handled when a control restart ends (R343). -/
def State.hpdResume (s : State) : State :=
  [0, 1].foldl (fun s h =>
    let es := (s.hd h).hpdWait
    es.foldl (fun s e => s.hpdEvent h e) (s.modHead h fun x => { x with hpdWait := [] })) s

/-- DISP_HPD_HIGH. -/
def execDispHpdHigh (head : Fin 2) (edid : List (List Word)) (s : State) : Host.Outcome State Fault Refusal :=
  .next (s.hpdEvent head.val { kind := 1, edid := edid })

/-- DISP_HPD_LOW. -/
def execDispHpdLow (head : Fin 2) (s : State) : Host.Outcome State Fault Refusal := .next (s.hpdEvent head.val {})

/-- DISP_IRQ_HPD. -/
def execDispIrqHpd (head : Fin 2) (lost : Bool) (s : State) : Host.Outcome State Fault Refusal :=
  .next (s.hpdEvent head.val { kind := 2, lost := lost })

/-- Lanes of a lane code: one, two, four. -/
def lanesOf (code : Nat) : Nat := if code = 0 then 1 else if code = 1 then 2 else 4

/-- Lane code of a lane count. -/
def laneCode (n : Nat) : Nat := if n = 4 then 2 else if n = 2 then 1 else 0

/-- DISP_LINK_TRAINED: RUN or NOFIT by the fit, or NO_SINK with cause 3 (R325, R326). The hub trains no higher than its record allows. -/
def execDispLinkTrained (head : Fin 2) (result : Option (Fin 6 × Fin 3)) (s : State) : Host.Outcome State Fault Refusal :=
  let c := (s.hd head.val).cfg
  match result with
  | none => .next (s.hpdEvent head.val { kind := 3, lost := true })
  | some (r, l) => .next (s.hpdEvent head.val { kind := 3, rate := Nat.min r.val c.maxRate, lanes := lanesOf (Nat.min l.val c.maxLanes) })

/-! ### Display areas and planes -/

/-- A buffer lies wholly inside the display area of a head record, aligned, with a stride that holds a line (R330). -/
def HeadCfg.bufferOk (c : HeadCfg) (addr stride w h : Nat) : Bool :=
  addr % 256 == 0 && decide (1 ≤ stride) && decide (stride ≤ 256) && decide (w * 4 ≤ stride * 256) && decide (1 ≤ w) && decide (1 ≤ h) &&
    decide (c.fbBase * mib ≤ addr) && decide (addr + (h - 1) * (stride * 256) + w * 4 ≤ (c.fbBase + c.fbMib) * mib)

/-- A plane that breaks R330 is disabled (R335, R344). -/
def Plane.inArea (p : Plane) (c : HeadCfg) : Plane := { p with enable := p.enable && c.bufferOk p.addr p.stride p.w p.h }

/-! ### Composition -/

/-- A component of 8 bits extended to 10: its two most significant bits repeat below it (R329). -/
def widen8 (v : Nat) : Nat := v * 4 + v / 64

/-- Red, green and blue of a buffer pixel, 10 bits each (R329). -/
def Plane.colour (p : Plane) (w : Nat) : List Nat :=
  if p.format then [w / 2 ^ 20 % 1024, w / 2 ^ 10 % 1024, w % 1024] else [widen8 (w / 65536 % 256), widen8 (w / 256 % 256), widen8 (w % 256)]

/-- A plane covers a position of the active area, or of the pair's space (R329, R336). -/
def Plane.covers (p : Plane) (x y : Nat) : Bool :=
  p.enable && decide (p.x ≤ x) && decide (x < p.x + p.w) && decide (p.y ≤ y) && decide (y < p.y + p.h)

/-- Byte of LPDDR5X at which the pixel of a plane for a position begins (R329, R330, R347). -/
def Plane.pixelAddr (p : Plane) (x y : Nat) : Nat := p.addr + (y - p.y) * (p.stride * 256) + (x - p.x) * 4

/-- Overlay over what lies below, in 10-bit precision; the fraction is dropped, which is the model's choice (R329, log entry 174). -/
def blend (alpha over10 below : Nat) : Nat := (over10 * alpha + below * (255 - alpha)) / 255

/-- The little-endian word of LPDDR5X at an address (R329). -/
def State.pixelWord (s : State) (a : Nat) : Nat :=
  (dramRead s.dram a).toNat + 256 * (dramRead s.dram (a + 1)).toNat + 65536 * (dramRead s.dram (a + 2)).toNat + 16777216 * (dramRead s.dram (a + 3)).toNat

/-- Red, green and blue, 10 bits each, of a position in a composition: BG, then BASE, then OVERLAY (R329). -/
def State.compose (s : State) (c : Head) (x y : Nat) : List Nat :=
  let bg := [c.bg / 2 ^ 20 % 1024, c.bg / 2 ^ 10 % 1024, c.bg % 1024]
  let below := if c.base.covers x y then c.base.colour (s.pixelWord (c.base.pixelAddr x y)) else bg
  if c.overlay.covers x y then List.zipWith (blend c.overlay.alpha) (c.overlay.colour (s.pixelWord (c.overlay.pixelAddr x y))) below else below

/-- What a head in RUN sends at column `x` of active line `y`: of the pair's space D0 shows the first HACT columns and D1 the rest, SWAP
exchanges them; at 8 bits per component the two least significant bits are dropped (R329, R336). -/
def State.shown (s : State) (h x y : Nat) : List Nat :=
  let c := s.hd (s.timingHead h)
  let right := s.paired && ((h == 1) != c.cfg.swap)
  let v := s.compose c (if right then c.mode.hact + x else x) y
  if c.mode.bpc then v else v.map (· / 4)

/-! ### RASTER -/

/-- First raster line of a target (R339). -/
def Head.firstLine (x : Head) (t : Target) : Nat :=
  x.mode.active0 +
    (if x.base.enable && x.base.addr == t.addr then x.base.y else if x.overlay.enable && x.overlay.addr == t.addr then x.overlay.y else 0)

/-- What RASTER says of a target (R339). -/
def State.rasterOf (s : State) (h : Nat) (t : Target) : Raster :=
  let x := s.hd h
  let (num, den) := s.framePeriod x.cfg
  let mains := x.cfg.genlock == 1 && x.gl != .free
  { base := if mains then 0 else 2, gl := x.gl.code, vtotal := x.mode.vtotal, first := x.firstLine t, vact := x.mode.vact,
    linePs := (roundDiv (num * 1000 : Nat) (den * x.mode.vtotal)).toNat, anchor := x.anchor,
    period := if mains then (roundDiv (262144 * 65536 * x.cfg.q : Nat) x.cfg.p).toNat else (roundDiv (num * 65536 : Nat) den).toNat,
    w := t.w, h := t.h }

/-- The payload of a RASTER cell, every field most significant byte first (R5, R339). -/
def rasterBytes (r : Raster) : List Byte :=
  numBytes 2 1 ++ numBytes (r.base * 64 + r.gl) 1 ++ numBytes r.vtotal 2 ++ numBytes r.first 2 ++ numBytes r.vact 2 ++ numBytes r.linePs 4 ++
    numBytes r.anchor 8 ++ numBytes r.period 8 ++ numBytes r.w 2 ++ numBytes r.h 2

/-- Send RASTER on a target's tunnel (R339). -/
def State.sendRaster (s : State) (h : Nat) (t : Target) : State :=
  let r := s.rasterOf h t
  let s := s.modHead h fun x => { x with targets := x.targets.map fun (u : Target) => if u.slot == t.slot then { u with last := r } else u }
  s.send (.pdu t.tun 2 (rasterBytes r))

/-- Send RASTER wherever a field has changed; the anchor names one scheduled frame start and does not count (R339). -/
def State.refreshRasters (s : State) (h : Nat) : State :=
  (s.hd h).targets.foldl (fun s t => if { s.rasterOf h t with anchor := 0 } = { t.last with anchor := 0 } then s else s.sendRaster h t) s

/-- RASTER_SEND: every 1 s for a bound tunnel (R339). -/
def execRasterSend (idx : BitVec 14) (s : State) : Host.Outcome State Fault Refusal :=
  .next ([0, 1].foldl (fun s h => match (s.hd h).targets.find? (·.tun == idx.toNat) with
    | some t => s.sendRaster h t
    | none => s) s)

/-! ### Frames -/

/-- A pending commit is discarded, with EV178 where NOTIFY was asked (R335, R337). -/
def State.discardCommit (s : State) (h : Nat) : State :=
  match (s.hd h).commit with
  | none => s
  | some c =>
    let s := s.modHead h fun x => { x with commit := none }
    if c.notify then s.raise 178 [(h, 1), (2, 2), (c.id, 16)] (.only c.src) else s

/-- The head and mode records that wait take effect at a frame start; planes outside a changed area are shown disabled (R344, R345). -/
def State.loadRecords (s : State) (h : Nat) : State :=
  s.modHead h fun x =>
    let c := x.nextCfg.getD x.cfg
    { x with cfg := c, mode := x.nextMode.getD x.mode, nextCfg := none, nextMode := none, base := x.base.inArea c, overlay := x.overlay.inArea c }

/-- A pending commit whose frame start has come applies (R334). -/
def State.applyCommit (s : State) (h : Nat) : State :=
  match (s.hd h).commit with
  | none => s
  | some c =>
    if c.frames != 0 then s.modHead h fun x => { x with commit := some { c with frames := c.frames - 1 } }
    else
      let s := s.modHead h fun x => { x with
        commit := none, bg := c.bg, base := c.base.inArea x.cfg, overlay := c.overlay.inArea x.cfg, lastCommit := c.id }
      if c.notify then s.raise 178 [(h, 1), (b2n c.late, 2), (c.id, 16)] (.only c.src) else s

/-- Genlock at a frame start: the error, the correction of the frame that starts, and the state (R332). -/
def State.genlock (s : State) (h : Nat) : State :=
  let x := s.hd h
  let c := x.cfg
  let (num, den) := s.framePeriod c
  let v := x.mode.vtotal
  if !s.glAvail c then
    (s.modHead h fun x => { x with
      lastE := 0, vfpNow := x.mode.vfp, trimPpb := 0, frame := x.frame + 1, anchor := s.time.ns }).setGl h .free 0
  else
    let (k, e) := s.frameError c
    let flex : Int := (Nat.min c.vfpFlex (x.mode.vfp - 1) : Nat)
    let n := clampI (-flex) flex (roundDiv (e * (v * den : Nat)) num)
    let lim : Int := (c.trimPpm * 1000 : Nat)
    let trim := clampI (-lim) lim (roundDiv ((e * (v * den : Nat) - n * num) * 1000000000) (num * v))
    let lineE : Nat := e.natAbs * v * den
    let within := if c.trimPpm = 0 then decide (2 * lineE ≤ num) else decide (e.natAbs ≤ 100)
    let out := if c.trimPpm = 0 then decide (num < lineE) else decide (1000 < e.natAbs)
    let s := s.modHead h fun x => { x with
      lastE := e, vfpNow := ((x.mode.vfp : Int) - n).toNat, trimPpb := trim, frame := k, anchor := s.frameInstant c k }
    match x.gl with
    | .free => s.setGl h .locking e
    | .locking =>
      let good := if within then x.glGood + 1 else 0
      if 8 ≤ good then s.setGl h .locked e else s.modHead h fun x => { x with glGood := good }
    | .locked => if out then s.setGl h .locking e else s

/-- The timing of a head and its follower stops (R327, R333). -/
def State.stopTiming (s : State) (h cause : Nat) : State :=
  let s := (s.followers h).foldl (fun s g => s.setHead g .off cause) s
  s.modHead h fun x => { x with restart := false, frames := 0 }

/-- A frame of a running timing generator starts: outputs, genlock, commit and RASTER (R332 to R339). -/
def State.runFrame (s : State) (h : Nat) : State :=
  let starting := (s.hd h).st == .off
  let s := (s.followers h).foldl (fun s g =>
    let x := s.hd g
    if !x.cfg.enable then s.setHead g .off 0
    else if x.st == .off then (s.modHead g fun x => { x with restart := false }).setHead g (s.sinkState g) (s.hd h).stopCause
    else if x.st == .run || x.st == .nofit then s.setHead g (s.sinkState g) 4
    else s) s
  let s := if starting then s.modHead h fun x => { x with
      frames := 0, stopCause := 0, glGood := 0, commit := x.commit.map fun (c : Commit) => { c with frames := 0 } } else s
  let s := s.genlock h
  let s := s.modHead h fun x => { x with startNs := s.clockNs, frames := bump x.frames }
  let s := (s.applyCommit h).armFrame h (s.hd h).frame
  s.refreshRasters h

/-- DOM_DISP is switched off once no head in force is enabled (R513). -/
def State.dispDomain (s : State) : State :=
  if s.domWanted 12 then s else { s with sys.domains := modAt s.sys.domains 12 fun _ => false }

/-- The frame start of a head: records that waited take effect; a changed timing stops here and starts at the next scheduled frame
start; otherwise the frame runs. D1 of a locked pair has no frame start of its own (R332, R333, R336, R344). -/
def State.frameStart (s : State) (h : Nat) : State :=
  if s.paired && h == 1 && !((s.hd 1).restart && (s.hd 1).st != .off) then s
  else
    let x := s.hd h
    let on := s.domOn 12 && (x.nextCfg.getD x.cfg).enable
    if !on then
      let was := s.followers h
      let s := ((s.loadRecords h).stopTiming h 0).dropEntry (frameEntry h)
      (was.foldl (fun s g => s.setHead g .off 0) s).dispDomain
    else if x.restart && x.st != .off then
      let s := s.stopTiming h x.stopCause
      let s := (s.followers h).foldl (fun s g => (s.loadRecords g).setHead g .off x.stopCause) (s.loadRecords h)
      let s := if s.glAvail (s.hd h).cfg then s.setGl h .locking 0 else s.setGl h .free 0
      (s.rearmFrame h).refreshRasters h
    else
      let s := s.loadRecords h
      let s := (s.followers h).foldl (fun s g => s.loadRecords g) s
      s.runFrame h

/-- FRAME_START (R332). -/
def execFrameStart (head : Fin 2) (s : State) : Host.Outcome State Fault Refusal := .next (s.frameStart head.val)

/-- DISP_UNDERRUN: BG is shown for what memory could not supply, or for a block with an uncorrectable ECC error (R330). -/
def execDispUnderrun (head : Fin 2) (ecc : Bool) (s : State) : Host.Outcome State Fault Refusal :=
  if ecc then .next (s.cntH head.val 1)
  else .next ((s.cntH head.val 0).raiseCounted 180 head.val 1 [(head.val, 1)] 16 (s.headDest head.val))

/-! ### Targets and cells -/

/-- Remove the binding of a tunnel, with EV182 (R338). -/
def State.unbindTarget (s : State) (idx : Nat) : State :=
  [0, 1].foldl (fun s h => match (s.hd h).targets.find? (·.tun == idx) with
    | some t => (s.modHead h fun x => { x with targets := x.targets.filter (·.tun != idx) }).raise 182
        [(h, 1), (t.slot, 2), (0, 1), (idx, 14)] (s.headDest h)
    | none => s) s

/-- Head and target that a tunnel is bound to. -/
def State.targetOf (s : State) (idx : Nat) : Option (Nat × Target) :=
  match (s.hd 0).targets.find? (·.tun == idx), (s.hd 1).targets.find? (·.tun == idx) with
  | some t, _ => some (0, t)
  | none, some t => some (1, t)
  | none, none => none

/-- Head that counts a cell of an unbound tunnel: the lowest whose TENANT is the tunnel's, else D0. -/
def State.unboundHead (s : State) (idx : Nat) : Nat :=
  match s.tunAt idx with
  | some t => if (s.hd 0).cfg.tenant == t.p.tenant then 0 else if (s.hd 1).cfg.tenant == t.p.tenant then 1 else 0
  | none => 0

/-- Number of `k` bytes at `n` of a payload, most significant first. -/
def byteNum (p : List Byte) (n k : Nat) : Nat := (List.range k).foldl (fun a i => a * 256 + (p.getD (n + i) 0).toNat) 0

/-- A RASTER as a cell carries it (R339). -/
def readRaster (p : List Byte) : Raster :=
  { base := byteNum p 1 1 / 64, gl := byteNum p 1 1 % 4, vtotal := byteNum p 2 2, first := byteNum p 4 2, vact := byteNum p 6 2,
    linePs := byteNum p 8 4, anchor := byteNum p 12 8, period := byteNum p 20 8, w := byteNum p 28 2, h := byteNum p 30 2 }

/-- The preferred timing that the sink's EDID declares: W, H, frame rate in 0.01 Hz, and whether it is the head's own mode (R390). -/
def State.edidTiming (s : State) (p : Nat) : List Nat :=
  let x := s.dk p
  let none60 := [1920, 1080, 6000, 0]
  match x.binding with
  | none => none60
  | some b =>
    if b.video = 1 then
      let h := s.timingHead b.head.val
      let y := s.hd h
      let (num, den) := s.framePeriod y.cfg
      let width := if s.paired then 2 * y.mode.hact else y.mode.hact
      [b.w, b.h, (roundDiv (100000000000 * den : Nat) num).toNat, b2n (b.w == width && b.h == y.mode.vact)]
    else match (x.vidTun.bind fun i => s.disp.pacing.find? (·.1 == i)).map (·.2) with
      | none => none60
      | some r =>
        let hz := if r.base = 2 then (roundDiv (100000000000 * 65536 : Nat) (Nat.max 1 r.period)).toNat
          else (roundDiv (262144 * s.phase.freq * 65536 : Nat) (10 * Nat.max 1 r.period)).toNat
        [r.w, r.h, hz, 0]

/-- Present the EDID (R390). -/
def State.presentEdid (s : State) (p : Nat) : State := if h : p < 4 then s.send (.edid ⟨p, h⟩ (s.edidTiming p)) else s

/-- Take a RASTER as the pacing reference of a tunnel. At a desk port whose video target it describes the EDID follows, and the laptop hears
IRQ_HPD when the target's size has changed (R341, R389, R390). -/
def State.takeRaster (s : State) (idx : Nat) (r : Raster) : State :=
  let old := (s.disp.pacing.find? (·.1 == idx)).map (·.2)
  let s := { s with disp.pacing := (idx, r) :: s.disp.pacing.filter (·.1 != idx) }
  if old.any fun o => o.w == r.w && o.h == r.h && o.period == r.period && o.base == r.base then s
  else ((List.range 4).filter fun p => (s.dk p).vidTun == some idx).foldl (fun s p =>
    let s := s.presentEdid p
    if (s.dk p).hpd && old.any fun o => o.w != r.w || o.h != r.h then s.attention p true else s) s

/-- Pixels of a PIXELS cell from the `i`th on, as bytes of LPDDR5X: each word least significant byte first (R329, R339). -/
def pixelBytes (p : List Byte) (n : Nat) : List Byte :=
  ((List.range n).map fun i => [p.getD (16 + 4 * i + 3) 0, p.getD (16 + 4 * i + 2) 0, p.getD (16 + 4 * i + 1) 0, p.getD (16 + 4 * i) 0]).flatten

/-- Write the pixels of a cell that lie inside the target (R341). -/
def State.writePixels (s : State) (t : Target) (y x n : Nat) (p : List Byte) : State :=
  if t.h ≤ y then s
  else s.memWrite (t.addr + y * (t.stride * 256) + x * 4) (pixelBytes p (Nat.min n (t.w - x)))

/-- DISPLAY_CELL_RECEIVE: the first row of R341 that matches. The sending end of a display tunnel takes RASTER too. -/
def execDisplayCellReceive (idx : BitVec 14) (payload : List Byte) (s : State) : Host.Outcome State Fault Refusal :=
  let i := idx.toNat
  let dop := byteNum payload 0 1
  if dop = 2 ∧ s.desk.port.toList.any (·.vidTun == some i) then .next (s.takeRaster i (readRaster payload))
  else match s.targetOf i with
  | none => .next (s.cntH (s.unboundHead i) 5)
  | some (h, t) =>
    let n := byteNum payload 6 1
    if (dop ≠ 1 ∧ dop ≠ 2) ∨ (dop = 1 ∧ (n = 0 ∨ 52 < n ∨ payload.length ≠ 16 + 4 * n)) then .next (s.cntH h 4)
    else if dop = 2 then .next (s.takeRaster i (readRaster payload))
    else
      let y := byteNum payload 2 2
      let x := byteNum payload 4 2
      let w := s.writePixels t y x n payload
      if t.h ≤ y ∨ t.w < x + n then .next (w.cntH h 6)
      else
        let f := (s.hd h).firstLine t + y
        let line := s.rasterLine h
        .next (if (s.hd h).st != .off && decide (f ≤ line + 2) && decide (line ≤ f) then w.cntH h 3 else w)

/-! ### Commands -/

/-- The words of DISP.STATUS (R348). -/
def State.dispWords (s : State) (h : Nat) : List Word :=
  let x := s.hd h
  let t := s.hd (s.timingHead h)
  pack [(x.st.code, 4), (t.cfg.genlock, 2), (t.gl.code, 2), (b2n s.paired, 1), (x.rate, 3), (laneCode x.lanes, 2), (0, 2), (t.lastCommit, 16)] ::
    wdI (clampI (-2147483648) 2147483647 t.lastE) :: wd t.frames :: x.c.toList.map wd

/-- DISP_STATUS: a head the mailbox may not name answers as OFF with every field 0 (R346, R348). -/
def execDispStatus (s : State) : Host.Outcome State Fault Refusal :=
  runCmd 0x4001 s fun r s =>
    let h := r.f 0 31 31
    if !s.seesHead r.src h then (s, okR (List.replicate 10 0))
    else (if bitAt (r.w 0) 0 then s.modHead h fun x => { x with c := Vector.replicate 7 0 } else s, okR (s.dispWords h))

/-- DISP_EDID (R348). -/
def execDispEdid (s : State) : Host.Outcome State Fault Refusal :=
  runRead 0x4002 s fun r s =>
    let x := s.hd (r.f 0 31 31)
    match x.st, x.edid[r.f 0 7 0]? with
    | .noSink, _ | _, none => failR 0x40
    | _, some b => okR ((b ++ List.replicate 32 0).take 32)

/-- A plane descriptor of DISP.COMMIT at word `w` (R347). -/
def readPlane (r : Waiting) (w : Nat) : Plane :=
  { enable := bitAt (r.w w) 31, format := bitAt (r.w w) 30, alpha := r.f w 29 22, addr := u64At r.data (w + 1), stride := r.f (w + 3) 31 16,
    w := r.f (w + 4) 31 16, h := r.f (w + 4) 15 0, x := r.f (w + 5) 31 16, y := r.f (w + 5) 15 0 }

/-- The commit deadline of the frame in progress has passed (R334). -/
def State.pastDeadline (s : State) (h : Nat) : Bool :=
  let x := s.hd h
  x.st != .off && decide (x.mode.active0 + (x.mode.vact - Nat.min x.cfg.commitLines x.mode.vact) ≤ s.rasterLine h)

/-- DISP_COMMIT: the commit waits for its frame start; one that is pending is discarded; a plane that breaks R330 is committed disabled
(R334, R335, R337, R346). -/
def execDispCommit (s : State) : Host.Outcome State Fault Refusal :=
  runCmd 0x4010 s fun r s =>
    let h := r.f 0 31 31
    if !s.seesHead r.src h || (s.paired && h == 1) then (s, failR 0x40)
    else
      let c := (s.hd h).nextCfg.getD (s.hd h).cfg
      let b := readPlane r 2
      let o := readPlane r 8
      let late := s.pastDeadline h
      let s := s.discardCommit h
      let id := r.f 0 15 0
      let new : Commit := { id := id, notify := bitAt (r.w 0) 30, bg := r.f 1 29 0, base := b.inArea c, overlay := o.inArea c,
                            frames := b2n late, src := r.src, late := late }
      let s := s.modHead h fun x => { x with commit := some new }
      let s := if late then (s.cntH h 2).raise 179 [(h, 1), (id, 16)] (.only r.src) else s
      (s, okC (b.inArea c != b || o.inArea c != o))

/-- DISP_WRITE: pixel words into the display area (R348). -/
def execDispWrite (s : State) : Host.Outcome State Fault Refusal :=
  runCmd 0x4011 s fun r s =>
    let h := r.f 0 31 31
    let c := (s.hd h).cfg
    let off := (r.w 1).toNat / 4 * 4
    let px := r.data.drop 2
    if !s.seesHead r.src h || decide (c.fbMib * mib < off + 4 * px.length) then (s, failR 0x40)
    else (s.memWrite (c.fbBase * mib + off) (px.map wordBytesLE).flatten, okC ((r.w 1).toNat % 4 != 0))

/-- Bind a tunnel to a target of a head, and send RASTER (R338, R339). -/
def State.bindTarget (s : State) (h : Nat) (t : Target) : State :=
  let s := s.modHead h fun x => { x with targets := x.targets ++ [t] }
  (s.raise 182 [(h, 1), (t.slot, 2), (1, 1), (t.tun, 14)] (s.headDest h)).sendRaster h t

/-- DISP_TARGET (R337, R338, R348). -/
def execDispTarget (s : State) : Host.Outcome State Fault Refusal :=
  runCmd 0x4020 s fun r s =>
    let h := r.f 0 31 31
    match s.tunFor r (r.w 1).toNat with
    | none => (s, failR 0x40)
    | some t =>
      if t.p.cls != 2 || !s.seesHead r.src h || (s.paired && h == 1) then (s, failR 0x40)
      else if bitAt (r.w 0) 30 then
        match s.targetOf t.idx with
        | some (_, b) => (s.unbindTarget t.idx, okR [pack [(b.slot, 2)]])
        | none => (s, failR 0x40)
      else
        let others := (s.hd h).targets.filter (·.tun != t.idx)
        match leastFree (others.map (·.slot)) 0 4 with
        | none => (s, failR 0x40)
        | some k =>
          let w := r.f 5 31 16
          let hh := r.f 5 15 0
          if !(s.hd h).cfg.bufferOk (u64At r.data 2) (r.f 4 31 16) w hh then (s, failR 0x40)
          else
            let b : Target := { slot := k, tun := t.idx, addr := u64At r.data 2, stride := r.f 4 31 16, w := w, h := hh }
            ((s.unbindTarget t.idx).bindTarget h b, okR [pack [(k, 2)]])

/-! ### Records -/

/-- Timing of a head changes: it stops at the next frame start and starts again at the next scheduled one (R333). -/
def State.retime (s : State) (h cause : Nat) : State :=
  if (s.hd h).st == .off then s.modHead h fun x => { x with stopCause := cause } else s.modHead h fun x => { x with restart := true, stopCause := cause }

/-- PAIR changes: both heads stop and restart together, and D1's pending commit is discarded (R337). -/
def State.pairChange (s : State) : State := ((s.retime 0 5).retime 1 5).discardCommit 1

/-- Put a head record to use: TENANT at once, the genlock fields in LOCKING, the rest at the next frame start, or at once while no frame
runs (R333, R337, R344). -/
def State.putHead (s : State) (h : Nat) (c : HeadCfg) : State :=
  let x := s.hd h
  let old := x.cfg
  let last := x.nextCfg.getD old
  let glNew := old.genlock != c.genlock || old.p != c.p || old.q != c.q || old.n != c.n || old.d != c.d
  let rateNew := s.framePeriod old != s.framePeriod c
  let s := s.modHead h fun x =>
    if x.st == .off then { x with cfg := c, nextCfg := none, base := x.base.inArea c, overlay := x.overlay.inArea c }
    else { x with cfg := { old with tenant := c.tenant, genlock := c.genlock, p := c.p, q := c.q, n := c.n, d := c.d }, nextCfg := some c }
  let s := if h == 0 && last.pair != c.pair then s.pairChange
    else if rateNew && !(s.paired && h == 1) then s.retime h 0 else s
  let s := if glNew then (if s.glAvail c then s.setGl h .locking (s.hd h).lastE else s.setGl h .free 0) else s
  (if c.enable then s.rearmFrame h else s).refreshRasters h

/-- The head record (R344). -/
def recHead (s : State) : RdM State := do
  let h ← rdR 0 31 31
  let en ← rdB 0 30
  let pair ← rdB 0 29
  let swap ← rdB 0 28
  let rate ← rdE 0 27 25 (· ≤ 5) 5
  let lanes ← rdE 0 24 23 (· ≤ 2) 2
  let gl ← rdE 0 22 20 (· ≤ 2) 0
  let tenant ← rdR 0 15 0
  let p ← rdC 1 31 16 1 1000
  let hz := s.frameNominal
  let q ← rdC 1 15 0 (Nat.max 1 ((hz * p + 119) / 120)) (Nat.min 1000 (hz * p / 20))
  let n ← rdC 2 31 16 20 65535
  let d ← rdC 2 15 0 (Nat.max 1 ((n + 119) / 120)) (n / 20)
  let flex ← rdR 3 31 24
  let trim ← rdC 3 23 14 0 300
  let lines ← rdR 3 13 6
  let top := s.sys.hubBase / mib
  let fb ← rdC 4 31 16 0 top
  let fm ← rdC 4 15 0 0 (Nat.min 1024 (top - fb))
  pure (s.putHead h { enable := en, pair := pair && h == 0, swap := swap, maxRate := rate, maxLanes := lanes, genlock := gl, tenant := tenant,
                      p := p, q := q, n := n, d := d, vfpFlex := flex, trimPpm := trim, commitLines := lines, fbBase := fb, fbMib := fm })

/-- Put a mode record to use at the next frame start, or at once while no frame runs (R333, R345). -/
def State.putMode (s : State) (h : Nat) (m : ModeCfg) : State :=
  let old := (s.hd h).nextMode.getD (s.hd h).mode
  let s := s.modHead h fun x => if x.st == .off then { x with mode := m } else { x with nextMode := some m }
  if old.timing != m.timing && !(s.paired && h == 1) then s.retime h 0 else s

/-- The mode record (R345). -/
def recMode (s : State) : RdM State := do
  let h ← rdR 0 31 31
  let bpc ← rdB 0 30
  let hs ← rdB 0 29
  let vs ← rdB 0 28
  let hact ← rdF 0 15 0 fun v => clampN 640 5120 v / 2 * 2
  let hfp ← rdC 1 31 16 1 4095
  let hsync ← rdC 1 15 0 1 4095
  let hbp ← rdC 2 31 16 1 4095
  let vact ← rdC 2 15 0 480 4320
  let vfp ← rdC 3 31 16 1 4095
  let vsync ← rdC 3 15 0 1 255
  let vbp ← rdC 4 31 16 1 4095
  pure (s.putMode h { bpc := bpc, hspol := hs, vspol := vs, hact := hact, hfp := hfp, hsync := hsync, hbp := hbp, vact := vact, vfp := vfp,
                      vsync := vsync, vbp := vbp })

/-! ### Power and re-steps -/

/-- DOM_DISP is off: every head is OFF (R327). -/
def State.displayDown (s : State) : State :=
  [0, 1].foldl (fun s h => ((s.setHead h .off 0).modHead h fun x => { x with restart := false, frames := 0, lanes := 0, rate := 0, hpd := false }).dropEntry
    (frameEntry h)) s

/-- The kept entries of heads that run are re-armed in the new timing (R94, R333). -/
def State.rearmFrames (s : State) : State :=
  [0, 1].foldl (fun s h => if (s.hd h).st == .off || (s.paired && h == 1) then s else s.rearmFrame h) s

end Sys2Proof.Machine
end

