-- ==== Sys2Proof/Machine/PowerPath.lean ====
section
/-!
DEFINITION. Feeds and lighting-port power (14_power_path.md): feed states and selection (R439 to R443), lighting-port outputs
(R444 to R454), metering (R455 to R459), the PWR commands and the records of R460 to R462.
-/

namespace Sys2Proof.Machine

/-! ### Feeds -/

/-- Codes of feed states (R439). -/
def FeedState.code : FeedState → Nat
  | .down => 0
  | .qualifying => 1
  | .good => 2
  | .low => 3
  | .overVolt => 4
  | .fetFault => 5

/-- One feed. -/
def State.fd (s : State) (f : Fin 2) : Feed := s.pwr.feed[f.val]

/-- Change a feed. -/
def State.modFeed (s : State) (f : Fin 2) (g : Feed → Feed) : State := { s with pwr.feed := updAt s.pwr.feed f g }

/-- The other feed. -/
def otherFeed (f : Fin 2) : Fin 2 := if f = 0 then 1 else 0

/-- SELECTED as PWR.STATUS gives it: 0 none, 1 FEED_A, 2 FEED_B (R465). -/
def State.selCode (s : State) : Nat := match s.pwr.selected with | none => 0 | some f => f.val + 1

/-- Move a feed to a state, with EV224; FEED_A that leaves GOOD ends REVERT_S, and a forced feed that stops being GOOD ends the force
(R439, R440). -/
def State.setFeed (s : State) (f : Fin 2) (st : FeedState) : State :=
  let old := (s.fd f).st
  if old = st then s
  else
    let s := s.modFeed f fun x => { x with st := st }
    let s := { s with
      pwr.revertRun := s.pwr.revertRun && !(f == 0 && st != FeedState.good)
      pwr.forced := s.pwr.forced && !(f == s.pwr.forceTo && st != FeedState.good) }
    s.raise 224 [(f.val, 1), (old.code, 4), (st.code, 4)]

/-- A root port with a READY drive sends CC.SHN to it (R424, R443). -/
def State.shutDrives (s : State) : State :=
  (List.finRange 2).foldl (fun s p =>
    let x := s.stor.port[p.val]
    if x.cfg.mode == 1 && x.drive.st == .ready then
      { s with stor.port := updAt s.stor.port p fun x => { x with drive.shn := true } }.send (.shutdown p)
    else s) s

/-- FEED_WARN is asserted: EV226, and CC.SHN to the drives (R443). -/
def State.assertWarn (s : State) : State :=
  if s.pwr.warn then s
  else ({ s with pwr.warn := true, pwr.warnLead := true, pwr.warns := bump s.pwr.warns }.raise 226 [(1, 1), (s.selCode, 2)]).shutDrives

/-- Thresholds of the feed record in mV. -/
def State.warnMv (s : State) : Nat := s.pwr.feedCfg.warnDv * 100
/-- UV_V in mV. -/
def State.uvMv (s : State) : Nat := s.pwr.feedCfg.uvDv * 100
/-- OV_V in mV. -/
def State.ovMv (s : State) : Nat := s.pwr.feedCfg.ovDv * 100

/-- The feed stands in the qualifying band (R439). -/
def State.inBand (s : State) (mv : Nat) : Bool := decide (s.warnMv + 1000 ≤ mv) && decide (mv ≤ s.ovMv)

/-- The state a feed moves to on a tick, its counts updated; diode carry is judged apart (R439). -/
def State.nextFeed (s : State) (f : Fin 2) : FeedState :=
  let x := s.fd f
  let sel := s.pwr.selected == some f
  let banded : FeedState := if s.inBand x.mv then .qualifying else .down
  if x.st == .fetFault then .fetFault
  else if 10 ≤ x.aboveOv then .overVolt
  else match x.st with
    | .good =>
      if sel then (if 10 ≤ x.belowUv then .down else if 50 ≤ x.belowWarn then .low else .good)
      else if 50 ≤ x.belowWarn then .down else .good
    | .low =>
      if sel then (if 10 ≤ x.belowUv then .down else if x.carry || decide (x.mv < s.warnMv) then .low else .good)
      else if 50 ≤ x.belowWarn then .down else .good
    | .overVolt => if s.ovMv < x.mv then .overVolt else banded
    | _ => banded

/-- One 1 µs tick of a feed's comparators (R439, R443). -/
def State.stepFeed (s : State) (f : Fin 2) (mv : Nat) : State :=
  let s := s.modFeed f fun x =>
    { x with
      mv := mv
      belowWarn := if mv < s.warnMv then x.belowWarn + 1 else 0
      belowUv := if mv < s.uvMv then x.belowUv + 1 else 0
      aboveOv := if s.ovMv < mv then x.aboveOv + 1 else 0 }
  let old := (s.fd f).st
  let st := s.nextFeed f
  let s := s.setFeed f st
  if s.pwr.selected = some f then
    let s := if st = .low && old != .low then s.assertWarn else s
    let s := if st = .down && (old == .good || old == .low) then { s with pwr.uvLeft := true }.assertWarn else s
    if st = .good then { s with pwr.uvLeft := false } else s
  else s

/-- The reverse-current turn-off of the selected feed (R441). -/
def State.reverseTurnOff (s : State) (bus : Nat) : State :=
  match s.pwr.selected with
  | none => s
  | some f =>
    let x := s.fd f
    if s.pwr.sw != .idle || x.st == .fetFault then s
    else if x.gate && decide (x.mv + 30 < bus) then s.modFeed f fun x => { x with gate := false, revOff := true, reversed := 0 }
    else if x.revOff && decide (bus < x.mv) then s.modFeed f fun x => { x with gate := true, revOff := false, reversed := 0, carry := false }
    else s

/-- Diode carry: the turn-off has held for 50 µs while the other feed is GOOD (R439, R441). -/
def State.diodeCarry (s : State) : State :=
  match s.pwr.selected with
  | none => s
  | some f =>
    let held := (s.fd f).revOff && (s.fd (otherFeed f)).st == .good && s.pwr.sw == .idle
    let s := s.modFeed f fun x => { x with reversed := if held then x.reversed + 1 else 0 }
    let x := s.fd f
    if 50 ≤ x.reversed && !x.carry && (x.st == .good || x.st == .low) then
      ((s.modFeed f fun x => { x with carry := true }).setFeed f .low).assertWarn
    else s

/-! ### Lighting-port states -/

/-- Codes of port power states (R444). -/
def LpState.code : LpState → Nat
  | .off => 0
  | .unseated => 1
  | .seating => 2
  | .inrush => 3
  | .on => 4
  | .retryWait => 5
  | .latched => 6
  | .lockout => 7
  | .damaged => 8
  | .unstable => 9

/-- One lighting-port output. -/
def State.lp (s : State) (n : Nat) : LightPower := s.pwr.lp.getD n {}

/-- Change a lighting-port output. -/
def State.modLp (s : State) (n : Nat) (f : LightPower → LightPower) : State := { s with pwr.lp := modAt s.pwr.lp n f }

/-- Move a port to a state, with EV227; PG holds exactly while it is ON, and the segment follows PG with a cause (R444). -/
def State.setLpC (s : State) (n : Nat) (st : LpState) (cause : Nat) : State :=
  let old := (s.lp n).st
  if old = st then s
  else
    let s := (s.modLp n fun x => { x with st := st, pg := st == .on }).raise 227 [(n, 4), (old.code, 4), (st.code, 4)]
    if old = .on ∨ st = .on then s.refreshSegment n cause else s

/-- Move a port to a state. -/
def State.setLp (s : State) (n : Nat) (st : LpState) : State := s.setLpC n st 1

/-- The gate is driven (R449). -/
def LightPower.driven (x : LightPower) : Bool := x.st == .inrush || x.st == .on

/-- Enter INRUSH, taking the fields in force, or wait in SEATING while no feed is selected (R445, R447, R461). -/
def State.startInrush (s : State) (n : Nat) : State :=
  let s := s.modLp n fun x => { x with retryAt := none, latchAfter := false, reseat := false, noShort := false, seatOk := true }
  if s.pwr.selected.isSome then
    (s.modLp n fun x => { x with
      inUse := x.cfg, phase2 := false, gateFull := false, gateRisen := false, inrushTicks := 0, faultTimer := 0, offLimit := 0 }).setLp n .inrush
  else s.setLp n .seating

/-- A re-seat may shorten a wait: none on this port has shortened one within 60 s (R453). -/
def State.mayShorten (s : State) (n : Nat) : Bool :=
  match (s.lp n).shortAt with
  | none => true
  | some t => decide (t + 60000000000 ≤ s.clockNs)

/-- Let a port that waits go on, when what it waits for has come: a qualified seating, a feed, the retry instant, the calibrator
(R444, R445, R446, R452, R453). -/
def State.lpGo (s : State) (n : Nat) : State :=
  let x := s.lp n
  if x.calRun then s
  else if x.st == .seating && x.seatOk then
    if x.retryAt.isNone then (if s.pwr.selected.isSome then s.startInrush n else s)
    else if x.reseat && !x.noShort then
      if s.mayShorten n then (s.modLp n fun x => { x with shortAt := some s.clockNs }).startInrush n
      else s.modLp n fun x => { x with reseat := false }
    else s
  else if x.st == .latched && x.seatOk && x.reseat then
    if s.mayShorten n then (s.modLp n fun x => { x with shortAt := some s.clockNs, trips := 0 }).startInrush n
    else s.modLp n fun x => { x with reseat := false }
  else if x.st == .retryWait && x.retryAt.isNone then s.startInrush n
  else s

/-- Ports that wait in SEATING for a feed go on (R445). -/
def State.portsOnFeed (s : State) : State := (List.range 16).foldl State.lpGo s

/-! ### Feed selection -/

/-- The feed becomes the selected one and its gate is driven on, with EV225 (R440, R441). -/
def State.selectFeed (s : State) (f : Fin 2) (cause : Nat) : State :=
  let old := s.selCode
  let s := s.modFeed f fun x => { x with gate := true, revOff := false, reversed := 0, carry := false }
  { s with pwr.selected := some f, pwr.uvLeft := false }.raise 225 [(old, 2), (f.val + 1, 2), (cause, 4)]

/-- Step 1 of a switch; a gate that is off already meets step 2 at once (R441). -/
def State.startSwitch (s : State) (src dst : Fin 2) (cause : Nat) : State :=
  let on := (s.fd src).gate
  { s.modFeed src fun x => { x with gate := false } with
    pwr.sw := if on then .gateOff else .dead
    pwr.swTo := dst
    pwr.swCause := cause }

/-- The feed selection of R440: the first row that matches. -/
def State.decideFeed (s : State) : State :=
  if s.pwr.sw != .idle || (s.fd 0).stuck || (s.fd 1).stuck then s
  else match s.pwr.selected with
    | none =>
      if (s.fd 0).st == .good then (s.selectFeed 0 0).portsOnFeed
      else if (s.fd 1).st == .good then (s.selectFeed 1 0).portsOnFeed
      else s
    | some f =>
      let x := s.fd f
      let o := otherFeed f
      let og := (s.fd o).st == .good
      if !og then s
      else if x.carry then (if s.pwr.warnLead then s else s.startSwitch f o 5)
      else if s.pwr.uvLeft && x.st != .good then (if s.pwr.warnLead then s else s.startSwitch f o 1)
      else if x.st == .overVolt then s.assertWarn.startSwitch f o 2
      else if f == 1 && !(s.pwr.forced && s.pwr.forceTo == f) && s.pwr.revertRun && s.pwr.feedCfg.revertS != 0 &&
          decide (x.mv ≤ (s.fd o).mv + 300) then s.startSwitch f o 3
      else if s.pwr.forced && s.pwr.forceTo != f then s.startSwitch f o 4
      else s

/-- FEED_SAMPLE: one 1 µs tick of the feed comparators with the voltages of both feeds and of the bus in mV: the reverse turn-off,
feed states, FEED_WARN and the selection follow (R439 to R443). -/
def execFeedSample (a b bus : Nat) (s : State) : Host.Outcome State Fault Refusal :=
  let s := { s with pwr.busMv := bus }
  let s := (s.modFeed 0 fun x => { x with mv := a }).modFeed 1 fun x => { x with mv := b }
  .next ((((s.reverseTurnOff bus).stepFeed 0 a).stepFeed 1 b).diodeCarry).decideFeed

/-- FEED_QUALIFY_EXPIRY: a feed has stayed in the qualifying band for QUAL_MS (R439). -/
def execFeedQualifyExpiry (feed : Fin 2) (s : State) : Host.Outcome State Fault Refusal :=
  if (s.fd feed).st = .qualifying then
    let s := s.setFeed feed .good
    .next (if s.pwr.selected = some feed then { s with pwr.uvLeft := false } else s).decideFeed
  else .next s

/-- FEED_WARN_SWITCH_TIMER: 2 ms after FEED_WARN was asserted (R440). -/
def execFeedWarnSwitchTimer (s : State) : Host.Outcome State Fault Refusal := .next { s with pwr.warnLead := false }.decideFeed

/-- FEED_REVERT_TIMER: FEED_A has been GOOD for REVERT_S (R440). -/
def execFeedRevertTimer (s : State) : Host.Outcome State Fault Refusal :=
  if (s.fd 0).st = .good then .next { s with pwr.revertRun := true }.decideFeed else .next s

/-- FEED_GATE_OFF_SENSED: step 2 of R441 is met and the dead time starts. -/
def execFeedGateOffSensed (s : State) : Host.Outcome State Fault Refusal :=
  .next (if s.pwr.sw = .gateOff then { s with pwr.sw := .dead } else s)

/-- A feed's FET has failed a gate check: FET_FAULT, and no feed is selected (R441). -/
def State.fetFault (s : State) (f : Fin 2) (stuck : Bool) : State :=
  let s := (s.setFeed f .fetFault).modFeed f fun x => { x with gate := false, stuck := stuck, carry := false, revOff := false }
  { s with pwr.selected := none, pwr.sw := .idle, pwr.uvLeft := false }

/-- FEED_GATE_OFF_TIMEOUT: the old gate has not fallen within 50 µs (R441 step 2). -/
def execFeedGateOffTimeout (s : State) : Host.Outcome State Fault Refusal :=
  match s.pwr.sw, s.pwr.selected with
  | .gateOff, some f => .next (s.fetFault f true)
  | _, _ => .next s

/-- FEED_DEAD_TIME_END: the new gate is driven on and its feed is the selected one; the old feed is judged as one that is not selected
(R439, R441 step 3). -/
def execFeedDeadTimeEnd (s : State) : Host.Outcome State Fault Refusal :=
  match s.pwr.sw, s.pwr.selected with
  | .dead, some f =>
    let s := { s.selectFeed s.pwr.swTo s.pwr.swCause with pwr.sw := .gateOn }
    let s := s.modFeed f fun x => { x with carry := false, revOff := false, reversed := 0 }
    .next (s.setFeed f (s.nextFeed f))
  | _, _ => .next s

/-- FEED_GATE_ON_SENSED: the switch is complete and counted (R441 step 4, R465). -/
def execFeedGateOnSensed (s : State) : Host.Outcome State Fault Refusal :=
  .next (if s.pwr.sw = .gateOn then { s with pwr.sw := .idle, pwr.switches := bump s.pwr.switches }.decideFeed else s)

/-- FEED_GATE_ON_TIMEOUT: the new gate has not risen within 2 ms; its feed enters FET_FAULT, and a GOOD feed is selected afresh
(R440, R441 step 4). -/
def execFeedGateOnTimeout (s : State) : Host.Outcome State Fault Refusal :=
  match s.pwr.sw, s.pwr.selected with
  | .gateOn, some f => .next (s.fetFault f false).decideFeed
  | _, _ => .next s

/-- FEED_WARN_RELEASE: FEED_WARN is released, with EV226 (R443). -/
def execFeedWarnRelease (s : State) : Host.Outcome State Fault Refusal :=
  match s.pwr.selected with
  | some f =>
    if s.pwr.warn && decide (s.warnMv + 1000 < (s.fd f).mv) then
      .next ({ s with pwr.warn := false, pwr.warnLead := false }.raise 226 [(0, 1), (s.selCode, 2)])
    else .next s
  | none => .next s

/-! ### Trips and damage -/

/-- Put a port in the queue of its Lantern engine's calibrator (R547). -/
def State.queueCal (s : State) (n : Fin 16) (forTest : Bool) : State :=
  let s := s.modLp n.val fun x => { x with calRun := true, calForTest := x.calForTest || forTest }
  { s with diag.calQueue := modAt s.diag.calQueue (n.val / 4) fun q => if q.contains n then q else q ++ [n] }

/-- Causes whose trip runs the calibrator before a retry (R451). -/
def calCause (cause : Nat) : Bool := cause == 1 || cause == 2 || cause == 5 || cause == 6

/-- A trip: gate off, RETRY_WAIT with its instant or LATCHED, EV228 (R451, R452). -/
def State.tripPort (s : State) (n : Fin 16) (cause : Nat) : State :=
  let x := s.lp n.val
  if !x.driven then s
  else
    let trips := bumpTo 255 x.trips 1
    let latch := x.inUse.retryMax != 0 && decide (x.inUse.retryMax ≤ trips)
    let s := s.modLp n.val fun x => { x with
      trips := trips, lastCause := cause, cTrip := bump x.cTrip, cFast := if cause = 2 then bump x.cFast else x.cFast, faultTimer := 0,
      latchAfter := latch && calCause cause, reseat := false
      retryAt := if latch then none else some (s.clockNs + x.inUse.retryHs * 500000000) }
    let s := if calCause cause then (s.queueCal n false).logErr 4 n.val 4 228 cause else s
    (s.setLp n.val (if latch && !calCause cause then .latched else .retryWait)).raise 228 [(n.val, 4), (cause, 4), (trips, 8)]

/-- What a port waits for is dropped (R448, R451, R454). -/
def State.dropWaits (s : State) (n : Nat) : State :=
  s.modLp n fun x => { x with retryAt := none, latchAfter := false, reseat := false, noShort := false, faultTimer := 0 }

/-- The port's FET is damaged (R448). -/
def State.damage (s : State) (n kind : Nat) : State := ((s.dropWaits n).setLp n .damaged).raise 229 [(n, 4), (kind, 1)]

/-- The calibrator has finished with a port: a lasting fault puts it in LOCKOUT, else what waited for it goes on (R451, R452, R547). -/
def State.calDone (s : State) (n : Fin 16) (lasting : Bool) : State :=
  let s := s.modLp n.val fun x => { x with calRun := false, calForTest := false }
  let s := { s with diag.calQueue := modAt s.diag.calQueue (n.val / 4) fun q => q.filter (· != n) }
  let x := s.lp n.val
  if lasting then (if x.st == .damaged then s else (s.dropWaits n.val).setLp n.val .lockout)
  else if x.latchAfter && x.st != .unstable then
    ((s.modLp n.val fun x => { x with latchAfter := false, reseat := x.st != .retryWait }).setLp n.val .latched).lpGo n.val
  else s.lpGo n.val

/-! ### Seating -/

/-- States in which unseats are counted (R446). -/
def LpState.counts (st : LpState) : Bool := st != .off && st != .lockout && st != .damaged

/-- An unseat (R445, R446, R453). -/
def State.unseat (s : State) (n : Nat) : State :=
  let st := (s.lp n).st
  let s := s.modLp n fun x => { x with
    seatLow := false, seatOk := false, cUnseat := bump x.cUnseat, unseats := if st.counts then x.unseats + 1 else x.unseats,
    reseat := x.reseat || x.retryAt.isSome || x.latchAfter || st == .latched }
  if st.counts && st != .unstable && (s.lp n).unseats = 17 then
    ((s.modLp n fun x => { x with fromLatched := st == .latched, quietWin := 0, faultTimer := 0 }).setLp n .unstable).raise 230 [(n, 4), (1, 1), (17, 16)]
  else if st == .inrush || st == .on || st == .seating || st == .retryWait then (s.modLp n fun x => { x with faultTimer := 0 }).setLp n .unseated
  else s

/-- DOM_LIGHT is on. -/
def State.lightOn (s : State) : Bool := s.domOn 13

/-- SEAT_SAMPLE: one 1 µs tick of SEAT_n; a level of one tick is ignored (R445). -/
def execSeatSample (port : Fin 16) (seated : Bool) (s : State) : Host.Outcome State Fault Refusal :=
  if !s.lightOn then .next s
  else
    let x := s.lp port.val
    let s := s.modLp port.val fun x => { x with lastSeat := seated }
    if x.seatLow && !seated && !x.lastSeat then .next (s.unseat port.val)
    else
      let s := if !x.seatLow && seated && x.lastSeat then s.modLp port.val fun x => { x with seatLow := true, seatOk := false } else s
      .next (if seated && (s.lp port.val).seatLow && x.st == .unseated then s.setLp port.val .seating else s)

/-- SEATING_QUALIFIED: 50 ms after the first seated tick; a re-seat may end a wait or LATCHED (R445, R453). -/
def execSeatingQualified (port : Fin 16) (s : State) : Host.Outcome State Fault Refusal :=
  if s.lightOn && (s.lp port.val).seatLow then
    .next ((s.modLp port.val fun x => { x with seatOk := true }).lpGo port.val)
  else .next s

/-- Seating qualifies afresh: UNSEATED, from which the next seated tick leads to SEATING (R445, R464). -/
def State.afresh (s : State) (n : Nat) : State := (s.modLp n fun x => { x with seatOk := false }).setLp n .unseated

/-- UNSEAT_WINDOW_END: a 10 s window ends; the third consecutive whole window with 2 unseats or fewer ends UNSTABLE (R446). -/
def execUnseatWindowEnd (port : Fin 16) (s : State) : Host.Outcome State Fault Refusal :=
  let x := s.lp port.val
  let quiet := if x.unseats ≤ 2 then x.quietWin + 1 else 0
  let s := s.modLp port.val fun x => { x with unseats := 0, quietWin := if x.st == .unstable then quiet else 0 }
  if x.st = .unstable && decide (3 ≤ quiet) then
    let s := s.raise 230 [(port.val, 4), (0, 1), (x.unseats, 16)]
    let s := s.modLp port.val fun x => { x with quietWin := 0, fromLatched := false, reseat := false, noShort := x.retryAt.isSome }
    if x.fromLatched || (x.latchAfter && !x.calRun) then
      .next ((s.modLp port.val fun x => { x with latchAfter := false }).setLp port.val .latched)
    else .next (s.afresh port.val)
  else .next s

/-! ### INRUSH and ON -/

/-- The fault timer after a tick (R449). -/
def LightPower.tickTimer (x : LightPower) (limit : Bool) : LightPower :=
  if limit then { x with faultTimer := x.faultTimer + 1 }
  else if x.offLimit = 15 then { x with offLimit := 0, faultTimer := x.faultTimer - 1 }
  else { x with offLimit := x.offLimit + 1 }

/-- The end of a tick in INRUSH: timeouts, phase 2 and PG (R447, R449, R450). -/
def State.inrushTick (s : State) (n : Fin 16) : State :=
  let x := s.lp n.val
  let near := decide (s.pwr.busMv ≤ x.mv + 2000)
  if x.inUse.inrushMs * 1000 ≤ x.inrushTicks then s.tripPort n 5
  else if x.inrushTicks = 5000 && decide (x.mv < 5000) then s.tripPort n 6
  else
    let s := if near then s.modLp n.val fun x => { x with phase2 := true } else s
    if (s.lp n.val).phase2 && near && x.gateFull && x.faultTimer == 0 then s.setLp n.val .on else s

/-- PORT_POWER_TICK: one 1 µs tick in INRUSH or ON, with the output voltage, the current, the gate sense, and whether the fast comparator
has fired since the last tick. The work is done in the order of R449: gate-rise check, fast trip, fault timer, inrush (R447 to R450, R454). -/
def execPortPowerTick (port : Fin 16) (mv : Nat) (ma : Int) (gate fast : Bool) (s : State) : Host.Outcome State Fault Refusal :=
  let x := s.lp port.val
  if !s.lightOn || !x.driven then .next s
  else
    let s := s.modLp port.val fun x => { x with mv := mv, ma := ma, gateFull := gate, gateRisen := x.gateRisen || gate, inrushTicks := x.inrushTicks + 1 }
    let x := s.lp port.val
    if x.st == .inrush && !x.gateRisen && decide (x.inUse.gateRiseMs * 1000 ≤ x.inrushTicks) then .next (s.damage port.val 0)
    else if fast then .next (s.tripPort port 2)
    else
      let s := if x.phase2 || x.st == .on then s.modLp port.val fun x => x.tickTimer (decide ((x.inUse.ilim * 50 : Nat) ≤ ma)) else s
      if x.inUse.faultMs * 1000 ≤ (s.lp port.val).faultTimer then .next (s.tripPort port 1)
      else if x.st == .inrush then .next (s.inrushTick port)
      else .next s

/-- INRUSH_TIMEOUT: PG has not been given INRUSH_MS after INRUSH began; a gate that has not risen is DAMAGED instead (R447, R448). -/
def execInrushTimeout (port : Fin 16) (s : State) : Host.Outcome State Fault Refusal :=
  let x := s.lp port.val
  if x.st ≠ .inrush then .next s
  else if !x.gateRisen && decide (x.inUse.gateRiseMs ≤ x.inUse.inrushMs) then .next (s.damage port.val 0)
  else .next (s.tripPort port 5)

/-- SHORT_AT_START: the output is below 5 V 5 ms after INRUSH began (R447, R448). -/
def execShortAtStart (port : Fin 16) (s : State) : Host.Outcome State Fault Refusal :=
  let x := s.lp port.val
  if x.st ≠ .inrush ∨ 5000 ≤ x.mv then .next s
  else if !x.gateRisen && decide (x.inUse.gateRiseMs ≤ 5) then .next (s.damage port.val 0)
  else .next (s.tripPort port 6)

/-- GATE_RISE_TIMEOUT: the gate has not risen within GATE_RISE_MS of the start of INRUSH (R448). -/
def execGateRiseTimeout (port : Fin 16) (s : State) : Host.Outcome State Fault Refusal :=
  .next (if (s.lp port.val).st = .inrush && !(s.lp port.val).gateRisen then s.damage port.val 0 else s)

/-- SHORTED_FET_DETECT: the output has stood above 10 V for 10 ms with the gate held off (R448). -/
def execShortedFetDetect (port : Fin 16) (s : State) : Host.Outcome State Fault Refusal :=
  .next (if (s.lp port.val).driven || (s.lp port.val).st == .damaged then s else s.damage port.val 1)

/-- RETRY_INSTANT: the wait ends; a port that is unseated, UNSTABLE or still qualifying waits on for its seating (R446, R452). -/
def execRetryInstant (port : Fin 16) (s : State) : Host.Outcome State Fault Refusal :=
  if (s.lp port.val).retryAt.isSome then .next ((s.modLp port.val fun x => { x with retryAt := none, noShort := false }).lpGo port.val)
  else .next s

/-- PORT_ON_60S: the trip count is cleared (R452). -/
def execPortOn60s (port : Fin 16) (s : State) : Host.Outcome State Fault Refusal :=
  .next (if (s.lp port.val).st = .on then s.modLp port.val fun x => { x with trips := 0 } else s)

/-! ### Metering -/

/-- Energy of a sample in 10⁻¹² µJ: V × current × interval (R455, R457). -/
def sampleEnergy (v : Nat) (i : Int) (shunt dt : Nat) : Nat := v * i.natAbs * dt * 250000 / shunt

/-- The window a sample's stamp falls in, counted in windows, and whether it straddles a boundary (R97, R459). -/
def State.sampleWindow (s : State) : Nat × Bool :=
  let w := s.pwr.meterCfg.intervalCycles * 262144
  let t := s.phase.count
  let u := s.unc 2
  let later := straddles t u ((t / w + 1) * w)
  (if later then t / w + 1 else t / w, later || straddles t u (t / w * w))

/-- One sample of one port, `amb` when it straddles, `cur` when it falls in the open window (R455, R457, R459). -/
def LightPower.sample (x : LightPower) (v : Nat) (i : Int) (now : Nat) (stamp : Stamp) (amb cur : Bool) : LightPower :=
  let v := Nat.min v 262143
  let i := clampI (-131072) 131071 i
  let dt := now - x.sampleAt.getD now
  let e := sampleEnergy v i x.inUse.shuntUohm dt
  let out := x.fracOut + (if 0 < i then e else 0)
  let rev := x.fracRev + (if i < 0 then e else 0)
  let unit := 1000000000000
  let gain := out / unit
  let x := { x with
    v := v, i := i, stamp := stamp, sampleAt := some now, eOut := (x.eOut + gain) % 2 ^ 64, fracOut := out % unit,
    eRev := (x.eRev + rev / unit) % 2 ^ 64, fracRev := rev % unit }
  if cur then { x with winE := (x.winE + gain) % 2 ^ 64, winN := bump x.winN, winAmb := bumpTo 2147483647 x.winAmb (b2n amb) }
  else { x with nextE := (x.nextE + gain) % 2 ^ 64, nextN := bump x.nextN, nextAmb := bumpTo 2147483647 x.nextAmb (b2n amb) }

/-- A sample of port `n` with the reference stamp of now (R456). -/
def State.samplePort (s : State) (n : Nat) (v : Nat) (i : Int) : State :=
  let (k, amb) := s.sampleWindow
  let cur := decide (k * s.pwr.meterCfg.intervalCycles % 2 ^ 32 = s.pwr.winCycle)
  s.modLp n fun x => x.sample v i s.clockNs (mkStamp s.holdoverFlag amb false s.synthFlag s.phase.count) amb cur

/-- ALIGN and PER_CYCLE of the metering record take effect in a later cycle of local phase than the one it came in (R462). -/
def State.takeMeter (s : State) : State :=
  match s.pwr.nextMeter with
  | some c =>
    if s.localCount / 262144 = s.pwr.meterCycle then s
    else { s with pwr.nextMeter := none, pwr.meterCfg := { c with intervalCycles := s.pwr.meterCfg.intervalCycles } }
  | none => s

/-- All ports sample together (R456). -/
def State.sampleAll (s : State) (samples : List (Nat × Int)) : State :=
  (List.range 16).foldl (fun (s : State) n => let p := samples.getD n (0, 0); s.samplePort n p.1 p.2) s.takeMeter

/-- METER_SAMPLE (R456). -/
def execMeterSample (samples : List (Nat × Int)) (s : State) : Host.Outcome State Fault Refusal := .next (s.sampleAll samples)

/-- An armed metering conversion: an extra sample of its targets, latched as their snapshots (R458). -/
def State.snapshot (s : State) (targets : List Nat) (samples : List (Nat × Int)) : State :=
  targets.foldl (fun (s : State) n =>
    let p := samples.getD n (0, 0)
    (s.samplePort n p.1 p.2).modLp n fun x => { x with snap := some { v := x.v, i := x.i, eOut := x.eOut, eRev := x.eRev, stamp := x.stamp } }) s

/-- The open energy window closes and the next one opens, with EV231 (R459). -/
def State.closeEnergy (s : State) (stepped : Bool) : State :=
  let c := s.pwr.winCycle
  let start := s.pwr.winStart
  let n := s.pwr.nextInterval.getD s.pwr.meterCfg.intervalCycles
  let open_ := if stepped then s.phase.count / 262144 / n * n else (c / n + 1) * n % 2 ^ 32
  { s with
    pwr.lp := s.pwr.lp.map fun (x : LightPower) => { x with
      lastE := x.winE, lastN := x.winN, lastAmb := x.winAmb, lastStepped := stepped, lastStart := start, winE := x.nextE, winN := x.nextN,
      winAmb := x.nextAmb, nextE := 0, nextN := 0, nextAmb := 0 }
    pwr.meterCfg.intervalCycles := n
    pwr.nextInterval := none
    pwr.winCycle := open_
    pwr.winStart := mkStamp s.holdoverFlag false false s.synthFlag (open_ * 262144 % 2 ^ 50) }.raise 231 [(b2n stepped, 1), (c % 65536, 16)]

/-- ENERGY_WINDOW_CLOSE (R459). -/
def execEnergyWindowClose (s : State) : Host.Outcome State Fault Refusal := .next (s.closeEnergy false)

/-! ### Commands -/

/-- Word 0 of PWR.STATUS (R465). -/
def State.pwrWord0 (s : State) : Word :=
  pack [((s.fd 0).st.code, 4), ((s.fd 1).st.code, 4), (s.selCode, 2), (b2n s.pwr.warn, 1), (b2n s.pwr.forced, 1)]

/-- PWR_STATUS (R465). -/
def execPwrStatus (s : State) : Host.Outcome State Fault Refusal :=
  runRead 0x6001 s fun _ s =>
    okR [s.pwrWord0, pack [(Nat.min (s.fd 0).mv 65535, 16), (Nat.min (s.fd 1).mv 65535, 16)], wd s.pwr.switches, wd s.pwr.warns]

/-- Port named by a PWR command (R463). -/
def lpOf (r : Waiting) : Fin 16 := ⟨r.f 0 31 28 % 16, Nat.mod_lt _ (by decide)⟩

/-- RETRY_LEFT in 0.1 s, rounded up (R465). -/
def State.retryLeft (s : State) (x : LightPower) : Nat :=
  match x.retryAt with
  | some t => if x.st == .retryWait then Nat.min ((t - s.clockNs + 99999999) / 100000000) 65535 else 0
  | none => 0

/-- Word 0 of PWR.PORT_STATUS (R465). -/
def State.lpWord0 (s : State) (n : Nat) : Word :=
  let x := s.lp n
  pack [(x.st.code, 4), (b2n x.pg, 1), (x.lastCause, 3), (x.trips, 8), (s.retryLeft x, 16)]

/-- PWR_PORT_STATUS: the counters as they were before any clear (R465). -/
def execPwrPortStatus (s : State) : Host.Outcome State Fault Refusal :=
  runCmd 0x6002 s fun r s =>
    let n := (lpOf r).val
    let x := s.lp n
    let ws := [s.lpWord0 n, pack [(Nat.min x.mv 65535, 16), ((BitVec.ofInt 16 (clampI (-32768) 32767 x.ma)).toNat, 16)], wd x.cTrip, wd x.cFast, wd x.cUnseat]
    (if bitAt (r.w 0) 0 then s.modLp n fun x => { x with cTrip := 0, cFast := 0, cUnseat := 0 } else s, okR ws)

/-- The words of a meter reading (R465). -/
def Snapshot.words (x : Snapshot) : List Word :=
  [wd x.v, wd (BitVec.ofInt 18 x.i).toNat] ++ wd2 x.eOut ++ wd2 x.eRev ++ wd2 x.stamp.toNat

/-- PWR_METER: the latest sample, or the snapshot with SNAP 1 (R465). -/
def execPwrMeter (s : State) : Host.Outcome State Fault Refusal :=
  runRead 0x6003 s fun r s =>
    let x := s.lp (lpOf r).val
    let live : Snapshot := { v := x.v, i := x.i, eOut := x.eOut, eRev := x.eRev, stamp := x.stamp }
    okR (if bitAt (r.w 0) 0 then x.snap.getD {} else live).words

/-- PWR_INTERVAL (R465). -/
def execPwrInterval (s : State) : Host.Outcome State Fault Refusal :=
  runRead 0x6004 s fun r s =>
    let x := s.lp (lpOf r).val
    okR (wd2 x.lastE ++ [wd x.lastN, pack [(b2n x.lastStepped, 1), (x.lastAmb, 31)]] ++ wd2 x.lastStart.toNat)

/-- Clear FET_FAULT of a feed (R464). -/
def State.clearFet (s : State) (f : Fin 2) : State :=
  if (s.fd f).st = .fetFault then (s.setFeed f .down).modFeed f fun x => { x with stuck := false } else s

/-- PWR_FEED (R464). -/
def execPwrFeed (s : State) : Host.Outcome State Fault Refusal :=
  runCmd 0x6010 s fun r s =>
    let asked := r.f 0 3 0
    let done := fun (s : State) => (s, okC (decide (5 ≤ asked)) [s.pwrWord0])
    if asked = 1 ∨ asked = 2 then
      let f : Fin 2 := if asked = 1 then 0 else 1
      if (s.fd f).st ≠ .good then (s, failR 0x40)
      else if (s.fd 0).stuck || (s.fd 1).stuck then done s
      else done { s with pwr.forced := true, pwr.forceTo := f }.decideFeed
    else if asked = 3 then done { s with pwr.forced := false }.decideFeed
    else if asked = 4 then done ((s.clearFet 0).clearFet 1).decideFeed
    else done s

/-- A port is turned off and held OFF; its calibrator runs on (R451, R454). -/
def State.lpOff (s : State) (n : Nat) : State := (s.dropWaits n).setLpC n .off 1

/-- PWR_PORT (R464). -/
def execPwrPort (s : State) : Host.Outcome State Fault Refusal :=
  runCmd 0x6011 s fun r s =>
    let asked := r.f 0 3 0
    let p := lpOf r
    let n := p.val
    let st := (s.lp n).st
    let s := if asked = 1 then s.lpOff n
      else if asked = 2 then
        let s := s.modLp n fun x => { x with trips := 0 }
        if st == .off || st == .latched || st == .lockout || st == .damaged then (s.dropWaits n).afresh n else s
      else if asked = 3 then s.tripPort p 0
      else if asked = 4 && st == .retryWait && !(s.lp n).latchAfter then (s.modLp n fun x => { x with retryAt := none }).lpGo n
      else s
    (s, okC (decide (5 ≤ asked)) [s.lpWord0 n])

/-! ### Records -/

/-- The feed record (R460). -/
def recFeed (s : State) : RdM State := do
  let warn ← rdC 0 31 22 380 500
  let uv ← rdF 0 21 12 fun v => clampN 360 (Nat.min 480 (warn - 10)) v
  let ov ← rdC 0 11 2 550 600
  let dead ← rdC 1 31 24 5 200
  let revert ← rdR 1 23 16
  let qual ← rdC 1 15 0 10 1000
  pure { s with pwr.feedCfg := { warnDv := warn, uvDv := uv, ovDv := ov, deadUs := dead, revertS := revert, qualMs := qual } }

/-- The lighting port power record: ENABLE takes effect at once, the rest at the next entry to INRUSH (R461). -/
def recLpPower (s : State) : RdM State := do
  let n ← rdR 0 31 28
  let en ← rdB 0 27
  let ilim ← rdC 0 23 16 10 80
  let fault ← rdC 0 15 8 1 64
  let retry ← rdC 0 7 0 1 120
  let mx ← rdR 1 31 24
  let inMa ← rdC 1 23 16 10 100
  let inMs ← rdC 1 15 8 10 255
  let rise ← rdC 1 7 4 1 15
  let shunt ← rdC 2 31 16 2000 16000
  let was := (s.lp n).cfg.enable
  let c : LpCfg := { enable := en, ilim := ilim, faultMs := fault, retryHs := retry, retryMax := mx, inrushMa := inMa, inrushMs := inMs, gateRiseMs := rise, shuntUohm := shunt }
  let s := s.modLp n fun x => { x with cfg := c }
  pure (if !en then s.lpOff n else if !was && (s.lp n).st == .off then s.afresh n else s)

/-- The metering record (R462). ALIGN that turns on arms the kept entry at the next cycle of local phase. -/
def recMeter (s : State) : RdM State := do
  let al ← rdB 0 31
  let per ← rdC 0 23 16 8 32
  let iv ← rdC 0 15 0 1 65535
  let cyc := s.localCount / 262144
  let s := { s with pwr.nextMeter := some { align := al, perCycle := per, intervalCycles := iv }, pwr.meterCycle := cyc,
                    pwr.nextInterval := some iv }
  let e : SchedEntry := { idx := meterEntry, base := 1, action := 1, target := 0xFF, inst := (cyc + 1) * 262144 % 2 ^ 50, period := 0, left := none }
  pure (if al && !s.pwr.meterCfg.align then s.keepEntry e else s)

end Sys2Proof.Machine
end

