-- ==== Sys2Proof/Machine/Lighting.lean ====
section
/-!
DEFINITION. Lighting segments (08_lighting.md): beacons and cycle frames (R263 to R268, R271, R285), status and enrol frames (R269 to
R276), violations and jams (R277, R278), EP.SEGMENT, EP.NODE and the lighting port record (R288, R292, R293).
-/

namespace Sys2Proof.Machine

/-! ### Polls and commands -/

/-- Code of a Remund command (R270). -/
def RCmd.code : RCmd → Nat
  | .none => 0
  | .read => 1
  | .write => 2
  | .assign => 3
  | .quiet => 4
  | .resume => 5
  | .forget => 6

/-- The command is confirmed by a status frame of its node (R271, R272); QUIET and FORGET go to nodes that no poll follows. -/
def RCmd.confirms (c : RCmd) : Bool := c == .read || c == .write || c == .assign || c == .resume

/-- The lowest FREE node ID (R276). -/
def Segment.lowestFree (x : Segment) : Option Nat := (List.range 32).find? fun n => decide (1 ≤ n) && (x.node n).st == .free

/-- The next node ID of the rotation, upward from 1 to 31 without FREE and BABBLING IDs; 0 when there is none (R271). -/
def Segment.nextPoll (x : Segment) : Nat :=
  (((List.range 31).map fun k => (x.rot + k) % 31 + 1).find? fun n => (x.node n).st != .free && (x.node n).st != .babbling).getD 0

/-- Cycles from one enrol cycle to the next (R276). -/
def Segment.enrolEvery (x : Segment) : Nat := if x.search then 16 else 256

/-- The command may be carried: every one, or while the segment is locked those of the locking sequence only (R272, R313). -/
def Segment.allowed (x : Segment) (c : RmCmd) : Bool :=
  match x.lock with
  | none => true
  | some l => c.origin == .bridge && c.lsid == l.lsid && c.tun == l.tun && l.lsid != 0

/-- The next transaction ID, 1 to 255 (R268). -/
def nextTid (t : Nat) : Nat := if t = 255 then 1 else t + 1

/-- The cycle that ends: a silent poll counts as missed, the third in a row making the ID ABSENT; a priority poll that brought no
confirmation leads to a resend, or after 3 of them to the end of the command with TIMEOUT (R272, R275). -/
def State.closeCycle (s : State) (g : Nat) : State :=
  match (s.sg g).lastFrame with
  | none => s
  | some f =>
    let x := s.sg g
    let s :=
      if f.poll = 0 || f.enrol || x.answered then s
      else
        let s := s.modNode g f.poll fun n => { n with misses := Nat.min 3 (n.misses + 1) }
        let n := (s.sg g).node f.poll
        if n.misses = 3 && (n.st == .held || n.st == .admitted) then
          (s.modNode g f.poll fun n => { n with reading := false, reported := false, goneSent := false }).setNode g f.poll .absent
        else s
    match x.awaiting with
    | some c =>
      if !x.prevPrio then s
      else if c.resends < 3 then
        (s.modSeg g fun x => { x with awaiting := some { c with resends := c.resends + 1, carried := false } }).cntS g 3
      else ((s.modSeg g fun x => { x with awaiting := none }).cntS g 4).rmFinish g c 4 []
    | none => s

/-- What a cycle frame carries as command and who it goes to: the command to send again, or the first that may be carried. -/
def Segment.pickCmd (x : Segment) : Option (RmCmd × List RmCmd) :=
  match x.awaiting with
  | some c => if c.carried then none else some (c, x.queue)
  | none => (x.queue.find? x.allowed).map fun c => ({ c with tid := nextTid x.tid }, x.queue.erase c)

/-- The go entries of a cycle frame: COUNT, SCENE, TKIND, EP and TARGET of each go whose AT lies 1 to 3 grid instants after the grid instant
at or before now; the entry of an endpoint goes on its own segment (R285). -/
def State.goList (s : State) (g : Nat) : List (Go × Nat × Nat × Nat × Nat) :=
  let grid := s.phase.count / 4096 * 4096
  s.light.gos.filterMap fun x =>
    let k := ((x.inst + 2 ^ 50 - grid) % 2 ^ 50) / 4096
    if x.ph == .armed && decide (1 ≤ k) && decide (k ≤ 3) then
      if 0x800000 ≤ x.target then some (x, k, x.scene, 1, x.target)
      else match s.epPlace x.target with
        | some (g', n, e) => if g' = g then some (x, k, x.scene, 2, e * 2 ^ 24 + n) else none
        | none => none
    else none

/-- The 46 bytes of a cycle frame's payload, every field most significant byte first (R5, R267, R268, R285). -/
def CycleFrame.bytes (f : CycleFrame) : List Byte :=
  let go := f.gos.flatMap fun (k, sc, tk, tg) => numBytes k 1 ++ numBytes sc 1 ++ numBytes (tk * 2 ^ 30 + tg) 4
  let words := if f.cmd.cmd == .assign then numBytes f.cmd.mac 6 else f.cmd.words.flatMap fun w => numBytes w 3
  let tail := if f.enrol then numBytes f.selBits 1 ++ numBytes f.sel 1
    else if f.cmd.cmd == .none then []
    else numBytes f.cmd.cmd.code 1 ++ numBytes f.cmd.tid 1 ++ numBytes (f.cmd.node * 64 + f.cmd.ep) 2 ++
      numBytes ((f.cmd.count - 1) * 2 ^ 14 + f.cmd.addr) 2 ++ words
  padBytes ([1#8] ++ numBytes (b2n f.feedWarn * 128 + b2n f.enrol * 64) 1 ++ numBytes f.poll 1 ++ numBytes f.cseq 1 ++ padBytes go 24 ++ tail) 46

/-- The frame that carries a payload from a lighting port: broadcast destination, the port's address 02-hh-hh-4C-00-pp, EtherType 0x88B5, payload
and FCS, 64 bytes in all (R267). -/
def remundFrame (hub port : Nat) (payload : List Byte) : List Byte :=
  let body := List.replicate 6 0xFF#8 ++ ([2#8] ++ numBytes hub 2 ++ [0x4C#8, 0#8] ++ numBytes port 1) ++ numBytes 0x88B5 2 ++ payload
  body ++ etherFcs body

/-- A beacon: the cycle before it ends, gos whose AT has come go, and the cycle frame carries poll, command and go entries. `long` is an
off-grid beacon that starts more than 2,352 bit times after the last one (R263, R265, R268, R271, R285, R286). -/
def State.beacon (s : State) (seg : Fin 16) (offGrid long late : Bool) : State :=
  let g := seg.val
  let s := s.closeCycle g
  let s := if offGrid then s else s.goBeacon g late
  let x := s.sg g
  let prevCmd := (x.lastFrame.map fun f => if f.enrol then RmCmd.cmd {} else f.cmd.cmd).getD .none
  let prio := !x.prevPrio && prevCmd.confirms
  let enrol := !prio && x.cfg.enrolEn && x.lowestFree.isSome && decide (x.enrolEvery ≤ x.cycles + 1)
  let poll := if prio then ((x.lastFrame.map fun f => f.cmd.node).getD 0) else if enrol then x.lowestFree.getD 0 else x.nextPoll
  let pick := if prio || enrol then none else x.pickCmd
  let cmd := ((pick.map (·.1)).getD {})
  let listed := s.goList g
  let gos := if long then [] else (listed.map fun (_, e) => e).take 4
  let f : CycleFrame := {
    feedWarn := s.pwr.warn, enrol := enrol, poll := poll, cseq := (x.cseq + 1) % 256, gos := gos, cmd := cmd
    selBits := if enrol then x.bits else 0, sel := if enrol then x.sel else 0 }
  let s := s.modSeg g fun x => { x with
    cseq := f.cseq, lastFrame := some f, prevPrio := prio, answered := false, offGrid := offGrid
    cycles := if enrol then 0 else x.cycles + 1
    rot := if prio || enrol || poll == 0 then x.rot else poll
    tid := if cmd.cmd == .none then x.tid else cmd.tid
    queue := (pick.map (·.2)).getD x.queue
    awaiting := if cmd.cmd.confirms then some { cmd with carried := true } else x.awaiting }
  let s := if cmd.cmd == .none || cmd.cmd.confirms then s else s.rmFinish g cmd 0 []
  let s := listed.foldl (fun s (go, k, _) =>
    if k = 1 then s.modGo go.handle fun y => { y with listedLast := true, lateGo := y.lateGo || long } else s) s
  (s.send (.remund seg (remundFrame s.sys.hubId g f.bytes))).farDrain

/-- The Lantern control cycle: a grid instant has come for the four ports of engine `n` (R89, R262, R263). -/
def State.lanternCycle (s : State) (n : Nat) : State :=
  (List.range 4).foldl (fun s k => s.modSeg (4 * n + k) fun x => if x.st == .run then { x with due := some s.time.clock } else x) s

/-- Units of the clock in a bit time of 100 ns (R264). -/
def bitTime : Nat := 1000000000000

/-- Clock time since the last beacon of a segment started at the MDI; none before the first. -/
def State.sinceBeacon (s : State) (g : Nat) : Option Nat := (s.sg g).lastStart.map fun t => s.time.clock - t

/-- Clock time that so many units of 10⁻¹³ arc take at the arc rate in force. -/
def State.arcTime (s : State) (a : Nat) : Nat := a * 1000000000 / (262144 * s.arcRate)

/-- The first grid instant at least 2,364 bit times after the last beacon lies more than 3,600 bit times after it (R265). -/
def State.offGridCase (s : State) (since : Nat) : Bool :=
  let next := since + s.arcTime ((4096 - s.phase.count % 4096) * 10000000000000 - s.phase.sub)
  let first := if 2364 * bitTime ≤ next then next else next + s.arcTime (4096 * 10000000000000)
  decide (3600 * bitTime < first)

/-- The beacon of a segment, on the grid or off it, starts now. -/
def State.startBeacon (s : State) (seg : Fin 16) (offGrid late : Bool) : State :=
  let long := offGrid && (s.sinceBeacon seg.val).any fun t => decide (2352 * bitTime < t)
  (s.modSeg seg.val fun x => { x with due := none, lastStart := some s.time.clock }).beacon seg offGrid long late

/-- The lighting port that an engine runs on one of its four pairs (R262). -/
def lightPort (engine pair : Fin 4) : Fin 16 := ⟨4 * engine.val + pair.val, by omega⟩

/-- BEACON: on the grid, when the engine's control cycle has come: a grid instant less than 2,364 bit times after the last beacon is skipped,
and one more than 3,600 after it finds the off-grid beacon overdue, which is sent at once. Off the grid, from 2,344 bit times after the last
beacon on, when no grid instant serves (R265). -/
def execBeacon (engine pair : Fin 4) (offGrid : Bool) (s : State) : Host.Outcome State Fault Refusal :=
  let seg := lightPort engine pair
  let x := s.sg seg.val
  if x.st != .run then .next s
  else match s.sinceBeacon seg.val with
    | none => .next (if !offGrid && x.due.isSome then s.startBeacon seg false false else s)
    | some t =>
      if offGrid then .next (if 2344 * bitTime ≤ t && s.offGridCase t then s.startBeacon seg true false else s)
      else if x.due.isNone then .next s
      else if t < 2364 * bitTime then .next (s.modSeg seg.val fun x => { x with due := none })
      else .next (s.startBeacon seg (decide (3600 * bitTime < t)) false)

/-- When the beacon of a segment was due: at the grid instant that has come, or 2,344 bit times after the last beacon (R265). -/
def Segment.dueAt (x : Segment) (offGrid : Bool) : Option Nat := if offGrid then x.lastStart.map (· + 2344 * bitTime) else x.due

/-- BEACON_LATE: a signal has delayed the beacon that was due; it starts now, 1 bit time after the signal's end (R265). -/
def execBeaconLate (engine pair : Fin 4) (offGrid : Bool) (s : State) : Host.Outcome State Fault Refusal :=
  let seg := lightPort engine pair
  let x := s.sg seg.val
  match x.st, x.dueAt offGrid with
  | .run, some d =>
    if s.time.clock < d then .next s
    else if !offGrid && x.lastStart.any fun t => decide (d < t + 2364 * bitTime) then .next (s.modSeg seg.val fun x => { x with due := none })
    else
      let late := (s.time.clock - d) / bitTime
      .next (((s.cntS seg.val 0).raiseRated 133 seg.val 1 [(seg.val, 4), (Nat.min late 65535, 16)]).startBeacon seg offGrid true)
  | _, _ => .next s

/-! ### Frames of nodes -/

/-- Bridge cause of a RESULT (R269, R306). -/
def resultCause (r : Nat) : Nat := if r ≤ 3 then r else 1

/-- A valid status frame of the polled node (R269, R272, R274, R275, R282). -/
def State.statusFrame (s : State) (g n : Nat) (mac flags alarm tid result : Nat) (words : List Nat) : State :=
  let old := (s.sg g).node n
  let s := s.modSeg g fun x => { x with answered := true }
  let s := s.modNode g n fun x => { x with misses := 0, mac := mac, quiet := flags.testBit 7, epCount := flags % 64 + 1 }
  let s := if old.st == .absent || old.st == .free then (s.modNode g n fun x => { x with eps := [], goneSent := false }).setNode g n .held else s
  let s := if alarm = old.alarm then s else s.alarmChanged g n alarm
  let s := match (s.sg g).awaiting with
    | some c =>
      if c.node = n && c.tid = tid then ((s.modSeg g fun x => { x with awaiting := none }).rmFinish g c (resultCause result) words).farDrain else s
    | none => s
  let x := (s.sg g).node n
  if x.st == .held && !x.reading && !x.reported && x.eps.isEmpty && !((s.sg g).queue.any fun c => c.cmd == .assign && c.node == n) then s.readNode g n
  else s

/-- STATUS_FRAME_RECEIVE: a signal in the opportunity of the polled node: a valid status frame; a frame that is discarded and counted in
`c_rm_bad`; or no frame at all. Without a valid frame the poll counts in `c_poll_garbled` (R267, R269, R276). -/
def execStatusFrameReceive (seg : Fin 16) (framed valid : Bool) (mac : BitVec 48) (node : BitVec 5) (cseq flags : Byte) (alarm : BitVec 18)
    (tid result : Byte) (words : List (BitVec 18)) (s : State) : Host.Outcome State Fault Refusal :=
  let g := seg.val
  match (s.sg g).st, (s.sg g).lastFrame with
  | .run, some f =>
    if valid then
      if node.toNat = f.poll && cseq.toNat = f.cseq && f.poll != 0 then
        .next (s.statusFrame g f.poll mac.toNat flags.toNat alarm.toNat tid.toNat result.toNat (words.map (·.toNat)))
      else .next s
    else
      let s := if framed then s.cntS g 1 else s
      .next (s.modNode g f.poll fun x => { x with garbled := bump x.garbled })
  | _, _ => .next s

/-- `advance` of the enrol search: back over the 1 bits, then to the next half (R276). -/
def advanceN : Nat → Nat × Nat → Nat × Nat
  | 0, p => p
  | k + 1, (bits, sel) => if 0 < bits && sel.testBit (bits - 1) then advanceN k (bits - 1, sel - 2 ^ (bits - 1)) else (bits, sel)

/-- The next SEL_BITS and SEL, and whether the search goes on (R276). -/
def advance (bits sel : Nat) : Nat × Nat × Bool :=
  let (b, v) := advanceN 9 (bits, sel)
  if b = 0 then (0, 0, false) else (b, v + 2 ^ (b - 1), true)

/-- Advance a segment's search. -/
def Segment.advanced (x : Segment) : Segment :=
  let (b, v, on) := advance x.bits x.sel
  { x with bits := b, sel := v, search := on, tries := 0 }

/-- ENROL_FRAME_RECEIVE: an enrol cycle brings a valid enrol frame with a MAC address and EPS − 1, a signal without one, or silence (R276). -/
def execEnrolFrameReceive (seg : Fin 16) (signal : Bool) (frame : Option (BitVec 48 × BitVec 6)) (s : State) : Host.Outcome State Fault Refusal :=
  let g := seg.val
  match (s.sg g).st, (s.sg g).lastFrame with
  | .run, some f =>
    if !f.enrol || (s.sg g).answered then .next s
    else
      let s := s.modSeg g fun x => { x with answered := true }
      match frame with
      | some (mac, _) =>
        let c : RmCmd := { cmd := .assign, node := f.poll, mac := mac.toNat, count := 1 }
        .next (s.modSeg g fun x => ({ x with queue := c :: x.queue }).advanced)
      | none =>
        if !signal then .next (s.modSeg g (·.advanced))
        else if (s.sg g).bits < 8 then .next (s.modSeg g fun x => { x with bits := x.bits + 1, search := true })
        else if (s.sg g).tries + 1 < 16 then .next (s.modSeg g fun x => { x with tries := x.tries + 1 })
        else .next ((s.cntS g 5).modSeg g (·.advanced))
  | _, _ => .next s

/-- Tell the ROOT that a node's endpoints are gone (R282). -/
def State.reportGone (s : State) (g n : Nat) : State :=
  let x := (s.sg g).node n
  if s.joined && x.epCount != 0 then (s.modNode g n fun x => { x with goneSent := true }).sendRoot 0x3241 (placeWords g n x) else s

/-- NODE_ABSENT_TIMEOUT: a node has stayed ABSENT for 10 s (R282). -/
def execNodeAbsentTimeout (seg : Fin 16) (node : BitVec 5) (s : State) : Host.Outcome State Fault Refusal :=
  let x := (s.sg seg.val).node node.toNat
  .next (if x.st == .absent && !x.goneSent then s.reportGone seg.val node.toNat else s)

/-! ### Violations and jams -/

/-- Queue a command of the hub itself, ahead of every other one. -/
def State.rmFirst (s : State) (g : Nat) (c : RmCmd) : State :=
  if (s.sg g).st = .run then s.modSeg g fun x => { x with queue := c :: x.queue } else s

/-- SEGMENT_VIOLATION: counted in `c_babble` and charged to a node ID, 0 for none; the ninth within a window makes the ID BABBLING (R277). -/
def execSegmentViolation (seg : Fin 16) (node : BitVec 5) (s : State) : Host.Outcome State Fault Refusal :=
  let g := seg.val
  let n := node.toNat
  let s := s.cntS g 2
  if n = 0 then .next s
  else
    let s := s.modNode g n fun x => { x with viol := x.viol + 1 }
    let x := (s.sg g).node n
    if x.viol = 9 && x.st != .babbling then
      let s := (s.modNode g n fun x => { x with prev := x.st, goodWin := 0, reading := false }).setNode g n .babbling
      .next ((s.raise 131 [(g, 4), (n, 5), (1, 1), (x.viol, 16)]).rmFirst g { cmd := .quiet, node := n, count := 1 })
    else .next s

/-- BABBLING ends: RESUME is sent, EV131 with flag 0, and the node returns to the state it had (R277). -/
def State.endBabble (s : State) (g n viol : Nat) : State :=
  let x := (s.sg g).node n
  if x.st != .babbling then s
  else ((s.setNode g n x.prev).modNode g n fun x => { x with misses := 0 }).raise 131 [(g, 4), (n, 5), (0, 1), (Nat.min viol 65535, 16)] |>.rmFirst g
    { cmd := .resume, node := n, count := 1 }

/-- BABBLE_WINDOW_END: a 1 s window ends; the tenth whole window in a row with 8 violations or fewer ends BABBLING (R277). -/
def execBabbleWindowEnd (seg : Fin 16) (node : BitVec 5) (s : State) : Host.Outcome State Fault Refusal :=
  let g := seg.val
  let n := node.toNat
  let x := (s.sg g).node n
  let good := if x.st == .babbling && decide (x.viol ≤ 8) then x.goodWin + 1 else 0
  let s := s.modNode g n fun x => { x with viol := 0, goodWin := good }
  .next (if 10 ≤ good then s.endBabble g n x.viol else s)

/-- BABBLE_CUT_EXPIRY: violations have continued for BABBLE_CUT seconds (R277). -/
def execBabbleCutExpiry (seg : Fin 16) (node : BitVec 5) (s : State) : Host.Outcome State Fault Refusal :=
  let x := s.sg seg.val
  if x.cfg.babbleCut != 0 && (x.node node.toNat).st == .babbling && x.st != .off then .next ((s.setSeg seg.val .off 4).tripPort seg 4)
  else .next s

/-- SEGMENT_JAM: the medium has carried a signal without a break for 2 ms (R278). -/
def execSegmentJam (seg : Fin 16) (s : State) : Host.Outcome State Fault Refusal :=
  if (s.sg seg.val).st = .run then .next ((s.setSeg seg.val .jammed 2).raise 132 [(seg.val, 4), (1, 1)]) else .next s

/-- SEGMENT_JAM_CLEAR: 1 ms with no signal (R278). -/
def execSegmentJamClear (seg : Fin 16) (s : State) : Host.Outcome State Fault Refusal :=
  if (s.sg seg.val).st = .jammed then .next ((s.setSeg seg.val .run 2).raise 132 [(seg.val, 4), (0, 1)]) else .next s

/-- JAM_CUT_EXPIRY: the segment has stayed JAMMED for JAM_CUT seconds (R278). -/
def execJamCutExpiry (seg : Fin 16) (s : State) : Host.Outcome State Fault Refusal :=
  let x := s.sg seg.val
  if x.st = .jammed && x.cfg.jamCut != 0 then .next ((s.setSeg seg.val .off 3).tripPort seg 3) else .next s

/-! ### Commands -/

/-- A mask of node IDs in a state (R293). -/
def Segment.mask (x : Segment) (st : NodeState) : Nat := (List.range 32).foldl (fun a n => a + b2n (decide (1 ≤ n) && (x.node n).st == st) * 2 ^ n) 0

/-- EP_SEGMENT: the counters as they were before any clear (R293). -/
def execEpSegment (s : State) : Host.Outcome State Fault Refusal :=
  runCmd 0x3080 s fun r s =>
    let g := r.f 0 31 28
    let x := s.sg g
    let ws := [pack [(x.st.code, 4), (0, 20), (x.cseq, 8)], wd (x.mask .admitted), wd (x.mask .babbling)] ++ x.c.toList.map wd
    (if bitAt (r.w 0) 0 then s.modSeg g fun x => { x with c := Vector.replicate 6 0 } else s, okR ws)

/-- The words of EP.NODE (R292). -/
def Node.words (x : Node) : List Word :=
  [pack [(x.st.code, 4), (b2n x.quiet, 1), (0, 1), (x.epCount - 1, 6), (0, 2), (x.alarm, 18)], wd (x.mac / 65536), pack [(x.mac % 65536, 16)], wd x.garbled]

/-- EP_NODE: report, send FORGET and make the ID FREE, or end BABBLING at once (R292). -/
def execEpNode (s : State) : Host.Outcome State Fault Refusal :=
  runCmd 0x3081 s fun r s =>
    let g := r.f 0 31 28
    let n := r.f 0 27 23
    let asked := r.f 0 3 0
    let x := (s.sg g).node n
    let s := if asked = 1 && n != 0 then
        let s := if x.st == .free then s else s.reportGone g n
        let s := (s.setNode g n .free).modNode g n fun x => { st := x.st, garbled := x.garbled, viol := x.viol }
        s.rmFirst g { cmd := .forget, node := n, count := 1 }
      else if asked = 2 then s.endBabble g n x.viol
      else s
    (s, okC (decide (3 ≤ asked)) ((s.sg g).node n).words)

/-! ### Record -/

/-- The lighting port record (R288, R289). -/
def recLight (s : State) : RdM State := do
  let g ← rdR 0 31 28
  let en ← rdB 0 27
  let enrol ← rdB 0 26
  let babble ← rdR 0 23 16
  let jam ← rdR 0 15 8
  let c : LightCfg := { enable := en, enrolEn := enrol, babbleCut := babble, jamCut := jam }
  pure ((s.modSeg g fun x => { x with cfg := c }).refreshSegment g 0)

end Sys2Proof.Machine
end

