-- ==== Sys2Proof/Machine/Scenes.lean ====
section
/-!
DEFINITION. Scenes: arming, cancelling and reporting gos (R283 to R287, R294, R295).
-/

namespace Sys2Proof.Machine

/-- Arcs from one grid instant to the next (R263). -/
def gridArcs : Nat := 4096

/-- The grid instant at or before a phase count. -/
def gridDown (c : Nat) : Nat := c / gridArcs * gridArcs

/-- The grid instant at or after a phase count (R283). -/
def gridUp (c : Nat) : Nat := (c + gridArcs - 1) / gridArcs * gridArcs % 2 ^ 50

/-- An instant raised to the first one that is allowed: it stays only where it is that one or later than it by R10 (R10, R91, R283). -/
def laterOf (a first : Nat) : Nat := if a = first || laterCount a first then a else first

/-- Gos armed at `k` grid instants from `start` on. -/
def State.gosIn (s : State) (start k : Nat) : Nat :=
  (s.light.gos.filter fun x => x.ph == .armed && decide ((x.inst + 2 ^ 50 - start % 2 ^ 50) % 2 ^ 50 < k * gridArcs)).length

/-- Listing a go for this AT would put more than 4 go entries in one cycle frame (R284). -/
def State.goesOver (s : State) (at' : Nat) : Bool :=
  [0, 1, 2].any fun k => decide (4 ≤ s.gosIn (at' + 2 ^ 50 - k * gridArcs) 3)

/-- The first AT, from one on, that keeps the limit, among so many: a go is near five grid points at most, so one more than five times the
gos always suffices (R286). -/
def State.firstFit : Nat → State → Nat → Option Nat
  | 0, _, _ => none
  | n + 1, s, a => if s.goesOver a then firstFit n s ((a + gridArcs) % 2 ^ 50) else some a

/-- Arm a go with an entry of the shared pool (R284). -/
def State.armGo (s : State) (g : Go) : Option (State × Go) :=
  if s.goesOver g.inst then none
  else match s.armEntry { base := 0, action := 3, inst := g.inst, target := g.scene, left := some 1, armer := g.armer, byScene := true } with
    | none => none
    | some (s, e) =>
      let g := { g with handle := schedHandle e.idx e.gen }
      some ({ s with light.gos := s.light.gos ++ [g] }, g)

/-- The three words of the SCENE.ARM response (R294). -/
def Go.words (g : Go) : List Word := pack [(0, 16), (g.handle, 16)] :: wd2 g.inst

/-- A local go, or a tree-wide go armed by an OWNER at the ROOT (R283, R284). -/
def State.armOwner (s : State) (r : Waiting) : State × Response :=
  let scene := r.f 0 31 24
  let target := r.f 0 23 0
  let asked := u64At r.data 1
  let tree := s.isRoot && r.f 3 31 31 = 0
  let s := if tree && decide (target < 0x800000) then s.dirTouch target else s
  let place := s.dirRec target
  let known := decide (0x800000 ≤ target) || (if tree then place.isSome else (s.epPlace target).isSome)
  if !known then (s, failR 0x40)
  else
    let first := if tree then gridUp (s.phase.count + s.dir.sceneLead * 32768) else (gridDown s.phase.count + 4 * gridArcs) % 2 ^ 50
    let inst := laterOf (gridUp (asked % 2 ^ 50)) first
    let others := if 0x800000 ≤ target then s.topo.hubs.map (·.hub) else (place.map (·.hub)).toList.filter (· != s.sys.hubId)
    let g : Go := {
      scene := scene, target := target, tree := tree, origin := tree, inst := inst, armer := some r.src
      hubsLeft := if tree then s.sys.hubId :: others else [] }
    match s.armGo g with
    | none => (s, failR 0x40)
    | some (s, g) =>
      let s := if tree then others.foldl (fun s h =>
          s.sendHub h 0x3110 ([pack [(scene, 8), (target, 24)]] ++ wd2 inst ++ [pack [(0, 16), (g.handle, 16)]])) s else s
      (s, okC (inst != asked % 2 ^ 50 || (!s.isRoot && r.f 3 31 31 == 0)) g.words)

/-- The grid instant that the first frame to leave can still list, two grid instants on (R284). -/
def State.soonestGo (s : State) : Nat := (gridDown s.phase.count + 2 * gridArcs) % 2 ^ 50

/-- A go with this AT comes after the frame before AT has left (R286). -/
def State.goLate (s : State) (asked : Nat) : Bool := asked != s.soonestGo && !laterCount asked s.soonestGo

/-- The AT that a go from the ROOT gets here (R286). -/
def State.goAt (s : State) (asked : Nat) : Option Nat :=
  if s.goLate asked then s.firstFit (5 * s.light.gos.length + 1) s.soonestGo else some asked

/-- A go of the ROOT that cannot be armed is reported with outcome 2 (R284). -/
def State.refuseGo (s : State) (g : Go) : State × Response :=
  (if s.joined then s.sendRoot 0x3140 (s.doneWords g 2) else s, failR 0x40)

/-- Arm a go of the ROOT at `a`; OK_CLAMPED where that is not the AT asked (R284, R286). -/
def State.armRootAt (s : State) (g : Go) (asked a : Nat) : State × Response :=
  match s.armGo { g with inst := a } with
  | none => s.refuseGo g
  | some (s, g) => (s, okC (a != asked % 2 ^ 50) g.words)

/-- A go that comes on the ROOT channel. One that comes after the frame before AT has left moves to the first grid instant that can be listed
once; one that cannot be armed is reported with outcome 2 (R284, R286). -/
def State.armRoot (s : State) (r : Waiting) : State × Response :=
  let asked := gridUp (u64At r.data 1 % 2 ^ 50)
  let late := s.goLate asked
  let base : Go := { scene := r.f 0 31 24, target := r.f 0 23 0, tree := true, rootHandle := r.f 3 15 0, lateGo := late, inst := asked }
  let s := if late then { s with light.sceneLate := bump s.light.sceneLate } else s
  (s.goAt asked).elim (s.refuseGo base) (s.armRootAt base (u64At r.data 1))

/-- SCENE_ARM (R283, R284, R294). -/
def execSceneArm (s : State) : Host.Outcome State Fault Refusal :=
  runCmd 0x3110 s fun r s =>
    if s.phase.st = .acquire then (s, failR 0x30)
    else match r.src with
      | .win _ => s.armOwner r
      | _ => s.armRoot r

/-- SCENE_CANCEL: a go whose frame of the grid instant before AT has not left is cancelled, at the ROOT at every hub it armed too
(R286, R294). -/
def execSceneCancel (s : State) : Host.Outcome State Fault Refusal :=
  runCmd 0x3111 s fun r s =>
    let h := r.f 0 15 0
    let mine := fun (g : Go) => match r.src with
      | .win _ => g.handle == h
      | _ => g.tree && !g.origin && g.rootHandle == h
    match s.light.gos.find? mine with
    | none => (s, okR [pack [(2, 8)]])
    | some g =>
      let lastFrame := (g.inst + 2 ^ 50 - gridArcs) % 2 ^ 50
      if g.ph == .armed && laterCount lastFrame (gridDown s.phase.count) then
        let s := (s.dropGo g.handle).dropEntry (g.handle % 1024)
        let s := if g.origin then (g.hubsLeft.filter (· != s.sys.hubId)).foldl (fun s hub => s.sendHub hub 0x3111 [pack [(0, 16), (g.handle, 16)]]) s else s
        (s, okR [pack [(0, 8)]])
      else (s, okR [pack [(1, 8)]])

/-- SCENE_DONE: the ROOT takes a hub's outcome (R287, R294). -/
def execSceneDone (s : State) : Host.Outcome State Fault Refusal :=
  runCmd 0x3140 s fun r s => (s.hubOutcome (r.f 0 15 0) (r.f 0 31 16) (r.f 1 31 24), okR)

/-- SCENE_REPORT_TIMEOUT: 1 s after AT; hubs that have not reported count with outcome 4 (R287). -/
def execSceneReportTimeout (handle : BitVec 16) (s : State) : Host.Outcome State Fault Refusal :=
  match s.goOf handle.toNat with
  | some g => .next (if g.origin && g.ph != .armed then s.sceneDone g (worse g.worst 4) (g.bad + g.hubsLeft.length) else s)
  | none => .next s

/-- The earliest AT of the gos that are armed (R295). -/
def State.nextGo (s : State) : Nat :=
  let armed := (s.light.gos.filter fun x => x.ph == .armed).map (·.inst)
  armed.foldl (fun a b => if laterCount a b then b else a) (armed.headD 0)

/-- SCENE_STATUS (R295). -/
def execSceneStatus (s : State) : Host.Outcome State Fault Refusal :=
  runRead 0x3101 s fun _ s =>
    okR ([pack [((s.light.gos.filter fun x => x.ph == .armed).length, 16)]] ++ wd2 s.nextGo ++ [wd s.light.sceneLate, wd s.light.sceneInvalid])

/-- A step of phase ends every go that has not gone, with outcome 3 (R94, R286). -/
def State.invalidateGos (s : State) : State :=
  (s.light.gos.filter fun x => x.ph == .armed).foldl (fun s x =>
    { s with light.sceneInvalid := bump s.light.sceneInvalid }.settleGo x 3) s

end Sys2Proof.Machine
end

