-- ==== Sys2Proof/Machine/TimeServo.lean ====
section
/-!
DEFINITION. The PTP servo: the first lock, the rate correction and divergence from the source (R78 to R80, R102, R110).
-/

namespace Sys2Proof.Machine

/-- Step PTP time by a number of ns, not below 0. -/
def State.stepTime (s : State) (by_ : Int) : State := { s with time.ns := ((s.time.ns : Int) + by_).toNat, time.sub := 0 }

/-- EV102 with a flag and the offset (R80, R110). -/
def State.diverged (s : State) (flag : Bool) (off : Int) : State :=
  s.raise 102 [(b2n flag, 1), (b2n (decide (off < 0)), 1), (Nat.min (off.natAbs / 1000) 16777215, 24)]

/-- An offset of PTP time from its source: beyond DIVERGE_US the hub enters DIVERGED, and below half of it returns to LOCKED. A hub in
HOLDOVER stays there, and is DIVERGED once more after it (R80, R107). -/
def State.judgeOffset (s : State) (off : Int) : State :=
  let limit := s.time.cfg.divergeUs * 1000
  let out := decide (limit < off.natAbs) || (s.time.wide && !decide (2 * off.natAbs < limit))
  let was := s.time.wide
  let s := { s with time.offset := off, time.wide := out, time.st := if s.time.st == TState.locked || s.time.st == TState.diverged then
    (if out then TState.diverged else TState.locked) else s.time.st }
  if out = was then s else s.diverged out off

/-- The servo takes a measured offset of PTP time from its source, in ns. The first lock steps PTP time to the source; after it the servo
corrects by rate only, within 500 ppm; which rate it chooses the spec leaves open (free value, log entry 3). The offset stepped away at the
first lock is not recorded (R78 to R80; log entry 161). -/
def State.servo (s : State) (off : Int) (source : Nat) : State :=
  if s.time.st == .unset then (s.stepTime (-off)).timeFirstLock source
  else
    let (v, s) := s.draw
    { s with time.rate := (v.toNat % 1000001 : Nat) - 500000 }.judgeOffset off

end Sys2Proof.Machine
end

