-- ==== Sys2Proof/Machine/Storage.lean ====
section
/-!
DEFINITION. PCIe ports, storage functions, volumes and drives (13_storage_ethernet.md, R412 to R424 and their records R430 to R433).
NVMe opcodes, identifiers and status codes that the spec names without a number are those of NVM Express 2.0 (PRESUMED, log entry 23).
-/

namespace Sys2Proof.Machine

/-! ### Ports, volumes and keys -/

/-- A PCIe port. -/
def State.pp (s : State) (p : Nat) : PciePort := s.stor.port.getD p {}

/-- Change a PCIe port. -/
def State.modPp (s : State) (p : Nat) (f : PciePort → PciePort) : State := { s with stor.port := modAt s.stor.port p f }

/-- A volume of this hub. -/
def State.vol (s : State) (v : Nat) : Volume := s.stor.vol.getD v {}

/-- Change a volume. -/
def State.modVol (s : State) (v : Nat) (f : Volume → Volume) : State := { s with stor.vol := modAt s.stor.vol v f }

/-- The function is a storage function: presented, numbered from 1, with STORAGE in force (R413, R431). -/
def State.isStorFn (s : State) (f : Nat) : Bool := s.fnPresent f && f % 16 != 0 && (s.stor.func.getD f {}).storage

/-- BARs that a function exposes: number and log2 of the size, each 64-bit and non-prefetchable: the mailbox window, the bridge windows, and
the controller registers of a storage function (R35, R301, R413). -/
def State.bars (s : State) (f : Nat) : List (Nat × Nat) :=
  if s.fnPresent f then [(0, 14), (2, 30)] ++ (if s.isStorFn f then [(4, 15)] else []) else []

/-- Vectors of a function's MSI-X table (R35, R413). -/
def State.msixVectors (s : State) (f : Nat) : Nat := if s.isStorFn f then 19 else 2

/-- Class code of a storage function (R413). -/
def storClassCode : BitVec 24 := 0x018000

/-- The drive namespace that a volume lies in. -/
def State.volNs (s : State) (v : Volume) : Option NsIdent := (s.pp v.port.val).drive.ns[v.nsid - 1]?

/-- The volume does not fit its drive namespace: none such, metadata, another LBA size, or too small (R415, R423). -/
def State.volMismatch (s : State) (v : Volume) : Bool :=
  match s.volNs v with
  | none => true
  | some n => n.hasMeta || (n.lbads != 9 && n.lbads != 12) || decide (n.size < v.start + v.count)

/-- The drive of a volume is READY on a root port. -/
def State.volDrive (s : State) (v : Volume) : Bool := (s.pp v.port.val).cfg.mode == 1 && (s.pp v.port.val).drive.st == .ready

/-- Key slot of a volume (R469). -/
def volSlot (v : Nat) : Nat := v + 8

/-- The volume's key can be used (R421, R471, R484). -/
def State.volKey (s : State) (v : Nat) : Bool :=
  !s.vault.locked && s.slotUsable (volSlot v)

/-- log2 of the LBA size of a volume, 0 while it is OFFLINE. -/
def State.volLbads (s : State) (v : Nat) : Nat := if (s.vol v).online then ((s.volNs (s.vol v)).map (·.lbads)).getD 0 else 0

/-- STATE, LBADS and COUNT of an INFO_ACK (R419). -/
def State.volInfo (s : State) (v : Nat) : List Nat := [b2n (!(s.vol v).online), s.volLbads v, (s.vol v).count]

/-- Namespaces of this hub's functions that map one of its own volumes follow the volume (R417). -/
def State.localNs (s : State) (v : Nat) : State :=
  (List.range 32).foldl (fun s f => (List.range 16).foldl (fun s k =>
    let n := (s.sfn f).nsp k
    if n.valid && n.driveHub == s.sys.hubId && n.volume == v then
      (s.modNs f k fun n => { n with lbads := s.volLbads v, count := (s.vol v).count }).setNs f k (s.vol v).online
    else s) s) s

/-- A volume has changed: INFO_ACK goes again to every tunnel that has asked for it, and this hub's own namespaces follow (R419). -/
def State.volChanged (s : State) (v : Nat) : State :=
  let s := (s.stor.asked.filter (·.2 == v)).foldl (fun s (i, _) => if s.tunIsUp i then s.storPdu i 0x86 v 0 0 0 0 (s.volInfo v) [] else s) s
  s.localNs v

/-- Take a volume ONLINE or OFFLINE as its record, its drive and its key say, with EV210; a mismatch is reported with `report` also while the
volume stays OFFLINE (R423, R438). -/
def State.refreshVol (s : State) (v cause : Nat) (report : Bool) : State :=
  let x := s.vol v
  let bad := x.valid && s.volDrive x && s.volMismatch x
  let want := x.valid && s.volDrive x && !s.volMismatch x && s.volKey v
  let c := if bad then 2 else cause
  if x.online = want then (if bad && report then s.raise 210 [(v, 4), (0, 1), (c, 8)] else s)
  else ((s.modVol v fun x => { x with online := want }).raise 210 [(v, 4), (b2n want, 1), (c, 8)]).volChanged v

/-- Every volume of a port follows its drive (R423). -/
def State.refreshVols (s : State) (p : Nat) (report : Bool) : State :=
  (List.range 16).foldl (fun s v => if (s.vol v).port.val = p then s.refreshVol v 1 report else s) s

/-- The keys or the vault have changed: every volume follows (R471, R484). -/
def State.volKeysChanged (s : State) (cause : Nat) : State := (List.range 16).foldl (fun s v => s.refreshVol v cause false) s

/-! ### Requests at the drive's hub -/

/-- Answer a request: COMPLETION on its tunnel, or the CQ entry of a function of this hub (R419). -/
def State.storAnswer (s : State) (tun : Option Nat) (tag vol status nlb lba : Nat) (data : List Word) : State :=
  match tun with
  | some i => s.storPdu i 0x81 vol tag status nlb lba [] data
  | none =>
    match s.stor.cmds.find? (·.tag == tag) with
    | none => s
    | some c =>
      let s := if data.isEmpty || (s.sfn c.fn).flrWait then s else s.send (.nvmeData c.fn (data.map (·.toNat)))
      s.finishCmd c status

/-- NVMe command of an OP (R420). -/
def nvmeOp (op : Nat) : Nat := if op = 1 then 2 else if op = 2 then 1 else if op = 3 then 0 else if op = 4 then 9 else 8

/-- Ranges of a DEALLOCATE: start and length of each, four words a range, as NVMe lays them out. -/
def dsmRanges (data : List Word) (n : Nat) : List (Nat × Nat) :=
  (List.range n).map fun i => (u64At data (4 * i + 2), (wordAt data (4 * i + 1)).toNat)

/-- A request runs beyond COUNT (R420). -/
def Volume.beyond (v : Volume) (op nlb lba : Nat) (data : List Word) : Bool :=
  if op = 3 then false
  else if op = 4 then (dsmRanges data (nlb + 1)).any fun r => decide (v.count < r.1 + r.2)
  else decide (v.count < lba + nlb + 1)

/-- Every block of a range passed through the cipher of its volume: one LBA is a data unit, its tweak the volume-relative LBA (R421). -/
def xtsBlocks (f : List Word → Nat → List Word → Nat → Word) (key : List Word) (blockWords lba n : Nat) (data : List Word) : List Word :=
  (List.range n).flatMap fun i =>
    let block := (data.drop (i * blockWords)).take blockWords
    (List.range block.length).map (f key (lba + i) block)

/-- Key and words of a block of a volume (R421). -/
def State.volCipher (s : State) (v : Nat) : List Word × Nat := ((s.vault.slots.getD (volSlot v) {}).key, 2 ^ s.volLbads v / 4)

/-- Check a request against its volume, and issue it to the drive with START added and its data encrypted (R420, R421, R423). -/
def State.storRequest (s : State) (tun : Option Nat) (tag vol op nlb lba : Nat) (data : List Word) : State :=
  let v := s.vol vol
  if !v.online then s.storAnswer tun tag vol stNotReady nlb lba []
  else if v.beyond op nlb lba data then s.storAnswer tun tag vol stRange nlb lba []
  else
    let r : DriveReq := { tun := tun, tag := tag, vol := vol, op := op, nsid := v.nsid, lba := lba + v.start, nlb := nlb }
    let s := { s with stor.reqs := s.stor.reqs ++ [r] }
    if op = 4 then (dsmRanges data (nlb + 1)).foldl (fun s (a, n) => s.send (.nvme v.port 9 v.nsid (a + v.start) n [])) s
    else
      let (key, words) := s.volCipher vol
      s.send (.nvme v.port (nvmeOp op) v.nsid r.lba nlb (if op = 2 then xtsBlocks Config.xtsEnc key words lba (nlb + 1) data else []))

/-- The drive of a port is gone or has failed: its requests are answered with Namespace Not Ready and its volumes go OFFLINE (R423). -/
def State.driveLost (s : State) (p : Nat) : State :=
  let rs := s.stor.reqs.filter fun r => (s.vol r.vol).port.val == p
  let s := { s with stor.reqs := s.stor.reqs.filter fun r => (s.vol r.vol).port.val != p }
  let s := rs.foldl (fun s r => s.storAnswer r.tun r.tag r.vol stNotReady r.nlb r.lba []) s
  s.refreshVols p false

/-! ### Drives -/

/-- Code of a drive state (R437). -/
def DriveState.code : DriveState → Nat
  | .absent => 0
  | .init => 1
  | .ready => 2
  | .failed => 3

/-- Move a drive to a state, with EV209 (R424). -/
def State.setDrive (s : State) (p : Nat) (st : DriveState) : State :=
  if (s.pp p).drive.st = st then s else (s.modPp p fun x => { x with drive.st := st }).raise 209 [(p, 1), (st.code, 4)]

/-- DRIVE_LINK_UP: a root port's drive links up and enters INIT; once it is ready and its Identify data is read, it is READY (R424). -/
def execDriveLinkUp (port : Fin 2) (gen lanes : BitVec 3) (ident : Option DriveIdent) (s : State) : Host.Outcome State Fault Refusal :=
  let x := s.pp port.val
  if x.cfg.mode != 1 || !s.domOn 9 then .next s
  else
    let s := if x.drive.st == .absent || x.drive.st == .failed then
        (s.modPp port.val fun x => { x with linkGen := Nat.min gen.toNat x.cfg.maxGen, lanes := lanes.toNat, drive.shn := false }).setDrive port.val .init
      else s
    match ident with
    | none => .next s
    | some i =>
      if (s.pp port.val).drive.st != .init then .next s
      else
        let s := s.modPp port.val fun x => { x with drive.ns := i.ns, drive.used := i.used, drive.warning := i.warning }
        .next ((s.setDrive port.val .ready).refreshVols port.val true)

/-- DRIVE_READY_TIMEOUT: not ready within 10 s of link-up (R424). -/
def execDriveReadyTimeout (port : Fin 2) (s : State) : Host.Outcome State Fault Refusal :=
  .next (if (s.pp port.val).drive.st == .init then s.setDrive port.val .failed else s)

/-- The drive's link is down: ABSENT, with nothing known of its namespaces (R423, R424). -/
def State.driveGone (s : State) (p : Nat) : State :=
  if (s.pp p).drive.st == .absent then s
  else
    let s := (s.setDrive p .absent).driveLost p
    s.modPp p fun x => { x with linkGen := 0, lanes := 0, drive.ns := [], drive.shn := false }

/-- DRIVE_LINK_DOWN (R423, R424). -/
def execDriveLinkDown (port : Fin 2) (s : State) : Host.Outcome State Fault Refusal := .next (s.driveGone port.val)

/-- DRIVE_FATAL_STATUS: CSTS.CFS is set; the drive leaves FAILED only at a new link-up (R424). -/
def execDriveFatalStatus (port : Fin 2) (s : State) : Host.Outcome State Fault Refusal :=
  let st := (s.pp port.val).drive.st
  .next (if st == .ready || st == .init then (s.setDrive port.val .failed).driveLost port.val else s)

/-- PCIE_LINK_CHANGE: a port trains at the highest generation that both ends and MAX_GEN allow, or loses its link (R412). -/
def execPcieLinkChange (port : Fin 2) (gen lanes : BitVec 3) (s : State) : Host.Outcome State Fault Refusal :=
  let x := s.pp port.val
  if x.cfg.mode = 2 ∨ !s.domOn 9 then .next s
  else
    let g := Nat.min gen.toNat x.cfg.maxGen
    let s := s.modPp port.val fun x => { x with linkGen := g, lanes := if g = 0 then 0 else lanes.toNat }
    .next (if g = 0 ∧ x.cfg.mode = 1 then s.driveGone port.val else s)

/-! ### Storage tunnels -/

/-- Open the tunnel of a namespace whose drive is at another hub (R418). -/
def State.openNs (s : State) (f k : Nat) : State :=
  let n := (s.sfn f).nsp k
  if !n.valid || n.driveHub == s.sys.hubId || n.tun.isSome || n.barred || !s.isStorFn f then s
  else
    let (s, i) := s.openOwn { cls := 4, farEp := 0x800000, nearEp := 0x800000, farHub := n.driveHub, tenant := s.fnTenant f, cir := n.cir,
                              pir := 0xFFFFFF, cbs := 64, pbs := 4096 }
    s.modNs f k fun n => { n with tun := i, retry := i.isNone }

/-- STORAGE_TUNNEL_RETRY: 10 s after its tunnel was refused or closed, a namespace tries again (R418). -/
def execStorageTunnelRetry (fn : BitVec 5) (nsid : Fin 16) (s : State) : Host.Outcome State Fault Refusal :=
  .next (if ((s.sfn fn.toNat).nsp nsid.val).retry then s.openNs fn.toNat nsid.val else s)

/-- STORAGE_INFO: INFO is answered with INFO_ACK; INFO_ACK makes the namespace READY or OFFLINE (R417, R419). -/
def execStorageInfo (idx : BitVec 14) (volume : BitVec 4) (ack : Option (Byte × Byte × BitVec 64)) (s : State) : Host.Outcome State Fault Refusal :=
  let i := idx.toNat
  let v := volume.toNat
  match s.tunAt i with
  | none => .next s
  | some t =>
    if t.p.cls != 4 || t.st != .up then .next s
    else match ack with
    | none =>
      if t.endA then .next s
      else
        let s := { s with stor.asked := (i, v) :: s.stor.asked.filter (· != (i, v)) }
        .next (s.storPdu i 0x86 v 0 0 0 0 (s.volInfo v) [])
    | some (st, lbads, count) =>
      .next ((s.nsBy i).foldl (fun s (f, k) =>
        if ((s.sfn f).nsp k).volume = v then
          (s.modNs f k fun n => { n with lbads := lbads.toNat, count := count.toNat }).setNs f k (st == 0)
        else s) s)

/-- STORAGE_PDU_REQUEST: a request comes to the drive's hub (R419, R420, R423). -/
def execStoragePduRequest (idx : BitVec 14) (op : Byte) (volume : BitVec 4) (tag nlb : BitVec 16) (lba : BitVec 64) (data : List Word) (s : State) :
    Host.Outcome State Fault Refusal :=
  let i := idx.toNat
  match s.tunAt i with
  | none => .next s
  | some t =>
    if t.p.cls != 4 || t.st != .up then .next s
    else if op == 0 || (decide (6 < op.toNat) && op != 0x81 && op != 0x86) then
      if t.endA then .next ((s.nsBy i).foldl (fun s (f, _) => s.modFn f fun x => { x with bad := bump x.bad }) s)
      else .next { s with stor.bad := bump s.stor.bad }
    else if t.endA || decide (5 < op.toNat) then .next s
    else .next (s.storRequest (some i) tag.toNat volume.toNat op.toNat nlb.toNat lba.toNat data)

/-! ### Commands of a storage function -/

/-- Commands a function has in progress. -/
def State.inProgress (s : State) (f : Nat) : Nat := (s.stor.cmds.filter (·.fn == f)).length

/-- After a function reset, the wait ends: EV212 with the commands still in progress, whose completions are discarded (R423). -/
def State.endFlr (s : State) (f : Nat) : State :=
  if !(s.sfn f).flrWait then s
  else
    let n := s.inProgress f
    ({ s with stor.cmds := s.stor.cmds.filter (·.fn != f) }.modFn f fun x => { x with flrWait := false }).raise 212 [(f / 16, 1), (f % 16, 4), (n, 16)]

/-- FLR_WAIT_EXPIRY (R423). -/
def execFlrWaitExpiry (fn : BitVec 5) (s : State) : Host.Outcome State Fault Refusal := .next (s.endFlr fn.toNat)

/-- A storage function is reset: its controller stops and forgets its queues, and waits for the commands in progress (R423). -/
def State.storFlr (s : State) (f : Nat) : State :=
  let s := s.modFn f fun x => { x with
    flrWait := true, queues := [], cqIv := [], nQueues := 16, coalesce := 0, aerMask := 0, aers := [], aerNotices := [], ccEn := false, cq := [] }
  if s.inProgress f = 0 then s.endFlr f else s

/-- STORAGE_COMPLETION: the drive answers, and what it read is decrypted, or a COMPLETION arrives; the CQ entry is posted, or discarded after a function reset or a
timeout (R416, R419 to R421, R423). -/
def execStorageCompletion (src : StorFrom) (tag status : BitVec 16) (data : List Word) (s : State) : Host.Outcome State Fault Refusal :=
  match src with
  | .tun idx =>
    match s.stor.cmds.find? (·.tag == tag.toNat) with
    | none => .next s
    | some c =>
      if ((s.sfn c.fn).nsp (c.nsid - 1)).tun != some idx.toNat then .next s
      else
        let s := s.storAnswer none tag.toNat 0 status.toNat 0 0 data
        .next (if (s.sfn c.fn).flrWait && s.inProgress c.fn == 0 then s.endFlr c.fn else s)
  | .drive req =>
    let tun := req.map (·.toNat)
    match s.stor.reqs.find? fun r => r.tun == tun && r.tag == tag.toNat with
    | none => .next s
    | some r =>
      let s := { s with stor.reqs := s.stor.reqs.filter fun x => !(x.tun == tun && x.tag == tag.toNat) }
      let lba := r.lba - (s.vol r.vol).start
      let (key, words) := s.volCipher r.vol
      let plain := if r.op = 1 then xtsBlocks Config.xtsDec key words lba (r.nlb + 1) data else data
      let s := s.storAnswer tun r.tag r.vol status.toNat r.nlb lba plain
      .next ((List.range 32).foldl (fun s f => if (s.sfn f).flrWait && s.inProgress f == 0 then s.endFlr f else s) s)

/-- STORAGE_TIMEOUT: no COMPLETION within t_stor; the tag is free (R423). -/
def execStorageTimeout (tag : BitVec 16) (s : State) : Host.Outcome State Fault Refusal :=
  match s.stor.cmds.find? (·.tag == tag.toNat) with
  | none => .next s
  | some c =>
    let s := (s.finishCmd c stTransport).modFn c.fn fun x => { x with timeouts := bump x.timeouts }
    let s := { s with stor.reqs := s.stor.reqs.filter fun r => !(r.tun == none && r.tag == tag.toNat) }
    .next (s.raiseCounted 211 c.fn 1 [(c.fn / 16, 1), (c.fn % 16, 4)] 16 (.tenant (s.fnTenant c.fn)))

/-- Invalid Queue Identifier (NVM Express 2.0). -/
def stQueue : Nat := nvmeStatus 1 1
/-- Invalid Queue Size. -/
def stQueueSize : Nat := nvmeStatus 1 2
/-- Completion Queue Invalid. -/
def stCq : Nat := nvmeStatus 1 0
/-- Invalid Interrupt Vector. -/
def stVector : Nat := nvmeStatus 1 8
/-- Invalid Queue Deletion. -/
def stQueueDel : Nat := nvmeStatus 1 12

/-- A queue of a function exists: 0 CQ, 1 SQ. -/
def StorFn.hasQueue (x : StorFn) (kind q : Nat) : Bool := x.queues.any fun e => e.1 == kind && e.2.1 == q

/-- Namespaces with a VALID map, by NSID (R417). -/
def StorFn.mappedNs (x : StorFn) : List Nat := (List.range 16).filterMap fun k => if (x.nsp k).valid then some (k + 1) else none

/-- NSZE, NCAP and LBA format of a namespace as Identify gives them: 0 while OFFLINE (R417). -/
def NsMap.ident (n : NsMap) : List Nat := if n.ready then [n.count, n.count, n.lbads] else [0, 0, 0]

/-- A log page as the function sees it: Error Information, or SMART / Health (R415). -/
def StorFn.logPage (x : StorFn) (lid : Nat) : List Nat := if lid = 1 then [x.bad, x.timeouts] else [x.done, x.timeouts]

/-- An admin command: its status, and what it does to the function (R415, R417). Log pages and Identify data are sent to the server. -/
def State.adminCmd (s : State) (f opc nsid cdw10 cdw11 cid : Nat) : State × Option Nat :=
  let x := s.sfn f
  let q := cdw10 % 65536
  let size := cdw10 / 65536
  if opc = 0x06 then
    if cdw10 % 256 = 0 then
      if nsid = 0 ∨ !x.mappedNs.contains nsid then (s, some stNamespace) else (s.send (.nvmeData f (x.nsp (nsid - 1)).ident), some 0)
    else if cdw10 % 256 = 1 then (s.send (.nvmeData f [16, 1023, 5]), some 0)
    else if cdw10 % 256 = 2 then (s.send (.nvmeData f (x.mappedNs.filter (nsid < ·))), some 0)
    else if cdw10 % 256 = 3 then
      if nsid = 0 ∨ !x.mappedNs.contains nsid then (s, some stNamespace) else (s.send (.nvmeData f [nsid]), some 0)
    else (s, some stField)
  else if opc = 0x05 then
    if q = 0 ∨ x.nQueues < q ∨ x.hasQueue 0 q then (s, some stQueue)
    else if size = 0 ∨ 1023 < size then (s, some stQueueSize)
    else if cdw11 / 2 % 2 = 1 ∧ 16 < cdw11 / 65536 then (s, some stVector)
    else (s.modFn f fun x => { x with
      queues := x.queues ++ [(0, q, size)], cqIv := if cdw11 / 2 % 2 = 1 then x.cqIv ++ [(q, cdw11 / 65536)] else x.cqIv }, some 0)
  else if opc = 0x01 then
    if q = 0 ∨ x.nQueues < q ∨ x.hasQueue 1 q then (s, some stQueue)
    else if size = 0 ∨ 1023 < size then (s, some stQueueSize)
    else if !x.hasQueue 0 (cdw11 / 65536) then (s, some stCq)
    else (s.modFn f fun x => { x with queues := x.queues ++ [(1, q, cdw11 / 65536)] }, some 0)
  else if opc = 0x00 then
    if x.hasQueue 1 q then (s.modFn f fun x => { x with queues := x.queues.filter fun e => !(e.1 == 1 && e.2.1 == q) }, some 0) else (s, some stQueue)
  else if opc = 0x04 then
    if !x.hasQueue 0 q then (s, some stQueue)
    else if x.queues.any (fun e => e.1 == 1 && e.2.2 == q) then (s, some stQueueDel)
    else (s.modFn f fun x => { x with queues := x.queues.filter (fun e => !(e.1 == 0 && e.2.1 == q)), cqIv := x.cqIv.filter (·.1 != q) }, some 0)
  else if opc = 0x02 then
    if cdw10 % 256 = 1 ∨ cdw10 % 256 = 2 then (s.send (.nvmeData f (x.logPage (cdw10 % 256))), some 0) else (s, some stField)
  else if opc = 0x09 then
    if cdw10 % 256 = 7 then
      let n := Nat.min 16 (Nat.min (cdw11 % 65536) (cdw11 / 65536) + 1)
      ((s.modFn f fun x => { x with nQueues := n }).send (.nvmeData f [(n - 1) * 65536 + (n - 1)]), some 0)
    else if cdw10 % 256 = 8 then (s.modFn f fun x => { x with coalesce := cdw11 % 65536 }, some 0)
    else if cdw10 % 256 = 11 then (s.modFn f fun x => { x with aerMask := cdw11 }, some 0)
    else (s, some stField)
  else if opc = 0x0A then
    if cdw10 % 256 = 7 then (s.send (.nvmeData f [(x.nQueues - 1) * 65536 + (x.nQueues - 1)]), some 0)
    else if cdw10 % 256 = 8 then (s.send (.nvmeData f [x.coalesce]), some 0)
    else if cdw10 % 256 = 11 then (s.send (.nvmeData f [x.aerMask]), some 0)
    else (s, some stField)
  else if opc = 0x08 then (s.send (.nvmeData f [1]), some 0)
  else if opc = 0x0C then ((s.modFn f fun x => { x with aers := x.aers ++ [cid] }).notices f, none)
  else (s, some stOpcode)

/-- OP of an I/O opcode (R415, R419). -/
def ioOp (opc : Nat) : Option Nat :=
  if opc = 0 then some 3 else if opc = 1 then some 2 else if opc = 2 then some 1 else if opc = 8 then some 5 else if opc = 9 then some 4 else none

/-- Status that refuses an I/O command before it is issued (R415, R417, R423). -/
def StorFn.ioRefusal (x : StorFn) (op flags nsid nlb cdw11 : Nat) : Option Nat :=
  if flags % 4 != 0 || flags / 64 != 0 then some stField
  else if op = 4 ∧ cdw11 / 4 % 2 = 0 then some stField
  else if nsid = 0 ∨ !x.mappedNs.contains nsid then some stNamespace
  else if !(x.nsp (nsid - 1)).ready then some stNotReady
  else if (op = 1 ∨ op = 2) ∧ 131072 < (nlb + 1) * 2 ^ (x.nsp (nsid - 1)).lbads then some stField
  else none

/-- Storage commands in progress at once (R416). -/
def storMax : Nat := 256

/-- NVME_COMMAND_FETCH: an admin command is carried out at once; an I/O command goes to its volume, over its tunnel or straight to X10. With
256 commands in progress, or while a function reset is under way, nothing is fetched (R415 to R417, R420). -/
def execNvmeCommandFetch (fn : BitVec 5) (qid cid : BitVec 16) (opc flags : Byte) (nsid cdw10 cdw11 cdw12 : Word) (data : List Word) (s : State) :
    Host.Outcome State Fault Refusal :=
  let f := fn.toNat
  let q := qid.toNat
  if !s.isStorFn f || !s.domOn 9 || (s.sfn f).flrWait || decide (storMax ≤ s.stor.cmds.length) then .next s
  else
    let s := s.modFn f fun x => { x with ccEn := true }
    if q = 0 then
      let (s, st) := s.adminCmd f opc.toNat nsid.toNat cdw10.toNat cdw11.toNat cid.toNat
      .next (match st with | some st => s.post f 0 cid.toNat st | none => s)
    else if !(s.sfn f).hasQueue 1 q then .next s
    else match ioOp opc.toNat with
    | none => .next (s.post f q cid.toNat stOpcode)
    | some op =>
      let nlb := if op = 4 then cdw10.toNat % 256 else if op = 3 then 0 else cdw12.toNat % 65536
      let lba := if op = 4 ∨ op = 3 then 0 else cdw10.toNat + 2 ^ 32 * cdw11.toNat
      match (s.sfn f).ioRefusal op flags.toNat nsid.toNat nlb cdw11.toNat with
      | some st => .next (s.post f q cid.toNat st)
      | none =>
        let n := (s.sfn f).nsp (nsid.toNat - 1)
        let tag := (leastFree (s.stor.cmds.map (·.tag)) 0 257).getD 0
        let c : StorCmd := { fn := f, qid := q, cid := cid.toNat, nsid := nsid.toNat, tag := tag, op := op, lba := lba, nlb := nlb }
        let s := { s with stor.cmds := s.stor.cmds ++ [c] }
        let payload := if op = 2 ∨ op = 4 then data else []
        .next (match n.tun with
          | some i => s.storPdu i op n.volume tag 0 nlb lba [] payload
          | none => s.storRequest none tag n.volume op nlb lba payload)

/-! ### Commands -/

/-- The source may see a function: a TENANT only its own (R52, R436). -/
def State.seesFn (s : State) (src : Source) (f : Nat) : Bool :=
  match s.srcTenant src, src with
  | some _, .win i => decide (6 ≤ i.val) && fnOf i == f
  | _, _ => true

/-- STOR_STATUS (R437). -/
def execStorStatus (s : State) : Host.Outcome State Fault Refusal :=
  runRead 0x5801 s fun r s =>
    let f := r.f 0 31 31 * 16 + r.f 0 30 27
    if !s.seesFn r.src f then okR (List.replicate 4 0)
    else
      let x := s.sfn f
      let ready := (List.range 16).foldl (fun a k => a + b2n (x.nsp k).ready * 2 ^ k) 0
      okR [pack [(ready, 16), (s.inProgress f, 16)], wd x.timeouts, wd x.bad, wd x.done]

/-- STOR_DRIVE (R437). -/
def execStorDrive (s : State) : Host.Outcome State Fault Refusal :=
  runRead 0x5802 s fun r s =>
    let p := r.f 0 31 31
    let x := s.pp p
    let online := (List.range 16).foldl (fun a v => a + b2n ((s.vol v).online && (s.vol v).port.val == p) * 2 ^ v) 0
    okR [pack [(x.drive.st.code, 4), (x.linkGen, 3), (x.lanes, 3), (0, 6), (online, 16)], wd x.drive.ns.length, wd x.drive.used, wd x.drive.warning]

/-! ### Records -/

/-- The PCIe port record takes effect at the next cold reset, when the provisioned record store is applied again (R412, R430, R520). -/
def recPcie (s : State) : RdM State := do
  let p ← rdR 0 31 31
  let mode ← rdE 0 30 29 (· ≤ 2) 2
  let gen ← rdC 0 28 26 1 5
  let funcs ← rdC 0 25 21 1 16
  pure (if !s.up then s.modPp p fun x => { x with cfg := { mode := mode, maxGen := gen, funcs := funcs } } else s)

/-- The function record waits for a function reset or a cold reset (R414, R431). -/
def recFunc (s : State) : RdM State := do
  let p ← rdR 0 31 31
  let n ← rdE 0 30 27 (1 ≤ ·) 1
  let stor ← rdB 0 26
  let tenant ← rdR 0 15 0
  let c : FuncCfg := { storage := stor, tenant := tenant }
  let f := p * 16 + n
  pure (if !s.up then { s with stor.func := modAt s.stor.func f fun _ => c } else { s with stor.nextFunc := modAt s.stor.nextFunc f fun _ => some c })

/-- Put a namespace map: the old tunnel closes, commands in progress complete, and the namespace is opened afresh (R417, R418, R432). -/
def State.putNs (s : State) (f k : Nat) (valid : Bool) (volume hub cir : Nat) : State :=
  let n := (s.sfn f).nsp k
  let s := if n.valid = valid ∧ n.volume = volume ∧ n.driveHub = hub ∧ n.cir = cir then s
    else
      let s := s.nsDown f k
      let s := match n.tun with
        | some i => s.beginClose i 0
        | none => s
      s.modNs f k fun _ => { valid := valid, volume := volume, driveHub := hub, cir := cir }
  let s := s.openNs f k
  if valid && hub == s.sys.hubId then s.localNs volume else s

/-- The namespace map record (R432). -/
def recNs (s : State) : RdM State := do
  let p ← rdR 0 31 31
  let n ← rdE 0 30 27 (1 ≤ ·) 1
  let nsid ← rdC 0 26 22 1 16
  let hub ← rdR 0 15 0
  let valid ← rdBF 0 21 (· && hub != 0)
  let volume ← rdR 0 19 16
  let cir ← rdR 1 31 8
  pure (s.putNs (p * 16 + n) (nsid - 1) valid volume hub cir)

/-- Make a new key for a volume in its vault slot (R421, R422); a vault that is LOCKED makes none and leaves the slot EMPTY. -/
def State.newVolKey (s : State) (v : Nat) : State :=
  if s.vault.locked then { s with vault.slots := modAt s.vault.slots (volSlot v) fun _ => {} }
  else
    let (a, s) := s.draw
    let (b, s) := s.draw
    let key := (List.range 12).map (fun i => a.extractLsb' (32 * i) 32) ++ (List.range 4).map (fun i => b.extractLsb' (32 * i) 32)
    { s with vault.slots := modAt s.vault.slots (volSlot v) fun _ =>
        { st := .valid, kind := 2, usage := 0xC0, origin := 0, lcGen := s.lcGen, created := s.now, key := key } }

/-- Put a volume record: a new key when its place changes, at its first record, or with ERASE (R422, R433). -/
def State.putVol (s : State) (v : Nat) (valid shared erase : Bool) (port : Fin 2) (tenant nsid start count : Nat) : State :=
  let x := s.vol v
  let fresh := erase || !x.keyed || x.nsid != nsid || x.start != start || x.count != count
  let s := if fresh then s.newVolKey v else s
  let s := if fresh && x.online then ((s.modVol v fun x => { x with online := false }).raise 210 [(v, 4), (0, 1), (3, 8)]).volChanged v else s
  let s := s.modVol v fun x => { x with
    valid := valid, shared := shared, port := port, tenant := tenant, nsid := nsid, start := start, count := count, keyed := true }
  let was := (s.vol v).online
  let s := s.refreshVol v (if fresh && x.online then 3 else 0) true
  if was && (s.vol v).online && (s.vol v) != x then s.volChanged v else s

/-- The volume record (R433). -/
def recVolume (s : State) : RdM State := do
  let v ← rdR 0 31 28
  let valid ← rdB 0 27
  let shared ← rdB 0 26
  let erase ← rdB 0 25
  let port ← rdB 0 24
  let tenant ← rdR 0 15 0
  let nsid ← rdC 1 31 0 1 0xFFFFFFFE
  let start ← rd64 2 id
  let count ← rdC 4 31 0 1 0xFFFFFFFF
  pure (s.putVol v valid shared erase (if port then 1 else 0) tenant nsid start count)

end Sys2Proof.Machine
end

