-- ==== Sys2Proof/Machine/Ethernet.lean ====
section
/-!
DEFINITION. Ethernet ports: links (R425), VLANs and network tunnels (R426, R427), PTP on E ports (R428, R429), the ETH commands (R436, R437)
and their records (R434, R435).
-/

namespace Sys2Proof.Machine

/-! ### Ports -/

/-- An Ethernet port. -/
def State.ep (s : State) (p : Nat) : EthPort := s.eth.port.getD p {}

/-- Change an Ethernet port. -/
def State.modEp (s : State) (p : Nat) (f : EthPort → EthPort) : State := { s with eth.port := modAt s.eth.port p f }

/-- Speeds that a MODE allows (R425). -/
def speedOk (mode speed : Nat) : Bool :=
  (mode == 1 && decide (speed ≤ 3)) || (mode == 2 && speed == 3) || ((mode == 3 || mode == 4) && speed == 4)

/-- The order of the IEEE 1588 data set comparison: `a` before `b` (R428). -/
def masterBetter (a b : PtpMaster) : Bool :=
  let ka := [a.prio1, a.cls, a.accuracy, a.variance, a.prio2, a.identity, a.steps]
  let kb := [b.prio1, b.cls, b.accuracy, b.variance, b.prio2, b.identity, b.steps]
  decide (ka < kb)

/-- The best of the masters heard. -/
def bestMaster : List PtpMaster → Option PtpMaster
  | [] => none
  | m :: ms => match bestMaster ms with
    | none => some m
    | some b => if masterBetter m b then some m else some b

/-- The port feeds the servo: SLAVE at the ROOT, on SRC_PORT with SOURCE 1 (R102, R428). -/
def State.feedsServo (s : State) (p : Nat) : Bool := s.isRoot && (s.ep p).cfg.ptpRole == 2 && s.time.cfg.source == 1 && s.time.cfg.srcPort == p

/-- PTP port state: 0 disabled, 1 listening, 2 master, 3 slave (R437). -/
def State.ptpState (s : State) (p : Nat) : Nat :=
  let x := s.ep p
  if !x.up || x.cfg.ptpRole = 0 then 0
  else if x.cfg.ptpRole = 1 then 2
  else if s.feedsServo p && x.master.isSome then 3 else 1

/-- The PTP port state follows, with EV217 (R438). -/
def State.refreshPtp (s : State) (p : Nat) : State :=
  let n := s.ptpState p
  if (s.ep p).ptp = n then s else (s.modEp p fun x => { x with ptp := n }).raise 217 [(p, 2), (n, 4)]

/-- Bring a link up or down, with EV216 (R425, R438). -/
def State.setEth (s : State) (p : Nat) (up : Bool) (speed cause : Nat) : State :=
  let s := s.modEp p fun x => { x with up := up, speed := speed, pausedTo := if up then x.pausedTo else 0, txWait := if up then x.txWait else [], masters := if up then x.masters else [],
                                       master := if up then x.master else none }
  (s.raise 216 [(p, 2), (b2n up, 1), (speed, 4), (cause, 8)]).refreshPtp p

/-- ETH_LINK_CHANGE: the partner brings a link up at a speed (code 5 for 10 or 100 Mb/s, which holds it down), or it is lost (R425). -/
def execEthLinkChange (port : Fin 4) (signal : Option (Fin 6)) (s : State) : Host.Outcome State Fault Refusal :=
  let x := s.ep port.val
  if x.cfg.mode = 0 ∨ !s.domOn 11 then .next s
  else match signal with
  | none => .next (if x.up then s.setEth port.val false x.speed 0 else s)
  | some v =>
    if speedOk x.cfg.mode v.val then .next (if x.up && x.speed == v.val then s else s.setEth port.val true v.val 0)
    else .next (s.setEth port.val false x.speed 1)

/-! ### Frames -/

/-- Six bytes of a frame as a MAC address. -/
def frMac (f : List Byte) (n : Nat) : Nat := (List.range 6).foldl (fun a i => a * 256 + frByte f (n + i)) 0

/-- A group or broadcast address. -/
def multicast (mac : Nat) : Bool := mac / 2 ^ 40 % 2 == 1

/-- Tunnels of a gateway group that are UP and end here (R427). -/
def State.groupTuns (s : State) (group : Nat) : List Nat :=
  (s.tun.table.filter fun t => t.p.cls == 5 && !t.endA && t.p.farEp == group && t.st == .up).map (·.idx)

/-- Send the cells of a frame from X7, `k` of them from cell `i` on (R166, R195, R236). -/
def State.sendFrameN : Nat → State → Nat → List Byte → Bool → State
  | 0, s, _, _, _ => s
  | k + 1, s, idx, f, first =>
    match s.tunAt idx with
    | none => s
    | some t =>
      match t.police with
      | none => s
      | some (t', ex) =>
        sendFrameN k ((s.modTun idx fun _ => t').sendSeq idx 1 t.toward first (k == 0) ex (f.take 224) (some 7)) idx (f.drop 224) false

/-- A frame goes into a tunnel as one PDU at X7. It is dropped whole when its cells outnumber the whole tokens in P, and when not all its cells can
be admitted (R211, R236). -/
def State.frameInto (s : State) (idx : Nat) (f : List Byte) : State :=
  match s.tunAt idx with
  | none => s
  | some t =>
    if !t.canSend then s
    else if t.pTok / wholeCell < frameCells f then
      let s := s.modTun idx fun t => { t with drops := bump t.drops }
      { s with allot.policeDrop := bump s.allot.policeDrop }.raiseCounted 77 idx 1 [(idx, 14)] 16
    else
      let s' := s.sendFrameN (frameCells f) idx f true
      if s'.fwd.blocked.any (·.1 == 7) then s.cntF 14 1 else s'

/-- Tunnel that has learnt a MAC address in a group (R427). -/
def State.learnt (s : State) (group mac : Nat) : Option Nat := (s.eth.learn.find? fun l => l.group == group && l.mac == mac).map (·.tun)

/-- Learn a source address against a tunnel; a full table learns none and raises EV218 once (R427). -/
def State.learn (s : State) (group mac tun : Nat) : State :=
  let same : Learnt → Bool := fun l => l.group == group && l.mac == mac
  let l : Learnt := { group := group, mac := mac, tun := tun }
  if s.eth.learn.any same then { s with eth.learn := s.eth.learn.map fun x => if same x then l else x }
  else if s.eth.learn.length < learnSize then { s with eth.learn := s.eth.learn ++ [l] }
  else if s.eth.learnFull then s
  else { s with eth.learnFull := true }.raise 218 [(1, 1)]

/-- Forget addresses, with EV218 flag 0 once there is room (R427). -/
def State.forget (s : State) (p : Learnt → Bool) : State := { s with eth.learn := s.eth.learn.filter fun l => !p l }.learnRoom

/-- Send a frame out of an E port: tagged with its VID, or untagged for PVID with UNTAG_PVID. It waits while the partner's PAUSE holds (R425,
R427). -/
def State.frameOut (s : State) (m : VlanMap) (f : List Byte) : State :=
  let x := s.ep m.port.val
  if !x.up then s
  else
    let g := if m.vid == x.cfg.pvid && x.cfg.untagPvid then f else f.take 12 ++ (numBytes 0x8100 2 ++ numBytes m.vid 2) ++ f.drop 12
    if s.ethPaused x || !x.txWait.isEmpty then s.modEp m.port.val fun x => { x with txWait := x.txWait ++ [g] }
    else (s.modEp m.port.val fun x => { x with sent := bump x.sent }).send (.eth m.port g)

/-- A frame arrives from a tunnel of a mapped group (R427). -/
def State.bridgeUp (s : State) (t : Tunnel) (m : VlanMap) (f : List Byte) : State :=
  let s := s.learn m.group (frMac f 6) t.idx
  match s.learnt m.group (frMac f 0) with
  | some i => s.frameInto i f
  | none => s.frameOut m f

/-- A frame arrives on an E port: it loses its tag and goes to the tunnel that has learnt its destination, or to every UP tunnel of the
group; its source address moves to the port (R427). -/
def State.bridgeDown (s : State) (m : VlanMap) (f : List Byte) : State :=
  let src := frMac f 6
  let dst := frMac f 0
  let s := if (s.learnt m.group src).isSome then s.forget fun l => l.group == m.group && l.mac == src else s
  match (if multicast dst then none else s.learnt m.group dst) with
  | some i => s.frameInto i f
  | none => (s.groupTuns m.group).foldl (fun s i => s.frameInto i f) s

/-- Bit rate of a speed code, in Mb/s (R437). -/
def ethMbps (speed : Nat) : Nat := [1000, 2500, 5000, 10000, 25000].getD speed 1000

/-- A PAUSE frame of IEEE 802.3: its time in units of 512 bit times (R425). -/
def pauseTime (f : List Byte) : Option Nat :=
  if frMac f 0 = 0x0180C2000001 ∧ frHalf f 12 = 0x8808 ∧ frHalf f 14 = 1 then some (frHalf f 16) else none

/-- ETH_FRAME_RECEIVE: a frame from a tunnel or from a port. With PAUSE_EN a PAUSE frame stops the port for its time and goes no further (R425,
R427; log entry 170). -/
def execEthFrameReceive (src : EthFrom) (frame : List Byte) (s : State) : Host.Outcome State Fault Refusal :=
  match src with
  | .tun idx =>
    match s.tunAt idx.toNat with
    | none => .next s
    | some t =>
      match s.eth.maps.find? (·.group == t.p.farEp) with
      | some m => .next (if t.p.cls = 5 ∧ t.endA = false then s.bridgeUp t m frame else s)
      | none => .next s
  | .port p fcsOk =>
    let x := s.ep p.val
    if !x.up || !s.domOn 11 then .next s
    else if !fcsOk || decide (frame.length + 4 < 64) || decide (x.cfg.maxFrame < frame.length + 4) then
      .next (s.modEp p.val fun x => { x with rxErr := bump x.rxErr })
    else
      let s := s.modEp p.val fun x => { x with received := bump x.received }
      match (if x.cfg.pauseEn then pauseTime frame else none) with
      | some n => .next ((s.modEp p.val fun x => { x with pausedTo := s.clockNs + n * 512000 / ethMbps x.speed }).ethResume p)
      | none =>
      let tagged := frHalf frame 12 = 0x8100
      let vid := if tagged ∧ frHalf frame 14 % 4096 ≠ 0 then frHalf frame 14 % 4096 else x.cfg.pvid
      match s.eth.maps.find? fun m => m.port == p && m.vid == vid with
      | some m => .next (s.bridgeDown m (if tagged then frame.take 12 ++ frame.drop 16 else frame))
      | none =>
        .next ((s.modEp p.val fun x => { x with vlanDrop := bump x.vlanDrop }).raiseCounted 219 p.val 1 [(p.val, 2)] 16)

/-- ETH_LEARN_AGE: an address unused for 300 s (R427). -/
def execEthLearnAge (group : BitVec 24) (mac : BitVec 48) (s : State) : Host.Outcome State Fault Refusal :=
  .next (s.forget fun l => l.group == group.toNat && l.mac == mac.toNat)

/-! ### PTP -/

/-- clockClass 6 becomes 7 outside LOCKED (R429). -/
def State.degrade (s : State) (cls : Nat) : Nat := if s.time.st != .locked && cls == 6 then 7 else cls

/-- What a MASTER port announces: grandmasterIdentity, clockClass and stepsRemoved. At a hub other than the ROOT the spec gives no way to
learn the ROOT's source, so these are free values there, but for the hub's own part of stepsRemoved (R429; log entry 3). -/
def State.announced (s : State) : State × List Nat :=
  if s.isRoot then
    if s.time.cfg.source = 0 then (s, [(Config.clockIdentity s.sys.hubId).toNat, s.degrade 248, s.depthNow % 255 + 1])
    else match (s.ep s.time.cfg.srcPort).master with
      | some m => (s, [m.identity, s.degrade m.cls, m.steps + 1 + s.depthNow % 255 + 1])
      | none => (s, [(Config.clockIdentity s.sys.hubId).toNat, s.degrade 248, s.depthNow % 255 + 1])
  else
    let (v, s) := s.draw
    (s, [(v.extractLsb' 0 64).toNat, s.degrade (v.extractLsb' 64 8).toNat, (v.extractLsb' 72 16).toNat + s.depthNow + 1])

/-- PTP time in units of 2⁻¹⁶ ns, as correctionField counts them (R82). -/
def State.scaledNow (s : State) : Int := (s.time.ns * 65536 + s.time.sub * 65536 / 10000000000 : Nat)

/-- When an event message that is at the MAC now reached the port's medium: RX_LAT earlier (R82). -/
def State.rxTime (s : State) (p : Nat) : Int := s.scaledNow - (s.ep p).cfg.rxLat * 65536

/-- When an event message that leaves the MAC now reaches the port's medium: TX_LAT later (R82). -/
def State.txTime (s : State) (p : Nat) : Int := s.scaledNow + (s.ep p).cfg.txLat * 65536

/-- correctionField as 64 bits. -/
def corrField (c : Int) : Nat := (BitVec.ofInt 64 c).toNat

/-- Send a PTP message over the port's transport: 0 IEEE 802.3, 1 UDP/IPv4 with the checksum 0, 2 UDP/IPv6 with its two trailing bytes adjusted
(R82). Kinds are those of IEEE 1588: 0 Sync, 1 Delay_Req, 2 Pdelay_Req, 3 Pdelay_Resp, 9 Delay_Resp, 11 Announce. -/
def State.sendPtp (s : State) (p : Fin 4) (kind : Nat) (ws : List Nat) : State := s.send (.ptp p kind ((s.ep p.val).cfg.transport :: ws))

/-- PTP_SYNC_SEND: Announce and a one-step Sync: its departure time referred to the medium, whole ns in originTimestamp and the fraction in
correctionField; none while the time state is UNSET (R82, R428, R429). -/
def execPtpSyncSend (port : Fin 4) (s : State) : Host.Outcome State Fault Refusal :=
  let x := s.ep port.val
  if !x.up || x.cfg.ptpRole != 1 || s.time.st == .unset then .next s
  else
    let (s, ws) := s.announced
    let d := s.txTime port.val
    let s := (s.sendPtp port 11 ws).sendPtp port 0 [x.syncSeq, (d / 65536).toNat, corrField (d % 65536)]
    .next (s.modEp port.val fun x => { x with syncSeq := (x.syncSeq + 1) % 65536 })

/-- Ask for a delay measurement: Delay_Req, or Pdelay_Req under P2P. The spec does not say when a SLAVE port asks; the model asks after each
Sync (R82, R428; log entry 177). -/
def State.askDelay (s : State) (p : Fin 4) : State :=
  let seq := ((s.ep p.val).reqSeq + 1) % 65536
  let at_ := s.txTime p.val
  (s.modEp p.val fun x => { x with reqSeq := seq, reqAt := some at_ }).sendPtp p (if (s.ep p.val).cfg.p2p then 2 else 1) [seq]

/-- A Sync of the chosen master, received at `t2`, which left it at `t1` ns: the servo takes the offset, and a delay is asked for (R82, R428). -/
def State.takeSync (s : State) (p : Fin 4) (t2 : Int) (t1 : Nat) (corr : Int) : State :=
  let d := t2 - t1 * 65536 - corr
  let was := s.scaledNow
  let s := s.servo ((d - (s.ep p.val).pathDelay) / 65536) 1
  (s.modEp p.val fun x => { x with syncIn := none, syncDiff := d + (s.scaledNow - was) }).askDelay p

/-- A delay request is answered: the mean path delay (R82). -/
def State.setDelay (s : State) (p : Fin 4) (d : Int) : State := s.modEp p.val fun x => { x with reqAt := none, pdIn := none, pathDelay := d }

/-- What the port that feeds the servo takes of its master (R82, R428). -/
def State.slaveTakes (s : State) (p : Fin 4) (m : PtpMsg) : State :=
  let x := s.ep p.val
  let mine := fun (i : Nat) => x.master.map (·.identity) == some i
  match m with
  | .sync i seq two t1 corr =>
    if !mine i then s
    else if two then s.modEp p.val fun x => { x with syncIn := some (seq.toNat, i, s.rxTime p.val, corr) }
    else s.takeSync p (s.rxTime p.val) t1 corr
  | .followUp i seq t1 corr =>
    match x.syncIn with
    | some (q, j, t2, c) => if q = seq.toNat ∧ j = i then s.takeSync p t2 t1 (c + corr) else s
    | none => s
  | .delayResp seq t4 corr =>
    match x.reqAt with
    | some t3 => if !x.cfg.p2p && seq.toNat == x.reqSeq then s.setDelay p ((x.syncDiff + (t4 * 65536 - t3 - corr)) / 2) else s
    | none => s
  | .pdelayResp seq two t2 corr =>
    match x.reqAt with
    | some t1 =>
      if !(x.cfg.p2p && seq.toNat == x.reqSeq) then s
      else if two then s.modEp p.val fun y => { y with pdIn := some (seq.toNat, s.rxTime p.val - t1 - corr + t2 * 65536) }
      else s.setDelay p ((s.rxTime p.val - t1 - corr) / 2)
    | none => s
  | .pdelayFollowUp seq t3 corr =>
    match x.pdIn with
    | some (q, d) => if q = seq.toNat then s.setDelay p ((d - t3 * 65536 - corr) / 2) else s
    | none => s
  | _ => s

/-- What a MASTER port answers: Delay_Resp with the receive time, or a one-step Pdelay_Resp whose turnaround time is added to correctionField;
how long the hub takes to answer is a free value (R82, R428; log entry 3). -/
def State.masterAnswers (s : State) (p : Fin 4) (m : PtpMsg) : State :=
  let x := s.ep p.val
  match m with
  | .delayReq seq corr =>
    if x.cfg.p2p then s
    else
      let r := s.rxTime p.val
      s.sendPtp p 9 [seq.toNat, (r / 65536).toNat, corrField (corr - r % 65536)]
  | .pdelayReq seq corr =>
    if !x.cfg.p2p then s
    else
      let (v, s) := s.draw
      s.sendPtp p 3 [seq.toNat, 0, corrField (corr + (x.cfg.rxLat + x.cfg.txLat) * 65536 + (v.toNat : Int))]
  | _ => s

/-- PTP_MESSAGE_RECEIVE: an Announce joins the masters that a SLAVE port hears; the port that feeds the servo takes the Syncs of its master and
the answers to its own delay requests, one-step or two-step; a MASTER port answers Delay_Req, or Pdelay_Req under P2P (R82, R428). -/
def execPtpMessageReceive (port : Fin 4) (domain : Byte) (msg : PtpMsg) (s : State) : Host.Outcome State Fault Refusal :=
  let p := port.val
  let x := s.ep p
  if !x.up || x.cfg.ptpRole = 0 || domain.toNat != x.cfg.domain then .next s
  else if x.cfg.ptpRole = 1 then .next (s.masterAnswers port msg)
  else match msg with
  | .announce m =>
    let ms := m :: x.masters.filter (·.identity != m.identity)
    .next ((s.modEp p fun x => { x with masters := ms, master := bestMaster ms }).refreshPtp p)
  | m => .next (if s.feedsServo p then s.slaveTakes port m else s)

/-! ### Commands -/

/-- ETH_STATUS: the counters as they were before any clear (R437). -/
def execEthStatus (s : State) : Host.Outcome State Fault Refusal :=
  runCmd 0x5901 s fun r s =>
    let p := r.f 0 31 30
    let x := s.ep p
    let ports := (s.eth.maps.filter (·.port.val == p)).map (·.group)
    let ws := [pack [(b2n x.up, 1), (x.speed, 4), (x.cfg.ptpRole, 2), (x.ptp, 4)], wd x.rxErr, wd x.vlanDrop,
      wd (s.eth.learn.filter fun l => ports.contains l.group).length, wd x.sent, wd x.received]
    (if bitAt (r.w 0) 0 then s.modEp p fun x => { x with rxErr := 0, vlanDrop := 0, sent := 0, received := 0 } else s, okR ws)

/-- ETH_FLUSH (R427, R436). -/
def execEthFlush (s : State) : Host.Outcome State Fault Refusal :=
  runCmd 0x5910 s fun r s =>
    let g := r.f 0 23 0
    let gone : Learnt → Bool := fun l => g == 0 || l.group == g
    (s.forget gone, okR [wd (s.eth.learn.filter gone).length])

/-! ### Records -/

/-- Put an Ethernet port record: MODE, PAUSE_EN and MAX_FRAME retrain the link, the PTP fields act at once (R434). -/
def State.putEth (s : State) (p : Nat) (c : EthCfg) : State :=
  let x := s.ep p
  let retrain := x.cfg.mode != c.mode || x.cfg.pauseEn != c.pauseEn || x.cfg.maxFrame != c.maxFrame
  let s := s.modEp p fun x => { x with cfg := c }
  let s := if retrain && x.up then s.setEth p false x.speed 2 else s
  s.refreshPtp p

/-- The Ethernet port record: IEEE 802.1AS forces Layer 2, P2P and domain 0; a SLAVE role at a hub other than the ROOT becomes MASTER
(R428, R434). -/
def recEth (s : State) : RdM State := do
  let p ← rdR 0 31 30
  let mode ← rdE 0 29 27 (· ≤ 4) 0
  let as_ ← rdB 0 23
  let role ← rdF 0 26 25 fun v => if v = 3 then 0 else if v = 2 ∧ s.sys.role != .root then 1 else v
  let p2p ← rdBF 0 24 (· || as_)
  let transport ← rdF 0 22 21 fun v => if v = 3 ∨ as_ then 0 else v
  let untag ← rdB 0 20
  let pause ← rdB 0 19
  let domain ← rdF 0 15 8 fun v => if as_ then 0 else clampN 0 127 v
  let logSync ← rdS 0 7 0 (-7) 1
  let maxFrame ← rdC 1 31 16 1518 9018
  let pvid ← rdC 1 11 0 1 4094
  let tx ← rdR 2 31 16
  let rx ← rdR 2 15 0
  pure (s.putEth p { mode := mode, ptpRole := role, p2p := p2p, as := as_, transport := transport, untagPvid := untag, pauseEn := pause, domain := domain,
                     logSync := logSync, maxFrame := maxFrame, pvid := pvid, txLat := tx, rxLat := rx })

/-- A map is changed or removed: the tunnels of its group that are UP here close (R435). -/
def State.closeGroup (s : State) (group : Nat) : State := (s.groupTuns group).foldl (fun s i => s.beginClose i 0) s

/-- The VLAN map record: at most 64 maps, one port and VID for each group; with VALID 0 the map of its port and VID is removed (R426, R435). -/
def recVlan (s : State) : RdM State := do
  let p ← rdR 0 31 30
  let vid ← rdC 0 27 16 1 4094
  let tenant ← rdR 0 15 0
  let group ← rdR 1 23 0
  let held := s.eth.maps.find? fun m => m.port.val == p && m.vid == vid
  let full := held.isNone && decide (64 ≤ s.eth.maps.length)
  let taken := s.eth.maps.any fun m => m.group == group && !(m.port.val == p && m.vid == vid)
  let valid ← rdBF 0 29 fun v => v && decide (0x800000 ≤ group) && !full && !taken
  let m : VlanMap := { port := Fin.ofNat 4 p, vid := vid, tenant := tenant, group := group }
  let others := s.eth.maps.filter fun m => !(m.port.val == p && m.vid == vid)
  let s := match held with
    | some h => if valid && h == m then s else s.closeGroup h.group
    | none => s
  pure { s with eth.maps := if valid then others ++ [m] else others }

end Sys2Proof.Machine
end

