-- ==== Sys2Proof/Machine/VaultBase.lean ====
section
/-!
DEFINITION. The vault as others use it: slots and their tags (R469 to R471), measurements (R472), the keys it derives at start-up (R473),
zeroization (R476, R483, R484), and the security record (R487).
-/

namespace Sys2Proof.Machine

/-! ### Words -/

/-- Words of a bit vector, lowest word first. -/
def wordsOf {n : Nat} (v : BitVec n) (k : Nat) : List Word := (List.range k).map fun i => v.extractLsb' (32 * i) 32

/-- The bytes of a text. -/
def textBytes (t : String) : List Byte := t.toList.map fun c => BitVec.ofNat 8 c.toNat

/-- The bytes of words as they lie in memory (R5). -/
def memBytes (ws : List Word) : List Byte := ws.flatMap wordBytesLE

/-- The number that bytes spell, the first one most significant. -/
def bytesNum (xs : List Byte) : Nat := xs.foldl (fun n b => 256 * n + b.toNat) 0

/-- A word is drawn from the vault's random source. -/
def State.drawWord (s : State) : Word × State :=
  let (v, s) := s.draw
  (v.extractLsb' 0 32, s)

/-- Sixteen random words, a 64-byte key field. -/
def State.drawKeyField (s : State) : List Word × State :=
  let (a, s) := s.draw
  let (b, s) := s.draw
  (wordsOf a 12 ++ wordsOf b 4, s)

/-! ### Slots -/

/-- Change a key slot. -/
def State.modSlot (s : State) (n : Nat) (f : KeySlot → KeySlot) : State := { s with vault.slots := modAt s.vault.slots n f }

/-- A stored slot (R469). -/
def storedSlot (n : Nat) : Bool := decide (n < 48)

/-- A slot's tag fails: it is BAD, with EV241 and an error log entry of CLASS 9, and its user is affected (R471, R540). -/
def State.slotBad (s : State) (n : Nat) : State :=
  if (s.slot n).st != .valid then s
  else
    let s := (((s.modSlot n fun k => { k with st := .bad }).raiseOrHold 241 [(n, 7)]).logErr 9 n 4 241 0)
    if n = 48 then s.volKeysChanged 0 else if 8 ≤ n ∧ n < 24 then s.refreshVol (n - 8) 0 false else s

/-- Before every use the vault checks the slot's tag (R471). -/
def State.checkSlot (s : State) (n : Nat) : State := if (s.slot n).st == .valid && !(s.slot n).tagOk then s.slotBad n else s

/-! ### Measurements and derived keys -/

/-- Extend a measurement register (R472). -/
def State.extend (s : State) (i : Nat) (d : List Word) : State :=
  { s with vault.m := modAt s.vault.m i fun m => wordsLE (bytesBE (Config.sha384 (m ++ d)) 48) }

/-- Extend a register with a digest held as a number. -/
def State.extendDigest (s : State) (i d : Nat) : State := s.extend i (wordsOf (BitVec.ofNat 384 d) 12)

/-- The block that M6 is extended with (R472). -/
def State.measuredState (s : State) : List Word :=
  (pack [(0, 8), ((Config.jtagMode s.lifecycle.code).toNat, 8), (s.lcGen, 8), (s.lifecycle.code, 8)]) :: List.replicate 11 0

/-- Order of the group of NIST P-384 (R473; log entry 180). -/
def p384Order : Nat := 0xFFFFFFFFFFFFFFFFFFFFFFFFFFFFFFFFFFFFFFFFFFFFFFFFC7634D81F4372DDF581A0DB248B0A77AECEC196ACCC52973

/-- Bits that a derivation gives for a key of a KIND: 448 for a P-384 private key, which it reduces (R473; log entry 180). -/
def derivedBits (kind : Nat) : Nat := if kind = 4 then 448 else if kind = 1 then 256 else 384

/-- A derived key of a KIND: the output of the derivation, for a P-384 private key d = (c mod (n − 1)) + 1 (R473). -/
def derivedKey (kind : Nat) (root : List Word) (label : String) (ctx : List Byte) : List Word :=
  let c := Config.kdf root (textBytes label) ctx (derivedBits kind)
  if kind = 4 then wordsLE (numBytes (bytesNum (c.take 56) % (p384Order - 1) + 1) 48) else wordsLE (c.take (derivedBits kind / 8))

/-- LC_GEN as the one byte of a context (R473). -/
def State.lcByte (s : State) : Byte := BitVec.ofNat 8 s.lcGen

/-- A key that the vault derives for itself in a volatile slot (R473). -/
def State.deriveOwn (s : State) (n kind usage : Nat) (label : String) (ctx : List Byte) : State :=
  s.modSlot n fun _ => { st := .valid, kind := kind, usage := usage, origin := 1, lcGen := s.lcGen, created := s.now,
                         key := derivedKey kind s.vault.idRoot label ctx }

/-- Derive the slot protection key and the device identity key (R473). -/
def State.deriveBase (s : State) : State := (s.deriveOwn 48 1 0xC0 "WH-SLOT" [s.lcByte]).deriveOwn 49 4 0x20 "WH-DEVID" []

/-- Derive the attestation key from the measurements and issue its certificate (R468, R473, R480). -/
def State.deriveAttest (s : State) : State :=
  let ctx := (List.range 4).flatMap fun i => s.vault.m.getD i []
  let s := s.deriveOwn 50 4 0x20 "WH-ATTEST" (memBytes ctx ++ [s.lcByte])
  let (v, t) := s.draw
  { t with vault.attCert := { len := v.toNat % 2049, words := Config.freeWords s.free, hub := s.sys.hubId, parses := true, sigs := true, usage := true } }

/-- Load the slot store: the slots whose tags fail are BAD (R471). A LOCKED vault loads none (R483). -/
def State.loadStore (s : State) (bad : List Nat) : State :=
  if s.vault.locked then s
  else
    let s := (List.range 48).foldl (fun s n => if bad.contains n then s.slotBad n else s.checkSlot n) s
    { s with vault.ready := true }.volKeysChanged 0

/-! ### Zeroization -/

/-- Zeroize every volatile slot (R476, R483). -/
def State.clearVolatile (s : State) : State :=
  { s with vault.slots := Vector.ofFn fun i => if storedSlot i.val then s.vault.slots.getD i.val {} else {} }

/-- Erase the slot store and the deny list, which is a stored item of the vault (R476, R478, R483). -/
def State.eraseStore (s : State) : State :=
  let s := { s with
    vault.slots := Vector.ofFn fun i => if storedSlot i.val then {} else s.vault.slots.getD i.val {}
    vault.deny := [] }
  ({ s with stor.vol := s.stor.vol.map fun (v : Volume) => { v with keyed := false } }).volKeysChanged 3

/-- Every tunnel is CLOSED and its keys are zeroized, with EV082 (R187, R484). -/
def State.closeForKeys (s : State) : State := s.closeAll 4

/-! ### Record -/

/-- The security record: what strengthens the watch takes effect when applied, the rest at the next cold reset (R487). -/
def recSec (s : State) : RdM State := do
  let en ← rdR 0 31 28
  let pol ← rdR 0 27 24
  let erase ← rdR 0 23 20
  let filter ← rdC 0 15 8 1 32
  let c := s.vault.cfg
  pure { s with vault.cfg :=
    if s.up then { en := c.en ||| en, pol := c.pol, erase := c.erase ||| erase, filter := Nat.min c.filter filter }
    else { en := en, pol := pol, erase := erase, filter := filter } }

end Sys2Proof.Machine
end

