-- ==== Sys2Proof/Machine/UpdBase.lean ====
section
/-!
DEFINITION. Update sessions, image slots and the boot control block as start-up and resets use them (R491, R494 to R496, R503, R505), and
the update record (R508).
-/

namespace Sys2Proof.Machine

/-- End the update session: its blocks are discarded, with EV248 state 0 (R496, R511). -/
def State.endSession (s : State) (cause : Nat) : State :=
  if s.upd.session == .none then s
  else
    { s with upd.session := .none, upd.blocks := [], upd.total := 0, upd.package := [], upd.leaseWait := false }.raise 248 [(0, 4), (cause, 8)]

/-- The copy of the boot control block that counts: the good one with the higher sequence, 0 or 1; none when neither is good (R494). -/
def State.bootCopy (s : State) : Option (Fin 2) :=
  let a := s.upd.boot[0]
  let b := s.upd.boot[1]
  match a.crcOk, b.crcOk with
  | true, true => some (if a.seq < b.seq then 1 else 0)
  | true, false => some 0
  | false, true => some 1
  | false, false => none

/-- The boot control block in force; a default one when neither copy is good. -/
def State.boot (s : State) : BootBlock :=
  match s.bootCopy with
  | some i => s.upd.boot[i.val]
  | none => {}

/-- Write the boot control block: the other copy, with the next sequence number (R494). -/
def State.putBoot (s : State) (f : BootBlock → BootBlock) : State :=
  let i : Fin 2 := match s.bootCopy with | some 0 => 1 | _ => 0
  let b := f s.boot
  { s with upd.boot := updAt s.upd.boot i fun _ => { b with seq := (s.boot.seq + 1) % 2 ^ 32, crcOk := true } }

/-- The 16 words of a copy of the boot control block, CRC-32 over words 0 to 14 among them; flash holds their bytes most significant first
(R516). The mode of the session on trial has no bit in it (log entry 181). -/
def BootBlock.words (b : BootBlock) : List Word :=
  let ws := [0x57484243, wd b.seq,
    pack [(b.active, 1), (b2n b.trial, 1), (b2n b.aFailed, 1), (b2n b.bFailed, 1), (b.tries, 4), (b.copyStep, 4), (b.copyFails, 4), (b.healthS, 16)],
    pack [(0, 16), (b.gen, 16)]] ++ List.replicate 11 0
  ws ++ [crc32Link (ws.flatMap fun w => bytesBE w 4)]

/-- What boot flash holds, with offset and size in bytes; nothing above 64 MiB is used (R515). -/
def bootFlashMap : List (String × Nat × Nat) :=
  [("boot control block, copy 0", 0x00000000, 64 * 1024), ("boot control block, copy 1", 0x00010000, 64 * 1024),
   ("device certificate", 0x00020000, 128 * 1024), ("slot store and deny list", 0x00040000, 512 * 1024),
   ("provisioned record store", 0x000C0000, 256 * 1024), ("persistent logs", 0x00100000, 15 * mib),
   ("image slot A", 0x01000000, 16 * mib), ("image slot B", 0x02000000, 16 * mib), ("golden region", 0x03000000, 16 * mib)]

/-- What the top 64 MiB of LPDDR5X hold, with offset from their base and size in bytes (R517). -/
def hubAreaMap : List (String × Nat × Nat) :=
  [("image copies", 0x0000000, 32 * mib), ("configuration store", 0x2000000, 8 * mib), ("error log", 0x2800000, mib),
   ("staging and working memory", 0x2900000, 23 * mib)]

/-- A component of a set, by ID and SUB. -/
def compOf (cs : List Component) (id sub : Nat) : Option Component := cs.find? fun c => c.id == id && c.sub == sub

/-- Put a component in a set, in place of one with the same ID and SUB. -/
def putComp (c : Component) (cs : List Component) : List Component := cs.filter (fun x => !(x.id == c.id && x.sub == c.sub)) ++ [c]

/-- Components of a slot. -/
def State.slotComps (s : State) (i : Nat) : List Component := s.upd.slots.getD i []

/-- The order in which components are applied: PHY images by SUB, Cairn, Main, Stage loader, golden, configuration (R491). -/
def compOrder (cs : List Component) : List Component :=
  let phy := (List.range 256).flatMap fun i => cs.filter fun c => c.id == 4 && c.sub == i
  phy ++ ([3, 2, 1, 5, 6].flatMap fun k => cs.filter (·.id == k))

/-- The update record; in trial HEALTH_S applies from the next start (R507, R508). -/
def recUpd (s : State) : RdM State := do
  let mode ← rdB 0 31
  let auto ← rdB 0 30
  let peer ← rdB 0 29
  let health ← rdC 0 15 0 30 3600
  let s := { s with upd.cfg := { secondSlot := mode, autoConfirm := auto, peerUpd := peer, healthS := health } }
  pure (if s.up && s.boot.trial && s.boot.healthS != health then s.putBoot fun b => { b with healthS := health } else s)

end Sys2Proof.Machine
end

