-- ==== Sys2Proof/Machine/Schedule.lean ====
section
/-!
DEFINITION. The rows of the phase base that touch other chapters: an entry of the scheduler fires (R89 to R93, R531), a Guyline Sync
arrives (R85 to R87), TIME.RESTEP steps (R81, R94, R109); and one idle FCLK cycle (R64, R78).
-/

namespace Sys2Proof.Machine

/-! ### One idle cycle -/

/-- One FCLK cycle of 0.8 ns: PTP time runs on at its rate, and the phase counter at the arc rate in force, timed by the disciplined
oscillator (R64, R77, R78; log entry 2). -/
def idleCycle (s : State) : State :=
  let dt := (8 * (1000000000 + s.time.rate)).toNat
  let psub := s.time.sub + dt
  let fsub := s.phase.sub + 262144 * s.arcRate * dt / 1000000000
  { s with
    time.clock := s.time.clock + dt
    time.ns := s.time.ns + psub / 10000000000
    time.sub := psub % 10000000000
    phase.count := (s.phase.count + fsub / 10000000000000) % 2 ^ 50
    phase.sub := fsub % 10000000000000 }

/-! ### Firing -/

/-- Domain that an action needs: DOM_LIGHT for metering, Lantern and gos, DOM_DISP for a frame start, DOM_FABRIC for an epoch
(R512, R531). -/
def actionDomain (action : Nat) : Option Nat :=
  if action = 1 ∨ action = 2 ∨ action = 3 then some 13 else if action = 4 then some 12 else if action = 5 then some 4 else none

/-- Re-arm the metering cadence after the local phase count `c` (R88, R456). -/
def State.rearmMeter (s : State) (c : Nat) : State :=
  if s.pwr.meterCfg.align then
    s.keepEntry { idx := meterEntry, base := 1, action := 1, target := 0xFF, inst := nextSample s.pwr.meterCfg.perCycle c, left := none }
  else s.dropEntry meterEntry

/-- The effect of an entry's action (R89). -/
def State.fireAction (s : State) (e : SchedEntry) (samples : List (Nat × Int)) : State :=
  if e.action = 0 then { s with sched.captures := (e.idx, s.now) :: s.sched.captures.filter fun c => c.1 != e.idx }
  else if e.action = 1 then
    if e.idx = meterEntry then
      let s := s.takeMeter
      (if s.pwr.meterCfg.align then s.sampleAll samples else s).rearmMeter e.inst
    else s.snapshot (if e.target = 0xFF then List.range 16 else if e.target < 16 then [e.target] else []) samples
  else if e.action = 2 then s.lanternCycle e.target
  else if e.action = 3 then s.startGo (schedHandle e.idx e.gen)
  else if e.action = 4 then s.frameStart e.target
  else if e.action = 5 then s.epochFires e.target
  else if e.action = 6 then
    { s with trig := modAt s.trig (e.target % 8) fun p => if p.output then { p with level := e.target.testBit 3, driven := true } else p }
  else s

/-- The entry after a firing: the next instant, counted exactly, or none after its last firing (R92). -/
def SchedEntry.advance (e : SchedEntry) : Option SchedEntry :=
  if e.period = 0 || e.left = some 1 then none
  else some { e with
    inst := if e.base = 2 then e.inst + e.period else (e.inst + e.period) % 2 ^ 50
    left := e.left.map (· - 1) }

/-- An entry of the shared pool or an epoch's entry has fired: it goes on to its next instant or frees itself (R92). The kept entries of
heads and of the metering cadence are re-armed by their own work. -/
def State.advanceEntry (s : State) (e : SchedEntry) : State :=
  if 968 ≤ e.idx then s
  else { s with sched.entries := s.sched.entries.filterMap fun x => if x.idx = e.idx then x.advance else some x }

/-- An entry whose firing is skipped goes on to its next instant all the same, the kept ones by their cadence (R531). -/
def State.skipEntry (s : State) (e : SchedEntry) : State :=
  if e.idx = meterEntry then s.rearmMeter e.inst
  else if 968 ≤ e.idx then s.rearmFrames
  else s.advanceEntry e

/-- EV104 to the mailbox that armed the entry, with the firing stamp (R90). -/
def State.notifyFired (s : State) (e : SchedEntry) : State :=
  match e.armer with
  | some src => if e.notify then s.raise 104 [(schedHandle e.idx e.gen, 16)] (.only src) else s
  | none => s

/-- A firing of an entry armed through PHASE.ARM that falls while PHASE.CANCEL runs is remembered for its response (R93, R105). -/
def State.noteFired (s : State) (e : SchedEntry) : State :=
  if (s.runningOp 0x1011).isSome && decide (e.idx < 960) && !e.byScene then { s with sched.lastFired := schedHandle e.idx e.gen :: s.sched.lastFired } else s

/-- SCHEDULER_FIRE: the instant of entry `idx` arrives. Its action is carried out and EV104 raised with NOTIFY; in Bivouac an entry whose
action needs a domain that is off is skipped and counted (R90, R92, R93, R531). -/
def execSchedulerFire (idx : Nat) (samples : List (Nat × Int)) (s : State) : Host.Outcome State Fault Refusal :=
  match s.sched.entries.find? fun e => e.idx == idx with
  | none => .next s
  | some e =>
    let off := match actionDomain e.action with | some d => !s.domOn d | none => false
    if s.sys.stage == .bivouac && off then .next ({ s with sys.schedSkip := bump s.sys.schedSkip }.skipEntry e)
    else .next (((((s.noteFired e).advanceEntry e).fireAction e samples)).notifyFired e)

/-! ### Steps of time and phase -/

/-- Mailboxes that armed entries of the shared pool, each once. -/
def State.armers (s : State) : List Source :=
  (s.sched.entries.filter (·.idx < 960)).foldl (fun acc e => match e.armer with
    | some a => if acc.contains a then acc else acc ++ [a]
    | none => acc) []

/-- Kept entries armed anew at the next instants of their cadence (R88, R94). -/
def State.rearmKept (s : State) : State := (s.rearmFrames.rearmMeter s.localCount).realignLantern

/-- A re-step (cause 1) or a change of generation (cause 2) invalidates entries: EV105 once in each mailbox that armed one, the entries of the
shared pool removed, pending epochs and gos discarded, the open energy window ended, count windows aligned anew, and the kept entries
re-armed (R94, R100, R250, R286, R459). -/
def State.invalidate (s : State) (cause : Nat) : State :=
  let count := fun (a : Source) => (s.sched.entries.filter fun e => decide (e.idx < 960) && e.armer == some a).length
  let s := s.armers.foldl (fun (t : State) a => t.raise 105 [(count a, 16), (cause, 8)] (.only a)) s
  let s := ({ s with sched.entries := s.sched.entries.filter fun e => decide (960 ≤ e.idx) }).invalidateEpochs.invalidateGos
  let s := s.closeEnergy true
  s.realignCounts.rearmKept

/-- Phase count and fraction that a Sync gives on arrival: REF and ARC_FRAC plus the delay in arcs (R85). -/
def syncPhase (ref : Stamp) (arcFrac : BitVec 16) (delay : Int) (freq : Nat) : Nat × Nat :=
  let fr : Int := (stampCount ref * 10000000000000 + arcFrac.toNat * 10000000000000 / 65536 : Nat) + delay * (262144 * freq * 10 : Nat)
  ((fr / 10000000000000 % (2 ^ 50 : Nat)).toNat, (fr % 10000000000000).toNat)

/-- Link delay with ASYM of the port (R85). -/
def State.syncDelay (s : State) (port : Fin 4) : Int := s.phase.linkDelay + s.time.cfg.asym[port.val]

/-- State that a Sync's flags give (R65). -/
def syncState (flags : BitVec 8) : PhState :=
  if flags.getLsbD 6 then .synth else if flags.getLsbD 7 then .holdover else .locked

/-- Step time and phase to the values a Sync carries, and take its GEN (R87). -/
def State.syncStep (s : State) (gen : BitVec 16) (ph : Nat × Nat) (ns sub : Nat) : State :=
  { s with phase.count := ph.1, phase.sub := ph.2, phase.corr := 0, phase.gen := gen.toNat, time.ns := ns, time.sub := sub }

/-- Error of the phase counter against the value a Sync gives, CYCLE and fraction among it, in units of 10⁻¹³ arc (R10, R85). -/
def State.phaseError (s : State) (want : Nat × Nat) : Int :=
  countDiff want.1 s.phase.count * 10000000000000 + ((want.2 : Int) - s.phase.sub)

/-- Follow phase by rate alone: the correction would remove the error before the next eighth, and lies within 1 % (R64, R85, R86; log entry
155). -/
def State.followPhase (s : State) (want : Nat × Nat) : State :=
  { s with phase.corr := onePercent s.phase.freq (s.phaseError want * s.phase.freq / (32768 * 10000000000000)) }

/-- Guyline is restored after 4 Syncs and one delay exchange: EV100 with flag 0 (R86). -/
def State.restoreGuyline (s : State) : State :=
  let s := { s with phase.guySyncs := Nat.min 4 (s.phase.guySyncs + 1) }
  if 4 ≤ s.phase.guySyncs && s.phase.guyDelayDone then
    { s with phase.guyLost := false, phase.lossReported := false, time.st := if s.time.st == TState.holdover then
        (if s.time.wide then TState.diverged else TState.locked) else s.time.st }.raise
      100 [(0, 1), (s.upPort, 2)]
  else s

/-- A valid Sync on the upstream link. The first one locks phase and time by a step; one with another GEN steps both, raises EV103 and
invalidates entries; others set the rate of both, once Guyline is not lost (R65, R74, R78, R80, R85 to R87). -/
def State.guySync (s : State) (port : Fin 4) (flags : BitVec 8) (gen : BitVec 16) (ref : Stamp) (arcFrac : BitVec 16) (origin : Nat)
    (originFrac : BitVec 16) (freq : Nat) : State :=
  if !s.guylineUp port then s
  else
    let delay := s.syncDelay port
    let ph := syncPhase ref arcFrac delay freq
    let ns := ((origin : Int) + delay).toNat
    let sub := originFrac.toNat * 10000000000 / 65536
    let s := { s with phase.t1 := origin, phase.t2 := s.time.ns, phase.refHoldover := flags.getLsbD 7, phase.refSynth := flags.getLsbD 6,
                      phase.lastDepth := if s.joined then s.topo.depth else s.phase.lastDepth }
    if s.phase.st == .acquire then
      let s := { s with phase.freq := freq, phase.guyEverLocked := true, phase.guyLost := false, phase.lossReported := false }
      (((s.syncStep gen ph ns sub).timeFirstLock 2).setPhase (syncState flags)).synthOffset.startWindows.rearmKept
    else
      let new := gen.toNat != s.phase.gen
      let s := if new then (({ s with phase.freq := freq }.syncStep gen ph ns sub).judgeOffset 0).raise 103 [(gen.toNat, 16)] |>.invalidate 2 else s
      let s := if s.phase.guyLost then s.restoreGuyline else s
      if s.phase.guyLost then s
      else
        let s := if new then s
          else ({ s with phase.freq := freq }.servo (((s.ptpT : Int) - ((ns * 10000000000 + sub : Nat) : Int)) / 10000000000) 2).followPhase ph
        (s.setPhase (syncState flags)).synthOffset

/-- GUYLINE_SYNC (R85 to R87). -/
def execGuylineSync (port : Fin 4) (flags : BitVec 8) (gen : BitVec 16) (_depth : BitVec 8) (ref : Stamp) (arcFrac : BitVec 16)
    (origin : OriginTime) (freq : Word) (s : State) : Host.Outcome State Fault Refusal :=
  .next (s.guySync port flags gen ref arcFrac origin.ns origin.frac freq.toNat)

/-- EV103 with the generation in force, and the entries invalidated (R81, R94). -/
def State.restepped (s : State) : State :=
  ((s.judgeOffset 0).raise 103 [(s.phase.gen, 16)]).invalidate 1

/-- The next reference generation, kept in the boot control block (R81, R87). -/
def State.nextGenRoot (s : State) : State :=
  let g := (s.phase.gen + 1) % 65536
  { s with phase.gen := g }.putBoot fun b => { b with gen := g }

/-- TIME_RESTEP: the ROOT steps to its source, or to the time given when it has none, and advances GEN; another hub steps to the Guyline
time (R81, R109). -/
def execTimeRestep (s : State) : Host.Outcome State Fault Refusal :=
  runCmd 0x1110 s fun r s =>
    if s.isRoot then
      if s.time.cfg.source = 0 && r.len != 8 then (s, failR 0x30)
      else
        let s := if s.time.cfg.source = 0 then { s with time.ns := u64At r.data 0, time.sub := 0 } else s.stepTime (-s.time.offset)
        let s := s.nextGenRoot
        let s := if s.phase.st == .synth then
          { s with phase.count := s.synthAlign.1, phase.sub := s.synthAlign.2, phase.corr := 0 } else s
        (s.restepped, okR)
    else if s.phase.st == .acquire then (s, failR 0x30)
    else ((s.stepTime (-s.time.offset)).restepped, okR)

end Sys2Proof.Machine
end

