-- ==== Sys2Proof/Machine/Rings.lean ====
section
/-!
DEFINITION. Extra paths (R12, R14), bundles (R146, R147) and ring protection (R150 to R154) of 04_trunk_link.md.
-/

namespace Sys2Proof.Machine

/-! ### Ring ports -/

/-- The hub heads ring `w`: ring 0 everywhere, and at the ROOT, a member of no ring, ring 1 too (R14; log entry 24). -/
def State.headsRing (s : State) (w : Nat) : Bool := w == 0 || s.isRoot

/-- Change ring `w`. -/
def State.modRing (s : State) (w : Nat) (f : Ring → Ring) : State := { s with ring := modAt s.ring w f }

/-- Index of the ring link behind a port: link 0 leaves the head's PORT_A and link N returns to its PORT_B; a member at position k has
link k − 1 toward PORT_A and link k behind it (R150). -/
def State.linkIndex (s : State) (w p : Nat) : Nat :=
  let r := s.rg w
  if s.headsRing w then (if r.portA.val = p then 0 else r.members) else if r.portA.val = p then r.pos - 1 else r.pos

/-- The other ring port of a ring. -/
def State.otherPort (s : State) (w p : Nat) : Nat := if (s.rg w).portA.val = p then (s.rg w).portB.val else (s.rg w).portA.val

/-- A member's other port with RING set. -/
def State.mateOf (s : State) (p : Nat) : Nat :=
  ((List.range 4).find? fun q => q != p && s.ringOf q == some 1).getD p

/-- The blocked link now: the failed link, and the second of SEGMENTED, or else the link the head has chosen (R13, R153). -/
def Ring.barredLink (r : Ring) (k : Nat) : Bool := if r.failed = 255 then r.blocked == k else r.failed == k || r.failed2 == some k

/-- Hold blocked the ring ports that end a blocked link, and release the others (R13, R150, R153). -/
def State.refreshRing (s : State) (w : Nat) : State :=
  let r := s.rg w
  [r.portA.val, r.portB.val].foldl (fun s p =>
    if s.ringOf p = some w then s.modTp p fun t => { t with ringBlocked := r.barredLink (s.linkIndex w p) } else s) s

/-- The ROOT has learned of a change of a ring it heads: it stages the values of the queues whose entries steer in that ring (R240). Their
paths are those of the whole ring (R172; log entry 27). -/
def State.ringEpoch (s : State) (w : Nat) : State :=
  let inRing := fun (l : Leg) => l.steer &&
    (if l.hub = s.sys.hubId then l.which == w else ((s.hubRec l.hub).bind (·.ring)) == some (s.sys.hubId, (s.rg w).portA.val))
  let sels := (s.tun.rootTuns.map fun t => (t.legs.filter inRing).map fun l => (l.hub, legSelector t.number t.p.cls l)).flatten.eraseDups
  if !s.headsTree || sels.isEmpty then s else (s.nameEpoch (sels.map fun (h, sel) => (h, s.shapeOf h sel))).1

/-- Move a ring to a state, with EV039; entries to PROTECTING are counted, and the ROOT stages anew (R161, R162, R240). -/
def State.setRing (s : State) (w : Nat) (st : RState) : State :=
  let code := fun (x : RState) => match x with | .idle => 0 | .protecting => 1 | .pending => 2 | .segmented => 3 | .incomplete => 4
  let r := s.rg w
  let s := s.modRing w fun r => { r with st := st, switches := if st == .protecting then bump r.switches else r.switches }
  (s.raise 39 [(w, 1), (code r.st, 4), (code st, 4), (r.blocked, 8), (r.failed, 8)]).ringEpoch w

/-- Queue a link control message on an ACTIVE port (R125). -/
def State.sendLc (s : State) (p : Nat) (m : LinkMsg) : State :=
  if (s.tp p).st == .active then s.modTp p fun t => { t with lcq := t.lcq ++ [m] } else s

/-- A notice has been seen, by its HEAD and NSEQ; the newest 16 are remembered. The hub's next notice takes the NSEQ after it (R153; log
entry 168). -/
def State.noteSeen (s : State) (w head nseq : Nat) : State := s.modRing w fun r => { r with nseq := nseq, seen := ((head, nseq) :: r.seen).take 16 }

/-- Hub ID of the head of a ring (R161). -/
def State.headOf (s : State) (w : Nat) : Nat := if s.headsRing w then s.sys.hubId else (s.rg w).head

/-- Originate a ring notice on the given ports with the next NSEQ (R128, R153). -/
def State.notice (s : State) (w msg link : Nat) (ports : List Nat) (hold : Nat := 0) (inst : Stamp := 0) : State :=
  let n := ((s.rg w).nseq + 1) % 256
  let head := s.headOf w
  let s := s.noteSeen w head n
  ports.foldl (fun s p => s.sendLc p { msg := msg, head := head, link := link, nseq := n, hold := hold, inst := inst }) s

/-! ### Ring failures -/

/-- A ring link has failed (R153). -/
def State.ringFail (s : State) (w link : Nat) : State :=
  let r := s.rg w
  match r.st with
  | .protecting =>
    if r.failed = link then s
    else ((s.modRing w fun r => { r with failed2 := some link, returned := [] }).setRing w .segmented).discardSegmented w link |>.refreshRing w
  | .segmented => (s.modRing w fun r => { r with returned := r.returned.filter (· != link) }).refreshRing w
  | _ =>
    let s := (s.modRing w fun r => { r with failed := link, failed2 := none, returned := [], wtrRun := false, wtrLeft := 0, revertAt := none }).setRing w .protecting
    (if r.blocked = link then s else s.steer w).refreshRing w

/-- A failed ring link has returned to ACTIVE (R153). -/
def State.ringClear (s : State) (w link : Nat) : State :=
  let r := s.rg w
  let pend := fun (s : State) =>
    (s.modRing w fun r => { r with failed2 := none, returned := [], wtrRun := s.headsRing w, wtrLeft := if s.headsRing w then r.wtr else 0 }).setRing w .pending |>.refreshRing w
  match r.st with
  | .protecting => if r.failed = link then pend s else s
  | .segmented =>
    let back := if r.returned.contains link then r.returned else r.returned ++ [link]
    if back.contains r.failed && (match r.failed2 with | some f => back.contains f | none => true) then pend s
    else s.modRing w fun r => { r with returned := back }
  | _ => s

/-! ### Extra paths and bundles -/

/-- An ACTIVE link to the same neighbour as a lower-numbered one, not in a bundle or a ring (R12, R147). -/
def State.doubledPath (s : State) (p : Nat) : Bool :=
  (List.range p).any fun q => (s.tp q).st == .active && (s.ringOf q).isNone && !((s.tp p).bundled && (s.tp q).bundled && pairPort p == q) &&
    ((s.tp q).nb.map (·.hub)) == ((s.tp p).nb.map (·.hub)) && !(s.tp p).mismatch

/-- A neighbour that is in the tree no deeper than this hub, on a link other than the upstream: a second path to the ROOT (R12). -/
def State.secondPath (s : State) (p : Fin 4) : Bool :=
  match s.trunk[p.val].nb, s.topo.upstream with
  | some n, some u => !s.isUpstream p && decide (n.depth < 255) && decide (n.depth ≤ s.nbDepth u + 1)
  | _, _ => false

/-- A second downstream link of a ZONE hub (R14). -/
def State.zoneExtra (s : State) (p : Fin 4) : Bool :=
  s.sys.role == .zone && s.topo.upstream.isSome && !s.isUpstream p && (List.finRange 4).any fun q =>
    decide (q.val < p.val) && s.trunk[q.val].st == .active && !s.isUpstream q && (s.trunk[q.val].nb.any fun n => n.depth == 255 || !s.secondPath q) &&
      !(s.trunk[q.val].bundled && s.trunk[p.val].bundled && pairPort p.val == q.val)

/-- The port is an extra path (R12, R14). -/
def State.isExtra (s : State) (p : Fin 4) : Bool :=
  s.trunk[p.val].st == .active && (s.ringOf p.val).isNone && (s.doubledPath p.val || s.secondPath p || s.zoneExtra p)

/-- Hold extra paths blocked, with EV011 when one is found (R12, R14). -/
def State.refreshExtra (s : State) : State :=
  let new := Vector.ofFn fun (p : Fin 4) => s.isExtra p
  let found := (List.finRange 4).any fun p => new[p.val] && !s.topo.extra[p.val]
  let s := { s with topo.extra := new }
  if found then s.raise 11 [(portMask fun p => new[p.val], 4)] else s

/-- Choose the upstream and hold extra paths afresh (R12, R18, R23). -/
def State.settle (s : State) : State := s.retree.refreshExtra.retree

/-- Both ports of a pair are ACTIVE with BUNDLE set (R146). -/
def State.pairReady (s : State) (p : Nat) : Bool :=
  (s.tp p).st == .active && (s.tp (p + 1)).st == .active && (s.tp p).cfg.bundle && (s.tp (p + 1)).cfg.bundle

/-- Form the bundle of a pair, hold a mismatched member blocked, or run the two ports as two links when the neighbour no longer offers a bundle
(R146, R147; log entry 169). -/
def State.checkBundle (s : State) (p : Nat) : State :=
  match (s.tp p).nb, (s.tp (p + 1)).nb with
  | some a, some b =>
    if !s.pairReady p then s
    else
      let part := fun (s : State) => [p, p + 1].foldl (fun s q => s.modTp q fun t => { t with bundled := false, alone := false }) s
      if a.hub = b.hub then
        let s := s.modTp (p + 1) fun t => { t with mismatch := false }
        if !(a.bundleCap && b.bundleCap) then part s
        else if (s.tp p).bundled then s
        else (([p, p + 1].foldl (fun s q => s.modTp q fun t => { t with bundled := true, alone := false }) s).raise 38 [(3 * 2 ^ p, 4), (1, 2)])
      else if (s.tp (p + 1)).mismatch then s
      else ((part s).modTp (p + 1) fun t => { t with mismatch := true }).raise 38 [(3 * 2 ^ p, 4), (2, 2)]
  | _, _ => s

/-- Check both pairs. -/
def State.checkBundles (s : State) : State := (s.checkBundle 0).checkBundle 2

/-! ### Ring rows -/

/-- The cells held for HOLD go to their primary egress in order (R153). -/
def State.releaseHold (s : State) (w : Nat) : State :=
  let cells := (s.rg w).heldCells
  let s := s.modRing w fun r => { r with holding := false, heldCells := [] }
  cells.foldl (fun s c => (s.cntF 2 1).enqueue c.q c) s

/-- A ring ceases: its ports are no longer held blocked for it, and the cells it holds go on (R155, R156). -/
def State.endRing (s : State) (w : Nat) : State :=
  let r := s.rg w
  if r.on then
    ([r.portA.val, r.portB.val].foldl (fun s p => s.modTp p fun t => { t with ringBlocked := false }) (s.releaseHold w)).modRing w fun r => { r with on := false }
  else s

/-- RING_SURVEY_SEND: the head of a ring sends RING_SURVEY on PORT_A (R150). -/
def execRingSurveySend (which : Fin 2) (s : State) : Host.Outcome State Fault Refusal :=
  let r := s.rg which.val
  .next (if s.headsRing which.val && r.on then s.sendLc r.portA.val { msg := 1, head := s.sys.hubId, link := r.blocked, pos := 0, failed := r.failed } else s)

/-- A survey returns to the head: it learns N, and while the ring is whole it chooses the blocked link (R150, R151). -/
def State.surveyHome (s : State) (w pos : Nat) : State :=
  let s := s.modRing w fun r => { r with members := pos }
  let s := if (s.rg w).st == .incomplete then s.setRing w .idle else s
  let s := if (s.rg w).st == .idle then s.modRing w fun r => { r with blocked := ringMiddle pos } else s
  s.refreshRing w

/-- A survey reaches a member: it takes its position, records LINK and FAILED, and passes the survey on. With no failed link the ring is IDLE,
with one it is PROTECTING unless the member knows more (R150; log entry 59). -/
def State.surveyPass (s : State) (port : Fin 4) (head pos link failed : Nat) : State :=
  let mate := s.mateOf port.val
  let mateF : Fin 4 := if h : mate < 4 then ⟨mate, h⟩ else port
  let was := s.rg 1
  let s := s.modRing 1 fun r => { r with
    on := true, portA := port, portB := mateF, pos := pos + 1, head := head, blocked := link, failed := failed }
  let s := if failed = 255 then (if was.st == .idle then s else (s.modRing 1 fun r => { r with failed2 := none, returned := [] }).setRing 1 .idle)
    else (if was.st == .idle then s.setRing 1 .protecting else s).steer 1
  let s := s.refreshRing 1
  if mateF = port then s
  else s.sendLc mateF.val { msg := 1, head := head, link := link, pos := pos + 1, failed := failed }

/-- RING_SURVEY_RECEIVE (R150). -/
def State.survey (s : State) (port : Fin 4) (head pos link failed : Nat) : State :=
  match s.ringOf port.val with
  | none => s
  | some w =>
    if !s.headsRing w then (s.surveyPass port head pos link failed).settle
    else if head == s.sys.hubId && (s.rg w).portB == port then (s.surveyHome w pos).settle
    else s

/-- RING_SURVEY_RECEIVE: a member takes its position and passes the survey on, or the head learns N (R150). -/
def execRingSurveyReceive (port : Fin 4) (head : BitVec 16) (pos link failed : Byte) (s : State) : Host.Outcome State Fault Refusal :=
  .next (s.survey port head.toNat pos.toNat link.toNat failed.toNat)

/-- RING_SURVEY_TIMEOUT: no survey returns to the head for 100 ms: INCOMPLETE, with the last blocked link kept (R153). -/
def execRingSurveyTimeout (which : Fin 2) (s : State) : Host.Outcome State Fault Refusal :=
  let w := which.val
  .next (if s.headsRing w && (s.rg w).on && (s.rg w).st == .idle then s.setRing w .incomplete else s)

/-- Take a notice that has not been seen, and pass it on out of the other ring port (R153). -/
def State.takeNotice (s : State) (port : Fin 4) (head nseq : Nat) (m : LinkMsg) (f : Nat → State → State) : State :=
  match s.ringOf port.val with
  | none => s
  | some w =>
    let r := s.rg w
    if !r.on || s.headOf w != head || r.seen.contains (head, nseq) then s
    else (((f w (s.noteSeen w head nseq)).sendLc (s.otherPort w port.val) m).settle)

/-- A RING_FAIL notice. -/
def State.ringFailIn (s : State) (port : Fin 4) (head link nseq : Nat) : State :=
  s.takeNotice port head nseq { msg := 2, head := head, link := link, nseq := nseq } fun w s => s.ringFail w link

/-- RING_FAIL_RECEIVE (R153). -/
def execRingFailReceive (port : Fin 4) (head : BitVec 16) (link nseq : Byte) (s : State) : Host.Outcome State Fault Refusal :=
  .next (s.ringFailIn port head.toNat link.toNat nseq.toNat)

/-- A RING_CLEAR notice. -/
def State.ringClearIn (s : State) (port : Fin 4) (head link nseq : Nat) : State :=
  s.takeNotice port head nseq { msg := 3, head := head, link := link, nseq := nseq } fun w s => s.ringClear w link

/-- RING_CLEAR_RECEIVE (R153). -/
def execRingClearReceive (port : Fin 4) (head : BitVec 16) (link nseq : Byte) (s : State) : Host.Outcome State Fault Refusal :=
  .next (s.ringClearIn port head.toNat link.toNat nseq.toNat)

/-- Arm the revert at AT. -/
def State.armRevert (s : State) (w link hold inst : Nat) : State :=
  s.modRing w fun r => { r with nextBlocked := link, recovered := r.failed, hold := hold, revertAt := some inst }

/-- The head sends RING_REVERT: AT is the first eighth boundary at least 8 eighths ahead, HOLD = (N + 1) × 600 ns + 2 µs (R153). -/
def State.sendRevert (s : State) (w : Nat) : State :=
  let r := s.rg w
  let c := (s.phase.count + 8 * 32768 + 32767) / 32768 * 32768 % 2 ^ 50
  let at' := mkStamp s.holdoverFlag false false s.synthFlag c
  let link := ringMiddle r.members
  let hold := (r.members + 1) * 6 + 20
  let s := s.modRing w fun r => { r with wtrRun := false, wtrLeft := 0 }
  (s.armRevert w link hold c).notice w 4 link [r.portA.val, r.portB.val] hold at'

/-- RING_WTR_EXPIRY (R153). -/
def execRingWtrExpiry (which : Fin 2) (s : State) : Host.Outcome State Fault Refusal :=
  let w := which.val
  .next (if s.headsRing w && (s.rg w).on && (s.rg w).st == .pending && (s.rg w).wtrRun then s.sendRevert w else s)

/-- A RING_REVERT notice. -/
def State.ringRevertIn (s : State) (port : Fin 4) (head link nseq hold : Nat) (inst : Stamp) : State :=
  s.takeNotice port head nseq { msg := 4, head := head, link := link, nseq := nseq, hold := hold, inst := inst }
    fun w s => s.armRevert w link hold (stampCount inst)

/-- RING_REVERT_RECEIVE (R153). -/
def execRingRevertReceive (port : Fin 4) (head : BitVec 16) (link nseq : Byte) (hold : BitVec 16) (inst : Stamp) (s : State) :
    Host.Outcome State Fault Refusal := .next (s.ringRevertIn port head.toNat link.toNat nseq.toNat hold.toNat inst)

/-- RING_REVERT_INSTANT: AT arrives. The new blocked link is blocked, the recovered link released, FAILED cleared, and HOLD begins
(R153). -/
def execRingRevertInstant (which : Fin 2) (s : State) : Host.Outcome State Fault Refusal :=
  let w := which.val
  match (s.rg w).revertAt with
  | none => .next s
  | some _ =>
    let s := s.modRing w fun r => { r with blocked := r.nextBlocked, failed := 255, failed2 := none, revertAt := none, wtrRun := false, wtrLeft := 0, holding := true }
    .next (((s.setRing w .idle).refreshRing w).settle)

/-- RING_REVERT_HOLD_END: the cells held for HOLD go to their primary egress in order (R153). -/
def execRingRevertHoldEnd (which : Fin 2) (s : State) : Host.Outcome State Fault Refusal := .next (s.releaseHold which.val)

end Sys2Proof.Machine
end

