-- ==== Sys2Proof/Machine/Trunk.lean ====
section
/-!
DEFINITION. Trunk ports (04_trunk_link.md): bring-up (R113 to R117), link loss and bundles (R141, R146 to R149), lanes (R142 to R145),
credit and replay timers (R130 to R137), the LINK commands (R158 to R161) and the link and ring records (R155, R156).
-/

namespace Sys2Proof.Machine

/-! ### States -/

/-- Codes of port states (R113). -/
def PortState.code : PortState → Nat
  | .disabled => 0
  | .search => 1
  | .hello => 2
  | .active => 3

/-- Move a port to a state, with EV032 (R113, R162). -/
def State.setPort (s : State) (p : Nat) (st : PortState) (cause : Nat) : State :=
  let old := (s.tp p).st
  (s.modTp p fun t => { t with st := st }).raise 32 [(p, 2), (old.code, 4), (st.code, 4), (cause, 8)]

/-- Start a port afresh in both directions (R116). -/
def TrunkPort.fresh (t : TrunkPort) : TrunkPort :=
  { t with
    lseqNext := 0, expected := 0, ackValid := false, ackDue := false, replayAsked := 0, replayWait := false, discarding := false
    sent := Vector.replicate 6 0, limitRx := Vector.replicate 6 0, limitTx := Vector.replicate 6 0, withhold := Vector.replicate 6 0
    stalled := Vector.replicate 6 false, creditDue := false, reqDue := none, lcq := [], guyq := [], replay := [], replaying := []
    dropPending := Vector.replicate 2 none, addPending := Vector.replicate 2 false }

/-- Lanes that LANES of the link record allows and that are not retired (R155, R546). -/
def TrunkPort.allowed (t : TrunkPort) (l : Fin 2) : Bool :=
  (t.cfg.lanes == 0 || (t.cfg.lanes == 1 && l == 0) || (t.cfg.lanes == 2 && l == 1)) && !t.retired[l.val]

/-- Unit of a lane as DIAG.TEST names it (R555). -/
def laneUnit (p : Nat) (l : Fin 2) : Nat := 2 * p + l.val

/-- Enter SEARCH: lanes are to be aligned again, and a lane test that is due begins (R113, R546). -/
def State.enterSearch (s : State) (p rate cause : Nat) : State :=
  let due := (s.tp p).testDue
  let s := (s.modTp p fun t => { t with
    rate := rate, stay := t.stay && t.rate == rate, locked := false, lane := Vector.replicate 2 false, aligned := Vector.replicate 2 false, nb := none, sentSeen := false, upS := 0, ackValid := false
    testDue := Vector.replicate 2 false, dropped := Vector.replicate 2 false }).setPort p .search cause
  [0, 1].foldl (fun s (l : Fin 2) => if due[l.val] then s.startTest { kind := 2, unit := laneUnit p l } else s) s

/-- Enter HELLO on the lanes that have aligned, with EV033 (R113, R116, R162). -/
def State.enterHello (s : State) (p : Nat) : State :=
  let s := (s.modTp p fun t => { t.fresh with lane := t.aligned, nb := none, sentSeen := false, verRaised := false, stay := true }).setPort p .hello 0
  let t := s.tp p
  s.raise 33 [(p, 2), (t.rate, 2), (b2n t.lane[1] * 2 + b2n t.lane[0], 2)]

/-! ### Leaving ACTIVE -/

/-- Cells that a port holds to be sent again, in its egress window and in its VL queues, oldest first, and the hub without them. -/
def State.takeCells (s : State) (p : Nat) : List QCell × State :=
  let keys := (List.range 6).map fun v => vlQueue p (v + 1)
  let cells := (s.tp p).resend ++ (s.eg p).window ++ (keys.map fun k => (s.queueOf k).cells).flatten
  let s := (s.modEgress p fun x => { x with window := [] }).modTp p fun t => { t with resend := [] }
  let s := { s with fwd.cut := s.fwd.cut.filter fun (c : CutThrough) => c.egress != p }
  (cells, keys.foldl (fun s k => (s.putQueue { s.queueOf k with cells := [] }).rest k) s)

/-- Cells of tunnel queues that leave by this port alone: its own, and those of a member of its bundle that has dropped before it (R149). -/
def State.takeTunCells (s : State) (p : Nat) : List QCell × State :=
  let keys := (s.fwd.queues.filter fun q => q.key.tunQ && (q.key.egress == p || ((s.tp p).alone && q.key.egress == pairPort p))).map (·.key)
  ((keys.map fun k => (s.queueOf k).cells).flatten, keys.foldl (fun s k => (s.putQueue { s.queueOf k with cells := [] }).rest k) s)

/-- The cells of a port that has left ACTIVE are discarded and counted, with those of its replay buffer (R116). -/
def State.loseCells (s : State) (p : Nat) : State :=
  let r := (s.tp p).replay.length
  let (a, s) := s.takeCells p
  let (b, s) := s.takeTunCells p
  let s := (a ++ b).foldl (fun s c => s.leave c) (s.cntL p 17 (r + a.length + b.length))
  (s.modTp p fun t => { t with replay := [], replaying := [] }).endBarriers

/-- A bundle member leaves ACTIVE: the cells of its replay buffer and queues go as new cells on the other member, ahead of what that has not
sent. They need no further decision and no further crossing (R149). -/
def State.resendOnOther (s : State) (p o : Nat) : State :=
  let copies := (s.tp p).replay.map fun (c : Cell) => ({ cell := c, ingress := 14, pool := 3, bgen := s.fwd.bgen, crossed := true } : QCell)
  let (mine, s) := s.takeCells p
  let s := s.modTp p fun t => { t with replay := [], replaying := [], bundled := false, alone := false }
  let again := mine.map fun (c : QCell) => { c with crossed := true, cut := false, cell := s.stampEpoch o c.cell }
  (s.modTp o fun t => { t with bundled := false, alone := true, resend := t.resend ++ copies ++ again }).raise 38 [(2 ^ p + 2 ^ o, 4), (0, 2)]

/-- A ring port leaves ACTIVE: the hub blocks it, steers, and sends RING_FAIL out of its other ring port (R153). -/
def State.ringPortDown (s : State) (p : Nat) : State :=
  match s.ringOf p with
  | none => s
  | some w =>
    if !(s.rg w).on then s
    else
      let link := s.linkIndex w p
      (s.ringFail w link).notice w 2 link [s.otherPort w p]

/-- A port leaves ACTIVE with a cause, for SEARCH at a rate or for DISABLED. A ring steers before the port's cells are discarded, so the cells
queued for the failed link turn back (R113, R116, R141, R149, R152, R153). -/
def State.leaveActive (s : State) (p cause : Nat) (rate : Option Nat) (lseq : Nat := 0) : State :=
  let t := s.tp p
  let s := (s.cntL p 16 1).ringPortDown p
  let s := if t.bundled then s.resendOnOther p (pairPort p) else s.loseCells p
  let s := s.modTp p fun t => { t with alone := false, bundled := false, mismatch := false }
  let s := if p % 2 = 0 then s.modTp (p + 1) fun t => { t with mismatch := false } else s
  let s := match rate with
    | some rate => s.enterSearch p rate cause
    | none => (s.modTp p fun t => { t with lane := Vector.replicate 2 false, aligned := Vector.replicate 2 false, nb := none, upS := 0, sentSeen := false }).setPort p .disabled cause
  let s := if cause = 2 then s.logErr 3 p 4 32 0 else if cause = 3 then s.logErr 3 p 4 36 lseq else s
  ({ s with topo.below := modAt s.topo.below p fun _ => false }.settle).reportRate p

/-- The link is lost: SEARCH at the current rate (R141). -/
def State.linkLost (s : State) (p cause : Nat) (lseq : Nat := 0) : State :=
  if (s.tp p).st == .active then s.leaveActive p cause (some (s.tp p).rate) lseq else s

/-! ### Entering ACTIVE -/

/-- A port enters ACTIVE: it starts afresh, a ring port blocked, and bundles, rings and the tree follow (R113, R116, R146, R150, R153). -/
def State.enterActive (s : State) (p : Nat) : State :=
  let ring := s.ringOf p
  let lcq := (s.tp p).lcq
  let s := (s.modTp p fun t => { t.fresh with lcq := lcq, ringBlocked := ring.isSome, upS := 0, creditDue := true, limitTx := t.cfg.credits }).setPort p .active 0
  let s := match ring with
    | some w =>
      let link := s.linkIndex w p
      if (s.rg w).on && (s.rg w).barredLink link && (s.rg w).failed != 255 then (s.ringClear w link).notice w 3 link [s.otherPort w p] else s
    | none => s
  ((s.checkBundles).settle).reportRate p

/-- The port has sent and received SEEN, with a version within 1 of its own (R117). -/
def State.tryActive (s : State) (p : Nat) : State :=
  let t := s.tp p
  match t.nb with
  | some n => if t.st == .hello && t.sentSeen && n.seen && versionNear n.ver s.version then s.enterActive p else s
  | none => s

/-- LINK_RX_ALIGN: the receivers lock and cells delimit on these lanes; with every lane that LANES allows the port enters HELLO (R113). -/
def execLinkRxAlign (port : Fin 4) (lane0 lane1 : Bool) (s : State) : Host.Outcome State Fault Refusal :=
  let p := port.val
  if (s.tp p).st != .search then .next s
  else
    let ok := fun (l : Fin 2) (b : Bool) => b && (s.tp p).allowed l && !s.testRuns 2 (laneUnit p l)
    let s := s.modTp p fun t => { t with aligned := #v[t.aligned[0] || ok 0 lane0, t.aligned[1] || ok 1 lane1], stay := true, locked := true }
    let t := s.tp p
    let need := fun (l : Fin 2) => t.allowed l
    let all := (!need 0 || t.aligned[0]) && (!need 1 || t.aligned[1]) && (need 0 || need 1)
    .next (if all then s.enterHello p else s)

/-- LINK_ATTEMPT_EXPIRY: `t_attempt` ends. One aligned lane goes on alone; a receiver that has locked stays for one more attempt; else the
next rate is tried (R114, R115). -/
def execLinkAttemptExpiry (port : Fin 4) (s : State) : Host.Outcome State Fault Refusal :=
  let p := port.val
  let t := s.tp p
  if t.st != .search then .next s
  else if t.aligned[0] || t.aligned[1] then .next (s.enterHello p)
  else if t.stay then .next (s.modTp p fun t => { t with stay := false })
  else .next (s.enterSearch p (if 2 ≤ t.rate then t.cfg.maxRate else t.rate + 1) 4)

/-- LINK_HELLO_SEND: a HELLO in HELLO or ACTIVE, with SEEN once a valid HELLO has come (R117, R128). -/
def execLinkHelloSend (port : Fin 4) (s : State) : Host.Outcome State Fault Refusal :=
  let p := port.val
  let t := s.tp p
  if t.st != .hello && t.st != .active then .next s
  else
    let flags := b2n t.nb.isSome * 128
    let s := s.modTp p fun t => { t with lcq := t.lcq ++ [{ msg := 0, flags := flags }], sentSeen := t.sentSeen || t.nb.isSome }
    .next (s.tryActive p)

/-- A HELLO arrives (R117, R128). -/
def State.hello (s : State) (p : Nat) (n : Neighbour) : State :=
  let t := s.tp p
  if t.st != .hello && t.st != .active then s
  else
    let s := s.modTp p fun t => { t with nb := some n }
    let s := if h : p < 4 then s.noteBelow ⟨p, h⟩ ((t.nb.map (·.depth)).getD 255) else s
    if t.st == .hello then
      if versionNear n.ver s.version then s.tryActive p
      else if t.verRaised then s
      else (s.modTp p fun t => { t with verRaised := true }).raise 35 [(p, 2), (n.ver, 8)]
    else (s.checkBundles).settle

/-- The neighbour that a HELLO describes (R128). -/
def neighbourOf (flags : Byte) (sender depth ver nport role : Nat) : Neighbour :=
  { hub := sender, depth := depth, ver := ver, port := nport, role := roleOf role, bundleCap := flags.getLsbD 5, ring := flags.getLsbD 4, seen := flags.getLsbD 7 }

/-- LINK_HELLO_RECEIVE: SEEN and version are checked; the port may enter ACTIVE, or raise EV035 (R117). -/
def execLinkHelloReceive (port : Fin 4) (flags : Byte) (sender : BitVec 16) (depth ver nport : Byte) (role : BitVec 2) (s : State) :
    Host.Outcome State Fault Refusal := .next (s.hello port.val (neighbourOf flags sender.toNat depth.toNat ver.toNat nport.toNat role.toNat))

/-- LINK_HELLO_TIMEOUT: no HELLO for `t_hello`; SEARCH at the same rate (R113). -/
def execLinkHelloTimeout (port : Fin 4) (s : State) : Host.Outcome State Fault Refusal :=
  let t := s.tp port.val
  .next (if t.st == .hello then s.enterSearch port.val t.rate 5 else s)

/-- KEEPALIVE_TIMEOUT: no cell with a good or inverted CRC for `t_keepalive` (R141). -/
def execKeepaliveTimeout (port : Fin 4) (s : State) : Host.Outcome State Fault Refusal := .next (s.linkLost port.val 2)

/-! ### Credits and replay -/

/-- CREDIT_CELL_DUE: `t_credit` has passed, or a LIMIT has changed (R130). -/
def execCreditCellDue (port : Fin 4) (s : State) : Host.Outcome State Fault Refusal :=
  .next (if (s.tp port.val).st == .active then s.modTp port.val fun t => { t with creditDue := true } else s)

/-- A cell of this VL waits at an egress. -/
def State.vlWaits (s : State) (p vl : Nat) : Bool :=
  (s.eg p).window.any (fun c => c.cell.vl.toNat == vl) || s.fwd.queues.any fun q => s.serves q.key p && q.cells.any fun c => c.cell.vl.toNat == vl

/-- CREDIT_STALL_TIMEOUT: a cell has waited `t_stall` for credit: EV037 with flag 1 (R131). -/
def execCreditStallTimeout (port : Fin 4) (vl : BitVec 3) (s : State) : Host.Outcome State Fault Refusal :=
  let p := port.val
  let v := vl.toNat
  let t := s.tp p
  .next (if t.st == .active && decide (1 ≤ v) && decide (v ≤ 6) && !t.credit v && s.vlWaits p v && !(t.stalled.getD (vlIdx v) true) then
    (s.modTp p fun t => { t with stalled := modAt t.stalled (vlIdx v) fun _ => true }).raise 37 [(p, 2), (v, 3), (1, 1)]
  else s)

/-- Request replay from EXPECTED, unless a request for it waits for its answer (R133, R134). -/
def State.askReplay (s : State) (p : Nat) : State :=
  s.modTp p fun t =>
    if t.replayWait then { t with discarding := true }
    else { t with discarding := true, replayWait := true, replayAsked := 1, reqDue := some t.expected }

/-- A replay request arrives (R136). -/
def State.replayAsk (s : State) (p lseq : Nat) : State :=
  let s := s.cntL p 9 1
  s.modTp p fun t =>
    let again := t.replay.dropWhile fun (c : Cell) => c.lseq.toNat != lseq
    if again.isEmpty then t else { t with replaying := again }

/-- REPLAY_REQUEST_RECEIVE (R136). -/
def execReplayRequestReceive (port : Fin 4) (lseq : BitVec 16) (s : State) : Host.Outcome State Fault Refusal :=
  .next (if (s.tp port.val).st == .active then s.replayAsk port.val lseq.toNat else s)

/-- REPLAY_REQUEST_WAIT_EXPIRY: a further request, or after the fourth the link drops with cause 3 and EV036 (R134). -/
def execReplayRequestWaitExpiry (port : Fin 4) (s : State) : Host.Outcome State Fault Refusal :=
  let p := port.val
  let t := s.tp p
  if t.st != .active || !t.replayWait then .next s
  else if 4 ≤ t.replayAsked then .next ((s.raise 36 [(p, 2), (t.expected, 16)]).linkLost p 3 t.expected)
  else .next (s.modTp p fun t => { t with replayAsked := t.replayAsked + 1, reqDue := some t.expected })

/-- REPLAY_TIMEOUT: the oldest unacknowledged cell has waited `t_replay_timeout` (R137). -/
def execReplayTimeout (port : Fin 4) (s : State) : Host.Outcome State Fault Refusal :=
  .next (if (s.tp port.val).st == .active then s.modTp port.val fun t => { t with replaying := t.replay } else s)

/-! ### Lanes -/

/-- Both lanes of an ACTIVE port are in use. -/
def TrunkPort.twoLanes (t : TrunkPort) : Bool := t.st == .active && t.lane[0] && t.lane[1]

/-- Begin to drop a lane: LANE_DROP goes to the neighbour (R143). -/
def State.dropLane (s : State) (p : Nat) (l : Fin 2) (cause : Nat) : State :=
  if (s.tp p).twoLanes && ((s.tp p).dropPending[l.val]).isNone then
    s.modTp p fun t => { t with dropPending := updAt t.dropPending l fun _ => some cause, lcq := t.lcq ++ [{ msg := 5, pos := l.val }] }
  else s

/-- A lane is no longer used; the rate of the link has changed (R143, R172). -/
def State.laneOff (s : State) (p : Nat) (l : Fin 2) : State := (s.modTp p fun t => { t with lane := updAt t.lane l fun _ => false }).reportRate p

/-- LANE_LOCK_LOSS: one lane of two is dropped; with every lane lost for 1 µs the link is lost with cause 1 (R141, R142). -/
def execLaneLockLoss (port : Fin 4) (lane : Option (Fin 2)) (s : State) : Host.Outcome State Fault Refusal :=
  match lane with
  | some l => .next (s.dropLane port.val l 1)
  | none => .next (s.linkLost port.val 1)

/-- A LANE_DROP arrives: answered with ECHO, or the echo of this hub's own (R143). The hub that drops the lane raises EV034. -/
def State.laneDrop (s : State) (p : Nat) (l : Fin 2) (echo : Bool) : State :=
  let t := s.tp p
  if t.st != .active then s
  else if echo then
    match t.dropPending[l.val] with
    | none => s
    | some cause =>
      let s := s.modTp p fun t => { t with dropPending := updAt t.dropPending l fun _ => none }
      let s := (s.laneOff p l).raise 34 [(p, 2), (l.val, 1), (1, 1), (cause, 8)]
      if cause = 0 then s.modTp p fun t => { t with dropped := updAt t.dropped l fun _ => true }
      else if cause = 2 then s.startTest { kind := 2, unit := laneUnit p l }
      else s
  else if t.twoLanes then (s.modTp p fun t => { t with lcq := t.lcq ++ [{ msg := 5, flags := 64, pos := l.val }] }).laneOff p l
  else s

/-- LANE_DROP_MESSAGE (R143). -/
def execLaneDropMessage (port : Fin 4) (lane : Fin 2) (echo : Bool) (s : State) : Host.Outcome State Fault Refusal :=
  .next (s.laneDrop port.val lane echo)

/-- A lane that is not in use may run SEARCH on its own: allowed, not dropped by command, not retired and not under test (R144). -/
def State.laneMayReturn (s : State) (p : Nat) (l : Fin 2) : Bool :=
  let t := s.tp p
  t.st == .active && !t.lane[l.val] && t.allowed l && !t.dropped[l.val] && !s.testRuns 2 (laneUnit p l)

/-- A lane rejoins: EV034 with flag 0 (R144). -/
def State.laneOn (s : State) (p : Nat) (l : Fin 2) : State :=
  ((s.modTp p fun t => { t with lane := updAt t.lane l fun _ => true, addPending := updAt t.addPending l fun _ => false }).raise
    34 [(p, 2), (l.val, 1), (0, 1), (0, 8)]).reportRate p

/-- LANE_SEARCH_ALIGN: a dropped lane has aligned and LANE_ADD is sent (R144). -/
def execLaneSearchAlign (port : Fin 4) (lane : Fin 2) (s : State) : Host.Outcome State Fault Refusal :=
  .next (if s.laneMayReturn port.val lane then
    s.modTp port.val fun t => { t with addPending := updAt t.addPending lane fun _ => true, lcq := t.lcq ++ [{ msg := 6, pos := lane.val }] }
  else s)

/-- A LANE_ADD arrives: answered with ECHO, or the echo of this hub's own (R144). -/
def State.laneAdd (s : State) (p : Nat) (l : Fin 2) (echo : Bool) : State :=
  if echo then (if (s.tp p).addPending[l.val] && s.laneMayReturn p l then s.laneOn p l else s)
  else if s.laneMayReturn p l then (s.modTp p fun t => { t with lcq := t.lcq ++ [{ msg := 6, flags := 64, pos := l.val }] }).laneOn p l
  else s

/-- LANE_ADD_MESSAGE (R144). -/
def execLaneAddMessage (port : Fin 4) (lane : Fin 2) (echo : Bool) (s : State) : Host.Outcome State Fault Refusal :=
  .next (s.laneAdd port.val lane echo)

/-- Retire a lane: its repair table entry, EV034 with cause 3, and its end in traffic (R545 step 5, R546, R552). -/
def State.retireLane (s : State) (p : Nat) (l : Fin 2) : State :=
  let u := laneUnit p l
  let r : Repair := { kind := 2, unit := u, spare := none }
  let s := { s with diag.repairs := if s.diag.repairs.any fun x => x.kind == 2 && x.unit == u then s.diag.repairs else s.diag.repairs ++ [r] }
  let s := s.modTp p fun t => { t with retired := updAt t.retired l fun _ => true, lane := updAt t.lane l fun _ => false, aligned := updAt t.aligned l fun _ => false, dropPending := updAt t.dropPending l fun _ => none }
  (s.raise 34 [(p, 2), (l.val, 1), (1, 1), (3, 8)]).reportRate p

/-- Bursts of a lane within the last 10 minutes, this one among them (R546). -/
def State.noteBurst (s : State) (p : Nat) (l : Fin 2) : State × Nat :=
  let u := laneUnit p l
  let recent := (u, s.sys.aonS) :: s.diag.bursts.filter fun (x : Nat × Nat) => decide ((s.sys.aonS + 2 ^ 32 - x.2) % 2 ^ 32 ≤ 600)
  ({ s with diag.bursts := recent }, (recent.filter fun (x : Nat × Nat) => x.1 == u).length)

/-- EV040: more than 16 uncorrectable codewords on a lane within 1 ms. A lane of two is dropped and tested, the third burst in 10 minutes
retires it, and the burst of a lone lane has its test at the next entry to SEARCH (R145, R545, R546). -/
def State.laneBurst (s : State) (p : Nat) (l : Fin 2) (n : Nat) : State :=
  let s := (s.raise 40 [(p, 2), (l.val, 1), (Nat.min n 65535, 16)]).logErr 2 (laneUnit p l) 4 40 n
  let (s, bursts) := s.noteBurst p l
  let otherTested := s.testRuns 2 (laneUnit p (1 - l))
  if (s.tp p).twoLanes && !otherTested then
    if 3 ≤ bursts then (s.dropLane p l 3).retireLane p l else s.dropLane p l 2
  else s.modTp p fun t => { t with testDue := updAt t.testDue l fun _ => true }

/-- Uncorrectable codewords on a lane (R145). -/
def State.badCodewords (s : State) (p : Nat) (l : Fin 2) (n : Nat) : State :=
  if n = 0 then s
  else
    let s := s.modTp p fun t => { t with errBurst := modAt t.errBurst l.val (· + n) }
    let t := s.tp p
    if 16 < t.errBurst[l.val] && !t.burstHeld[l.val] then
      (s.modTp p fun t => { t with burstHeld := updAt t.burstHeld l fun _ => true }).laneBurst p l t.errBurst[l.val]
    else s

/-! ### Commands -/

/-- Word 0 of LINK.STATUS (R160). -/
def State.linkWord0 (s : State) (p : Fin 4) : Word :=
  let t := s.trunk[p.val]
  let shown := t.st == .hello || t.st == .active
  pack [(t.st.code, 4), (t.rate, 2), (b2n t.lane[1] * 2 + b2n t.lane[0], 2), (b2n (s.portBlocked p), 1), (b2n t.bundled, 1),
    (b2n t.cfg.ring, 1), (0, 5), (if shown then (t.nb.map (·.hub)).getD 0 else 0, 16)]

/-- The words of LINK.STATUS (R160). -/
def State.linkWords (s : State) (p : Fin 4) : List Word :=
  let t := s.trunk[p.val]
  let n := t.nb.getD { depth := 0 }
  [s.linkWord0 p, pack [(n.ver, 8), (n.depth, 8), (s.version, 8), (n.port, 8)], pack [(t.replay.length, 16)], wd (if t.st == .active then t.upS else 0)]

/-- Port named in word 0 [31:30] (R158). -/
def portOf (r : Waiting) : Fin 4 := ⟨r.f 0 31 30 % 4, Nat.mod_lt _ (by decide)⟩

/-- LINK_STATUS (R160). -/
def execLinkStatus (s : State) : Host.Outcome State Fault Refusal := runRead 0x2001 s fun r s => okR (s.linkWords (portOf r))

/-- LINK_COUNTERS: as before any clear (R157, R158). -/
def execLinkCounters (s : State) : Host.Outcome State Fault Refusal :=
  runCmd 0x2002 s fun r s =>
    let p := portOf r
    let ws := s.trunk[p.val].c.toList.map wd
    (if bitAt (r.w 0) 0 then s.modTp p.val fun t => { t with c := Vector.replicate 18 0 } else s, okR ws)

/-- Carry out an ACTION of LINK.CONTROL (R159). -/
def State.linkAction (s : State) (p action : Nat) : State :=
  let t := s.tp p
  match action with
  | 1 =>
    if t.st == .disabled then s
    else if t.st == .active then (s.leaveActive p 0 none).modTp p fun t => { t with cmdDisabled := true }
    else (s.setPort p .disabled 0).modTp p fun t => { t with cmdDisabled := true, lane := Vector.replicate 2 false, aligned := Vector.replicate 2 false, nb := none }
  | 2 =>
    if t.st == .disabled && !(s.sys.faults.getD (5 + p) {}).retry then
      let s := s.modTp p fun t => { t with cmdDisabled := false, cfg.enable := true }
      (if s.domOn domFabric then s.enterSearch p t.cfg.maxRate 0 else s).sharedCheck
    else s
  | 3 =>
    if t.st == .disabled then s
    else if t.st == .active then s.leaveActive p 0 (some t.cfg.maxRate)
    else s.enterSearch p t.cfg.maxRate 0
  | 4 => s.dropLane p 0 0
  | 5 => s.dropLane p 1 0
  | 6 => s.modTp p fun t => { t with dropped := Vector.replicate 2 false }
  | _ => s

/-- LINK_CONTROL: answers with LINK.STATUS word 0 after the action (R158, R159). -/
def execLinkControl (s : State) : Host.Outcome State Fault Refusal :=
  runCmd 0x2010 s fun r s =>
    let a := r.f 0 3 0
    let s := s.linkAction (portOf r).val (if a ≤ 6 then a else 0)
    (s, okC (decide (6 < a)) [s.linkWord0 (portOf r)])

/-- The words of LINK.RING (R161). -/
def State.ringWords (s : State) (w : Nat) : List Word :=
  let r := s.rg w
  if !r.on then [pack [(15, 4), (0, 20), (255, 8)], 0, 0]
  else
    let code := match r.st with | .idle => 0 | .protecting => 1 | .pending => 2 | .segmented => 3 | .incomplete => 4
    [pack [(code, 4), (r.members, 6), (if s.headsRing w then 0 else r.pos, 6), (r.blocked, 8), (r.failed, 8)],
     pack [(s.headOf w, 16), (if r.wtrRun then r.wtrLeft else 0, 16)], wd r.switches]

/-- LINK_RING: reports ring state, or makes the head revert early (R161). -/
def execLinkRing (s : State) : Host.Outcome State Fault Refusal :=
  runCmd 0x2020 s fun r s =>
    let w := r.f 0 29 29
    let a := r.f 0 3 0
    let s := if a = 1 && s.headsRing w && (s.rg w).on && (s.rg w).st == .pending && (s.rg w).revertAt.isNone then s.sendRevert w else s
    (s, okC (decide (1 < a)) (s.ringWords w))

/-! ### Records -/

/-- Credits applied to VL1 to VL6 in order: at least 16, at most 4,096, and within 8,192 in all with 16 left for each later VL (R155). -/
def rdCredits : List (Nat × Nat × Nat) → Nat → RdM (List Nat)
  | [], _ => pure []
  | (w, hi, lo) :: rest, used => do
    let v ← rdC w hi lo 16 (Nat.min 4096 (8192 - used - 16 * rest.length))
    let vs ← rdCredits rest (used + v)
    pure (v :: vs)

/-- Change the credits of a receiver: a rise goes to LIMIT at once, a fall withholds later advances (R132). -/
def TrunkPort.newCredits (t : TrunkPort) (new : Vector Nat 6) : TrunkPort :=
  if t.st != .active then { t with cfg.credits := new }
  else
    { t with
      cfg.credits := new
      limitTx := t.limitTx.mapIdx fun i x => (x + (new.getD i 0 - t.cfg.credits.getD i 0)) % 65536
      withhold := t.withhold.mapIdx fun i x => x + (t.cfg.credits.getD i 0 - new.getD i 0)
      creditDue := true }

/-- Put the port into the state that its record asks for: DISABLED, or SEARCH at MAX_RATE; a port whose domain waits after a supply fault
stays DISABLED (R113, R155, R514). -/
def State.restartPort (s : State) (p : Nat) : State :=
  let t := s.tp p
  if !t.cfg.enable || t.cmdDisabled || (s.sys.faults.getD (5 + p) {}).retry then
    if t.st == .active then s.leaveActive p 0 none else if t.st == .disabled then s
    else (s.setPort p .disabled 0).modTp p fun t => { t with lane := Vector.replicate 2 false, aligned := Vector.replicate 2 false, nb := none }
  else if t.st == .active then s.leaveActive p 0 (some t.cfg.maxRate)
  else s.enterSearch p t.cfg.maxRate 0

/-- The link record (R155). -/
def recLink (s : State) : RdM State := do
  let p ← rdR 0 31 30
  let en ← rdB 0 29
  let rate ← rdE 0 28 27 (· != 3) 0
  let lanes ← rdE 0 26 25 (· != 3) 0
  let ring ← rdB 0 24
  let bundle ← rdBF 0 23 fun b => b && !ring
  let cs ← rdCredits [(1, 31, 16), (1, 15, 0), (2, 31, 16), (2, 15, 0), (3, 31, 16), (3, 15, 0)] 0
  let old := s.tp p
  let new : Vector Nat 6 := Vector.ofFn fun i => cs.getD i.val 16
  let s := s.modTp p (·.newCredits new)
  let s := s.modTp p fun t => { t with
    cfg := { t.cfg with enable := en, maxRate := rate, lanes := lanes, ring := ring, bundle := bundle }
    cmdDisabled := t.cmdDisabled && !(en && !old.cfg.enable) }
  let s := [0, 1].foldl (fun s w => if !ring && !s.headsRing w && (s.rg w).lists p then s.endRing w else s) s
  let changed := old.cfg.enable != en || old.cfg.maxRate != rate || old.cfg.lanes != lanes || old.cfg.ring != ring || old.cfg.bundle != bundle
  pure ((if changed && s.domOn domFabric then s.restartPort p else s).sharedCheck)

/-- A ring that this hub heads ceases. -/
def State.dropRing (s : State) (w : Nat) : State := if s.headsRing w then s.endRing w else s

/-- Head a ring on two ports: with the same ports only WTR changes; else the ring starts afresh, its ports blocked until a survey releases
them (R150, R156). -/
def State.headRing (s : State) (w : Nat) (lo hi : Fin 4) (wtr : Nat) : State :=
  let r := s.rg w
  if r.on && r.portA == lo && r.portB == hi then s.modRing w fun r => { r with wtr := wtr }
  else
    let s := (s.dropRing w).modRing w fun r => { ({} : Ring) with on := true, portA := lo, portB := hi, wtr := wtr, switches := r.switches, nseq := r.nseq }
    [lo.val, hi.val].foldl (fun s p => if s.ringOf p = some w then s.modTp p fun t => { t with ringBlocked := t.st == .active } else s) s

/-- A hub that may head rings takes a ring record. A ZONE hub heads no ring, and a RELAY hub none on the ports of the ring it is a member of. At the ROOT, a record whose ports are apart from those of its
first ring is that of its second (R13, R14, R156; log entry 24). -/
def State.headPorts (s : State) (lo hi : Fin 4) (wtr : Nat) : State :=
  let meets := fun (r : Ring) => r.lists lo.val || r.lists hi.val
  if s.sys.role == .zone || (!s.isRoot && meets (s.rg 1)) then s
  else if s.isRoot && (s.rg 0).on && !meets (s.rg 0) then s.headRing 1 lo hi wtr
  else (if s.isRoot && meets (s.rg 1) then s.dropRing 1 else s).headRing 0 lo hi wtr

/-- The ring record: the lower-numbered port is port A for link numbering (R156). -/
def recRing (s : State) : RdM State := do
  let a ← rdR 0 31 30
  let b ← rdF 0 29 28 fun v => if v = a then (a + 1) % 4 else v
  let wtr ← rdC 0 15 0 10 720
  let lo : Fin 4 := ⟨Nat.min a b % 4, Nat.mod_lt _ (by decide)⟩
  let hi : Fin 4 := ⟨Nat.max a b % 4, Nat.mod_lt _ (by decide)⟩
  pure (s.headPorts lo hi wtr)

end Sys2Proof.Machine
end

