-- ==== Sys2Proof/Machine/CellPath.lean ====
section
/-!
DEFINITION. Cells on the trunk links: the receive checks and what each kind of cell does (R123, R126 to R140, R238), and the choice of each
cell slot (R112, R125).
-/

namespace Sys2Proof.Machine

/-! ### Receiving -/

/-- A VL that carries sequenced cells (R124). -/
def creditVl (c : Cell) : Bool := decide (1 ≤ c.vl.toNat) && decide (c.vl.toNat ≤ 6)

/-- The forms R123 calls bad: reserved CTYPE, VL 7, a sequenced cell on VL 0, LEN 0 or above 224. -/
def badForm (c : Cell) : Bool :=
  decide (7 ≤ c.ctype.toNat) || c.vl == 7 || (c.sequenced && c.vl == 0) || c.len == 0 || decide (224 < c.len.toNat)

/-- LSEQ is behind EXPECTED (R133). -/
def lseqBehind (expected lseq : Nat) : Bool :=
  let d := (expected + 65536 - lseq) % 65536
  decide (1 ≤ d) && decide (d ≤ 32768)

/-- Where a cell that proves bad at its tail has started to leave by cut-through (R206, R208). -/
def State.cutEgress (s : State) (port : Fin 4) (c : Cell) : Option (Nat × Dest) :=
  let t := s.tp port.val
  if t.st != .active || !c.sequenced || c.lseq.toNat != t.expected || badForm c || c.void || s.portBlocked port then none
  else match s.classify port.val c with
  | .dest d =>
    let passes := match s.entryOf c.tunnel.toNat with
      | some e => !(t.bundled || t.alone) || (e.ctx (inStatus c)).e == c.seq.toNat
      | none => false
    if passes && !s.heldByRevert d && s.canCut port.val c d 0 then some (d.egress, d) else none
  | _ => none

/-- The tail proves bad: what left by cut-through is stomped, or discarded at an internal egress, and its space is free at once (R208). A cell
not accepted holds no credit of this receiver. -/
def State.badTail (s : State) (port : Fin 4) (c : Cell) : State :=
  match s.cutEgress port c with
  | some (e, d) => (s.startCut port.val 3 c d).stompCut port.val e false
  | none => s

/-- The space of a cell on a VL with credit is held from acceptance (R130). -/
def State.holdCredit (s : State) (p : Nat) (c : Cell) : State :=
  if creditVl c then s.modTp p fun t => { t with held := modAt t.held (vlIdx c.vl.toNat) (· + 1) } else s

/-- The space of an accepted cell is free at once (R130). -/
def State.dropCell (s : State) (p : Nat) (c : Cell) : State :=
  if creditVl c then s.freeCell { cell := c, ingress := p } else s

/-- A sequenced cell against EXPECTED: accepted (true), a duplicate, or ahead, when replay is requested (R133). -/
def State.sequence (s : State) (p : Nat) (c : Cell) : State × Bool :=
  let t := s.tp p
  if c.lseq.toNat = t.expected then
    (((s.modTp p fun t => { t with
        expected := (t.expected + 1) % 65536, ackValid := true, ackDue := true, replayAsked := 0, replayWait := false, discarding := false
        reqDue := none }).cntL p 1 1).holdCredit p c, true)
  else if lseqBehind t.expected c.lseq.toNat then (s.cntL p 11 1, false)
  else (s.askReplay p, false)

/-- EPOCH_LO of an accepted cell against the hub's own epoch number: a difference above 1 is counted, with EV075 at most once per second per
port (R238). -/
def State.epochSkew (s : State) (p : Nat) (c : Cell) : State :=
  let lo := c.epoch.toNat % 128
  let own := s.allot.epochNo % 128
  let d := (lo + 128 - own) % 128
  if !s.allot.applied || d ≤ 1 || d = 127 then s
  else ({ s with allot.skew := bump s.allot.skew }).raiseRated 75 p 1 [(p, 2), (lo, 7), (own, 7)]

/-- A TUNNEL 0 cell stays at the hub: a join message in CTYPE 5 with ENC 0, else a bad cell (R167). -/
def State.joinCell (s : State) (p : Nat) (c : Cell) : State := if c.ctype == 5 && !c.enc then s else s.cntL p 14 1

/-- An accepted sequenced cell: one of a bad form or on a blocked port is discarded, a void one ends here, any other goes on (R123, R140, R201). -/
def State.takeSequenced (s : State) (port : Fin 4) (c : Cell) : State :=
  let p := port.val
  let blocked := s.portBlocked port
  let bad := badForm c
  let s := if bad then s.cntL p 14 1 else if blocked then s.cntL p 15 1 else s
  let (s, ok) := s.sequence p c
  if !ok then s
  else
    let s := s.epochSkew p c
    if bad || blocked then s.dropCell p c
    else if c.void then (s.cntL p 12 1).dropCell p c
    else if c.tunnel = 0 then (s.joinCell p c).dropCell p c
    else s.arrive p c

/-- Credit for a VL has come after a stall: EV037 with flag 0 (R131). -/
def State.creditBack (s : State) (p : Nat) : State :=
  (List.range 6).foldl (fun (s : State) v =>
    let t := s.tp p
    if t.stalled.getD v false && t.credit (v + 1) then
      (s.modTp p fun t => { t with stalled := modAt t.stalled v fun _ => false }).raise 37 [(p, 2), (v + 1, 3), (0, 1)]
    else s) s

/-- The cells of a replay buffer that an ACK does not cover (R135). -/
def afterAck (ack : Nat) (cs : List Cell) : List Cell :=
  if cs.any (fun c => c.lseq.toNat == ack) then (cs.dropWhile fun c => c.lseq.toNat != ack).drop 1 else cs

/-- A fill or credit cell: its ACK frees the replay buffer, its LIMITs are taken (R126, R129, R135). -/
def State.takeCredit (s : State) (p : Nat) (c : Cell) : State :=
  let ackValid := (c.byteAt 2).testBit 7
  let ack := c.numAt 0 2
  (s.modTp p fun t =>
    let kept := if ackValid then afterAck ack t.replay else t.replay
    { t with
      replay := kept, replaying := t.replaying.filter fun x => kept.contains x
      limitRx := Vector.ofFn fun i => c.numAt (4 + 2 * i.val) 2 }).creditBack p

/-- A Guyline cell (R84). -/
def State.takeGuyline (s : State) (port : Fin 4) (c : Cell) : State :=
  let time := fun (n : Nat) => c.numAt n 6 * 1000000000 + c.numAt (n + 6) 4
  match c.byteAt 0 with
  | 0 => s.guySync port (BitVec.ofNat 8 (c.byteAt 1)) (BitVec.ofNat 16 (c.numAt 2 2)) (BitVec.ofNat 64 (c.numAt 8 8))
      (BitVec.ofNat 16 (c.numAt 16 2)) (time 20) (BitVec.ofNat 16 (c.numAt 30 2)) (c.numAt 44 4)
  | 1 => s.guyDelayReq port
  | 2 => s.guyDelayResp port (time 32)
  | _ => { s with phase.guyBad := bump s.phase.guyBad }

/-- A lane that POS of a lane message names (R128). -/
def laneNamed (pos : Nat) : Option (Fin 2) := if pos = 0 then some 0 else if pos = 1 then some 1 else none

/-- A link control cell (R128). -/
def State.takeControl (s : State) (port : Fin 4) (c : Cell) : State :=
  let p := port.val
  let echo := (c.byteAt 1).testBit 6
  let head := c.numAt 8 2
  let link := c.byteAt 10
  let nseq := c.byteAt 11
  match c.byteAt 0 with
  | 0 => s.hello p (neighbourOf (BitVec.ofNat 8 (c.byteAt 1)) (c.numAt 2 2) (c.byteAt 4) (c.byteAt 5) (c.byteAt 6) (c.byteAt 7))
  | 1 => s.survey port head (c.byteAt 12) link (c.byteAt 13)
  | 2 => s.ringFailIn port head link nseq
  | 3 => s.ringClearIn port head link nseq
  | 4 => s.ringRevertIn port head link nseq (c.numAt 14 2) (BitVec.ofNat 64 (c.numAt 16 8))
  | 5 => match laneNamed (c.byteAt 12) with | some l => s.laneDrop p l echo | none => s
  | 6 => match laneNamed (c.byteAt 12) with | some l => s.laneAdd p l echo | none => s
  | _ => s.cntL p 14 1

/-- A link-local cell: an LSEQ ahead of EXPECTED asks for replay, and the cell is taken by its CTYPE (R122, R126 to R128, R133). -/
def State.takeLocal (s : State) (port : Fin 4) (c : Cell) : State :=
  let p := port.val
  let t := s.tp p
  let ahead := c.lseq.toNat != t.expected && !lseqBehind t.expected c.lseq.toNat
  let s := if t.st == .active && ahead then s.askReplay p else s
  let active := t.st == .active
  match c.ctype.toNat with
  | 0 | 2 => if active then s.takeCredit p c else s
  | 3 => if active then s.replayAsk p (c.numAt 0 2) else s
  | 4 => if active then s.takeGuyline port c else s
  | _ => if active || c.byteAt 0 == 0 || decide (7 ≤ c.byteAt 0) then s.takeControl port c else s

/-- FEC codewords corrected and not correctable on each lane since the last cell (R145, R157). -/
def State.fecCounts (s : State) (p corrected bad0 bad1 : Nat) : State :=
  (((s.cntL p 2 corrected).cntL p 3 (bad0 + bad1)).badCodewords p 0 bad0).badCodewords p 1 bad1

/-- The checks of R123 in their order. -/
def State.receiveCell (s : State) (port : Fin 4) (c : Cell) (overlaps : Bool) : State :=
  let p := port.val
  if !c.hcrcOk then s.cntL p 4 1
  else if c.stomped then (s.cntL p 6 1).badTail port c
  else if !c.crcOk || overlaps then
    let s := (s.cntL p 5 1).badTail port c
    if c.sequenced && (s.tp p).st == .active then s.askReplay p else s
  else if c.sequenced then (if (s.tp p).st == .active then s.takeSequenced port c else if badForm c then s.cntL p 14 1 else if s.portBlocked port then s.cntL p 15 1 else s)
  else if badForm c then s.cntL p 14 1
  else s.takeLocal port c

/-- CELL_RECEIVE: a cell arrives on a trunk port in HELLO or ACTIVE. `corrected`, `bad0` and `bad1` count the FEC codewords since the cell before;
`overlaps` says that the cell lies in one that could not be corrected (R123). -/
def execCellReceive (port : Fin 4) (cell : Cell) (corrected bad0 bad1 : Nat) (overlaps : Bool) (s : State) : Host.Outcome State Fault Refusal :=
  let st := (s.tp port.val).st
  if st != .hello && st != .active then .next s
  else .next ((s.receiveCell port cell overlaps).fecCounts port.val corrected bad0 bad1)

/-! ### Sending -/

/-- A link-local cell (R122). -/
def localCell (ctype : BitVec 4) (lseq : Nat) (payload : List Byte) : Cell :=
  ({ ctype := ctype, sop := true, eop := true, len := 224, lseq := BitVec.ofNat 16 lseq, payload := payload } : Cell).sealed

/-- Send a link-local cell on a port. -/
def State.sendLocal (s : State) (port : Fin 4) (ctype : BitVec 4) (payload : List Byte) : State :=
  s.send (.cell port (localCell ctype (s.tp port.val).lseqNext payload))

/-- The payload of a fill or credit cell (R126). -/
def TrunkPort.creditPayload (t : TrunkPort) : List Byte :=
  numBytes ((t.expected + 65535) % 65536) 2 ++ [if t.ackValid then 128 else 0, 0] ++ t.limitTx.toList.flatMap fun x => numBytes x 2

/-- A fill (0) or credit (2) cell, which carries the acknowledgement (R126, R130, R135). -/
def State.sendCredit (s : State) (port : Fin 4) (ctype : BitVec 4) : State :=
  (s.sendLocal port ctype (s.tp port.val).creditPayload).modTp port.val fun t =>
    { t with ackDue := false, creditDue := if ctype = 2 then false else t.creditDue }

/-- The payload of a Guyline message, with what is inserted on departure (R84). A stamp taken while Guyline is lost tells downstream hubs of HOLDOVER. -/
def State.guyPayload (s : State) (port : Fin 4) (msg rx : Nat) : List Byte :=
  let held := s.holdoverFlag || (!s.isRoot && s.phase.refHoldover)
  let flags := b2n held * 128 + b2n s.synthFlag * 64 + b2n (s.time.st == .diverged) * 32 + b2n (s.time.st == .unset) * 16
  let time := fun (ns : Nat) => numBytes (ns / 1000000000) 6 ++ numBytes (ns % 1000000000) 4
  numBytes msg 1 ++ numBytes flags 1 ++ numBytes s.phase.gen 2 ++ numBytes s.sys.hubId 2 ++ numBytes s.depthNow 1 ++ [0] ++
    numBytes s.now.toNat 8 ++ numBytes (s.phase.sub * 65536 / 10000000000000) 2 ++ [0, 0] ++
    time s.time.ns ++ numBytes (s.time.sub * 65536 / 10000000000) 2 ++ (if msg = 2 then time rx else List.replicate 10 0) ++
    numBytes (s.phase.mseq.getD (3 * port.val + msg) 0) 2 ++ numBytes s.refFreq 4

/-- Send a Guyline cell; the departure of a Delay request is t3, and MSEQ advances (R84, R85). -/
def State.sendGuyline (s : State) (port : Fin 4) (msg rx : Nat) : State :=
  let s := s.sendLocal port 4 (s.guyPayload port msg rx)
  { s with phase.t3 := if msg = 1 then s.time.ns else s.phase.t3, phase.mseq := modAt s.phase.mseq (3 * port.val + msg) fun x => (x + 1) % 65536 }

/-- The payload of a link control message: BUNDLE capable and RING port stand in the FLAGS of every message (R128). -/
def State.controlPayload (s : State) (port : Fin 4) (m : LinkMsg) : List Byte :=
  let t := s.trunk[port.val]
  numBytes m.msg 1 ++ numBytes (m.flags + b2n t.cfg.bundle * 32 + b2n t.cfg.ring * 16) 1 ++ numBytes s.sys.hubId 2 ++ numBytes s.depthNow 1 ++ numBytes s.version 1 ++ numBytes port.val 1 ++
    numBytes s.sys.role.code 1 ++ numBytes m.head 2 ++ numBytes m.link 1 ++ numBytes m.nseq 1 ++ numBytes m.pos 1 ++ numBytes m.failed 1 ++
    numBytes m.hold 2 ++ numBytes m.inst.toNat 8

/-- Send a stored cell again; a copy with an uncorrectable error goes with VOID set (R136, R140). -/
def State.sendAgain (s : State) (port : Fin 4) (c : Cell) (rest : List Cell) (bufErr : Bool) : State :=
  let c := if bufErr then ({ c with void := true } : Cell).sealed else c
  ((s.modTp port.val fun t => { t with replaying := rest }).cntL port.val 10 1).send (.cell port c)

/-- The oldest cell that may leave a port as a new sequenced cell: one that a failed bundle member left goes first, then the window head. It has
crossed, has credit, and the replay buffer has room; a blocked port sends none (R12, R13, R129, R137, R149, R202). -/
def State.newCell (s : State) (p : Fin 4) : Option QCell :=
  let t := s.trunk[p.val]
  match (t.resend ++ (s.eg p.val).window).head? with
  | some c => if c.crossed && (c.flush || (!s.portBlocked p && t.credit c.cell.vl.toNat && decide (t.replay.length < 256))) then some c else none
  | none => none

/-- Take the oldest cell of a port off the list it waits in. -/
def State.dropOldest (s : State) (p : Nat) : State :=
  if (s.tp p).resend.isEmpty then s.modEgress p fun x => { x with window := x.window.drop 1 } else s.modTp p fun t => { t with resend := t.resend.drop 1 }

/-- Send a new sequenced cell: it takes the next LSEQ and a credit, and stays in the replay buffer (R116, R129, R136). One that a barrier has
marked is dropped here (R222). -/
def State.sendNew (s : State) (port : Fin 4) (c : QCell) : State :=
  let p := port.val
  let s := s.dropOldest p
  if c.flush then ((s.cntF 15 1).leave c).sendCredit port 0
  else
    let out := c.onLink (s.tp p).lseqNext
    let s := s.modTp p fun t => { t with
      lseqNext := (t.lseqNext + 1) % 65536, sent := modAt t.sent (vlIdx c.cell.vl.toNat) fun x => (x + 1) % 65536, replay := t.replay ++ [out] }
    ((s.cntL p 0 1).send (.cell port out)).leave c

/-- One cell slot of an ACTIVE port: the first of R125's list that is ready. -/
def State.activeSlot (s : State) (port : Fin 4) (bufErr : Bool) : State :=
  let p := port.val
  let t := s.tp p
  match t.reqDue, t.creditDue, t.guyq, t.lcq, t.replaying with
  | some from_, _, _, _, _ => ((s.modTp p fun t => { t with reqDue := none }).cntL p 8 1).sendLocal port 3 (numBytes from_ 2)
  | none, true, _, _, _ => s.sendCredit port 2
  | none, false, (msg, rx) :: gs, _, _ => (s.modTp p fun t => { t with guyq := gs }).sendGuyline port msg rx
  | none, false, [], m :: ms, _ => (s.modTp p fun t => { t with lcq := ms }).sendLocal port 6 (s.controlPayload port m)
  | none, false, [], [], c :: cs => s.sendAgain port c cs bufErr
  | none, false, [], [], [] => match s.newCell port with
    | some c => s.sendNew port c
    | none => s.sendCredit port 0

/-- CELL_SLOT_TRANSMIT: one cell slot. In HELLO a port carries HELLO and fill only; in SEARCH the training pattern until its receiver has
locked, then fill; in DISABLED nothing. `bufErr` says that the copy to be replayed has an uncorrectable error (R112, R114, R117, R125, R140). -/
def execCellSlotTransmit (port : Fin 4) (bufErr : Bool) (s : State) : Host.Outcome State Fault Refusal :=
  let p := port.val
  let t := s.tp p
  match t.st with
  | .active => .next (s.activeSlot port bufErr)
  | .hello => .next (match t.lcq with
    | m :: ms => (s.modTp p fun t => { t with lcq := ms }).sendLocal port 6 (s.controlPayload port m)
    | [] => s.sendCredit port 0)
  | .search => .next (if t.locked then s.sendCredit port 0 else s.send (.prbs port (decide (t.rate < 2))))
  | .disabled => .next s

end Sys2Proof.Machine
end

