-- ==== Sys2Proof/Machine/DeskOpen.lean ====
section
/-!
DEFINITION. What a desk port puts in place while it holds its data role and takes down when it loses it: the mux (R384, R385), the USB
link (R386, R387), the tunnels of a docking session (R399, R404, R405), mapped ports (R398), and the exported device (R397).
-/

namespace Sys2Proof.Machine

/-! ### Tunnels -/

/-- TENANT of a port's USB tunnels (R399). -/
def DeskPort.tenantNow (x : DeskPort) : Nat := match x.binding with | some b => b.tenant | none => x.dataInUse.tenant

/-- Close a tunnel of a desk port (R405). -/
def State.closeDesk1 (s : State) (i : Option Nat) : State := match i with | some i => s.beginClose i 0 | none => s

/-- Open the network tunnel that the binding names (R404). -/
def State.openNet (s : State) (p : Nat) : State :=
  let x := s.dk p
  match x.binding with
  | none => s
  | some b =>
    if b.netHub = 0 || x.netTun.isSome || x.netBarred then s
    else
      let (s, i) := s.openOwn { cls := 5, farEp := b.netEp, farHub := b.netHub, tenant := b.tenant, cir := b.netCir, pir := Nat.max 156250 b.netCir,
                                cbs := 64, pbs := 256 }
      s.modDk p fun x => { x with netTun := i, netRetry := i.isNone }

/-- Open the display tunnel that the binding names (R338, R409). -/
def State.openVid (s : State) (p : Nat) : State :=
  let x := s.dk p
  match x.binding with
  | none => s
  | some b =>
    if b.video != 2 || x.vidTun.isSome || x.vidBarred then s
    else
      let cir := Nat.max 1 b.videoCir
      let (s, i) := s.openOwn { cls := 2, farEp := 0x800000, farHub := b.videoHub, tenant := b.tenant, cir := cir, pir := cir, cbs := 64, pbs := 256 }
      s.modDk p fun x => { x with vidTun := i, vidRetry := i.isNone }

/-- PIR at a device's bus rate, never below CIR (R399). -/
def usbPir (speed cir : Nat) : Nat := Nat.max cir ([7500, 78125, 156250, 312500].getD speed 156250)

/-! ### Mapped ports -/

/-- STATUS that end B, or this hub for a local map, gives a request for the device of a PERIPHERAL port (R397, R399, R400). -/
def State.exportStatus (s : State) (port tenant : Nat) (dock : Nat × Nat) : Nat :=
  let x := s.dk port
  if !x.data.peripheral || !x.cfg.enable then 1
  else if tenant != 0 && x.dataInUse.tenant != 0 && x.dataInUse.tenant != tenant then 2
  else if !x.dev.present then 4
  else if !x.dev.exportable then 5
  else match x.dev.dock with
    | some d => if d = dock then 0 else 3
    | none => 0

/-- The map lets the mapped port show a device (R398, R407). -/
def State.mapAllowed (s : State) (p k : Nat) : Bool :=
  let m := ((s.dk p).mp k).map
  (s.dk p).hubShown && (m.kind == 2 || (m.kind == 1 && m.farPort != p && (s.dk m.farPort).data.peripheral))

/-- Connect a local map: export the device, wait for it, or be refused (R397, R398, R400). -/
def State.connectLocal (s : State) (p k : Nat) : State :=
  let far := ((s.dk p).mp k).map.farPort
  let st := s.exportStatus far (s.dk p).tenantNow (0, p * 8 + k)
  if st = 0 then
    let s := s.modDev far 0 fun d => { d with dock := some (0, p * 8 + k) }
    let sp := (s.dk far).dev.speed
    (s.modMp p k fun m => { m with speed := sp, retry := false }).setMp p k ((s.dk p).shownAs sp) 0
  else if st = 4 then (s.modMp p k fun m => { m with retry := false }).setMp p k 1 4
  else (s.modMp p k fun m => { m with retry := st != 1 && st != 2, barred := st == 1 || st == 2 }).setMp p k 4 st

/-- Connect a mapped port: through a USB tunnel, or locally (R398, R399). -/
def State.connectMp (s : State) (p k : Nat) : State :=
  let m := (s.dk p).mp k
  if !s.mapAllowed p k then s.setMp p k 0 0
  else if m.barred then s
  else if m.map.kind = 1 then s.connectLocal p k
  else match m.tun with
  | some i =>
    let s := s.setMp p k 1 0
    if s.tunIsUp i then s.usbPdu i 1 m.map.farPort 0 0 [] else s
  | none =>
    let (s, i) := s.openOwn { cls := 3, farEp := 0x800000, farHub := m.map.farHub, tenant := (s.dk p).tenantNow, cir := m.map.cir,
                              pir := usbPir 2 m.map.cir, cbs := 64, pbs := 256, nearEp := 0x800000 }
    (s.modMp p k fun m => { m with tun := i, retry := i.isNone }).setMp p k 1 0

/-- Disconnect a mapped port and close its tunnel; a local device is free (R402). -/
def State.closeMp (s : State) (p k st : Nat) : State :=
  let m := (s.dk p).mp k
  let s := s.closeDesk1 m.tun
  let s := (s.modMp p k fun m => { m with tun := none, retry := false, barred := false }).setMp p k st 0
  let far := m.map.farPort
  if (s.dk far).dev.dock = some (0, p * 8 + k) then s.modDev far 0 fun d => { d with dock := none } else s

/-- Open every tunnel of a port that its binding and maps name (R405). -/
def State.openDesk (s : State) (p : Nat) : State :=
  (List.range 6).foldl (fun s k => s.connectMp p k) ((s.openNet p).openVid p)

/-- Close a port's NETWORK and DISPLAY tunnels (R402, R405). -/
def State.closeSession (s : State) (p : Nat) : State :=
  let x := s.dk p
  let s := (s.closeDesk1 x.netTun).closeDesk1 x.vidTun
  (s.modDk p fun x => { x with netTun := none, vidTun := none, netRetry := false, vidRetry := false, netBarred := false, vidBarred := false }).refreshHpd p

/-- Close every tunnel of a port (R402, R405). -/
def State.closeDesk (s : State) (p st : Nat) : State := (List.range 6).foldl (fun s k => s.closeMp p k st) (s.closeSession p)

/-! ### The mux, the USB link and the data role -/

/-- Set the USB link of a port, with EV203; mapped ports with a SuperSpeed device follow (R387, R398). -/
def State.setUsb (s : State) (p n : Nat) : State :=
  if (s.dk p).usb = n then s
  else
    let s := (s.modDk p fun x => { x with usb := n }).raise 203 [(p, 2), (n, 3)]
    (List.range 6).foldl (fun s k =>
      let m := (s.dk p).mp k
      if m.st = 2 ∨ m.st = 3 then s.setMp p k ((s.dk p).shownAs m.speed) 0 else s) s

/-- Highest USB code that a pin assignment leaves (R386). -/
def usbMost (pin : Nat) : Nat := if pin = 1 then 1 else if pin = 2 then 3 else 4

/-- Leave the alternate mode: SBU open, both pairs USB, then EV201 flag 0 (R385). -/
def State.altExit (s : State) (p : Nat) : State :=
  if !(s.dk p).alt then s
  else
    let s := s.modDk p fun x => { x with alt := false, muxAux := false, pin := 0 }
    (s.refreshSink p).raise 201 [(p, 2), (0, 1), (0, 2)]

/-- The port holds its mode's role: EV200 flag 1; a DOCK port shows the internal hub and opens its tunnels (R382, R396, R405). -/
def State.gainRole (s : State) (p : Nat) : State :=
  if (s.dk p).roleHeld then s
  else
    let s := (s.modDk p fun x => { x with roleHeld := true }).raise 200 [(p, 2), (1, 1)]
    if (s.dk p).data.peripheral then s else (s.setUsb p 1).openDesk p

/-- The port cannot reach its role: power only (R382). -/
def State.powerOnly (s : State) (p : Nat) : State := s.raise 200 [(p, 2), (0, 1)]

/-- The data role returns to the Type-C default: the internal hub is gone from the laptop's view (R382). -/
def State.loseRole (s : State) (p : Nat) : State :=
  let s := s.modDk p fun x => { x with roleHeld := false, dfp := x.st == .attachedSrc }
  (List.range 6).foldl (fun s k => s.setMp p k 0 0) (s.setUsb p 0)

/-- The device of a PERIPHERAL port is gone: DETACH is sent, then the export ends (R402). -/
def State.devGone (s : State) (p : Nat) : State :=
  let d := (s.dk p).dev
  let s := match d.dock with
    | some (1, i) => s.usbPdu i 3 p 4 d.speed []
    | some (_, n) => s.setMp (n / 8) (n % 8) 1 4
    | none => s
  if d.present then s.modDev p 4 fun _ => {} else s

/-- A binding ends, with EV207 (R405). -/
def State.endBinding (s : State) (p : Nat) : State :=
  match (s.dk p).binding with
  | none => s
  | some b => (s.modDk p fun x => { x with binding := none }).raise 207 [(p, 2), (0, 1), (b.tenant, 16)]

/-- Everything carried over the data pins ends with the attach (R385, R402, R405). -/
def State.endData (s : State) (p : Nat) : State :=
  let s := ((s.altExit p).closeDesk p 0).loseRole p
  let s := s.devGone p
  let s := if ((s.dk p).binding.map (·.sticky)) = some false then s.endBinding p else s
  s.refreshHpd p

end Sys2Proof.Machine
end

