-- ==== Sys2Proof/Machine/DeskPower.lean ====
section
/-!
DEFINITION. Desk ports, attach and power (11_desk_power.md): attach and detach, sourcing and contracts, the shared budget, sinking, swaps,
Wait and Hard Reset, and the DESK power commands and records.
-/

namespace Sys2Proof.Machine

/-! ### States -/

/-- Codes of desk port states (R351). -/
def AttachState.code : AttachState → Nat
  | .disabled => 0
  | .unattached => 1
  | .attachWaitSrc => 2
  | .attachWaitSnk => 3
  | .trySrc => 4
  | .tryWaitSnk => 5
  | .attachedSrc => 6
  | .attachedSnk => 7
  | .accessory => 8
  | .cableOnly => 9
  | .errorRecovery => 10
  | .fault => 11
  | .deadSink => 12

/-- The hub is the power source on a port (R379). -/
def DeskPort.isSource (x : DeskPort) : Bool := x.st == .attachedSrc

/-- Change a port, with EV192 when its state and EV194 when a power or VCONN role changes (R351, R380). -/
def State.modPower (s : State) (p : Nat) (f : DeskPort → DeskPort) : State :=
  let old := s.dk p
  let s := s.modDk p f
  let new := s.dk p
  let s := if old.st = new.st then s else s.raise 192 [(p, 2), (old.st.code, 4), (new.st.code, 4)]
  if old.isSource = new.isSource ∧ old.vconnOn = new.vconnOn then s else s.raise 194 [(p, 2), (b2n new.isSource, 1), (b2n new.vconnOn, 1)]

/-- Send a PD message or signal; control types as USB PD numbers them, 0x100 + type for data messages, 0x300 for Hard Reset. -/
def State.pd (s : State) (p msg : Nat) (ws : List Nat) : State := if h : p < 4 then s.send (.pd ⟨p, h⟩ msg ws) else s

end Sys2Proof.Machine

namespace Sys2Proof

/-- USB PD type of a message that Wait may answer (R366; log entry 22). -/
def PdMsg.type : PdMsg → Nat
  | .prSwap => 10
  | .vconnSwap => 11
  | .drSwap => 9
  | .sinkRequest => 2

/-- Place of a message in a port's Wait fields. -/
def PdMsg.slot : PdMsg → Nat
  | .prSwap => 0
  | .vconnSwap => 1
  | .drSwap => 2
  | .sinkRequest => 3

end Sys2Proof

namespace Sys2Proof.Machine

/-! ### Sharing desk power -/

/-- 15 W in units of 1 µW, of which a voltage in mV times a current in mA is made. -/
def w15 : Nat := 15000000

/-- Power of a contract in µW (R361). -/
def Contract.power (c : Contract) : Nat := c.mv * c.ma

/-- The grant of a port in µW; an accepted Request raises it at once (R358, R361). -/
def DeskPort.grant (x : DeskPort) : Nat :=
  if x.isSource then Nat.max w15 (Nat.max ((x.contract.map (·.power)).getD 0) ((x.transition.map (·.power)).getD 0)) else w15

/-- Sum of the grants, but for one port. -/
def State.grantsBut (s : State) (p : Nat) : Nat :=
  (List.range 4).foldl (fun a q => if q = p then a else a + (s.dk q).grant) 0

/-- The offer to a port, in 10 mW (R361). -/
def State.offerOf (s : State) (p : Nat) : Nat := Nat.min ((s.dk p).cfg.portW * 100) ((s.desk.budget * 1000000 - s.grantsBut p) / 10000)

/-- The sum of grants has fallen: ports offered less than PORT_W, whose offer has grown, are offered again in their turn (R362). -/
def State.markReoffers (s : State) : State :=
  (List.range 4).foldl (fun s p =>
    let x := s.dk p
    if x.isSource && x.offer != 0 && decide (x.offer < x.cfg.portW * 100) && decide (x.offer < s.offerOf p) then
      s.modDk p fun x => { x with reoffer := true }
    else s) s

/-! ### Source capabilities -/

/-- The PDOs built from an offer of `w` × 10 mW: kind, lowest and highest mV, current in mA, or W for AVS (R357). -/
def DeskPort.pdos (x : DeskPort) (w : Nat) : List (Nat × Nat × Nat × Nat) :=
  let cable := if x.cable5A then 5000 else 3000
  let fixed := fun (v most : Nat) => Nat.min most (w / v * 10)
  let five := [(0, 5000, 5000, fixed 5 3000)]
  if w ≤ 1500 then five
  else
    let highs := [9, 15, 20].filterMap fun v =>
      let i := fixed v cable
      if i < 500 then none else some (0, v * 1000, v * 1000, i)
    let pps := if x.cfg.ppsEn then [(1, 3300, 21000, Nat.min cable (w * 10 / 21) / 50 * 50)] else []
    let epr := if x.epr then [(2, 28000, 28000, fixed 28 5000), (3, 15000, 28000, w / 100)] else []
    five ++ highs ++ pps ++ epr

/-- EPR mode ends (R359). -/
def State.eprExit (s : State) (p : Nat) : State := if (s.dk p).epr then s.modDk p fun x => { x with epr := false } else s

/-- Send Source_Capabilities for `w` × 10 mW: Dual-Role Power and Unconstrained Power of the 5 V PDO, then each PDO. At 100 W or below EPR
mode ends first (R356, R357, R359, R361, R375). -/
def State.sendCaps (s : State) (p w : Nat) : State :=
  let s := if (s.dk p).epr && decide (w ≤ 10000) then (s.eprExit p).pd p 0x10A [5] else s
  let pdos := (s.dk p).pdos w
  let s := s.modDk p fun x => { x with
    caps := pdos, capsW := w, offer := w, capsSent := true, inUse := x.cfg, rpHigh := decide (1500 ≤ w), sinkTxOk := false, reoffer := false }
  let s := if w < (s.dk p).cfg.portW * 100 then s.raise 198 [(p, 2), (Nat.min (w / 100) 255, 8)] else s
  s.pd p 0x101 ([b2n (!(s.dk p).cfg.roleMode), 1] ++ pdos.flatMap fun d => [d.1, d.2.1, d.2.2.1, d.2.2.2])

/-- The hub may send Source_Capabilities on a port now. -/
def DeskPort.mayOffer (x : DeskPort) : Bool := x.isSource && x.vbusOn && !x.recovering && x.swap == .none && x.transition.isNone

/-- SOURCE_CAPS_SEND: the cable's answer on SOP′ is taken when VCONN is on, then the port's offer is sent (R357, R361). -/
def execSourceCapsSend (port : Fin 4) (cable : Option (Bool × Bool)) (s : State) : Host.Outcome State Fault Refusal :=
  let p := port.val
  if !(s.dk p).mayOffer then .next s
  else
    let s := match cable with
      | some (a5, e) => if (s.dk p).vconnOn then s.modDk p fun x => { x with cable5A := a5, cableEpr := e } else s
      | none => s
    .next (s.sendCaps p (s.offerOf p))

/-! ### Contracts -/

/-- The contract ends, with EV193 (R380). -/
def State.endContract (s : State) (p : Nat) : State :=
  let had := (s.dk p).contract.isSome
  let s := s.modDk p fun x => { x with contract := none, transition := none, capsSent := false, sinkTxOk := true }
  if had then s.raise 193 [(p, 2), (0, 1), (0, 9), (0, 8)] else s

/-- A contract takes effect, with EV193 (R380). -/
def State.setContract (s : State) (p : Nat) (c : Contract) : State :=
  (s.modDk p fun x => { x with contract := some c, transition := none, capsSent := false, sinkTxOk := true }).raise 193
    [(p, 2), (b2n (s.dk p).epr, 1), (Nat.min (c.mv / 100) 511, 9), (Nat.min (c.ma / 50) 255, 8)]

/-- A Request for a PDO of the capabilities last sent: the contract it asks for, when it lies within them (R358). -/
def DeskPort.request (x : DeskPort) (pdo mv ma : Nat) : Option Contract :=
  match x.caps[pdo - 1]? with
  | none => none
  | some (kind, lo, hi, most) =>
    if pdo = 0 then none
    else if kind = 0 ∨ kind = 2 then (if ma ≤ most then some { mv := lo, ma := ma } else none)
    else if kind = 1 then (if lo ≤ mv ∧ mv ≤ hi ∧ ma ≤ most then some { mv := mv, ma := ma, pps := true } else none)
    else (if lo ≤ mv ∧ mv ≤ hi ∧ mv * ma ≤ most * 1000000 then some { mv := mv, ma := ma, pps := true } else none)

/-- PD_REQUEST: a Request within the capabilities last sent is accepted, raises the grant at once and starts the transition; any other is
rejected (R358, R361). -/
def execPdRequest (port : Fin 4) (pdo : Fin 16) (mv ma : Nat) (s : State) : Host.Outcome State Fault Refusal :=
  let p := port.val
  let x := s.dk p
  if !x.isSource || x.recovering || x.swap != .none then .next s
  else match x.request pdo.val mv ma with
    | some c => .next ((s.modDk p fun x => { x with transition := some c }).pd p 3 [])
    | none => .next ((s.modDk p fun x => { x with capsSent := false }).pd p 4 [])

/-- Send a message that Wait may answer, unless it has been given up or waits (R366). -/
def State.ask (s : State) (p : Nat) (m : PdMsg) : State :=
  let x := s.dk p
  if x.gaveUp.getD m.slot false || x.waitRun.getD m.slot false then s
  else
    let s := s.modDk p fun x => { x with asked := modAt x.asked m.slot fun _ => true }
    if m == .sinkRequest then s.pd p 0x102 [1, x.sinkMa] else s.pd p m.type []

/-- Seek the data role once the first explicit contract stands (R382). -/
def State.seekRole (s : State) (p : Nat) : State :=
  let x := s.dk p
  if x.roleHeld then s
  else if x.data.peripheral then (if x.dfp then s.gainRole p else s.ask p .drSwap)
  else if x.dfp then s.ask p .drSwap else s.gainRole p

/-- A port becomes source by a swap (R368). -/
def State.swapToSource (s : State) (p : Nat) : State :=
  ((s.endContract p).modPower p fun x => { x with st := .attachedSrc, swap := .none, vbusOn := true })

/-- PD_TRANSITION_DONE: PS_RDY is sent. A voltage transition ends in its contract; in a PR_Swap the old source has turned VBUS off, or the
new source has turned it on (R358, R362, R368, R382). -/
def execPdTransitionDone (port : Fin 4) (s : State) : Host.Outcome State Fault Refusal :=
  let p := port.val
  let x := s.dk p
  match x.swap, x.swapToSrc, x.transition with
  | .oldOff, true, _ => .next ((s.pd p 6 []).swapToSource p)
  | .accepted, false, _ => .next ((s.modDk p fun x => { x with vbusOn := false, swap := .oldOff }).pd p 6 [])
  | .none, _, some c =>
    let first := x.contract.isNone
    let s := (s.pd p 6 []).setContract p c
    .next ((if first then s.seekRole p else s).markReoffers)
  | _, _, _ => .next s

/-! ### Attach -/

/-- What a new attach starts from. -/
def DeskPort.fresh (x : DeskPort) : DeskPort :=
  { x with waits := Vector.replicate 4 0, waitRun := Vector.replicate 4 false, gaveUp := Vector.replicate 4 false, asked := Vector.replicate 4 false,
           prAsked := false, swap := .none, recovering := false, epr := false, cable5A := false, cableEpr := false, offer := 0, capsW := 0,
           caps := [], reoffer := false, reclaim := false, sinkMa := 0, kind := 0 }

/-- Enter ATTACHED_SRC: VBUS on, VCONN on a pin that shows Ra, DFP by default (R354, R356, R382). -/
def State.enterSrc (s : State) (p : Nat) (vconn : Bool) : State :=
  let high := decide (1500 ≤ s.offerOf p)
  s.modPower p fun x => { x.fresh with
    st := .attachedSrc, vbusOn := true, vconnOn := vconn, discharge := false, attachHeld := false, dfp := true, rpHigh := high,
    dataInUse := x.data, inUse := x.cfg }

/-- Enter ATTACHED_SNK: UFP by default, which is the role a DOCK port seeks (R353, R382). -/
def State.enterSnk (s : State) (p : Nat) : State :=
  let s := s.modPower p fun x => { x.fresh with st := .attachedSnk, vbusOn := false, dfp := false, dataInUse := x.data, inUse := x.cfg }
  if (s.dk p).data.peripheral then s else s.gainRole p

/-- Leave whatever the port was in: VBUS, converter and VCONN off, discharge on, the grant back at 15 W (R355, R369). -/
def State.leaveAttach (s : State) (p : Nat) (st : AttachState) : State :=
  let was := (s.dk p).vbusOn || (s.dk p).attached || (s.dk p).st == .deadSink
  let s := s.endData p
  let s := s.endContract p
  let s := s.modPower p fun x => { x.fresh with
    st := st, vbusOn := false, vconnOn := false, discharge := x.discharge || was, attachHeld := x.attachHeld || was, cc := (.openCc, .openCc),
    asSource := x.cfg.roleMode, dfp := false }
  s.markReoffers

/-- Return to UNATTACHED (R353). -/
def State.toUnattached (s : State) (p : Nat) : State :=
  s.modPower p fun x => { x.fresh with st := .unattached, cc := (.openCc, .openCc), asSource := x.cfg.roleMode }

/-- A combination that a source sees as Rd or Ra on a pin. -/
def seesSink (c : Cc × Cc) : Bool := c.1 == .rd || c.1 == .ra || c.2 == .rd || c.2 == .ra

/-- A combination that a sink sees as Rp on a pin. -/
def seesRp (c : Cc × Cc) : Bool := c.1 == .rp || c.2 == .rp

/-- In UNATTACHED, enter the AttachWait state that the CC pins ask for, once VBUS lets it (R353, R369). -/
def State.tryAttach (s : State) (p : Nat) : State :=
  let x := s.dk p
  if x.st != .unattached then s
  else if x.asSource && seesSink x.cc then (if x.attachHeld then s else s.modPower p fun x => { x with st := .attachWaitSrc })
  else if !x.asSource && !x.cfg.roleMode && seesRp x.cc then s.modPower p fun x => { x with st := .attachWaitSnk }
  else s

/-- CC_ATTACH_DETECT: a termination is seen in UNATTACHED, or Ra turns into Rd, Ra in CABLE_ONLY (R353, R354, R369). -/
def execCcAttachDetect (port : Fin 4) (cc1 cc2 : Cc) (s : State) : Host.Outcome State Fault Refusal :=
  let p := port.val
  let x := s.dk p
  if x.st == .unattached then .next ((s.modDk p fun x => { x with cc := (cc1, cc2) }).tryAttach p)
  else if x.st == .cableOnly && (cc1 == .rd || cc2 == .rd) then
    .next (s.modPower p fun x => { x with st := .attachWaitSrc, cc := (cc1, cc2) })
  else .next s

/-- DRP_TOGGLE: a dual-role port alternates (R352, R353). -/
def execDrpToggle (port : Fin 4) (s : State) : Host.Outcome State Fault Refusal :=
  let x := s.dk port.val
  if x.st == .unattached && !x.cfg.roleMode then .next ((s.modDk port.val fun x => { x with asSource := !x.asSource, cc := (.openCc, .openCc) }))
  else .next s

/-- ATTACHWAIT_SRC acts on the combination (R354). -/
def State.actOnCc (s : State) (p : Nat) (cc : Cc × Cc) : State :=
  match cc with
  | (.rd, .openCc) | (.openCc, .rd) => s.enterSrc p false
  | (.rd, .ra) | (.ra, .rd) => s.enterSrc p true
  | (.ra, .openCc) | (.openCc, .ra) => s.modPower p fun x => { x with st := .cableOnly }
  | (.ra, .ra) => s.modPower p fun x => { x with st := .accessory, kind := 1 }
  | (.rd, .rd) => s.modPower p fun x => { x with st := .accessory, kind := 2 }
  | (.openCc, .openCc) => s.toUnattached p
  | _ => s

/-- CC_DEBOUNCE_EXPIRY: what the pins and VBUS allow (R353, R354). -/
def execCcDebounceExpiry (port : Fin 4) (cc1 cc2 : Cc) (vbus5 vbus0 : Bool) (s : State) : Host.Outcome State Fault Refusal :=
  let p := port.val
  let s := s.modDk p fun x => if x.st == .attachWaitSrc || x.st == .attachWaitSnk || x.st == .tryWaitSnk then { x with cc := (cc1, cc2) } else x
  match (s.dk p).st with
  | .attachWaitSrc => .next (if vbus0 then s.actOnCc p (cc1, cc2) else s)
  | .attachWaitSnk =>
    .next (if seesRp (cc1, cc2) then (if vbus5 then s.modPower p fun x => { x with st := .trySrc } else s) else s.toUnattached p)
  | .tryWaitSnk => .next (if seesRp (cc1, cc2) && vbus5 then s.enterSnk p else s)
  | _ => .next s

/-- TRY_SRC_DETECT: Rd on exactly one CC (R353). -/
def execTrySrcDetect (port : Fin 4) (cc1 cc2 : Cc) (s : State) : Host.Outcome State Fault Refusal :=
  let p := port.val
  if (s.dk p).st == .trySrc && ((cc1 == .rd) != (cc2 == .rd)) then
    .next ((s.modDk p fun x => { x with cc := (cc1, cc2) }).enterSrc p (cc1 == .ra || cc2 == .ra))
  else .next s

/-- TRY_SRC_TIMEOUT (R353). -/
def execTrySrcTimeout (port : Fin 4) (s : State) : Host.Outcome State Fault Refusal :=
  .next (if (s.dk port.val).st == .trySrc then s.modPower port.val fun x => { x with st := .tryWaitSnk } else s)

/-- TRYWAIT_TIMEOUT (R353). -/
def execTrywaitTimeout (port : Fin 4) (s : State) : Host.Outcome State Fault Refusal :=
  .next (if (s.dk port.val).st == .tryWaitSnk then s.toUnattached port.val else s)

/-! ### Detach and protection -/

/-- DESK_DETACH (R354, R355, R369). The service port's detach is a loss of power, which POWER_LOSS tells. -/
def execDeskDetach (port : Fin 4) (s : State) : Host.Outcome State Fault Refusal :=
  let p := port.val
  match (s.dk p).st with
  | .attachedSrc | .attachedSnk => .next (s.leaveAttach p .unattached)
  | .cableOnly | .accessory | .attachWaitSrc | .attachWaitSnk => .next (s.toUnattached p)
  | _ => .next s

/-- VBUS_DISCHARGED: VBUS is below vSafe0V, and an attach that waited goes on (R369). -/
def execVbusDischarged (port : Fin 4) (s : State) : Host.Outcome State Fault Refusal :=
  .next ((s.modDk port.val fun x => { x with discharge := false, attachHeld := false }).tryAttach port.val)

/-- Count a protective action, with EV196; the third within 60 s leads to FAULT (R360). -/
def State.protect (s : State) (p kind : Nat) : State :=
  let now := s.clockNs
  (s.modDk p fun x => { x with faultTimes := now :: x.faultTimes.filter fun t => decide (now - t < 60000000000) }).raise 196 [(p, 2), (kind, 4)]

/-- Protective actions within the last 60 s (R360). -/
def State.faultCount (s : State) (p : Nat) : Nat := ((s.dk p).faultTimes.filter fun t => decide (s.clockNs - t < 60000000000)).length

/-- SAFE0V_TIMEOUT: VBUS has not fallen to vSafe0V and the port enters FAULT at once (R360). -/
def execSafe0vTimeout (port : Fin 4) (s : State) : Host.Outcome State Fault Refusal :=
  if !(s.dk port.val).discharge then .next s else .next ((s.protect port.val 4).leaveAttach port.val .fault)

/-- A port leaves ERROR_RECOVERY, FAULT or DISABLED (R360, R375). -/
def State.portAfresh (s : State) (p : Nat) : State := if (s.dk p).cfg.enable then s.toUnattached p else s.modPower p fun x => { x with st := .disabled }

/-- ERROR_RECOVERY_END (R352, R375). -/
def execErrorRecoveryEnd (port : Fin 4) (s : State) : Host.Outcome State Fault Refusal :=
  .next (if (s.dk port.val).st == .errorRecovery then s.portAfresh port.val else s)

/-- FAULT_EXIT (R360). -/
def execFaultExit (port : Fin 4) (s : State) : Host.Outcome State Fault Refusal :=
  .next (if (s.dk port.val).st == .fault then s.portAfresh port.val else s)

/-! ### Hard Reset -/

/-- A Hard Reset is sent or received: EV195; inside a swap whose old source has turned VBUS off it leads to ERROR_RECOVERY; otherwise roles
stay, the contract and the alternate mode end, and a source takes VBUS to vSafe0V (R359, R366, R367, R368, R382, R385). -/
def State.hardReset (s : State) (p : Nat) (received : Bool) : State :=
  let x := s.dk p
  if !x.attached && x.st != .deadSink then s
  else
    let s := if received then s else s.pd p 0x300 []
    let s := (s.modDk p fun x => { x with hardResets := bump x.hardResets }).raise 195 [(p, 2), (b2n received, 1), (b2n (x.swap != .none), 1)]
    if x.swap == .oldOff then s.leaveAttach p .errorRecovery
    else
      let s := (s.endContract p).altExit p
      let s := s.modDk p fun x => { x with
        swap := .none, epr := false, waits := Vector.replicate 4 0, waitRun := Vector.replicate 4 false, gaveUp := Vector.replicate 4 false,
        asked := Vector.replicate 4 false, reoffer := false, reclaim := false, caps := [] }
      let s := if x.st == .deadSink then s else s.loseRole p
      let s := if x.isSource then s.modDk p fun x => { x with vbusOn := false, discharge := true, recovering := true } else s
      s.markReoffers

/-- HARD_RESET (R367, R368). -/
def execHardReset (port : Fin 4) (received : Bool) (s : State) : Host.Outcome State Fault Refusal := .next (s.hardReset port.val received)

/-- SRC_RECOVER_EXPIRY: vSafe5V is restored (R367). -/
def execSrcRecoverExpiry (port : Fin 4) (s : State) : Host.Outcome State Fault Refusal :=
  .next (s.modDk port.val fun x => if x.recovering then { x with recovering := false, vbusOn := true, discharge := false, attachHeld := false } else x)

/-- VBUS_PROTECTION (R360). -/
def execVbusProtection (port : Fin 4) (kind : Fin 4) (s : State) : Host.Outcome State Fault Refusal :=
  let p := port.val
  let x := s.dk p
  if (kind.val = 3 && !x.vconnOn) || (kind.val ≠ 3 && !x.vbusOn) then .next s
  else
    let s := s.protect p kind.val
    let s := if kind.val = 0 then s.hardReset p false
      else if kind.val = 3 then s.modPower p fun x => { x with vconnOn := false }
      else s.leaveAttach p .errorRecovery
    .next (if 3 ≤ s.faultCount p then s.leaveAttach p .fault else s)

/-- PPS_REQUEST_TIMEOUT (R358). -/
def execPpsRequestTimeout (port : Fin 4) (s : State) : Host.Outcome State Fault Refusal :=
  .next (if ((s.dk port.val).contract.map (·.pps)) = some true && (s.dk port.val).isSource then s.hardReset port.val false else s)

/-! ### EPR -/

/-- EPR_MODE_ENTER: Enter Succeeded, or Enter Failed (R359). -/
def execEprModeEnter (port : Fin 4) (s : State) : Host.Outcome State Fault Refusal :=
  let p := port.val
  let x := s.dk p
  if !x.isSource then .next s
  else if x.inUse.eprEn && x.cableEpr && decide (10000 < x.offer) then .next ((s.modDk p fun x => { x with epr := true }).pd p 0x10A [3])
  else .next (s.pd p 0x10A [4])

/-- EPR_MODE_EXIT: by the sink's request (R359). -/
def execEprModeExit (port : Fin 4) (s : State) : Host.Outcome State Fault Refusal := .next (s.eprExit port.val)

/-! ### Swaps and Wait -/

/-- A voltage transition of the port is under way (R365). -/
def DeskPort.moving (x : DeskPort) : Bool := x.transition.isSome || x.swap != .none

/-- PR_SWAP_RECEIVE (R365, R374). -/
def execPrSwapReceive (port : Fin 4) (s : State) : Host.Outcome State Fault Refusal :=
  let p := port.val
  let x := s.dk p
  if x.st == .deadSink then .next (s.pd p 4 [])
  else if !x.attached then .next s
  else if x.moving then .next (s.pd p 12 [])
  else if x.isSource then .next (s.pd p 4 [])
  else .next ((s.modDk p fun x => { x with swap := .accepted, swapToSrc := true }).pd p 3 [])

/-- VCONN_SWAP_RECEIVE (R365). -/
def execVconnSwapReceive (port : Fin 4) (s : State) : Host.Outcome State Fault Refusal :=
  let p := port.val
  let x := s.dk p
  if x.st == .deadSink then .next (s.pd p 4 [])
  else if !x.attached then .next s
  else if x.moving then .next (s.pd p 12 [])
  else .next ((s.pd p 3 []).modPower p fun x => { x with vconnOn := !x.vconnOn })

/-- DR_SWAP_RECEIVE: the data role policy (R365, R382). -/
def execDrSwapReceive (port : Fin 4) (s : State) : Host.Outcome State Fault Refusal :=
  let p := port.val
  let x := s.dk p
  if x.st == .deadSink then .next (s.pd p 4 [])
  else if !x.attached then .next s
  else if x.moving then .next (s.pd p 12 [])
  else if x.dfp == x.data.peripheral then .next (s.pd p 4 [])
  else .next (((s.pd p 3 []).modDk p fun x => { x with dfp := !x.dfp }).gainRole p)

/-- PD_WAIT_RECEIVE: `t_wait_retry` starts, or the message is given up with EV197 (R366). -/
def execPdWaitReceive (port : Fin 4) (msg : PdMsg) (s : State) : Host.Outcome State Fault Refusal :=
  let p := port.val
  let x := s.dk p
  let i := msg.slot
  if !x.asked.getD i false then .next s
  else
    let n := x.waits.getD i 0 + 1
    let give := decide (x.inUse.waitRetries ≤ n)
    let s := s.modDk p fun x => { x with
      asked := modAt x.asked i fun _ => false, waits := modAt x.waits i fun _ => n, waitRun := modAt x.waitRun i fun _ => !give,
      gaveUp := modAt x.gaveUp i fun _ => give }
    .next (if give then s.raise 197 [(p, 2), (msg.type, 8)] else s)

/-- WAIT_RETRY_EXPIRY: the same message is sent again (R366). -/
def execWaitRetryExpiry (port : Fin 4) (msg : PdMsg) (s : State) : Host.Outcome State Fault Refusal :=
  let p := port.val
  if !(s.dk p).waitRun.getD msg.slot false then .next s
  else .next ((s.modDk p fun x => { x with waitRun := modAt x.waitRun msg.slot fun _ => false }).ask p msg)

/-- SWAP_PS_RDY_TIMEOUT: no PS_RDY from the partner after the hub's own (R368). -/
def execSwapPsRdyTimeout (port : Fin 4) (s : State) : Host.Outcome State Fault Refusal :=
  let p := port.val
  if (s.dk p).swap != .oldOff || (s.dk p).swapToSrc then .next s
  else .next ((s.raise 195 [(p, 2), (0, 1), (1, 1)]).leaveAttach p .errorRecovery)

/-- The partner's PS_RDY: the old source is off, the new source is on, or the sink's contract stands (R364, R368, R372). -/
def State.partnerReady (s : State) (p : Nat) (msg : PdMsg) : State :=
  let x := s.dk p
  match x.swap, x.swapToSrc with
  | .accepted, true => s.modDk p fun x => { x with swap := .oldOff, vbusOn := true, discharge := false }
  | .oldOff, false => ((s.endContract p).modPower p fun x => { x with st := .attachedSnk, swap := .none }).markReoffers
  | _, _ =>
    if msg != .sinkRequest || x.transition.isNone then s
    else
      let first := x.contract.isNone
      let s := s.setContract p { mv := 5000, ma := x.sinkMa }
      if x.st == .deadSink then (if 1500 ≤ x.sinkMa then { s with desk.level := 2 } else s) else if first then s.seekRole p else s

/-- The partner's answer to a message of the hub (R364, R366, R368, R382). -/
def State.partnerAnswer (s : State) (p : Nat) (msg : PdMsg) (answer : PdAnswer) : State :=
  let x := s.dk p
  let clear := s.modDk p fun x => { x with asked := modAt x.asked msg.slot fun _ => false, waits := modAt x.waits msg.slot fun _ => 0 }
  match answer with
  | .psRdy => s.partnerReady p msg
  | .accept =>
    if !x.asked.getD msg.slot false then s
    else match msg with
      | .prSwap => clear.modDk p fun x => { x with swap := .accepted, swapToSrc := !x.isSource }
      | .vconnSwap => clear.modPower p fun x => { x with vconnOn := !x.vconnOn }
      | .drSwap => (clear.modDk p fun x => { x with dfp := !x.dfp }).gainRole p
      | .sinkRequest => clear.modDk p fun x => { x with transition := some { mv := 5000, ma := x.sinkMa } }
  | .reject | .notSupported =>
    if !x.asked.getD msg.slot false then s
    else if msg == .drSwap then clear.powerOnly p else clear

/-- SOURCE_CAPS_RECEIVE: as sink, 5 V at 10 mA, and PR_Swap once when the partner is dual-role; in DEAD_SINK the highest current offered,
up to 3 A (R364, R372). -/
def execSourceCapsReceive (port : Fin 4) (dualRole : Bool) (ma : Nat) (s : State) : Host.Outcome State Fault Refusal :=
  let p := port.val
  match (s.dk p).st with
  | .attachedSnk =>
    let s := (s.modDk p fun x => { x with sinkMa := 10 }).ask p .sinkRequest
    .next (if dualRole && !(s.dk p).prAsked then (s.modDk p fun x => { x with prAsked := true }).ask p .prSwap else s)
  | .deadSink => .next ((s.modDk p fun x => { x with sinkMa := Nat.min 3000 ma }).ask p .sinkRequest)
  | _ => .next s

/-- CONTRACT_TIMEOUT: no explicit contract within 1 s of attach (R382). -/
def execContractTimeout (port : Fin 4) (s : State) : Host.Outcome State Fault Refusal :=
  let p := port.val
  let x := s.dk p
  if !x.attached || x.contract.isSome then .next s
  else if x.data.peripheral then .next ((s.modDk p fun x => { x with dfp := true }).gainRole p)
  else .next ((if x.roleHeld then s.loseRole p else s).powerOnly p)

/-! ### Re-offers and reclaim -/

/-- The negotiation of the port offered again before has not ended, and 1 s has not passed (R362). -/
def State.reofferBusy (s : State) : Bool := s.desk.offering.any fun (q, t) => (s.dk q).capsSent && decide (s.clockNs - t < 1000000000)

/-- DESK_REOFFER: the lowest port that waits is offered its grown offer, once the port before it has negotiated (R362). -/
def execDeskReoffer (s : State) : Host.Outcome State Fault Refusal :=
  match (List.range 4).find? fun p => (s.dk p).reoffer with
  | none => .next s
  | some p =>
    .next (if s.reofferBusy then s
      else if (s.dk p).mayOffer then { s.sendCaps p (s.offerOf p) with desk.offering := some (p, s.clockNs) }
      else s.modDk p fun x => { x with reoffer := false })

/-- The port with the greatest grant among those left, the lower-numbered when equal (R363). -/
def State.mostGranted (s : State) : List Nat → Option Nat
  | [] => none
  | p :: ps => match mostGranted s ps with
    | some q => if (s.dk p).grant < (s.dk q).grant then some q else some p
    | none => some p

/-- Take back an excess in µW, port by port in order of descending grant (R363). -/
def State.reclaimN : Nat → State → List Nat → Nat → State
  | 0, s, _, _ => s
  | n + 1, s, ps, x =>
    if x = 0 then s
    else match s.mostGranted ps with
      | none => s
      | some p =>
        let g := (s.dk p).grant
        let w := Nat.max w15 (g - x) / 10000
        let rest := ps.filter (· != p)
        if g ≤ w * 10000 then reclaimN n s rest x
        else reclaimN n ((s.sendCaps p w).modDk p fun x => { x with reclaim := true }) rest (x - (g - w * 10000))

/-- The contract lies within the capabilities last sent (R363). -/
def DeskPort.withinCaps (x : DeskPort) : Bool :=
  match x.contract with
  | none => false
  | some c => (List.range x.caps.length).any fun i => match x.request (i + 1) c.mv c.ma with
    | some r => r.mv == c.mv && r.ma == c.ma
    | none => false

/-- DESK_RECLAIM_TIMEOUT: no contract within the reduced capabilities (R363). -/
def execDeskReclaimTimeout (port : Fin 4) (s : State) : Host.Outcome State Fault Refusal :=
  let p := port.val
  if !(s.dk p).reclaim then .next s
  else
    let s := s.modDk p fun x => { x with reclaim := false }
    .next (if (s.dk p).withinCaps then s else s.hardReset p false)

/-! ### Commands -/

/-- DESK.STATUS word 0 (R379). -/
def State.deskWord0 (s : State) (p : Nat) : Word :=
  let x := s.dk p
  pack [(x.st.code, 4), (b2n x.isSource, 1), (b2n x.vconnOn, 1), (b2n x.epr, 1), (b2n x.cable5A, 1), (x.kind, 2), (Nat.min (s.faultCount p) 3, 2)]

/-- DESK_STATUS: with the voltage and current measured (R379). -/
def execDeskStatus (mv ma : Nat) (s : State) : Host.Outcome State Fault Refusal :=
  runCmd 0x5001 s fun r s =>
    let p := r.f 0 31 30
    let s := s.modDk p fun x => { x with vbusMv := mv, ibusMa := ma }
    let x := s.dk p
    let c := x.contract.getD {}
    (s, okR [s.deskWord0 p, pack [(Nat.min (c.mv / 20) 65535, 16), (Nat.min (c.ma / 10) 65535, 16)],
      pack [(Nat.min x.offer 65535, 16), (Nat.min (x.grant / 10000) 65535, 16)], pack [(Nat.min mv 65535, 16), (Nat.min ma 65535, 16)], wd x.hardResets])

/-- An ACTION of DESK.CONTROL; one that does not apply changes nothing (R378). -/
def State.deskAction (s : State) (p a : Nat) : State :=
  let x := s.dk p
  if x.st == .deadSink then s
  else if a = 1 then (if x.st == .disabled then s else s.leaveAttach p .disabled)
  else if a = 2 then (if x.st == .disabled || x.st == .fault then s.toUnattached p else s)
  else if a = 3 then s.hardReset p false
  else if a = 4 then (if x.mayOffer then s.sendCaps p (s.offerOf p) else s)
  else if a = 5 then (if x.attached && x.contract.isSome && !x.moving then s.ask p .prSwap else s)
  else if a = 6 then (if x.st == .disabled || x.st == .fault || x.st == .errorRecovery then s else s.leaveAttach p .errorRecovery)
  else s

/-- DESK_CONTROL (R378). -/
def execDeskControl (s : State) : Host.Outcome State Fault Refusal :=
  runCmd 0x5010 s fun r s =>
    let p := r.f 0 31 30
    let a := if 7 ≤ r.f 0 3 0 then 0 else r.f 0 3 0
    let s := s.deskAction p a
    (s, okC (r.f 0 3 0 != a) [s.deskWord0 p])

/-! ### Records -/

/-- The desk port power record (R375). -/
def recDesk (s : State) : RdM State := do
  let p ← rdR 0 31 30
  let en ← rdB 0 29
  let role ← rdB 0 28
  let pps ← rdB 0 27
  let epr ← rdB 0 26
  let retries ← rdC 0 23 16 1 32
  let w ← rdC 1 31 16 15 (if epr then 140 else 100)
  let old := (s.dk p).cfg
  let s := s.modDk p fun x => { x with cfg := { enable := en, roleMode := role, ppsEn := pps, eprEn := epr, waitRetries := retries, portW := w } }
  pure (if (old.enable != en || old.roleMode != role) && s.up && (s.dk p).st != .deadSink then s.leaveAttach p .errorRecovery else s)

/-- The desk budget record (R362, R363, R376). -/
def recBudget (s : State) : RdM State := do
  let b ← rdC 0 31 16 60 560
  let s := { s with desk.budget := b }
  let sum := s.grantsBut 4
  pure (if b * 1000000 < sum then s.reclaimN 4 [0, 1, 2, 3] (sum - b * 1000000) else s.markReoffers)

end Sys2Proof.Machine
end

