-- ==== Sys2Proof/Machine/DeskData.lean ====
section
/-!
DEFINITION. Desk ports, docking data (12_desk_data.md): the alternate mode, the DP sink, capture and damage, the internal USB hub and USB
tunnels, the network function, bindings, and the DESK data commands and records.
-/

namespace Sys2Proof.Machine

/-! ### Alternate mode -/

/-- The hub answers structured VDMs on a port: a DOCK port in UFP role (R383). -/
def DeskPort.answersVdm (x : DeskPort) : Bool := x.attached && !x.data.peripheral && x.roleHeld

/-- Send a structured VDM answer: command 1 Identity, 2 SVIDs, 3 Modes, 4 Enter, 5 Exit, 6 Attention, 16 Status, 17 Configure. -/
def State.vdm (s : State) (p cmd : Nat) (ack : Bool) (ws : List Nat) : State := if h : p < 4 then s.send (.vdm ⟨p, h⟩ cmd ack ws) else s

/-- The DisplayPort SVID (R383). -/
def dpSvid : BitVec 16 := 0xFF01

/-- VDM_DISCOVER: `kind` 0 Identity, 1 SVIDs, 2 Modes; VDMs on SOP′ and SOP″ are ignored (R383). -/
def execVdmDiscover (port : Fin 4) (sop : Fin 3) (kind : Fin 3) (svid : BitVec 16) (s : State) : Host.Outcome State Fault Refusal :=
  let p := port.val
  let x := s.dk p
  if !x.answersVdm || sop.val != 0 then .next s
  else if kind.val = 0 then .next (s.vdm p 1 true [1])
  else if kind.val = 1 then .next (s.vdm p 2 x.data.dpEn (if x.data.dpEn then [0xFF01] else []))
  else if svid = dpSvid then .next (s.vdm p 3 true [1, 2, x.data.maxDpRate])
  else .next (s.vdm p 3 false [])

/-- VDM_ENTER_MODE: ACK for mode 1 while DP_EN is 1 and no swap runs; SBU moves to AUX once the ACK's GoodCRC has come (R383, R384). -/
def execVdmEnterMode (port : Fin 4) (sop : Fin 3) (svid : BitVec 16) (mode : BitVec 3) (goodCrc : Bool) (s : State) :
    Host.Outcome State Fault Refusal :=
  let p := port.val
  let x := s.dk p
  if !x.answersVdm || sop.val != 0 then .next s
  else if svid != dpSvid || mode != 1 || !x.data.dpEn || x.swap != .none then .next (s.vdm p 4 false [])
  else
    let s := s.vdm p 4 true []
    if !goodCrc || x.alt then .next s
    else .next (((s.modDk p fun x => { x with alt := true, muxAux := true }).raise 201 [(p, 2), (1, 1), (x.pin, 2)]).refreshSink p)

/-- VDM_EXIT_MODE (R383, R385). -/
def execVdmExitMode (port : Fin 4) (sop : Fin 3) (svid : BitVec 16) (goodCrc : Bool) (s : State) : Host.Outcome State Fault Refusal :=
  let p := port.val
  if !(s.dk p).answersVdm || sop.val != 0 then .next s
  else if svid != dpSvid then .next (s.vdm p 5 false [])
  else .next (if goodCrc then (s.vdm p 5 true []).altExit p else s.vdm p 5 true [])

/-- DP_STATUS_UPDATE: UFP_D connected, MULTI_PREF and HPD (R384). -/
def execDpStatusUpdate (port : Fin 4) (s : State) : Host.Outcome State Fault Refusal :=
  let x := s.dk port.val
  .next (if x.alt then s.vdm port.val 16 true [1, b2n x.data.multiPref, b2n x.hpd] else s)

/-- Set the mux to a pin assignment: a SuperSpeed link that loses a pair goes down first, and an untrained sink follows (R384, R386, R387). -/
def State.setMux (s : State) (p pin : Nat) : State :=
  let x := s.dk p
  let s := if usbMost pin < x.usb then s.setUsb p 1 else s
  let s := s.modDk p fun x => { x with pin := pin }
  let s := if x.pin != pin && decide (2 ≤ x.sink) then s.setSink p 1 0 else s
  if x.pin = pin then s else s.raise 201 [(p, 2), (1, 1), (pin, 2)]

/-- DP_CONFIGURE: 0 USB, 1 assignment C, 2 assignment D; any other assignment or rate is NAKed; the mux moves after the ACK's GoodCRC
(R384). -/
def execDpConfigure (port : Fin 4) (pin : Byte) (rate : BitVec 3) (goodCrc : Bool) (s : State) : Host.Outcome State Fault Refusal :=
  let p := port.val
  let x := s.dk p
  if !x.alt then .next s
  else if pin = 0 ∨ ((pin = 1 ∨ pin = 2) ∧ rate.toNat ≤ x.data.maxDpRate) then
    let s := s.vdm p 17 true []
    .next (if goodCrc then s.setMux p pin.toNat else s)
  else .next (s.vdm p 17 false [])

/-- DESK_USB_LINK_TRAINED: Gen 1, Gen 2 or Gen 2x2, as far as the pin assignment allows (R386, R387). -/
def execDeskUsbLinkTrained (port : Fin 4) (rate : Fin 3) (s : State) : Host.Outcome State Fault Refusal :=
  let x := s.dk port.val
  if !x.hubShown then .next s else .next (s.setUsb port.val (Nat.min (rate.val + 2) (usbMost x.pin)))

/-! ### The sink -/

/-- A stream that the port cannot take leaves the sink in TRAINED, with EV202 (R388, R391). -/
def State.refuseStream (s : State) (p cause : Nat) : State :=
  let x := s.dk p
  if x.sink = 2 then s.raise 202 [(p, 2), (2, 2), (x.dpRate, 3), (x.dpLanes, 3), (cause, 8)] else s.setSink p 2 cause

/-- DP_SINK_TRAINING: the link trains within the pin assignment and MAX_DP_RATE; a stream (HACT, VACT, pixel clock in kHz, and whether it is
SST RGB at 8 or 10 bpc) within the limits that fits the capture buffer gives VIDEO (R388, R391). -/
def execDpSinkTraining (port : Fin 4) (rate : Fin 6) (lanes : Fin 3) (stream : Option (Nat × Nat × Nat × Bool)) (s : State) :
    Host.Outcome State Fault Refusal :=
  let p := port.val
  let x := s.dk p
  let n := lanesOf lanes.val
  if x.sink = 0 ∨ x.pin = 0 ∨ x.data.maxDpRate < rate.val ∨ n = 1 ∨ (x.pin = 2 ∧ n = 4) then .next s
  else
    let s := s.modDk p fun x => { x with dpRate := rate.val, dpLanes := n }
    match stream with
    | none => .next (s.setSink p 2 0)
    | some (w, h, khz, ok) =>
      if !ok ∨ 7680 < w ∨ 4320 < h ∨ 1200000 < khz then .next (s.refuseStream p 1)
      else if x.data.capMib * mib < w * h * 4 then .next (s.refuseStream p 2)
      else
        let s := s.modDk p fun x => { x with srcW := w, srcH := h }
        .next (s.setSink p 3 0)

/-- DP_STREAM_ENDED (R388). -/
def execDpStreamEnded (port : Fin 4) (s : State) : Host.Outcome State Fault Refusal :=
  .next (if (s.dk port.val).sink = 3 then s.setSink port.val 2 3 else s)

/-! ### Capture and damage -/

/-- Pixels of a span (R392). -/
def spanPixels : Nat := 52

/-- Address of a pixel in the capture buffer (R391). -/
def DeskPort.capAddr (x : DeskPort) (y col : Nat) : Nat := x.capNow.capBase * mib + (y * x.srcW + col) * 4

/-- Spans of a line (R392). -/
def DeskPort.spans (x : DeskPort) : Nat := (x.srcW + spanPixels - 1) / spanPixels

/-- Pixels of span `k` of a line (R392). -/
def DeskPort.spanLen (x : DeskPort) (k : Nat) : Nat := Nat.min spanPixels (x.srcW - k * spanPixels)

/-- Put a span into a list ordered by line, then column, once. -/
def insertSpan (d : Nat × Nat) : List (Nat × Nat) → List (Nat × Nat)
  | [] => [d]
  | e :: es => if d = e then e :: es else if d.1 < e.1 ∨ (d.1 = e.1 ∧ d.2 < e.2) then d :: e :: es else e :: insertSpan d es

/-- A line arrives: each span that differs from the capture buffer is damaged, and the buffer takes the line (R392). -/
def State.captureLine (s : State) (p : Nat) (l : Nat × List Word) : State :=
  let x := s.dk p
  if x.srcH ≤ l.1 then s
  else
    (List.range x.spans).foldl (fun s k =>
      let px := ((l.2.drop (k * spanPixels)).take (x.spanLen k)).flatMap wordBytesLE
      let a := x.capAddr l.1 (k * spanPixels)
      if dramReadBytes s.dram a px.length = px then s
      else (s.memWrite a px).modDk p fun y => { y with damage := insertSpan (l.1, k) y.damage }) s

/-- CAPTURE_FRAME_COMPLETE: a frame is captured whole, given by the lines that may have changed; it replaces one whose sending has not begun
(R391, R392, R393, R406). -/
def execCaptureFrameComplete (port : Fin 4) (lines : List (Nat × List Word)) (s : State) : Host.Outcome State Fault Refusal :=
  let p := port.val
  let x := s.dk p
  if x.sink != 3 then .next s
  else if x.data.capMib * mib < x.srcW * x.srcH * 4 then .next (s.refuseStream p 2)
  else
    let s := s.modDk p fun x => { x with capNow := x.data }
    let s := lines.foldl (fun s l => s.captureLine p l) s
    if x.frameWait then .next ((s.cntK p 0 1).raiseCounted 206 p 1 [(p, 2)] 16)
    else .next (s.modDk p fun x => { x with frameWait := true })

/-- Cells a target frame can carry on a tunnel: its period is PERIOD under PTP time, and LINE_PS times VTOTAL under reference phase (R394; log
entry 175). -/
def cellBudget (cir : Nat) (r : Raster) : Nat :=
  if r.base = 2 then cir * 64000 * r.period / (65536 * 1792 * 1000000000) else cir * 64000 * (r.linePs * r.vtotal) / (1792 * 1000000000000)

/-- The whole lines of a frame's damage that fit a budget, top to bottom (R394). -/
def bandOf : Nat → Nat → List (Nat × Nat) → List (Nat × Nat)
  | 0, _, _ => []
  | _ + 1, _, [] => []
  | n + 1, room, d :: ds =>
    let line := (d :: ds).takeWhile (·.1 == d.1)
    if room < line.length then [] else line ++ bandOf n (room - line.length) ((d :: ds).dropWhile (·.1 == d.1))

/-- Refresh spans: whole lines after the last refreshed, wrapping at `h`, while there is room (R395). -/
def DeskPort.refreshSpans (x : DeskPort) (h : Nat) (band : List (Nat × Nat)) : Nat → Nat → Nat → List (Nat × Nat) × Nat
  | 0, next, _ => ([], next)
  | n + 1, next, room =>
    let y := if next < h then next else 0
    let line := if y < x.srcH then ((List.range x.spans).map fun k => (y, k)).filter fun d => !band.contains d else []
    if h = 0 ∨ room < line.length then ([], next)
    else
      let (more, nx) := refreshSpans x h band n (y + 1) (room - line.length)
      (line ++ more, nx)

/-- The payload of a PIXELS cell, every field and pixel most significant byte first (R5, R339). -/
def pixelsBytes (y x : Nat) (px : List Word) : List Byte :=
  numBytes 1 1 ++ [0] ++ numBytes y 2 ++ numBytes x 2 ++ numBytes px.length 1 ++ List.replicate 9 0 ++ (px.map fun w => bytesBE w 4).flatten

/-- Send a span to the target: a PIXELS cell on the tunnel, or the words written to a local target (R392, R394). -/
def State.sendSpan (s : State) (p : Nat) (b : Binding) (d : Nat × Nat) : State :=
  let x := s.dk p
  let n := x.spanLen d.2
  let col := d.2 * spanPixels
  let px := dramReadBytes s.dram (x.capAddr d.1 col) (4 * n)
  if b.video = 1 then
    if b.h ≤ d.1 then s else s.memWrite (b.addr + d.1 * (b.stride * 256) + col * 4) (px.take (4 * (b.w - col)))
  else match x.vidTun with
    | some i => s.send (.pdu i 3 (pixelsBytes d.1 col (wordsLE px)))
    | none => s

/-- DAMAGE_SEND: the windows of one target frame come. The sending of a waiting frame begins, one band goes, and refresh spans fill the
room (R393, R394, R395). -/
def execDamageSend (port : Fin 4) (s : State) : Host.Outcome State Fault Refusal :=
  let p := port.val
  let x := s.dk p
  match x.binding with
  | none => .next s
  | some b =>
    let raster := (x.vidTun.bind fun i => s.disp.pacing.find? (·.1 == i)).map (·.2)
    if x.sink != 3 || b.video = 0 || (b.video = 2 && (raster.isNone || !s.videoReady p)) then .next s
    else
      let s := if !x.sendOn && x.frameWait then s.modDk p fun x => { x with
        sending := x.damage, damage := [], frameWait := false, sendOn := true, firstBand := true } else s
      let x := s.dk p
      if !x.sendOn then .next s
      else
        let r := raster.getD {}
        let cir := ((x.vidTun.bind s.tunAt).map (·.p.cir)).getD 0
        let room := if b.video = 1 then x.sending.length + x.spans * 256 else cellBudget cir r
        let h := if b.video = 1 then b.h else r.h
        let band := bandOf (x.sending.length + 1) room x.sending
        let rest := x.sending.drop band.length
        let (more, next) := if rest.isEmpty then x.refreshSpans h band x.capNow.refreshLines x.refreshNext (room - band.length) else ([], x.refreshNext)
        let s := (band ++ more).foldl (fun s d => s.sendSpan p b d) s
        let s := if x.firstBand || band.isEmpty then s else s.cntK p 1 1
        .next (s.modDk p fun x => { x with sending := rest, refreshNext := next, firstBand := x.firstBand && band.isEmpty, sendOn := !rest.isEmpty })

/-! ### USB tunnels -/

/-- USB_TUNNEL_ATTACH at end B: ATTACH_ACK with its status (R397, R400, R402). -/
def execUsbTunnelAttach (idx : BitVec 14) (port : BitVec 2) (s : State) : Host.Outcome State Fault Refusal :=
  let i := idx.toNat
  match s.tunAt i with
  | none => .next s
  | some t =>
    if t.p.cls != 3 || t.endA then .next s
    else
      let p := port.toNat
      let st := s.exportStatus p t.p.tenant (1, i)
      let s := if st = 0 then s.modDev p 0 fun d => { d with dock := some (1, i) } else s
      .next (s.usbPdu i 2 p st (s.dk p).dev.speed [])

/-- USB_TUNNEL_ATTACH_ACK at end A: the device is shown and PIR follows its speed, or the tunnel is closed and tried again (R399, R400). -/
def execUsbTunnelAttachAck (idx : BitVec 14) (status : Byte) (speed : BitVec 2) (s : State) : Host.Outcome State Fault Refusal :=
  let i := idx.toNat
  .next ((s.mappedBy i).foldl (fun s (p, k) =>
    if status = 0 then
      let s := (s.modMp p k fun m => { m with speed := speed.toNat, retry := false }).setMp p k ((s.dk p).shownAs speed.toNat) 0
      match s.tunAt i with
      | some t => if t.p.pir = usbPir speed.toNat t.p.cir then s else s.askRates t { t.p with pir := usbPir speed.toNat t.p.cir }
      | none => s
    else
      let lasting := status == 1 || status == 2
      let s := (s.modMp p k fun m => { m with tun := none, retry := !lasting, barred := lasting }).setMp p k (if status = 4 then 1 else 4) status.toNat
      s.beginClose i 0) s)

/-- USB_TUNNEL_DETACH at end A: the mapped port shows disconnected; the tunnel is closed and tried again after 10 s (R400, R402). -/
def execUsbTunnelDetach (idx : BitVec 14) (status : Byte) (s : State) : Host.Outcome State Fault Refusal :=
  let i := idx.toNat
  .next ((s.mappedBy i).foldl (fun s (p, k) =>
    let s := s.setMp p k 1 status.toNat
    if status = 0 then s else (s.modMp p k fun m => { m with tun := none, retry := true }).beginClose i 0) s)

/-- Port that counts a bad PDU of a USB tunnel. -/
def State.usbPort (s : State) (i : Nat) : Nat :=
  match s.mappedBy i with
  | (p, _) :: _ => p
  | [] => ((List.range 4).find? fun p => (s.dk p).dev.dock == some (1, i)).getD 0

/-- Send a USB packet toward a laptop or a device: code 0 data, 1 NRDY or NAK. -/
def State.usbOut (s : State) (p code : Nat) (data : List Byte) : State := if h : p < 4 then s.send (.usb ⟨p, h⟩ (code :: data.map (·.toNat))) else s

/-- USB_TUNNEL_PACKET: a packet for the device at end B or the dock at end A; a reserved UOP is discarded and counted (R400, R401). -/
def execUsbTunnelPacket (idx : BitVec 14) (uop : Byte) (data : List Byte) (s : State) : Host.Outcome State Fault Refusal :=
  let i := idx.toNat
  if uop = 0 ∨ 4 < uop.toNat then .next (s.cntK (s.usbPort i) 3 1)
  else if uop ≠ 4 then .next s
  else match s.mappedBy i with
  | (p, k) :: _ => .next (if ((s.dk p).mp k).st = 2 then s.usbOut p 0 data else s)
  | [] => .next ((List.range 4).foldl (fun s p => if (s.dk p).dev.dock = some (1, i) then s.usbOut p 0 data else s) s)

/-- A frame from the laptop carries an IEEE 802.1Q tag. -/
def isTagged (data : List Byte) : Bool := data.getD 12 0 == 0x81 && data.getD 13 0 == 0x00

/-- USB_LAPTOP_TRANSACTION: to the CDC-NCM function at port 1, or to the device of a mapped port, without waiting for it (R396, R401, R403,
R404). -/
def execUsbLaptopTransaction (port : Fin 4) (dsport : BitVec 3) (iso inward : Bool) (data : List Byte) (s : State) :
    Host.Outcome State Fault Refusal :=
  let p := port.val
  let x := s.dk p
  if !x.hubShown then .next s
  else if dsport = 1 then
    match x.netTun with
    | some i =>
      if !x.dataInUse.ncmEn || inward || !s.tunIsUp i then .next s
      else if isTagged data then .next (s.cntK p 4 1)
      else .next (s.laptopFrame i data)
    | none => .next s
  else if dsport = 0 then .next s
  else
    let k := dsport.toNat - 2
    let m := x.mp k
    if m.st != 2 then .next s
    else if m.map.kind = 1 then .next (if iso then s.usbOut m.map.farPort 0 data else (s.usbOut m.map.farPort 0 data).usbOut p 1 [])
    else match m.tun with
      | none => .next s
      | some i =>
        if iso then .next (if inward then s.usbOut p 0 [] else s.cntK p 2 1)
        else .next ((s.usbPdu i 4 m.map.farPort 0 0 data).usbOut p 1 [])

/-- PERIPHERAL_ENUMERATE: a device is enumerated; local maps that wait for it connect (R397, R398). -/
def execPeripheralEnumerate (port : Fin 4) (speed : BitVec 2) (exportable : Bool) (s : State) : Host.Outcome State Fault Refusal :=
  let p := port.val
  let x := s.dk p
  if !x.data.peripheral || !x.attached || !x.dfp then .next s
  else
    let s := s.modDev p 0 fun d => { d with present := true, speed := speed.toNat, exportable := exportable }
    .next ((List.range 24).foldl (fun s n =>
      let m := (s.dk (n / 6)).mp (n % 6)
      if m.map.kind = 1 ∧ m.map.farPort = p ∧ m.st = 1 then s.connectMp (n / 6) (n % 6) else s) s)

/-! ### Bindings -/

/-- DESK_TUNNEL_RETRY: `which` 0 network, 1 video, 2 to 7 a mapped port (R400, R405). -/
def execDeskTunnelRetry (port : Fin 4) (which : BitVec 3) (s : State) : Host.Outcome State Fault Refusal :=
  let p := port.val
  let x := s.dk p
  if which = 0 then .next (if x.netRetry then (s.modDk p fun x => { x with netRetry := false }).openNet p else s)
  else if which = 1 then .next (if x.vidRetry then (s.modDk p fun x => { x with vidRetry := false }).openVid p else s)
  else
    let k := which.toNat - 2
    .next (if (x.mp k).retry then (s.modMp p k fun m => { m with retry := false }).connectMp p k else s)

/-- DESK.BIND's words as a binding (R409). -/
def readBinding (r : Waiting) : Binding :=
  { sticky := bitAt (r.w 0) 28, tenant := r.f 0 15 0, netHub := r.f 1 31 16, netEp := r.f 2 23 0, netCir := r.f 3 31 8,
    video := if r.f 4 31 30 = 3 then 0 else r.f 4 31 30, head := if bitAt (r.w 4) 29 then 1 else 0, format := bitAt (r.w 4) 28,
    videoHub := r.f 4 15 0, addr := u64At r.data 5, stride := r.f 7 31 16, w := r.f 8 31 16, h := r.f 8 15 0, videoCir := r.f 9 31 8 }

/-- After a binding is set or ended: tunnels are closed and opened afresh, and HPD is signalled (R389, R405). -/
def State.rebind (s : State) (p : Nat) (b : Option Binding) : State :=
  let was := (s.dk p).hpd
  let s := (s.closeDesk p 0).modDk p fun x => { x with binding := b }
  let s := (s.openDesk p).refreshHpd p
  let s := if was && (s.dk p).hpd then s.attention p true else s
  s.presentEdid p

/-- DESK_BIND (R405, R409). -/
def execDeskBind (s : State) : Host.Outcome State Fault Refusal :=
  runCmd 0x5020 s fun r s =>
    let p := r.f 0 31 30
    if (s.dk p).data.peripheral then (s, failR 0x40)
    else if bitAt (r.w 0) 29 then
      match (s.dk p).binding with
      | none => (s, okR)
      | some b => ((s.rebind p none).raise 207 [(p, 2), (0, 1), (b.tenant, 16)], okR)
    else
      let b := readBinding r
      let clamped := r.f 4 31 30 == 3
      if b.video = 1 ∧ !(s.hd b.head.val).cfg.bufferOk b.addr b.stride b.w b.h then (s, failR 0x40)
      else ((s.rebind p (some b)).raise 207 [(p, 2), (1, 1), (b.tenant, 16)], okC clamped)

/-- DESK_DATA_STATUS (R410). -/
def execDeskDataStatus (s : State) : Host.Outcome State Fault Refusal :=
  runCmd 0x5002 s fun r s =>
    let p := r.f 0 31 30
    let x := s.dk p
    let up := match x.netTun with | some i => s.tunIsUp i | none => false
    let ds := pack [(x.dev.code, 8), ((x.mp 5).st, 4), ((x.mp 4).st, 4), ((x.mp 3).st, 4), ((x.mp 2).st, 4), ((x.mp 1).st, 4), ((x.mp 0).st, 4)]
    let ws := pack [(b2n x.roleHeld, 1), (b2n x.alt, 1), (x.pin, 2), (x.sink, 2), (x.dpRate, 3), (x.usb, 3), (b2n x.binding.isSome, 1), (b2n up, 1)] ::
      ds :: pack [(x.srcW, 16), (x.srcH, 16)] :: x.c.toList.map wd
    (if bitAt (r.w 0) 0 then s.modDk p fun x => { x with c := Vector.replicate 5 0 } else s, okR ws)

/-! ### Records -/

/-- The desk port data record (R406). -/
def recDeskData (s : State) : RdM State := do
  let p ← rdR 0 31 30
  let per ← rdB 0 29
  let dp ← rdB 0 28
  let mp ← rdB 0 27
  let ncm ← rdB 0 26
  let rate ← rdE 0 25 23 (· ≤ 5) 5
  let tenant ← rdR 0 15 0
  let top := s.sys.hubBase / mib
  let base ← rdC 1 31 16 0 top
  let size ← rdC 1 15 8 0 (Nat.min 128 (top - base))
  let lines ← rdR 1 7 0
  let old := (s.dk p).data
  let d : DeskDataCfg := { peripheral := per, dpEn := dp, multiPref := mp, ncmEn := ncm, maxDpRate := rate, tenant := tenant, capBase := base,
                           capMib := size, refreshLines := lines }
  let changed := old.peripheral != per || old.dpEn != dp || old.multiPref != mp || old.maxDpRate != rate
  let recover := changed && s.up && (s.dk p).st != .deadSink && (s.dk p).st != .disabled && (s.dk p).st != .fault
  let s := if recover then s.leaveAttach p .errorRecovery else s
  let s := s.modDk p fun x => { x with data := d }
  pure (s.refreshHpd p)

/-- The USB map record: the mapped port shows disconnected, its tunnel is closed, and the new map applies (R402, R407). -/
def recUsbMap (s : State) : RdM State := do
  let p ← rdR 0 31 30
  let ds ← rdE 0 29 27 (2 ≤ ·) 2
  let hub ← rdR 0 15 0
  let kind ← rdF 0 26 25 fun v => if v = 3 then 0 else if v = 2 ∧ hub = 0 then 0 else v
  let far ← rdR 0 24 23
  let cir ← rdC 1 31 8 0 312500
  let k := ds - 2
  let s := (s.closeMp p k 0).modMp p k fun m => { m with map := { kind := kind, farPort := far, farHub := hub, cir := cir } }
  pure (s.connectMp p k)

end Sys2Proof.Machine
end

