-- ==== Sys2Proof/Machine/Directory.lean ====
section
/-!
DEFINITION. The endpoint directory of the ROOT (R280 to R282, R290, R296).
-/

namespace Sys2Proof.Machine

/-- Records the directory has room for (R280). -/
def State.dirCapacity (s : State) : Nat := Nat.min (s.dir.cfgMib * 32768) 8388608

/-- The words of a record (R281). -/
def DirRec.words (d : DirRec) : List Word :=
  [pack [(d.id, 24), (d.kind, 2), (b2n d.present, 1), (b2n d.barred, 1), (b2n d.shared, 1)],
   pack [(d.hub, 16), (d.port, 4), (d.node, 5), (d.ep, 6)], wd (d.mac / 65536), pack [(d.mac % 65536, 16), (d.tenant, 16)],
   pack [(d.type, 18)], wd d.seen] ++ wd2 d.label

/-- Change the record of an ID. -/
def State.modDir (s : State) (id : Nat) (f : DirRec → DirRec) : State := { s with dir.recs := modFirst (·.id == id) f s.dir.recs }

/-- CYCLE of the reference phase now, as SEEN holds it (R281). -/
def State.cycleNow (s : State) : Nat := s.phase.count / 262144

/-- A command of the directory runs only in ROOT role (R280). -/
def runDir (op : Nat) (s : State) (f : Waiting → State → State × Response) : Host.Outcome State Fault Refusal :=
  runCmd op s fun r s => if s.isRoot then f r s else (s, failR 0x40)

/-- DIR_GET: a TENANT sees only its own records (R52, R296). -/
def execDirGet (s : State) : Host.Outcome State Fault Refusal :=
  runDir 0x3201 s fun r s =>
    let id := r.f 0 23 0
    let rec? := (s.dirRec id).filter fun d => match s.srcTenant r.src with | some t => d.tenant == t | none => true
    (s.dirTouch id, okR ((rec?.map DirRec.words).getD (List.replicate 8 0)))

/-- MAC address in two words (R292). -/
def macAt (r : Waiting) (n : Nat) : Nat := (r.w n).toNat * 65536 + r.f (n + 1) 31 16

/-- DIR_FIND (R291). -/
def execDirFind (s : State) : Host.Outcome State Fault Refusal :=
  runDir 0x3202 s fun r s =>
    let d := s.dir.recs.find? fun d => d.kind == 1 && d.mac == macAt r 0 && d.ep == r.f 1 5 0
    (s, okR [pack [((d.map (·.id)).getD 0, 24)]])

/-- DIR_STATUS (R296). -/
def execDirStatus (s : State) : Host.Outcome State Fault Refusal :=
  runDir 0x3203 s fun _ s => (s, okR [wd s.dirCapacity, wd s.dir.recs.length, wd s.dir.hits, wd s.dir.misses])

/-- DIR_SET (R296). -/
def execDirSet (s : State) : Host.Outcome State Fault Refusal :=
  runDir 0x3210 s fun r s =>
    let id := r.f 0 31 8
    let kind := r.f 0 7 6
    let group := decide (0x800000 ≤ id)
    if kind = 0 ∨ kind = 3 ∨ group ≠ (kind == 2) then (s, failR 0x10)
    else if kind = 1 ∧ id < 0x10 then (s, failR 0x40)
    else
      let set := fun (d : DirRec) =>
        { d with tenant := r.f 3 15 0, shared := bitAt (r.w 0) 3, barred := kind == 1 && bitAt (r.w 0) 4, label := u64At r.data 6 }
      match s.dirRec id with
      | some d => (s.modDir id set, okR (set d).words)
      | none =>
        if s.dirCapacity ≤ s.dir.recs.length then (s.raise 137 [(0, 16)], failR 0x40)
        else
          let d := set (if kind = 1 then { id := id, kind := 1, mac := macAt r 2, ep := r.f 1 6 1 } else { id := id, kind := 2 })
          ({ s with dir.recs := s.dir.recs ++ [d] }, okR d.words)

/-- DIR_DELETE (R296). -/
def execDirDelete (s : State) : Host.Outcome State Fault Refusal :=
  runDir 0x3211 s fun r s =>
    let id := r.f 0 23 0
    match s.dirRec id with
    | some d =>
      if d.kind == 1 && d.present then (s, failR 0x30)
      else ({ s with dir.recs := s.dir.recs.filter (·.id != id), dir.cache := s.dir.cache.filter (· != id) }, okR)
    | none => (s, okR)

/-! ### Reports -/

/-- Records other than `id` lose their claim on a place (R282). -/
def State.clearClaim (s : State) (id hub port node ep : Nat) : State :=
  { s with dir.recs := s.dir.recs.map fun (d : DirRec) =>
      if d.id != id && d.kind == 1 && d.hub == hub && d.port == port && d.node == node && d.ep == ep then
        { d with present := false, hub := 0, port := 0, node := 0 } else d }

/-- Bind one reported endpoint: the ID in force and its event, or 0 (R282, report cases). -/
def State.bindEp (s : State) (hub port node mac ep type hint : Nat) : State × Nat :=
  match s.dir.recs.find? fun d => d.kind == 1 && d.mac == mac && d.ep == ep with
  | some d =>
    if d.barred then (s.raise 136 [(d.id, 24), (3, 4)], 0)
    else
      let moved := d.hub != hub || d.port != port || d.node != node
      let s := (s.modDir d.id fun d => { d with present := true, hub := hub, port := port, node := node, type := type, seen := s.cycleNow }).clearClaim
        d.id hub port node ep
      (if moved then s.raise 136 [(d.id, 24), (1, 4)] else s, d.id)
  | none =>
    let fits := decide (0x10 ≤ hint) && decide (hint < 0x800000) && (s.dirRec hint).isNone
    let id := if fits then some hint else leastFree (s.dir.recs.map (·.id)) 0x10 (s.dir.recs.length + 1)
    match id with
    | some i =>
      if s.dirCapacity ≤ s.dir.recs.length || 0x800000 ≤ i then (s.raise 137 [(hub, 16)], 0)
      else
        let d : DirRec := { id := i, kind := 1, present := true, hub := hub, port := port, node := node, ep := ep, mac := mac, type := type, seen := s.cycleNow }
        (({ s with dir.recs := s.dir.recs ++ [d] }.clearClaim i hub port node ep).raise 136 [(i, 24), (0, 4)], i)
    | none => (s.raise 137 [(hub, 16)], 0)

/-- The two response words of an endpoint (R296). -/
def State.bindWords (s : State) (id : Nat) : List Word :=
  let d := (s.dirRec id).getD {}
  if id = 0 then [0, 0] else [pack [(id, 24), (0, 7), (b2n d.shared, 1)], pack [(0, 16), (d.tenant, 16)]]

/-- Bind the endpoints of a report in index order (R282, R296). -/
def State.bindAll (s : State) (r : Waiting) (hub : Nat) : State × List Nat :=
  (List.range (r.f 0 5 0 + 1)).foldl (fun ((s, ids) : State × List Nat) e =>
    let (s, id) := s.bindEp hub (r.f 0 31 28) (r.f 0 27 23) (macAt r 1) e (r.f (3 + 2 * e) 31 14) (r.f (4 + 2 * e) 23 0)
    (s, ids ++ [id])) (s, [])

/-- The answer to a report reaches the hub: it keeps the IDs, writes EPID words that differ, and admits the node when every endpoint has
an ID (R282). -/
def State.takeIds (s : State) (g n : Nat) (ws : List Word) : State :=
  let x := (s.sg g).node n
  if x.st != .held || !x.reported then s
  else if ws.isEmpty then s.modNode g n fun x => { x with reported := false }
  else
    let eps := (List.range x.eps.length).map fun e =>
      let w := wordAt ws (1 + 2 * e)
      { x.eps.getD e {} with id := fld w 31 8, shared := bitAt w 0, tenant := fld (wordAt ws (2 + 2 * e)) 15 0 }
    let s := s.modNode g n fun x => { x with eps := eps }
    let s := (List.range eps.length).foldl (fun s e =>
      let p := eps.getD e {}
      if p.hint = p.id then s else s.rmQueue g [{ cmd := .write, node := n, ep := e, addr := 2, count := 2, words := [p.id / 4096, p.id % 4096] }]) s
    if eps.all (·.id != 0) then s.setNode g n .admitted else s

/-- DIR_REPORT: run at the ROOT; with `ans`, the ROOT's answer reaches this hub for a node (R282, R296). -/
def execDirReport (ans : Option (Fin 16 × BitVec 5 × List Word)) (s : State) : Host.Outcome State Fault Refusal :=
  match ans with
  | some (g, n, ws) => .next (s.takeIds g.val n.toNat ws)
  | none =>
    runDir 0x3240 s fun r s =>
      let hub := s.peerHub r.src
      let (s, ids) := s.bindAll r hub
      let ws := pack [(0, 16), ((ids.filter (· == 0)).length, 16)] :: (ids.map s.bindWords).flatten
      (if r.src = .self then s.takeIds (r.f 0 31 28) (r.f 0 27 23) ws else s, okR ws)

/-- DIR_GONE: PRESENT is cleared on each record that still names the place (R282). -/
def execDirGone (s : State) : Host.Outcome State Fault Refusal :=
  runDir 0x3241 s fun r s =>
    let hub := s.peerHub r.src
    let at' := fun (d : DirRec) => d.kind == 1 && d.present && d.hub == hub && d.port == r.f 0 31 28 && d.node == r.f 0 27 23 && d.mac == macAt r 1
    let gone := s.dir.recs.filter at'
    let s := { s with dir.recs := s.dir.recs.map fun (d : DirRec) => if at' d then { d with present := false, seen := s.cycleNow } else d }
    (gone.foldl (fun s d => s.raise 136 [(d.id, 24), (2, 4)]) s, okR)

/-- The directory configuration record, read only in ROOT role; DIR_MIB takes effect at start-up (R290). -/
def recDir (s : State) : RdM State := do
  let mib ← rdC 0 31 16 16 256
  let lead ← rdC 0 15 8 4 255
  pure (if s.isRoot then { s with dir.cfgMib := if s.sys.stage == .starting then mib else s.dir.cfgMib, dir.sceneLead := lead } else s)

end Sys2Proof.Machine
end

