-- ==== Sys2Proof/Machine/CfgApply.lean ====
section
/-!
DEFINITION. Configuration records: the stream and its structural faults (R55 to R57), applying and clamping (R58, R59), the provisioned
record store (R520), and the power domains that follow the configuration (R512 to R514).
-/

namespace Sys2Proof.Machine

/-! ### Domains -/

/-- The power domain of trunk port `p`. -/
def trkDomain (p : Nat) : Nat := 5 + p

/-- What a domain that is switched on starts, its ports afresh (R512, R513). -/
def State.domainOn (s : State) (d : Nat) : State :=
  let s := { s with sys.domains := modAt s.sys.domains d fun _ => true }
  if 5 ≤ d ∧ d < 9 then
    (if (s.tp (d - 5)).st == .disabled && (s.tp (d - 5)).cfg.enable && !(s.tp (d - 5)).cmdDisabled then s.enterSearch (d - 5) (s.tp (d - 5)).cfg.maxRate 0 else s)
  else if d = 9 then s.refreshAuth
  else if d = 10 then (List.range 4).foldl (fun s p => if (s.dk p).st == .disabled then s.portAfresh p else s) s
  else if d = 13 then (List.range 16).foldl (fun s n => if (s.lp n).cfg.enable && (s.lp n).st == .off then s.afresh n else s) s.armLantern
  else s

/-- What a domain that is switched off stops: its ports are as disabled (R514). -/
def State.domainOff (s : State) (d : Nat) : State :=
  let s := { s with sys.domains := modAt s.sys.domains d fun _ => false }
  if 5 ≤ d ∧ d < 9 then
    (if (s.tp (d - 5)).st == .active then s.leaveActive (d - 5) 0 none
     else if (s.tp (d - 5)).st == .disabled then s
     else (s.setPort (d - 5) .disabled 0).modTp (d - 5) fun t => { t with lane := Vector.replicate 2 false, aligned := Vector.replicate 2 false, nb := none })
  else if d = 9 then ([0, 1].foldl (fun s p => (s.driveGone p).modPp p fun x => { x with linkGen := 0, lanes := 0 }) s).refreshAuth
  else if d = 10 then (List.range 4).foldl (fun s p => if (s.dk p).st == .disabled then s else s.leaveAttach p .disabled) s
  else if d = 11 then (List.range 4).foldl (fun s p => if (s.ep p).up then s.setEth p false (s.ep p).speed 2 else s) s
  else if d = 12 then s.displayDown
  else if d = 13 then (List.range 16).foldl (fun s n => if (s.lp n).st == .off then s else s.lpOff n) s
  else s

/-- Switch the domains that the configuration in force switches; a domain kept off or waiting stays off, in a dead-feed start no record
switches one, and the golden image runs the power path alone (R506, R513, R514, R559). -/
def State.syncDomains (s : State) : State :=
  if s.sys.start == 1 then s
  else
    (List.finRange 14).foldl (fun s d =>
      if d.val < 5 then s
      else
        let f := s.sys.faults[d.val]
        let want := s.domWanted d && !f.keptOff && !f.retry && (!s.upd.goldenRun || d.val == 13)
        if want = s.domOn d.val then s else if want then s.domainOn d.val else s.domainOff d.val) s

/-! ### Record types -/

/-- The identity record, in force from the next cold reset (R15, R16, R56); at start-up it is in force already (R520). -/
def recIdentity (s : State) : RdM State := do
  let _ ← rdR 0 31 16
  let _ ← rdC 0 15 8 1 64
  let _ ← rdF 0 1 0 fun v => if v = 3 then 2 else v
  pure s

/-- Assigned record types, their lengths in bytes, and what applying each does (R55, R57). -/
def recTable : List (Nat × Nat × (State → RdM State)) := [
  (0x0001, 4, recIdentity), (0x0100, 12, recPhase), (0x0101, 12, recTime), (0x0102, 4, recTrig), (0x0200, 16, recLink), (0x0201, 4, recRing),
  (0x0210, 8, recTunnel), (0x0220, 8, recFabric), (0x0221, 8, recVlProfile), (0x0300, 4, recLight), (0x0301, 4, recDir), (0x0310, 16, recExport),
  (0x0311, 8, recBridge), (0x0400, 20, recHead), (0x0401, 20, recMode), (0x0500, 8, recDesk), (0x0501, 4, recBudget), (0x0502, 8, recDeskData),
  (0x0503, 8, recUsbMap), (0x0580, 4, recPcie), (0x0581, 4, recFunc), (0x0582, 8, recNs), (0x0583, 20, recVolume), (0x0590, 12, recEth),
  (0x0591, 8, recVlan), (0x0600, 8, recFeed), (0x0601, 12, recLpPower), (0x0602, 4, recMeter), (0x0700, 4, recSec), (0x0780, 4, recUpd)]

/-- Length of a record type, none when it is not assigned. -/
def recLen (type : Nat) : Option Nat := (recTable.find? (·.1 == type)).map (·.2.1)

/-- A structural fault: the code and the index of the record (R57). -/
structure RecFault where
  /-- result code -/
  code : Nat := 0
  /-- record index -/
  index : Nat := 0
  deriving DecidableEq, Repr

/-- Read the records of a stream, at most `fuel`, from index `i` on (R55, R57). -/
def parseRecs : Nat → Nat → List Word → Except RecFault (List Rec)
  | 0, _, _ => .ok []
  | _ + 1, _, [] => .ok []
  | fuel + 1, i, h :: ws =>
    let type := fld h 31 16
    let len := fld h 15 0
    match recLen type with
    | none => .error { code := 0x10, index := i }
    | some n =>
      if len != n || decide (ws.length < n / 4) then .error { code := 0x11, index := i }
      else match parseRecs fuel (i + 1) (ws.drop (n / 4)) with
        | .error e => .error e
        | .ok rs => .ok ({ type := type, len := len, body := ws.take (n / 4) } :: rs)

/-- Read a whole stream. Only the OWNER may write a record: from another class the first record of a stream gives REFUSED_AUTHORITY,
whatever it holds (R57). -/
def parseStream (owner : Bool) (ws : List Word) : Except RecFault (List Rec) :=
  if !owner && !ws.isEmpty then .error { code := 0x20, index := 0 } else parseRecs ws.length 0 ws

/-! ### Applying -/

/-- Put a clamped value in its field of a body. -/
def Clamp.patch (body : List Word) (c : Clamp) : List Word :=
  let w := c.offset / 32
  let lo := c.offset % 32
  let hi := lo + c.width
  body.modify w fun x => wd (x.toNat / 2 ^ hi * 2 ^ hi + c.applied.toNat % 2 ^ c.width * 2 ^ lo + x.toNat % 2 ^ lo)

/-- Record types that hold a field taking effect at the next cold reset or function reset (R520). -/
def storedType (type : Nat) : Bool := [0x0001, 0x0220, 0x0301, 0x0580, 0x0581, 0x0700].contains type

/-- The object that a stored record names (R520). -/
def recObject (r : Rec) : Nat :=
  if r.type = 0x0580 then fld (wordAt r.body 0) 31 31 else if r.type = 0x0581 then fld (wordAt r.body 0) 31 27 else 0

/-- Keep a record, as applied, in the provisioned record store (R520). -/
def State.provision (s : State) (r : Rec) : State :=
  if storedType r.type then
    { s with sys.provStore := s.sys.provStore.filter (fun x => !(x.type == r.type && recObject x == recObject r)) ++ [r] }
  else s

/-- The domain whose port a record enables, which is then no longer kept off (R514). -/
def recEnables (r : Rec) : Option Nat :=
  let w := wordAt r.body 0
  if r.type = 0x0200 then (if bitAt w 29 then some (trkDomain (fld w 31 30)) else none)
  else if r.type = 0x0400 then (if bitAt w 30 then some 12 else none)
  else if r.type = 0x0500 then (if bitAt w 29 then some 10 else none)
  else if r.type = 0x0580 then (if fld w 30 29 < 2 then some 9 else none)
  else if r.type = 0x0590 then (if fld w 29 27 != 0 then some 11 else none)
  else if r.type = 0x0300 ∨ r.type = 0x0601 then (if bitAt w 27 then some 13 else none)
  else none

/-- A record that enables a port of a domain ends its being kept off (R514). -/
def State.release (s : State) (r : Rec) : State :=
  match recEnables r with
  | some d => { s with sys.faults := modAt s.sys.faults d fun f => if f.keptOff then {} else f }
  | none => s

/-- Apply one record: its new state, its clamps, and the record as applied (R58). -/
def State.applyRec (s : State) (index : Nat) (r : Rec) : State × List Clamp × Rec :=
  match recTable.find? (·.1 == r.type) with
  | none => (s, [], r)
  | some t =>
    let (s, rd) := (t.2.2 s).run { body := r.body, index := index, type := r.type }
    (s, rd.clamps, { r with body := rd.clamps.foldl Clamp.patch r.body })

/-- Apply records in stream order; those of CFG.APPLY are provisioned (R58, R520). -/
def State.applyRecs (s : State) (keep : Bool) : Nat → List Rec → State × List Clamp
  | _, [] => (s, [])
  | i, r :: rs =>
    let (s, cs, a) := s.applyRec i r
    let s := if keep then (s.provision a).release a else s
    let (s, cs') := s.applyRecs keep (i + 1) rs
    (s, cs ++ cs')

/-- The source holds OWNER authority. -/
def State.isOwner (s : State) : Source → Bool
  | .win i => (s.box i).auth == .owner
  | _ => false

/-- CFG_APPLY (R57 to R59, R513). -/
def execCfgApply (s : State) : Host.Outcome State Fault Refusal :=
  runCmd 0x0201 s fun r s =>
    match parseStream (s.isOwner r.src) r.data with
    | .error e => (s, failR e.code e.index)
    | .ok rs =>
      let (s, cs) := s.applyRecs true 0 rs
      (s.syncDomains, okC (!cs.isEmpty) (clampReport rs.length cs.length cs))

/-! ### Start-up -/

/-- The record of a type that a cold reset puts in force before either stream: the store's, else the image's (R520). -/
def bootRec (store image : List Rec) (type : Nat) : Option Rec :=
  match (store.filter (·.type == type)).getLast? with
  | some r => some r
  | none => (image.filter (·.type == type)).getLast?

/-- Put the role, the hub ID and the hub area in force (R15, R16, R517, R520). -/
def State.bootIdentity (s : State) (store image : List Rec) : State :=
  let w := ((bootRec store image 0x0001).map fun r => wordAt r.body 0).getD (pack [(0, 16), (64, 8), (0, 6), (2, 2)])
  let role := roleOf (fld w 1 0)
  let dirMib := match bootRec store image 0x0301 with
    | some r => clampN 16 256 (fld (wordAt r.body 0) 31 16)
    | none => 64
  let area := 64 * mib + (if role == .root then dirMib * mib else 0)
  { s with sys.role := role, sys.hubId := fld w 31 16, sys.depthLimit := clampN 1 64 (fld w 15 8), sys.hubBase := s.sys.memMiB * mib - area }

/-- Clamps that the boot clamp log holds (R60). -/
def clampLogSize : Nat := 1024

/-- Apply the configuration image, a record stream or none, and then the provisioned record store (R60, R520). -/
def State.bootConfig (s : State) (image : Option (List Word)) : State :=
  let (s, rs) := match image with
    | none => (s, [])
    | some ws =>
      match parseStream true ws with
      | .ok rs => (s, rs)
      | .error e =>
        ({ s with upd.cfgFault := true, sys.heldEvents := s.sys.heldEvents ++ [(12, pack [(e.code, 8), (e.index, 16)])] }, [])
  let s := s.bootIdentity s.sys.provStore rs
  let (s, c1) := s.applyRecs false 0 rs
  let (s, c2) := s.applyRecs false rs.length s.sys.provStore
  let cs := c1 ++ c2
  { s with mbx.clampLog := cs.take clampLogSize, mbx.clampCount := Nat.min cs.length max32 }

end Sys2Proof.Machine
end

