-- ==== Sys2Proof/Machine/Reset.lean ====
section
/-!
DEFINITION. Resets of the whole hub (R523 to R527): the choice of the image (R494, R495, R503, R505), cold start and dead-feed start (R371,
R372, R518 to R522), warm reset and warm start (R525), and the beginning and end of a control restart (R39, R49, R526).
-/

namespace Sys2Proof.Machine

/-! ### Fall-back -/

/-- Another component that an image slot holds, or the one it was delivered with. -/
def deliveredComp (cs : List Component) (id sub : Nat) : Component :=
  match compOf cs id sub with
  | some c => c
  | none => { id := id, sub := sub, svn := (Config.compSvn id sub).toNat, version := (Config.compVersion id sub).toNat, digest := (Config.compDigest id sub).toNat }

/-- Components that an image slot holds: those written into it, and otherwise those of delivery, which have no configuration image. -/
def State.slotImage (s : State) (i : Nat) : List Component :=
  let cs := s.slotComps i
  [deliveredComp cs 1 0, deliveredComp cs 2 0, deliveredComp cs 3 0] ++ ((List.range 5).map fun k => deliveredComp cs 4 k) ++ cs.filter (·.id == 6)

/-- The golden region's component. -/
def State.goldenComp (s : State) : Component := deliveredComp s.upd.golden 5 0

/-- An image slot is marked FAILED (R505). -/
def BootBlock.failed (b : BootBlock) (i : Nat) : Bool := if i = 0 then b.aFailed else b.bFailed

/-- Mark an image slot, or clear its mark. -/
def BootBlock.mark (b : BootBlock) (i : Nat) (v : Bool) : BootBlock := if i = 0 then { b with aFailed := v } else { b with bFailed := v }

/-- The slot that is not active. -/
def BootBlock.other (b : BootBlock) : Nat := 1 - b.active

/-- The fall-back image of the active slot: the former active slot, or 2, the golden image (R495). -/
def State.fallImage (s : State) : Nat := if s.upd.otherSlot && !s.boot.failed s.boot.other then s.boot.other else 2

/-- Fall back from the active slot: the trial ends, an image that never confirmed is marked FAILED, EV251 waits for DOM_MGMT, and the lease is
to be ended (R494, R505). -/
def State.fallBack (s : State) (cause : Nat) : State :=
  let b := s.boot
  let img := s.fallImage
  let s := s.putBoot fun b => { (if cause = 2 then b else b.mark b.active true) with
    trial := false, tries := 0, copyStep := 0, copyFails := 0, active := if img < 2 then img else b.active }
  { s with
    upd.pendFallback := some cause, upd.lastFallback := cause, upd.health := none, upd.otherSlot := s.upd.otherSlot && decide (2 ≤ img)
    upd.leaseEnd := s.upd.leaseEnd || (b.trial && s.upd.wasJoined) }

/-- Components that the in-place copies of a trial write, in order (R491, R495). -/
def State.copies (s : State) : List Component := compOrder (s.slotComps s.boot.other)

/-- The Stage loader's copies complete: each component replaces its place in the active slot, the golden region takes component 5 (R495). -/
def State.copyAll (s : State) : State :=
  let b := s.boot
  let todo := (s.copies).drop b.copyStep
  let s := todo.foldl (fun s c =>
    if c.id = 5 then (if s.upd.goldenRun then s else { s with upd.golden := [c] }) else { s with upd.slots := modAt s.upd.slots b.active (putComp c) }) s
  s.putBoot fun b => { b with copyStep := b.copyStep + todo.length, copyFails := 0 }

/-- A second-slot image brings its golden image to the golden region before it starts (R495). -/
def State.takeGolden (s : State) : State :=
  let a := s.boot.active
  match compOf (s.slotComps a) 5 0 with
  | none => s
  | some c => { s with upd.golden := [c], upd.slots := modAt s.upd.slots a fun cs => cs.filter (·.id != 5) }

/-- The component of an image whose digest fails at this start. -/
def badPart (x : StartInfo) (img : Nat) : Option Nat :=
  if img = 0 then x.badA else if img = 1 then x.badB else if x.badGolden then some 5 else none

/-- The image that the boot control block names. -/
def State.namedImage (s : State) : Nat := if s.boot.failed s.boot.active then s.fallImage else s.boot.active

/-- A start in trial: TRIES counts, the health timer starts unless it runs, and the third start falls back (R503, R505). -/
def State.tryStart (s : State) : State :=
  let b := s.boot
  if !b.trial then s
  else
    let s := s.putBoot fun b => { b with tries := bumpTo 15 b.tries 1 }
    let s := if s.upd.health.isNone then { s with upd.health := some b.healthS } else s
    if 3 ≤ s.boot.tries then s.fallBack 1 else s

/-- The copies of an in-place trial go on; three failures of one copy start the golden image (R495, R505). -/
def State.copyStart (s : State) (x : StartInfo) : State :=
  let b := s.boot
  if !b.trial then s
  else if !b.inPlace then s.takeGolden
  else if (s.copies).length ≤ b.copyStep then s
  else if 3 ≤ b.copyFails + x.copyFails then s.fallBack 3
  else s.copyAll

/-- Trailhead chooses the image: 0 slot A, 1 slot B, 2 golden, 3 none (R503, R505). -/
def State.chooseImage (s : State) (x : StartInfo) : State × Nat :=
  let s := s.tryStart.copyStart x
  let fail := fun (s : State) (img : Nat) => match badPart x img with
    | none => s
    | some id => (s.logErr 10 id 4 251 2)
  let img := s.namedImage
  if 2 ≤ img then (if (badPart x 2).isSome then (fail s 2, 3) else (s, 2))
  else if (badPart x img).isNone then (s, img)
  else
    let s := (fail s img).fallBack 2
    let img := s.namedImage
    let img := if img < 2 && (badPart x img).isSome then 2 else img
    if (badPart x img).isNone then (s, img) else (fail s 2, 3)

/-! ### What a cold reset keeps -/

/-- Everything at its reset value but what R524 and R527 keep: lifecycle, OTP, stored slots and flash, the tamper log and latch, AON seconds,
the health timer and the feed selection. -/
def State.coldBase (s : State) (cause : Nat) : State :=
  let z := State.reset
  let v : Vault := { z.vault with
    records := s.vault.records, idRoot := s.vault.idRoot, devCert := s.vault.devCert, certs := s.vault.certs, deny := s.vault.deny
    slots := Vector.ofFn fun i => if storedSlot i.val then s.vault.slots[i.val] else {}
    log := s.vault.log, alarm := s.vault.alarm, active := s.vault.active, alarmAt := s.vault.alarmAt, unstable := s.vault.unstable
    cfg := s.vault.cfg }
  let u : Upd := { z.upd with
    boot := s.upd.boot, slots := s.upd.slots, golden := s.upd.golden, lastFallback := s.upd.lastFallback, health := s.upd.health
    wasJoined := s.upd.wasJoined, pendFallback := s.upd.pendFallback, leaseEnd := s.upd.leaseEnd, otherSlot := s.upd.otherSlot }
  let d : Diag := { z.diag with plog := s.diag.plog, nextSeq := s.diag.nextSeq, repairs := s.diag.repairs, boots := s.diag.boots }
  let p : Power := { z.pwr with
    feedCfg := s.pwr.feedCfg, feed := s.pwr.feed.map (fun (x : Feed) => if x.st == FeedState.fetFault then ({ mv := x.mv } : Feed) else x), selected := s.pwr.selected, forced := s.pwr.forced, sw := s.pwr.sw, swTo := s.pwr.swTo
    swCause := s.pwr.swCause, warn := s.pwr.warn, warnLead := s.pwr.warnLead, uvLeft := s.pwr.uvLeft, forceTo := s.pwr.forceTo
    revertRun := s.pwr.revertRun, busMv := s.pwr.busMv }
  let k : Desk := { z.desk with port := s.desk.port.map fun (x : DeskPort) =>
    { ({} : DeskPort) with cc := x.cc, vbusMv := x.vbusMv, discharge := x.discharge || x.vbusOn, attachHeld := x.attachHeld || x.vbusOn } }
  let vols := s.stor.vol.map fun (x : Volume) =>
    { ({} : Volume) with keyed := x.keyed, nsid := x.nsid, start := x.start, count := x.count, port := x.port, tenant := x.tenant }
  { z with
    pending := s.pending, outbox := s.outbox, free := s.free, vault := v, upd := u, diag := d, pwr := p, desk := k, stor.vol := vols
    sys.cause := cause, sys.aonS := s.sys.aonS, sys.clk32 := s.sys.clk32, sys.provStore := s.sys.provStore
    sys.domains := Vector.ofFn fun i => i.val == 0 }

/-! ### Tamper records -/

/-- Write a tamper record, newest first, 16 at most (R485). -/
def State.tamperRec (s : State) (source whn response : Nat) : State :=
  let r : TamperRec := { source := source, whn := whn, response := response, aonS := s.sys.aonS,
                         stamp := if s.sys.stage == .off || s.sys.stage == .aonReset then 0 else s.now }
  { s with vault.log := (r :: s.vault.log).take 16, vault.cTamper := bump s.vault.cTamper }

/-- A source's alarm erases the slot store (R483, R487). -/
def State.erases (s : State) (source : Nat) : Bool := decide (source < 4) && s.vault.cfg.erase.testBit source

/-- An alarm before the vault has loaded the slot store: start-up goes on with the vault LOCKED (R483). -/
def State.startAlarm (s : State) (source : Nat) : State :=
  let erase := s.erases source
  let resp := 2 + (if erase then 4 else 0)
  let s := s.tamperRec source 1 resp
  let s := { s with vault.locked := true, vault.ready := false, vault.alarm := modAt s.vault.alarm source fun _ => true,
                    vault.active := modAt s.vault.active source fun _ => true }
  let s := s.holdStart 242 [(source, 8), (1, 4), (resp, 4)]
  if erase then (s.eraseStore).holdStart 246 [(1, 1), (0, 16)] else s

/-! ### Cold start -/

/-- Measure what Trailhead loads: M6, M0 and M3 (R472). What a golden image measures is not stated, so its digests are free values. -/
def State.measureBoot (s : State) (img : Nat) : State :=
  let s := s.extend 6 s.measuredState
  if 2 ≤ img then
    [0, 3, 1, 2, 4].foldl (fun s i => let (v, t) := s.draw; t.extend i (wordsOf v 12)) s
  else (s.extendDigest 0 (deliveredComp (s.slotComps img) 1 0).digest).extendDigest 3 (deliveredComp (s.slotComps img) 3 0).digest

/-- Measure the Main bundle and the PHY images: M1, M2 and M4 in ascending order (R472, R519 step 5). -/
def State.measureMain (s : State) (img : Nat) : State :=
  if 2 ≤ img then s
  else
    let d := (deliveredComp (s.slotComps img) 2 0).digest
    let s := (s.extend 1 (wordsOf (Config.bundlePart d 0) 12)).extend 2 (wordsOf (Config.bundlePart d 1) 12)
    ((s.slotImage img).filter (·.id == 4)).foldl (fun s c => s.extendDigest 4 c.digest) s

/-- The configuration image of the image that starts. -/
def State.configImage (s : State) (img : Nat) : Option Component := if 2 ≤ img then none else compOf (s.slotComps img) 6 0

/-- Apply the repair table (R552). -/
def State.applyRepairs (s : State) : State :=
  s.diag.repairs.foldl (fun s r =>
    if r.kind = 2 then { s with trunk := modAt s.trunk (r.unit / 2) fun t => { t with retired := modAt t.retired (r.unit % 2) fun _ => true } }
    else
      let row := (r.unit / 1024, r.unit % 1024)
      match r.spare with
      | some k => { s with fwd.sparedRows := s.fwd.sparedRows ++ [row], fwd.spares := modAt s.fwd.spares row.1 fun n => Nat.max n (k + 1) }
      | none => { s with fwd.retiredRows := s.fwd.retiredRows ++ [row] }) s

/-- A ROOT takes the stored GEN plus 1 and writes it back; without a valid block it takes 1 (R87). -/
def State.nextGen (s : State) : State :=
  if !s.isRoot then s
  else
    let g := match s.bootCopy with | some _ => (s.boot.gen + 1) % 65536 | none => 1
    { s.putBoot fun b => { b with gen := g } with phase.gen := g }

/-- DOM_VAULT starts: the image is chosen and measured, the vault's own keys are derived and the slot store is loaded, unless an alarm
stands (R519 steps 1 and 2). The image: 0, 1, 2 golden, 3 none. -/
def State.vaultStart (s : State) (x : StartInfo) : State × Nat :=
  let s := { s with sys.domains := modAt s.sys.domains 1 fun _ => true, vault.locked := s.vault.locked || s.vault.alarm.toList.any id }
  let (s, img) := s.chooseImage x
  if 3 ≤ img then ({ s with upd.dead := true }, img)
  else
    let s := { s.measureBoot img with upd.goldenRun := img == 2, upd.running := if img = 2 then [s.goldenComp] else s.slotImage img }
    let s := if s.vault.locked || s.lifecycle == .blank then s else s.deriveBase
    (s.loadStore x.badKeys, img)

/-- DOM_MGMT starts: what waited for it is held for the end of start-up (R503, R505, R519 steps 3 and 4). -/
def State.mgmtStart (s : State) (img : Nat) : State :=
  let s := { s with sys.domains := modAt s.sys.domains 2 fun _ => true }
  let b := s.boot
  let s := if b.trial then s.holdStart 249 [(b.active, 1), (b.tries, 8)] else s
  match s.upd.pendFallback with
  | some c =>
    let s := { s with upd.pendFallback := none }.holdStart 251 [(c, 8), (img, 2)]
    if c = 2 then s else s.logErr 10 0 4 251 c
  | none => s

/-- Steps 5 and 6: measure the rest, put the configuration in force on top of the defaults, derive the attestation key (R473, R519, R520). -/
def State.configure (s : State) (img : Nat) : State :=
  let s := s.measureMain img
  let image := s.configImage img
  let s := match image with | some c => s.extendDigest 5 c.digest | none => s
  let s := { s with vault.cfg := {}, pwr.feedCfg := {} }.bootConfig (image.map fun (c : Component) => c.config)
  if s.vault.locked then s else s.deriveAttest

/-- Step 7: repairs, the ROOT's new GEN, and the domains that the configuration requires (R87, R519, R552). -/
def State.domainsStart (s : State) : State :=
  let s := (s.applyRepairs).nextGen
  if s.upd.goldenRun then s.syncDomains else ({ s with sys.domains := modAt s.sys.domains domFabric fun _ => true }).syncDomains

/-- The image that runs, as `vaultStart` numbers it. -/
def State.runImage (s : State) : Nat := if s.upd.goldenRun then 2 else s.boot.active

/-- DOM_MEM comes on (R519 step 4). -/
def State.memStart (s : State) : State := { s with sys.domains := modAt s.sys.domains 3 fun _ => true }

/-- START of SYS.STATUS outside a dead-feed start (R537). -/
def State.startKind (s : State) : Nat := if s.upd.goldenRun then 2 else 0

/-- Cold start with a feed selected (R519). -/
def State.fedStart (s : State) (x : StartInfo) : State :=
  let (s, img) := s.vaultStart x
  if 3 ≤ img then s
  else
    let s := ({ s with sys.start := s.startKind }).mgmtStart img
    if s.lifecycle == .blank then s else ((s.memStart).configure img).domainsStart

/-- VBUS lies in vSafe5V (R371). -/
def DeskPort.safe5V (x : DeskPort) : Bool := decide (4750 ≤ x.vbusMv) && decide (x.vbusMv ≤ 5500)

/-- Step 2 onward of a dead-feed start at 7.5 W or more: DOM_MEM and the other domains stay off (R372, R522). -/
def State.deadRun (s : State) (x : StartInfo) : State :=
  let (s, img) := s.vaultStart x
  if 3 ≤ img then s
  else
    let s := s.mgmtStart img
    let s := match s.desk.service with | some p => s.holdStart 199 [(p.val, 2), (1, 1)] | none => s
    if s.lifecycle == .blank then s else s.configure img

/-- Dead-feed start: the service port is the lowest port at vSafe5V, and the other ports are DISABLED (R371, R372, R522). -/
def State.deadStart (s : State) (x : StartInfo) : State :=
  match (List.finRange 4).find? fun p => (s.dk p.val).safe5V with
  | none => s
  | some p =>
    let port := Vector.ofFn fun (i : Fin 4) => let d := s.desk.port[i.val]; if i = p then { d with st := .deadSink } else { d with st := .disabled }
    let s := { s with sys.start := 1, desk.service := some p, desk.port := port, sys.domains := modAt s.sys.domains 10 fun _ => true }
    if s.desk.level = 0 then s else s.deadRun x

/-- DOM_AON has started, or a cold reset goes on: start-up begins (R519, R522). -/
def State.coldStart (s : State) (x : StartInfo) : State :=
  let s := { s with sys.stage := .starting, diag.boots := bumpTo 65535 s.diag.boots 1 }
  if s.pwr.selected.isSome then s.fedStart x else s.deadStart x

/-- A cold reset of the whole hub with a cause, and the cold start that follows (R523, R527). The level of a dead-feed start stays what the
source advertises. -/
def State.coldReset (s : State) (cause : Nat) (x : StartInfo) : State :=
  ({ s.coldBase cause with desk.level := s.desk.level }).coldStart x

/-! ### Warm reset -/

/-- Every mailbox and event queue is emptied; masks and enables stay and SEQ counts on, since only a cold reset or a
function reset restores them (R45, R62, R527). -/
def State.emptyBoxes (s : State) : State :=
  { s with
    mbx.boxes := s.mbx.boxes.map fun (m : Mailbox) => { mask := m.mask, evqIe := m.evqIe, doneIe := m.doneIe, seqNext := m.seqNext }
    diag.stopped := Vector.replicate 12 false, mbx.running := none, mbx.waiting := [], mbx.restart := false, mbx.heldEvents := [], mbx.heldLost := [], mbx.rate := []
    mbx.spiIgnore := false, mbx.spiSdo := false, mbx.pcieRead := none }

/-- Cells in the hub are lost, the forwarding entries stay, and their resequencers start afresh (R527). -/
def State.emptyFabric (s : State) : State :=
  { s with
    fwd.entries := s.fwd.entries.map fun (e : FwdEntry) => { e with data := {}, status := {} }
    fwd.queues := (s.fwd.queues.filter fun (q : Queue) => !q.freeing).map fun (q : Queue) =>
      { q with cells := [], closed := false, drainIds := [], deficit := 0, deficit2 := 0 }
    fwd.egress := s.fwd.egress.map fun (_ : Egress) => ({} : Egress)
    fwd.cut := [], fwd.localUsed := Vector.replicate 16 0, fwd.sharedUsed := 0, fwd.sharedLow := false, fwd.blocked := [], fwd.outRows := []
    fwd.barriers := [], fwd.barrierDone := [], fwd.bgen := 0 }

/-- Trunk links go down, with their records, retired lanes and counters kept, and the hub leaves the tree (R23, R187, R250, R527). -/
def State.treeDown (s : State) : State :=
  let s := { s with
    trunk := s.trunk.map fun (t : TrunkPort) => { ({} : TrunkPort) with cfg := t.cfg, cmdDisabled := t.cmdDisabled, retired := t.retired, c := t.c }
    phase.lastDepth := if s.joined then s.topo.depth else s.phase.lastDepth
    topo := { everJoined := s.topo.everJoined, lastRefusal := s.topo.lastRefusal }
    ring := s.ring.map fun (r : Ring) => { ({} : Ring) with on := r.on, portA := r.portA, portB := r.portB, wtr := r.wtr, switches := r.switches }
    tun.quarantine := s.tun.quarantine ++ (s.tun.rootTuns.map fun (t : RootTun) => t.number), tun.rootTuns := [], tun.rates := [] }
  let s := ((s.closeAll 4).forgetEpochs).forgetReports
  ({ s with allot.reports := [], allot.requests := [], allot.applied := false, allot.numbered := false, fwd.barrierDone := [] }).loseGuyline

/-- Self-tests are cut short and leave no result; a port whose calibrator ran goes on as if it had not been tested (R452, R542). -/
def State.cutTests (s : State) : State :=
  let s := { s with diag.tests := [], diag.calQueue := Vector.replicate 4 [] }
  (List.range 16).foldl (fun s n =>
    let x := s.lp n
    let s := s.modLp n fun x => { x with calRun := false, calForTest := false, latchAfter := false }
    if x.latchAfter then s.setLp n .latched else s) s

/-- A warm reset: mailboxes emptied, tree left, desk ports to ERROR_RECOVERY, heads to restart at a frame start, segments to restart; outputs
that are ON stay ON (R527). The warm start is a row of its own. -/
def State.warmReset (s : State) (cause : Nat) : State :=
  let warm := if cause = 9 then s.sys.warm else bumpTo 65535 s.sys.warm 1
  let s := { s with sys.stage := .warmStart, sys.cause := cause, sys.resetDue := none, sys.heldEvents := [], sys.warm := warm }.emptyBoxes
  let s := (s.treeDown).emptyFabric
  let s := { s.endSession 4 with vault.arm := none }
  let s := (List.range 4).foldl (fun s p => if (s.dk p).st == .disabled || (s.dk p).st == .deadSink then s else s.leaveAttach p .errorRecovery) s
  let s := (List.range 16).foldl (fun s g => s.setSeg g .off 0) s
  let s := { s with
    disp.head := s.disp.head.map fun (h : Head) => if h.st == HeadState.run then { h with restart := true, hpdWait := [] } else { h with hpdWait := [] }
    bridge.dr := [], bridge.out := [], bridge.seqs := [], bridge.far := [], bridge.wait := [], bridge.port := [], light.reports := [] }
  s.cutTests

/-- The warm start's end of the reset: the configuration in force is restored, and its domains and links start again (R525, R527). -/
def State.warmStart (s : State) : State :=
  let on := fun (d : Vector Bool 14) (k : Nat) => modAt d k fun _ => true
  let s := { s with sys.stage := .starting }
  if s.sys.start == 1 || s.lifecycle == .blank then { s with sys.domains := on (on s.sys.domains 1) 2 }
  else
    let ds := on (on (on s.sys.domains 1) 2) 3
    let s := { s with sys.domains := if s.upd.goldenRun then ds else on ds domFabric }
    let s := s.syncDomains
    let s := (List.range 4).foldl (fun s p => if s.domOn (trkDomain p) && (s.tp p).st == .disabled then s.restartPort p else s) s
    (List.range 16).foldl (fun s g => s.refreshSegment g 0) s

/-- A wake source ends Bivouac, or the entry to it: a warm start with cause 9 follows (R532, R533). -/
def State.wakeFrom (s : State) (source : Nat) : State :=
  { s.warmReset 9 with sys.wakeSource := some source, sys.bivLight := false, sys.wakeMask := 0, sys.wakeTimer := 0, sys.heldEvents := s.sys.heldEvents }

/-! ### Control restart -/

/-- An ALLOT.STAGE that has run and is not yet answered is ABORTED, and stages nothing (R250). -/
def State.abortStage (s : State) : State :=
  match s.mbx.running with
  | some x => if x.req.opcode = 0x2310 && x.resp.isSome && s.allot.undo.isSome then (s.unstage).respond (failR 0x51) else s
  | none => s

/-- A control restart begins: mailboxes go OFFLINE, the update session ends and an armed lifecycle change lapses (R39, R174, R476, R496, R526). -/
def State.restartBegin (s : State) : State :=
  if s.mbx.restart || !s.up then s
  else
    let s := { s with
      mbx.restart := true, mbx.saved := s.mbx.boxes.map fun (m : Mailbox) => m.st
      mbx.boxes := s.mbx.boxes.map fun (m : Mailbox) => { m with st := .offline }
      sys.restarts := bumpTo 65535 s.sys.restarts 1, sys.resetDue := none, vault.arm := none }
    ((s.markOpenings).abortStage).endSession 3

/-- Write the events held during the restart, in order, and lose those beyond the buffer. A queue that lost events and has room gets its
EV001 at once (R48, R49; log entry 162). -/
def State.releaseHeld (s : State) : State :=
  let hs := s.mbx.heldEvents
  let lost := s.mbx.heldLost
  let s := { s with mbx.heldEvents := [], mbx.heldLost := [] }
  let s := hs.foldl (fun s h => s.deliver h.event h.data h.stamp h.dest) s
  let s := lost.foldl (fun s h => s.loseEvent h.event h.dest) s
  (List.finRange 38).foldl (fun s i => s.modBox i (·.flushLost s.now)) s

/-- Answer the command that runs: write the response area, or send the answer, and free the MC (R38, R39, R40). -/
def State.finish (s : State) (q : Waiting) (r : Response) : State :=
  let s := { s with mbx.running := none }
  match q.src with
  | .win i =>
    let m := s.box i
    if m.discard then s.modBox i fun m => { m with discard := false }
    else
      let words := pack [(q.opcode, 16), (4 * r.data.length, 16)] :: q.tag :: pack [(r.detail, 16), (0, 8), (r.result, 8)] :: r.data
      let s := s.modBox i fun m => { m with
        st := .done, lastResult := r.result, donePend := true
        respArea := (List.range words.length).map fun k => (k, wordAt words k) }
      if hasWindow i then s else s.send (.frame i (frameBytes 0x02 words))
  | .peer _ _ => s.send (.answer q.src q.opcode q.tag.toNat r.result r.detail r.data)
  | .self => s

/-- A control restart ends: the command that ran is ABORTED unless its effect was complete, the mailboxes return to their states, the held
events are written and EV002 follows with its later stamp, and what waited for the restart goes on. An ALLOT.REQUEST that ran is refused with 0x09
(R39, R49, R174, R179, R223, R250, R253). -/
def State.restartEnd (s : State) : State :=
  if !s.mbx.restart then s
  else
    let s := { s with diag.stopped := modAt s.diag.stopped 0 (fun _ => false), mbx.restart := false, mbx.boxes := Vector.ofFn fun i => { s.box i with st := s.mbx.saved[i.val], restarted := true } }
    let s := match s.mbx.running with
      | some x =>
        match x.resp with
        | some r => s.finish x.req r
        | none =>
          if x.req.opcode = 0x2340 then
            let s := if x.req.src == Source.self then s.changeAnswered (x.req.f 0 31 12) 9 else s
            s.finish x.req (denyR 9 [pack [(9, 8)], 0, 0])
          else (s.abortEp).finish x.req (failR 0x51)
      | none => s
    let s := s.releaseHeld.raise 2 []
    let s : State := { (s.abortOpenings).nameHeld with sched.lastFired := [] }
    let s := s.tun.table.foldl (fun s t => if t.offer.isSome then (s.dropOffer t.idx true).offerRekey t.idx else s) s
    let s := s.hpdResume
    let reports := s.allot.reports
    let dones := s.light.reports
    let bars := s.fwd.barrierDone
    let s := { s with allot.reports := [], light.reports := [], fwd.barrierDone := [] }
    let s := reports.foldl (fun s ws => s.sendRoot 0x2341 ws) s
    let s := dones.foldl (fun s ws => s.sendRoot 0x3140 ws) s
    let s := bars.foldl (fun s w => s.sendRoot 0x2241 [w]) s
    s.startNext

end Sys2Proof.Machine
end

