-- ==== Sys2Proof/Machine/Faults.lean ====
section
/-!
DEFINITION. Errors, self-tests and logs (18_faults.md): the results of row, lane and calibrator tests (R541 to R547), memory, table and engine
errors (R548, R549), the persistent log (R551), and the DIAG commands (R554 to R556).
-/

namespace Sys2Proof.Machine

/-! ### Tests -/

/-- The test of a unit that runs. -/
def State.testOf (s : State) (kind unit : Nat) : Option UnitTest := s.diag.tests.find? fun t => t.kind == kind && t.unit == unit

/-- A test has ended: it leaves the list, its outcome is logged, and EV013 goes to the mailbox that asked for it (R550, R555, R556). -/
def State.testEnds (s : State) (t : UnitTest) (cls logUnit outcome event detail : Nat) : State :=
  let s := { s with diag.tests := s.diag.tests.filter fun (x : UnitTest) => !(x.kind == t.kind && x.unit == t.unit) }
  let s := s.logErr cls logUnit outcome event detail
  match t.src with
  | some src => s.raise 13 [(t.kind, 4), (t.unit, 16), (outcome, 4)] (.only src)
  | none => s

/-- Put an entry in the repair table, in place of the unit's own (R552). -/
def State.repair (s : State) (r : Repair) : State :=
  { s with diag.repairs := s.diag.repairs.filter (fun (x : Repair) => !(x.kind == r.kind && x.unit == r.unit)) ++ [r] }

/-- The repair table entry of a unit. -/
def State.repairOf (s : State) (kind unit : Nat) : Option Repair := s.diag.repairs.find? fun r => r.kind == kind && r.unit == unit

/-- Remove a unit's repair table entry (R555). -/
def State.unrepair (s : State) (kind unit : Nat) : State :=
  { s with diag.repairs := s.diag.repairs.filter fun (x : Repair) => !(x.kind == kind && x.unit == unit) }

/-- A row is in use again, or out of use for good. -/
def State.rowBack (s : State) (row : Nat × Nat) : State := { s with fwd.outRows := s.fwd.outRows.filter (· != row) }

/-- A lasting fault of a row: it is mapped to the lowest free spare of its bank, or retired (R544). -/
def State.rowLasting (s : State) (bank row : Nat) : State × Nat :=
  let k := s.fwd.spares.getD bank 8
  let u := rowUnit bank row
  if k < 8 then
    (({ s with fwd.spares := modAt s.fwd.spares bank (· + 1), fwd.sparedRows := s.fwd.sparedRows.filter (· != (bank, row)) ++ [(bank, row)] }).repair
      { kind := 1, unit := u, spare := some k }, 1)
  else
    ((({ s with fwd.sparedRows := s.fwd.sparedRows.filter (· != (bank, row)), fwd.retiredRows := s.fwd.retiredRows ++ [(bank, row)] }).repair
      { kind := 1, unit := u, spare := none }).sharedCheck, 2)

/-- ROW_TEST_DONE: a row that passes returns to use, unless an error has it tested a second time within 24 h; otherwise it is spared or retired,
with EV065. A test of DIAG.RESTORE that passes removes the repair (R543, R544, R555). -/
def execRowTestDone (bank : Fin 64) (row : Fin 1024) (pass : Bool) (s : State) : Host.Outcome State Fault Refusal :=
  let u := rowUnit bank.val row.val
  let at_ := (bank.val, row.val)
  match s.testOf 1 u with
  | none => .next s
  | some t =>
    let ev := fun (s : State) (o : Nat) => s.raise 65 [(bank.val, 6), (row.val, 10), (o, 2)]
    if t.restore then
      (if pass then
        let s := { (s.unrepair 1 u).rowBack at_ with fwd.retiredRows := s.fwd.retiredRows.filter (· != at_), fwd.sparedRows := s.fwd.sparedRows.filter (· != at_) }.sharedCheck
        .next ((ev s 0).testEnds t 1 bank.val 1 65 row.val)
      else .next (s.testEnds t 1 bank.val (if (s.repairOf 1 u).any (·.spare.isSome) then 2 else 3) 255 row.val))
    else
      let again := t.src.isNone && s.diag.passedRows.any fun p => p.1 == u && decide ((s.sys.aonS + 2 ^ 32 - p.2) % 2 ^ 32 < 86400)
      let s := s.rowBack at_
      if pass && !again then
        .next ((ev { s with diag.passedRows := (u, s.sys.aonS) :: s.diag.passedRows.filter (·.1 != u) } 0).testEnds t 1 bank.val 1 65 row.val)
      else
        let (s, o) := s.rowLasting bank.val row.val
        .next ((ev s o).testEnds t 1 bank.val (o + 1) 65 row.val)

/-- LANE_TEST_DONE: a lane that passes may run SEARCH again; one that fails is retired. A test of DIAG.RESTORE that passes removes the repair
(R545, R546, R555). -/
def execLaneTestDone (port : Fin 4) (lane : Fin 2) (pass : Bool) (s : State) : Host.Outcome State Fault Refusal :=
  let u := laneUnit port.val lane
  match s.testOf 2 u with
  | none => .next s
  | some t =>
    if pass then
      let s := if t.restore then (s.unrepair 2 u).modTp port.val fun x => { x with retired := updAt x.retired lane fun _ => false } else s
      .next (s.testEnds t 2 u 1 255 0)
    else .next ((if t.restore then s else s.retireLane port.val lane).testEnds t 2 u 3 34 0)

/-- CALIBRATOR_DONE: the check of the port that the calibrator serves has ended (R451, R547). -/
def execCalibratorDone (port : Fin 16) (lasting : Bool) (s : State) : Host.Outcome State Fault Refusal :=
  if (s.diag.calQueue.getD (port.val / 4) []).head? = some port then
    let outcome := if lasting then 3 else 1
    let detail := (s.lp port.val).lastCause
    let t := s.testOf 3 port.val
    let s := s.calDone port lasting
    match t with
    | some t => .next (s.testEnds t 4 port.val outcome 255 detail)
    | none => .next (s.logErr 4 port.val outcome (if lasting then 227 else 255) detail)
  else .next s

/-! ### Errors without a self-test -/

/-- EV014, at most once a second for each user (R548). -/
def State.memErr (s : State) (user : Nat) : State :=
  s.raiseCounted 14 user 1 [(user, 4)] 16

/-- Spans of a capture buffer that a 64-byte block touches are damaged (R548). -/
def State.captureEcc (s : State) (p addr : Nat) : State :=
  let x := s.dk p
  let base := x.data.capBase * mib
  if addr < base ∨ x.srcW = 0 then s
  else
    (List.range 16).foldl (fun s i =>
      let k := (addr - base) / 4 + i
      let y := k / x.srcW
      if y < x.srcH then s.modDk p fun x => { x with damage := insertSpan (y, k % x.srcW / spanPixels) x.damage } else s) s

/-- LPDDR_ECC_ERROR: handled by its user; the user code of EV014 for an on-chip table is not stated, so it is a free value (R548; log entry 136). -/
def execLpddrEccError (err : MemErr) (addr : Nat) (info : StartInfo) (s : State) : Host.Outcome State Fault Refusal :=
  let mem := fun (s : State) (user : Nat) => (s.memErr user).logErr 5 user 4 14 (addr / 64)
  let tab := fun (s : State) (unit detail : Nat) =>
    let (v, s) := s.draw
    (s.memErr (v.toNat % 16)).logErr 7 unit 4 14 detail
  match err with
  | .corrected => .next { s with diag.memCorr := bump s.diag.memCorr }
  | .frame head => .next (mem (s.cntH head.val 1) 0)
  | .capture port a => .next (mem (s.captureEcc port.val a) 1)
  | .dirRec id =>
    let s := if s.dir.recs.any (·.id == id.toNat) then
        { s with dir.recs := s.dir.recs.filter (·.id != id.toNat) }.raise 136 [(id.toNat, 24), (2, 4)] else s
    .next (mem s 2)
  | .exportRead src tag exp target =>
    if s.hears src then .next (mem ((s.cntB 7).sendPdu src.index 0x81 7 tag.toNat 0 exp.toNat 0 target.toNat 0 []) 3) else .next s
  | .engineImage => .next (mem s 4)
  | .config => .next ((mem s 5).coldReset 6 info)
  | .table tunnel bad =>
    match s.fwd.entries.find? (fun e => e.tunnel == tunnel.toNat && e.valid) with
    | none => .next s
    | some e =>
      let s := tab s 0 tunnel.toNat
      .next (if bad then s.removeEntry e else { s with sys.tableRestore := bump s.sys.tableRestore })
  | .keyCache idx =>
    match s.tunAt idx.toNat with
    | none => .next s
    | some t => .next ((tab s 1 idx.toNat).closeTun t.idx 4)
  | .keySlot n => .next ((s.modSlot n.val fun k => { k with tagOk := k.tagOk && k.st != .valid }).checkSlot n.val)

/-- An engine has failed: EV015 and its log entry (R549, R556). -/
def State.engineFault (s : State) (engine cause : Nat) : State := (s.raise 15 [(engine, 4), (cause, 8)]).logErr 6 engine 5 15 cause

/-- ENGINE_MEMORY_ERROR: the engine stops; its watchdog acts (R549). -/
def execEngineMemoryError (engine : Fin 12) (s : State) : Host.Outcome State Fault Refusal :=
  if s.diag.stopped.getD engine.val false then .next s
  else .next ({ s with diag.stopped := modAt s.diag.stopped engine.val fun _ => true }.engineFault engine.val 0)

/-- PCIE_AER_ERROR (R540). -/
def execPcieAerError (port : Fin 2) (status : Word) (s : State) : Host.Outcome State Fault Refusal :=
  .next (s.logErr 11 port.val 4 255 status.toNat)

/-- PERSISTENT_LOG_WRITE: the oldest waiting entry is written to boot flash; a failed write is tried once more, and a second failure raises
EV016 (R551). -/
def execPersistentLogWrite (ok : Bool) (s : State) : Host.Outcome State Fault Refusal :=
  match s.diag.pwait with
  | [] => .next s
  | e :: es =>
    if ok then .next ({ s with diag.pwait := es, diag.pretry := false }.plogAdd e)
    else if s.diag.pretry then .next ({ s with diag.pwait := es, diag.pretry := false }.raise 16 [(e.seq, 16)])
    else .next { s with diag.pretry := true }

/-! ### Commands -/

/-- DIAG_STATUS (R555). -/
def execDiagStatus (s : State) : Host.Outcome State Fault Refusal :=
  runRead 0x7E01 s fun _ s =>
    let lanes := maskOfLanes s.trunk
    let locked := (List.range 16).foldl (fun a n => a + b2n ((s.lp n).st == .lockout) * 2 ^ n) 0
    okR [pack [(lanes, 8), (0, 8), (locked, 16)], pack [(s.fwd.spares.toList.foldl (· + ·) 0, 16), (s.fwd.retiredRows.length, 16)],
      wd s.diag.memCorr, wd ((s.diag.plog.head?.map (·.seq)).getD 0)]
where
  /-- Retired lanes, bit 2 × port + lane. -/
  maskOfLanes (ts : Vector TrunkPort 4) : Nat :=
    (List.range 8).foldl (fun a k => a + b2n (((ts.getD (k / 2) {}).retired).getD (k % 2) false) * 2 ^ k) 0

/-- The words of a log entry; in boot flash its last word is its CRC (R550). -/
def LogEntry.words (e : LogEntry) (flash : Bool) : List Word :=
  let ws := [pack [(e.cls, 8), (e.unit, 8), (e.outcome, 4), (0, 4), (e.event, 8)], wd e.detail] ++ wd2 e.stamp.toNat ++
    [wd e.aonS, pack [(e.boots, 16), (e.rep, 16)], wd e.seq]
  ws ++ [if flash then crc32Link (ws.flatMap fun w => bytesBE w 4) else 0]

/-- DIAG_ERRLOG; in a dead-feed start the error log, which DOM_MEM holds, is empty (R555, R559). -/
def execDiagErrlog (s : State) : Host.Outcome State Fault Refusal :=
  runRead 0x7E02 s fun r s =>
    let flash := bitAt (r.w 0) 0
    let es := ((if flash then s.diag.plog else if s.sys.start == 1 then [] else s.diag.log).filter fun e => decide ((r.w 1).toNat ≤ e.seq)).reverse.take 127
    okR (wd es.length :: (es.map fun e => e.words flash).flatten)

/-- DIAG_TEST: a row, a lane, a lighting port or a loopback, whose OUTCOME comes with the row; a dead-feed start runs none (R547, R555, R559). -/
def execDiagTest (loop : BitVec 4) (s : State) : Host.Outcome State Fault Refusal :=
  runCmd 0x7E10 s fun r s =>
    let kind := r.f 0 31 28
    let t : UnitTest := { kind := kind, unit := r.f 0 27 0, src := some r.src }
    if s.sys.start == 1 then (s, failR 0x30)
    else if kind = 1 then
      let u := r.f 0 15 0
      if s.testRuns 1 u then (s, failR 0x30)
      else (({ s with diag.tests := s.diag.tests ++ [{ t with unit := u }] }).testRow (u / 1024) (u % 1024), okR)
    else if kind = 2 then
      let u := r.f 0 2 0
      let p := u / 2
      let x := s.tp p
      if (x.st == .active && !x.twoLanes) || s.testRuns 2 u then (s, failR 0x30)
      else
        let s := { s with diag.tests := s.diag.tests ++ [{ t with unit := u }] }
        ((List.finRange 2).foldl (fun s l => if l.val = u % 2 then s.dropLane p l 2 else s) s, okR)
    else if kind = 3 then
      let n : Fin 16 := ⟨r.f 0 3 0 % 16, Nat.mod_lt _ (by decide)⟩
      let st := (s.lp n.val).st
      if !(st == .off || st == .latched || st == .lockout || st == .damaged) || s.testRuns 3 n.val then (s, failR 0x30)
      else (({ s with diag.tests := s.diag.tests ++ [{ t with unit := n.val }] }).queueCal n true, okR)
    else if kind = 4 then (s.raise 13 [(4, 4), (r.f 0 15 0, 16), (loop.toNat, 4)] (.only r.src), okR)
    else (s, failR 0x40)

/-- DIAG_RESTORE: a unit in the repair table is tested first; one without an entry gives OK and changes nothing (R555). -/
def execDiagRestore (s : State) : Host.Outcome State Fault Refusal :=
  runCmd 0x7E11 s fun r s =>
    let kind := r.f 0 31 28
    if kind ≠ 1 ∧ kind ≠ 2 then (s, failR 0x40)
    else
      let u := if kind = 1 then r.f 0 15 0 else r.f 0 2 0
      if (s.repairOf kind u).isNone then (s, okR)
      else if s.testRuns kind u then (s, failR 0x30)
      else ({ s with diag.tests := s.diag.tests ++ [{ kind := kind, unit := u, src := some r.src, restore := true }] }, okR)

/-- DIAG_CLEAR: PERSIST 1 only in MANUFACTURE or RETURN (R555). -/
def execDiagClear (s : State) : Host.Outcome State Fault Refusal :=
  runCmd 0x7E12 s fun r s =>
    let persist := bitAt (r.w 0) 0
    if persist && s.lifecycle != .manufacture && s.lifecycle != .ret then (s, failR 0x21)
    else ({ s with diag.log := [], diag.plog := if persist then [] else s.diag.plog }, okR)

end Sys2Proof.Machine
end

