-- ==== Sys2Proof/Machine/Seconds.lean ====
section
/-!
DEFINITION. The end of an AON second or of an FCLK millisecond, with the events and messages held back for it (R593, R300, R317).
-/

namespace Sys2Proof.Machine

/-- A new second of a node's INTR limit: a change held back is sent now (R317). -/
def State.intrSecond (s : State) (g n : Nat) : State :=
  let x := (s.sg g).node n
  if x.intrHeld then (s.modNode g n fun x => { x with intrHeld := false, intrCount := 1 }).sendIntr g n
  else if x.intrCount = 0 then s
  else s.modNode g n fun x => { x with intrCount := 0 }

/-- Every node's INTR limit starts afresh. -/
def State.intrSeconds (s : State) : State :=
  (List.range 16).foldl (fun s g => (List.range 32).foldl (fun s n => s.intrSecond g n) s) s

/-- RATE_LIMIT_WINDOW_END: an AON second, or an FCLK millisecond, ends (R593). -/
def execRateLimitWindowEnd (ms : Bool) (s : State) : Host.Outcome State Fault Refusal :=
  .next (if ms then s.msWindow.endWindow true else (s.aonSecond.endWindow false).intrSeconds)

end Sys2Proof.Machine
end

