-- ==== Sys2Proof/Machine/Security.lean ====
section
/-!
DEFINITION. The vault's commands, lifecycle changes and tamper (15_security.md: R470 to R490).
-/

namespace Sys2Proof.Machine

/-! ### Tamper -/

/-- Opcodes of key operations, whose output an alarm suppresses (R483, R488). -/
def keyOps : List Nat := [0x7002, 0x7003, 0x7004, 0x7005, 0x7010, 0x7011, 0x7012, 0x7013, 0x7014, 0x7015, 0x7020, 0x7021, 0x7022]

/-- A key operation runs and has not completed. -/
def State.keyOpRuns (s : State) : Bool :=
  match s.mbx.running with
  | some x => keyOps.contains x.req.opcode && x.resp.isNone
  | none => false

/-- An alarm that stands while the vault runs: volatile slots and the key cache are zeroized, the store too when TAMPER_ERASE asks for it, and
the vault is LOCKED, with EV242, EV082 and EV246 (R483, R484, R487). -/
def State.zeroize (s : State) (source whn : Nat) (extra : Nat) : State :=
  let erase := s.erases source
  let resp := 8 + (if erase then 4 else 0) + extra
  let n := s.tun.table.length
  let s := s.tamperRec source whn resp
  let s := { s.clearVolatile with vault.locked := true, vault.ready := false }
  let s := s.raiseOrHold 242 [(source, 8), (whn, 4), (resp, 4)]
  let s := if erase then s.eraseStore else s.volKeysChanged 0
  s.closeForKeys.raiseOrHold 246 [(b2n erase, 1), (Nat.min n 65535, 16)]

/-- An alarm while the vault runs (R483): the first one zeroizes; another is recorded, and erases the store when its source asks for it. -/
def State.runAlarm (s : State) (source whn : Nat) (stands : Bool) : State :=
  if s.vault.changing then s.tamperRec source 4 0
  else if stands then
    let erase := s.erases source
    let s := s.tamperRec source whn (if erase then 4 else 0)
    if erase then (s.eraseStore).raiseOrHold 246 [(1, 1), (0, 16)] else s
  else if s.keyOpRuns then (s.respond (failR 0x70)).zeroize source 3 1
  else s.zeroize source whn 0

/-- A qualified alarm of a source (R481 to R483): an input that stays active raises one alarm, and the fifth within 60 s makes it UNSTABLE. -/
def State.alarm (s : State) (source : Nat) : State :=
  let recent := if source < 4 then (s.vault.alarmAt.getD source []).filter fun t => decide (s.sys.aonS < t + 60) else []
  let times := s.sys.aonS :: recent
  let stands := s.vault.alarm.toList.any id
  let s := { s with vault.alarmAt := modAt s.vault.alarmAt source fun _ => times }
  let mark := fun (s : State) => { s with
    vault.alarm := modAt s.vault.alarm source fun _ => true, vault.active := modAt s.vault.active source fun _ => true }
  let s :=
    if s.sys.stage == .bivouac then ((mark s).zeroize source 2 0).wakeFrom 5
    else if !s.vault.ready && !s.vault.locked || s.sys.stage == .resetHeld || s.sys.stage == .aonReset then
      (if stands then (mark s).tamperRec source 1 0 else s.startAlarm source)
    else
      (mark s).runAlarm source (if s.sys.stage == .starting then 1 else 0) stands
  if source < 4 ∧ 5 ≤ times.length then
    { s with vault.unstable := modAt s.vault.unstable source fun _ => true }.raiseOrHold 243 [(source, 2), (1, 1)]
  else s

/-- TAMPER_ALARM: an enabled input, or a monitor, alarms (R481 to R484). -/
def execTamperAlarm (source : Fin 7) (s : State) : Host.Outcome State Fault Refusal :=
  let n := source.val
  if s.sys.stage == .off || (decide (n < 4) && !s.vault.cfg.en.testBit n) || s.vault.active.getD n false || s.vault.unstable.getD n false then .next s
  else .next (s.alarm n)

/-- TAMPER_UNSTABLE_END: 60 s without activity (R482). -/
def execTamperUnstableEnd (input : Fin 4) (s : State) : Host.Outcome State Fault Refusal :=
  let n := input.val
  if s.vault.unstable.getD n false then
    let s := { s with vault.unstable := modAt s.vault.unstable n fun _ => false, vault.active := modAt s.vault.active n fun _ => false,
                      vault.alarmAt := modAt s.vault.alarmAt n fun _ => [] }
    .next (s.raiseOrHold 243 [(n, 2), (0, 1)])
  else .next s

/-- TAMPER_SOURCE_INACTIVE: a source is no longer active; an UNSTABLE input counts as active without a break (R482, R484). -/
def execTamperSourceInactive (source : Fin 7) (s : State) : Host.Outcome State Fault Refusal :=
  let n := source.val
  if s.vault.unstable.getD n false then .next s else .next { s with vault.active := modAt s.vault.active n fun _ => false }

/-- The last record, the oldest, that is not yet copied is marked. -/
def markCopied : List TamperRec → List TamperRec
  | [] => []
  | r :: rs => if rs.any (fun x => !x.copied) then r :: markCopied rs else { r with copied := true } :: rs

/-- TAMPER_RECORD_COPY: the oldest record not yet copied goes to the persistent log as CLASS 12 (R486, R540, R551). -/
def execTamperRecordCopy (s : State) : Host.Outcome State Fault Refusal :=
  match (s.vault.log.filter fun r => !r.copied).getLast? with
  | none => .next s
  | some r =>
    if s.domOn 2 then
      let e : LogEntry := {
        cls := 12, unit := r.source, outcome := 4, event := 242, detail := r.whn * 16 + r.response, stamp := r.stamp, aonS := r.aonS
        boots := s.diag.boots, seq := s.diag.nextSeq }
      .next ({ s with vault.log := markCopied s.vault.log, diag.nextSeq := s.diag.nextSeq + 1 }.plogAdd e)
    else .next s

/-- Alarm state: 0 none, 1 standing, 2 sources inactive and awaiting clear (R489). -/
def State.alarmState (s : State) : Nat :=
  if !s.vault.alarm.toList.any id then 0 else if s.vault.active.toList.any id then 1 else 2

/-- A mask of flags. -/
def maskBits (bs : List Bool) : Nat := bs.reverse.foldl (fun a b => 2 * a + b2n b) 0

/-- The vault returns to READY: its keys are derived again, the store is loaded, and the hub starts the join sequence (R484). -/
def State.clearAlarm (s : State) : State :=
  let bits := maskBits s.vault.alarm.toList
  let s := { s with vault.alarm := Vector.replicate 7 false, vault.locked := false }
  let s := ((s.deriveBase).deriveAttest).loadStore []
  let s := s.raise 244 [(bits, 7)]
  if s.isRoot || s.topo.upstream.isNone then s else { s with topo.join := .idle, topo.depth := 255 }.sendJoin

/-- The four words of a tamper record (R485). -/
def TamperRec.words (r : TamperRec) : List Word := [pack [(r.source, 8), (r.whn, 4), (r.response, 4), (0, 16)], wd r.aonS] ++ wd2 r.stamp.toNat

/-- KEY_TAMPER (R484, R485, R489). -/
def execKeyTamper (s : State) : Host.Outcome State Fault Refusal :=
  runCmd 0x7040 s fun r s =>
    let a := r.f 0 3 0
    let s := if a = 1 ∧ s.alarmState = 2 then s.clearAlarm else if a = 2 ∧ s.alarmState = 0 then { s with vault.log := [] } else s
    let rs := s.vault.log.drop (r.f 0 7 4)
    (s, okR (pack [(s.alarmState, 8), (0, 4), (maskBits s.vault.unstable.toList, 4), (b2n s.vault.locked, 8), (rs.length, 8)] ::
      wd s.vault.cTamper :: (rs.map TamperRec.words).flatten))

/-! ### Key commands -/

/-- A command that needs the vault: VAULT_FAULT while it is LOCKED (R488). -/
def runKey (op : Nat) (s : State) (f : Waiting → State → State × Response) : Host.Outcome State Fault Refusal :=
  runCmd op s fun r s => if s.vault.locked then (s, failR 0x70) else f r s

/-- KEY_STATUS; a TENANT learns nothing of slots (R489). -/
def execKeyStatus (s : State) : Host.Outcome State Fault Refusal :=
  runRead 0x7001 s fun r s =>
    let bad := fun (ns : List Nat) => maskBits (ns.map fun n => (s.slot n).st == .bad)
    let show_ := (s.srcTenant r.src).isNone
    okR [pack [(s.lifecycle.code, 8), (s.lcGen, 8), (b2n s.vault.locked, 8), (0, 8)],
      wd (if show_ then bad (List.range 32) else 0),
      wd (if show_ then bad ((List.range 16).map (· + 32) ++ (List.range 16).map (· + 56)) else 0), wd s.vault.timeSkip]

/-- Code of a slot's state (R470). -/
def SlotState.code : SlotState → Nat
  | .empty => 0
  | .valid => 1
  | .bad => 2

/-- The eight words of a slot's metadata (R470). -/
def KeySlot.meta8 (k : KeySlot) : List Word :=
  [pack [(k.kind, 8), (k.usage, 8), (k.origin, 8), (k.st.code, 8)], pack [(k.lcGen, 8), (0, 24)]] ++ wd2 k.created.toNat ++
    (List.range 4).map fun i => wordAt k.label i

/-- The public key of a slot of KIND 4 or 5, 49 bytes and 3 zero bytes. -/
def KeySlot.public13 (k : KeySlot) : List Word :=
  if k.st != .valid then []
  else if k.kind = 5 then (List.range 13).map fun i => wordAt k.key i
  else if k.kind = 4 then wordsOf (BitVec.setWidth 416 (Config.publicKey k.key)) 13
  else []

/-- KEY_SLOT (R488). -/
def execKeySlot (s : State) : Host.Outcome State Fault Refusal :=
  runKey 0x7002 s fun r s =>
    let n := r.f 0 6 0
    if 96 ≤ n then (s, failR 0x40)
    else
      let s := s.checkSlot n
      (s, okR ((s.slot n).meta8 ++ (s.slot n).public13))

/-- KEY_MEASURE (R488). -/
def execKeyMeasure (s : State) : Host.Outcome State Fault Refusal :=
  runKey 0x7003 s fun _ s => (s, okR (s.vault.m.toList.flatten))

/-- Twenty-four words of a signature by the key of a slot over a digest, r then s, with a random number of the vault (R480, R489). -/
def State.signWith (s : State) (n : Nat) (digest : BitVec 384) : List Word × State :=
  let (r, s) := s.draw
  (wordsLE (bytesBE (Config.ecdsa (s.slot n).key digest r) 96), s)

/-- KEY_ATTEST: the quote (R480). -/
def execKeyAttest (s : State) : Host.Outcome State Fault Refusal :=
  runKey 0x7004 s fun r s =>
    let s := s.checkSlot 50
    if (s.slot 50).st != .valid then (s, failR 0x70)
    else
      let mask := r.f 0 7 0
      let head := [pack [(s.lifecycle.code, 8), (s.lcGen, 8), (mask, 8), (0, 7), (b2n (s.vault.alarm.toList.any id), 1)], pack [(s.sys.hubId, 16), (0, 16)]] ++
        wd2 s.now.toNat ++ (List.range 8).map fun i => r.w (i + 1)
      let ms := ((List.range 8).filter fun i => mask.testBit i).flatMap fun i => s.vault.m.getD i []
      let (sig, s) := s.signWith 50 (Config.sha384 (head ++ ms))
      (s, okR (head ++ ms ++ sig))

/-- KEY_CERTS: 0 operational, 1 intermediate, 2 attestation, 3 device (R489). -/
def execKeyCerts (s : State) : Host.Outcome State Fault Refusal :=
  runKey 0x7005 s fun r s =>
    let w := r.f 0 1 0
    (s, okR (certBlock (if w = 0 then s.vault.certs[0] else if w = 1 then s.vault.certs[1] else if w = 2 then s.vault.attCert else s.vault.devCert)))

/-- KINDs that KEY.GENERATE and KEY.DERIVE make (R489). -/
def madeKind (kind usage : Nat) (slot : Nat) : Bool :=
  kind == 1 || kind == 3 || (kind == 4 && (slot == 1 || usage.testBit 5 || usage.testBit 2))

/-- Write a key into a slot: KIND, USAGE without its reserved bits, ORIGIN, LABEL (R470). -/
def State.writeSlot (s : State) (n kind usage origin : Nat) (label key : List Word) : State :=
  s.modSlot n fun _ => { st := .valid, kind := kind, usage := usage / 4 * 4, origin := origin, lcGen := s.lcGen, created := s.now, label := label, key := key }

/-- KEY_GENERATE, its checks in the order of R567; a new key in slot 1 removes the operational certificate (R479, R489). -/
def execKeyGenerate (s : State) : Host.Outcome State Fault Refusal :=
  runKey 0x7010 s fun r s =>
    let n := r.f 0 6 0
    let kind := r.f 0 31 24
    let usage := r.f 0 23 16
    let s := s.checkSlot n
    if (s.slot n).st == .valid then (s, failR 0x30)
    else if !(n == 1 || (decide (24 ≤ n) && decide (n ≤ 47))) || !madeKind kind usage n then (s, failR 0x40)
    else
        let (k, s) := s.drawKeyField
        let s := s.writeSlot n kind usage 0 ((r.data.drop 1).take 4) k
        (if n = 1 then { s with vault.certs := modAt s.vault.certs 0 fun _ => {} } else s, okR)

/-- KEY_PUT: a public key into slot 0 or 2 (R489). -/
def execKeyPut (s : State) : Host.Outcome State Fault Refusal :=
  runKey 0x7011 s fun r s =>
    let n := r.f 0 6 0
    let s := s.checkSlot n
    if (s.slot n).st == .valid then (s, failR 0x30)
    else if n != 0 && n != 2 then (s, failR 0x40)
    else (s.writeSlot n 5 0x10 2 [] (r.data.drop 1), okR)

/-- KEY_DERIVE: the length must match word 6; bits 0 to 3 of MASK are always set (R474, R489). -/
def execKeyDerive (s : State) : Host.Outcome State Fault Refusal :=
  runKey 0x7012 s fun r s =>
    let src := r.f 0 6 0
    let dst := r.f 0 14 8
    let mask := r.f 0 23 16
    let kind := r.f 0 31 24
    let usage := r.f 5 23 16
    let len := (r.w 6).toNat
    let s := (s.checkSlot src).checkSlot dst
    if (s.slot src).st == .bad then (s, failR 0x70)
    else if (s.slot dst).st == .valid then (s, failR 0x30)
    else if 96 ≤ src ∨ (s.slot src).st != .valid ∨ !(s.slot src).usage.testBit 3 ∨ dst < 56 ∨ 71 < dst ∨ !madeKind kind usage dst then (s, failR 0x40)
    else
        let m := mask ||| 15
        let ms := ((List.range 8).filter fun i => m.testBit i).flatMap fun i => s.vault.m.getD i []
        let ctx := BitVec.ofNat 8 m :: memBytes ms ++ (s.lcByte :: (memBytes (r.data.drop 7)).take len)
        (s.writeSlot dst kind usage 1 ((r.data.drop 1).take 4) (derivedKey kind (s.slot src).key "WH-DERIVE" ctx), okC (m != mask))

/-- Slots that commands and the volume record write (R469). -/
def erasable (n : Nat) : Bool := decide (n ≤ 2) || (decide (8 ≤ n) && decide (n ≤ 47)) || (decide (56 ≤ n) && decide (n ≤ 71))

/-- KEY_ERASE; a volume that loses its key goes OFFLINE (R471, R488). -/
def execKeyErase (s : State) : Host.Outcome State Fault Refusal :=
  runKey 0x7013 s fun r s =>
    let n := r.f 0 6 0
    if !erasable n then (s, failR 0x40)
    else
      let s := s.modSlot n fun _ => {}
      if 8 ≤ n ∧ n < 24 then ({ s with stor.vol := modAt s.stor.vol (n - 8) fun v => { v with keyed := false } }.refreshVol (n - 8) 0 false, okR)
      else (s, okR)

/-- KEY_EXTEND: M7 is extended with the digest given (R472). -/
def execKeyExtend (s : State) : Host.Outcome State Fault Refusal := runKey 0x7014 s fun r s => (s.extend 7 r.data, okR)

/-- KEY_SIGN: a slot with USAGE SIGN signs a digest (R489). -/
def execKeySign (s : State) : Host.Outcome State Fault Refusal :=
  runKey 0x7015 s fun r s =>
    let n := r.f 0 6 0
    let s := s.checkSlot n
    if (s.slot n).st == .bad then (s, failR 0x70)
    else if 96 ≤ n ∨ (s.slot n).st != .valid ∨ (s.slot n).kind ≠ 4 ∨ !(s.slot n).usage.testBit 5 then (s, failR 0x40)
    else
      let (sig, s) := s.signWith n (BitVec.ofNat 384 (bytesNum (memBytes (r.data.drop 1))))
      (s, okR sig)

/-- KEY_CSR: a request signed with slot 1, in a CERT block; its contents are free (R479; log entry 3). -/
def execKeyCsr (s : State) : Host.Outcome State Fault Refusal :=
  runKey 0x7020 s fun _ s =>
    let s := s.checkSlot 1
    if (s.slot 1).st == .bad then (s, failR 0x70)
    else if (s.slot 1).st != .valid then (s, failR 0x40)
    else
      let ws := Config.freeWords s.free
      let (v, s) := s.draw
      (s, okR (certBlock { len := v.toNat % 2049, words := ws }))

/-- KEY_CERT_SET: the intermediate is installed alone; the operational certificate only with check code 0, and the hub then joins at its
upstream (R478, R479, R489). -/
def execKeyCertSet (cert : Cert) (s : State) : Host.Outcome State Fault Refusal :=
  runKey 0x7021 s fun r s =>
    let c := { cert with len := (r.w 1).toNat, words := r.data.drop 2 }
    if bitAt (r.w 0) 0 then ({ s with vault.certs := modAt s.vault.certs 1 fun _ => c }, okR [0])
    else
      let (s, code) := s.checkCert c s.sys.hubId
      if code != 0 then (s, okR [pack [(code, 8)]])
      else
        let s := { s with vault.certs := modAt s.vault.certs 0 fun _ => c }
        (if !s.isRoot && s.topo.join == .idle && s.topo.upstream.isSome then s.sendJoin else s, okR [0])

/-- KEY_DENY: the deny list of 64 fingerprints (R478, R489). -/
def execKeyDeny (s : State) : Host.Outcome State Fault Refusal :=
  runKey 0x7022 s fun r s =>
    let a := r.f 0 1 0
    let d := r.data.drop 1
    let ds := s.vault.deny
    let put := fun (ds : List (List Word)) => (({ s with vault.deny := ds } : State), okR [wd ds.length])
    if a = 3 then (s, failR 0x10)
    else if a = 2 then put []
    else if a = 1 then put (ds.filter fun x => x != d)
    else if ds.contains d then put ds
    else if 64 ≤ ds.length then (s, failR 0x40)
    else put (ds ++ [d])

/-! ### Lifecycle -/

/-- KEY_LIFECYCLE: STEP 0 arms and returns a CHALLENGE, STEP 1 commits; refused while an update session is open or in trial (R476, R489, R507). -/
def execKeyLifecycle (s : State) : Host.Outcome State Fault Refusal :=
  runCmd 0x7030 s fun r s =>
    match lifecycleOf (r.f 0 31 24) with
    | none => (s, failR 0x21)
    | some target =>
      if s.upd.session != .none || s.boot.trial then (s, failR 0x31)
      else if bitAt (r.w 0) 0 then
        match s.vault.arm with
        | some a =>
          if a.src == r.src && a.target == target && a.challenge == r.w 1 then
            ({ s with vault.changing := true, sys.resetDue := some 4 }, okR [0])
          else (s, failR 0x51)
        | none => (s, failR 0x51)
      else
        let (c, s) := s.drawWord
        ({ s with vault.arm := some { target := target, challenge := c, src := r.src } }, okR [c])

/-- LIFECYCLE_ARM_LAPSE: 10 s without the commit (R476). -/
def execLifecycleArmLapse (s : State) : Host.Outcome State Fault Refusal :=
  if s.vault.changing then .next s else .next { s with vault.arm := none }

/-- Steps 3 to 5 of a lifecycle change: the record and the identity root are written, every operational key is destroyed, EV240, and a cold
reset follows (R54, R187, R422, R476, R496, R520). -/
def State.changeLifecycle (s : State) (x : StartInfo) : State :=
  match s.vault.arm with
  | none => s
  | some a =>
    let old := s.lifecycle
    let (a1, t) := s.draw
    let root := if old == .blank then wordsOf a1 12 else if a.target == .scrapped then List.replicate 12 (BitVec.allOnes 32) else s.vault.idRoot
    let s := if old == .blank then t else s
    let rec_ : LcRecord := { state := a.target, crcOk := !x.recordBad }
    let s := { s with vault.records := s.vault.records ++ [rec_], vault.idRoot := root, vault.arm := none }
    let s := ((s.eraseStore).clearVolatile).closeForKeys
    let s := s.raise 240 [(old.code, 8), (a.target.code, 8), (s.lcGen, 8)]
    ({ s.endSession 4 with sys.provStore := [] }).coldReset 8 x

end Sys2Proof.Machine
end

