-- ==== Sys2Proof/Machine/Update.lean ====
section
/-!
DEFINITION. Firmware update (16_update.md): packages and their checks, sessions, activation, the lease, trial and confirmation (R491 to R511).
-/

namespace Sys2Proof.Machine

/-! ### The package as received -/

/-- The word received at a word offset, 0 where none came. -/
def State.pkgWord (s : State) (k : Nat) : Word := ((s.upd.blocks.find? (·.1 == k)).map (·.2)).getD 0

/-- A byte of the package: a request's data is an array of words, the lowest byte first (R5, R497). -/
def State.pkgByte (s : State) (i : Nat) : Nat := fld (s.pkgWord (i / 4)) (8 * (i % 4) + 7) (8 * (i % 4))

/-- A field of `n` bytes, most significant byte first (R493). -/
def State.pkgNum (s : State) (i n : Nat) : Nat := (List.range n).foldl (fun a k => a * 256 + s.pkgByte (i + k)) 0

/-- Length of the package header. -/
def headerBytes : Nat := 1024

/-- The matrix entries of the header that state the needs of a component (R493). -/
def State.pkgMatrix (s : State) (id : Nat) : List MatrixEntry :=
  ((List.range 16).map fun k =>
    let b := 528 + 12 * k
    ({ subject := s.pkgByte b, object := s.pkgByte (b + 1), osub := s.pkgByte (b + 2), min := s.pkgNum (b + 4) 4, max := s.pkgNum (b + 8) 4 } : MatrixEntry)).filter
      fun e => e.subject == id

/-- Component `k` of the header, with its needs, and the record stream of a configuration image (R493). -/
def State.pkgComp (s : State) (k : Nat) : Component :=
  let b := 16 + 64 * k
  let id := s.pkgByte b
  let off := s.pkgNum (b + 8) 4
  let len := s.pkgNum (b + 12) 4
  { id := id, sub := s.pkgByte (b + 1), svn := s.pkgNum (b + 2) 2, version := s.pkgNum (b + 4) 4, offset := off, length := len
    digest := s.pkgNum (b + 16) 48, matrix := s.pkgMatrix id, jv := if id = 2 then s.pkgByte 7 else 0
    config := if id = 6 then (List.range (len / 4)).map fun i => s.pkgWord (off / 4 + i) else [] }

/-- COUNT of the header. -/
def State.pkgCount (s : State) : Nat := s.pkgByte 5

/-- CONFIG_ONLY of the header. -/
def State.pkgConfig (s : State) : Bool := (s.pkgByte 6).testBit 1

/-- Components of the package. -/
def State.pkgComps (s : State) : List Component := (List.range (Nat.min s.pkgCount 8)).map s.pkgComp

/-! ### Commit checks -/

/-- Components lie within TOTAL and do not overlap (R493, R498). -/
def compsFit (total : Nat) (cs : List Component) : Bool :=
  cs.all (fun c => decide (headerBytes ≤ c.offset) && c.offset % 4 == 0 && decide (c.offset + c.length ≤ total)) &&
    (List.range cs.length).all fun i => (List.range i).all fun j =>
      let a := cs.getD i {}
      let b := cs.getD j {}
      decide (a.offset + a.length ≤ b.offset) || decide (b.offset + b.length ≤ a.offset)

/-- No reserved ID, no ID and SUB twice (R491, R498). -/
def compsNamed (cs : List Component) : Bool :=
  cs.all (fun c => decide (1 ≤ c.id) && decide (c.id ≤ 6)) &&
    (List.range cs.length).all fun i => (List.range i).all fun j =>
      let a := cs.getD i {}
      let b := cs.getD j {}
      !(a.id == b.id && a.sub == b.sub)

/-- The header is well formed, and the package is of one kind (R492, R493, R498). -/
def State.headerOk (s : State) : Bool :=
  s.pkgNum 0 4 == 0x57485550 && s.pkgByte 4 == 1 && decide (1 ≤ s.pkgCount) && decide (s.pkgCount ≤ 8) && compsNamed s.pkgComps &&
    compsFit s.upd.total s.pkgComps && (if s.pkgConfig then s.pkgCount == 1 && s.pkgComps.all (·.id == 6) else s.pkgComps.all (·.id != 6))

/-- Components in force: those of the active slot, and the golden image (R499). -/
def State.inForce (s : State) : List Component := s.slotImage s.boot.active ++ [s.goldenComp]

/-- Every need of every component of a set holds (R499). -/
def matrixOk (cs : List Component) : Bool :=
  cs.all fun c => c.matrix.all fun e =>
    match compOf cs e.object (if e.object = 4 then e.osub else 0) with
    | some o => decide (e.min ≤ o.version) && decide (o.version ≤ e.max)
    | none => false

/-- The matrix holds after each replacement, in order (R499). -/
def matrixSteps : List Component → List Component → Bool
  | _, [] => true
  | cs, c :: todo => let cs := putComp c cs; matrixOk cs && matrixSteps cs todo

/-- The Jenridun version window: every neighbour in HELLO or ACTIVE, and the ROOT at a joined hub (R500). -/
def State.versionOk (s : State) (rootVer : Nat) : Bool :=
  let jv := s.pkgByte 7
  s.pkgConfig || jv == 0 ||
    (s.trunk.toList.all (fun t => match t.nb with
      | some n => !(t.st == .hello || t.st == .active) || versionNear jv n.ver
      | none => true) &&
      (!s.joined || versionNear jv (if s.isRoot then s.version else rootVer)))

/-- The first commit check that fails, 0 when none does (R498). -/
def State.commitCode (s : State) (vendor owner digests : Bool) (rootVer : Nat) : Nat :=
  let k := s.slot 2
  let cs := s.pkgComps
  if s.upd.blocks.length * 4 ≠ s.upd.total then 1
  else if !s.headerOk then 2
  else if !s.pkgConfig && !vendor then 3
  else if k.st == .bad || (k.st == .valid && !((s.pkgByte 6).testBit 0 && owner)) then 4
  else if !digests then 5
  else if cs.any (fun c => match compOf s.inForce c.id c.sub with | some o => decide (c.svn < o.svn) | none => false) then 6
  else if !matrixSteps s.inForce (compOrder cs) then 7
  else if !s.versionOk rootVer then 8
  else if cs.any (fun c => c.id == 6 && match parseStream true c.config with | .ok _ => false | .error _ => true) then 9
  else 0

/-! ### Sessions -/

/-- Session commands of a mailbox: NO_RESOURCE without a session, BUSY_UPDATING for another mailbox than its owner (R496, R497). -/
def runUpd (op : Nat) (s : State) (f : Waiting → State → State × Response) : Host.Outcome State Fault Refusal :=
  runCmd op s fun r s =>
    if s.upd.session == .none then (s, failR 0x40) else if s.upd.owner != r.src then (s, failR 0x31) else f r s

/-- UPD_BEGIN: opens a session; TOTAL out of range gives BAD_LENGTH, another session or a trial BUSY_UPDATING (R496, R507, R509). -/
def execUpdBegin (s : State) : Host.Outcome State Fault Refusal :=
  runCmd 0x7810 s fun r s =>
    let total := (r.w 0).toNat
    if total < 1028 ∨ 16777216 < total ∨ total % 4 ≠ 0 then (s, failR 0x11)
    else if s.upd.session != .none || s.boot.trial then (s, failR 0x31)
    else
      ({ s with
        upd.session := .opened, upd.owner := r.src, upd.total := total, upd.blocks := [], upd.package := []
        upd.mode := s.upd.cfg.secondSlot && !s.upd.goldenRun, upd.otherSlot := false }, okR)

/-- Store the words of a block that are new, in order. -/
def putWords : List (Nat × Word) → Nat → List Word → List (Nat × Word)
  | bs, _, [] => bs
  | bs, k, w :: ws => putWords (if bs.any (·.1 == k) then bs else (k, w) :: bs) (k + 1) ws

/-- A word of the block came before with another value (R497). -/
def clash (bs : List (Nat × Word)) (k : Nat) (ws : List Word) : Bool :=
  (List.range ws.length).any fun i => bs.any fun b => b.1 == k + i && b.2 != wordAt ws i

/-- UPD_BLOCK (R497). -/
def execUpdBlock (s : State) : Host.Outcome State Fault Refusal :=
  runUpd 0x7811 s fun r s =>
    let off := (r.w 0).toNat
    let ws := r.data.drop 1
    if off % 4 ≠ 0 ∨ s.upd.total < off + 4 * ws.length then (s, failR 0x10 0x20)
    else if clash s.upd.blocks (off / 4) ws then (s, failR 0x10 0x21)
    else
      let bs := putWords s.upd.blocks (off / 4) ws
      ({ s with upd.blocks := bs }, okR [wd (4 * bs.length)])

/-- What the inactive slot holds after the commit: the package, and in second-slot mode every other component of the active slot (R495). -/
def State.stagedSlot (s : State) : List Component :=
  if s.upd.mode then s.pkgComps.foldl (fun cs c => putComp c cs) (s.slotComps s.boot.active) else s.pkgComps

/-- UPD_COMMIT: the checks in order, then COMMITTED with EV248 (R494, R495, R498). -/
def execUpdCommit (vendor owner digests : Bool) (rootVer : Byte) (s : State) : Host.Outcome State Fault Refusal :=
  runCmd 0x7812 s fun r s =>
    if s.vault.locked then (s, failR 0x70)
    else if s.upd.session == .none then (s, failR 0x40)
    else if s.upd.owner != r.src then (s, failR 0x31)
    else
      let s := s.checkSlot 2
      let code := s.commitCode vendor owner digests rootVer.toNat
      if code ≠ 0 then ({ s with upd.lastCode := code }, failR 0x10 code)
      else
        let o := s.boot.other
        let cs := s.pkgComps
        let staged := s.stagedSlot
        let s := { s with upd.session := .committed, upd.package := cs, upd.slots := modAt s.upd.slots o fun _ => staged }
        ((s.putBoot id).raise 248 [(2, 4), (1, 8)], okR)

/-- UPD_ABORT (R496). -/
def execUpdAbort (s : State) : Host.Outcome State Fault Refusal := runUpd 0x7813 s fun _ s => (s.endSession 0, okR)

/-- UPD_IDLE_TIMEOUT: 600 s without an accepted block or command of the session (R496). -/
def execUpdIdleTimeout (s : State) : Host.Outcome State Fault Refusal := .next (s.endSession 2)

/-- UPD_STATUS (R510). -/
def execUpdStatus (s : State) : Host.Outcome State Fault Refusal :=
  runRead 0x7801 s fun _ s =>
    let b := s.boot
    let ss := match s.upd.session with | .none => 0 | .opened => 1 | .committed => 2
    let mode := if s.upd.session == .none then s.upd.cfg.secondSlot && !s.upd.goldenRun else s.upd.mode
    let ver := fun k => if k = 5 then s.goldenComp.version else ((compOf s.upd.running k 0).map fun c => c.version).getD 0
    okR ([pack [(ss, 4), (b2n b.trial, 1), (b2n mode, 1), (b.active, 1), (b2n s.upd.goldenRun, 1), (s.upd.lastCode, 8), (s.upd.lastFallback, 8), (s.version, 8)],
      wd (4 * s.upd.blocks.length), wd s.upd.total, pack [(if b.trial then s.upd.health.getD 0 else 0, 16), (b.tries, 8), (0, 8)]] ++
      (List.range 6).map fun k => wd (ver (k + 1)))

/-! ### Activation and the lease -/

/-- The lease is held or is not needed: UPD.ACTIVATE is answered, and the activation follows (R502). -/
def State.proceed (s : State) : State := { s with upd.leaseWait := false, upd.wasJoined := s.joined, sys.resetDue := some 3 }

/-- Grant the lease of the whole tree, with EV252 (R501, R511). -/
def State.grantLease (s : State) (hub health : Nat) : State :=
  { s with upd.lease := some hub, upd.leaseHealth := health }.raise 252 [(hub, 16), (1, 1)]

/-- The lease ends, with EV252 (R501, R511). -/
def State.endLease (s : State) : State :=
  match s.upd.lease with
  | some h => { s with upd.lease := none }.raise 252 [(h, 16), (0, 1)]
  | none => s

/-- Another hub holds the lease. -/
def State.leaseHeld (s : State) (hub : Nat) : Bool := match s.upd.lease with | some h => h != hub | none => false

/-- UPD_ACTIVATE: needs a COMMITTED session; a ROOT takes its own lease, a joined hub asks the ROOT, another hub needs none (R501, R502). -/
def execUpdActivate (s : State) : Host.Outcome State Fault Refusal :=
  match s.runningOp 0x7814 with
  | none => .next s
  | some r =>
    if s.upd.leaseWait then .next s
    else if s.upd.session == .none then .next (s.respond (failR 0x40))
    else if s.upd.owner != r.src then .next (s.respond (failR 0x31))
    else if s.upd.session != .committed then .next (s.respond (failR 0x40))
    else if s.headsTree then
      (if s.leaseHeld s.sys.hubId then .next (s.respond (failR 0x31 (s.upd.lease.getD 0)))
       else .next (((s.grantLease s.sys.hubId s.upd.cfg.healthS).proceed).respond okR))
    else if s.joined then
      .next ({ s with upd.leaseWait := true }.sendRoot 0x7840 [pack [(s.sys.hubId, 16), (s.upd.cfg.healthS, 16)]])
    else .next (s.proceed.respond okR)

/-- UPD_LEASE: at the ROOT, the lease is granted or refused; with `ans`, the ROOT's answer reaches the hub that asked (R501, R509). -/
def execUpdLease (ans : Option (List Word)) (s : State) : Host.Outcome State Fault Refusal :=
  match ans with
  | none =>
    runCmd 0x7840 s fun r s =>
      let hub := r.f 0 31 16
      if s.leaseHeld hub then (s, okR [pack [(1, 8), (0, 8), (s.upd.lease.getD 0, 16)]])
      else (s.grantLease hub (r.f 0 15 0), okR [pack [(0, 16), (hub, 16)]])
  | some ws =>
    if s.upd.leaseWait && (s.runningOp 0x7814).isSome then
      (if fld (wordAt ws 0) 31 24 = 0 then .next (s.proceed.respond okR)
       else .next ({ s with upd.leaseWait := false }.respond (failR 0x31 (fld (wordAt ws 0) 15 0))))
    else .next s

/-- UPD_LEASE_END: the holder ends its lease (R501). -/
def execUpdLeaseEnd (s : State) : Host.Outcome State Fault Refusal :=
  runCmd 0x7841 s fun r s => (if s.upd.lease == some (r.f 0 31 16) then s.endLease else s, okR)

/-- LEASE_TIMEOUT: `t_lease` ends (R501). -/
def execLeaseTimeout (s : State) : Host.Outcome State Fault Refusal := .next s.endLease

/-- Activation: the boot control block is written with TRIAL set and TRIES 0, a configuration package empties the provisioned record store, and
a cold reset follows (R495, R502, R520). -/
def State.activate (s : State) (x : StartInfo) : State :=
  let second := s.upd.mode
  let conf := s.upd.package.any (·.id == 6)
  let health := s.upd.cfg.healthS
  let s := s.putBoot fun b =>
    let a := if second then b.other else b.active
    { b.mark a false with trial := true, tries := 0, active := a, copyStep := 0, copyFails := 0, inPlace := !second, healthS := health }
  let s := { s with upd.health := none, upd.otherSlot := second, sys.provStore := if conf then [] else s.sys.provStore }
  s.coldReset 7 x

/-! ### Trial -/

/-- The conditions of UPD.CONFIRM (R504). -/
def State.mayConfirm (s : State) : Bool :=
  s.boot.trial && !s.diag.stopped.toList.any id && s.vault.ready && !s.vault.locked && !s.upd.cfgFault && (!s.upd.wasJoined || s.joined)

/-- The trial ends well: TRIAL is cleared, the lease is ended, EV250 (R494, R504). -/
def State.confirm (s : State) : State :=
  let s := s.putBoot fun b => { b with trial := false, tries := 0, copyStep := 0, copyFails := 0 }
  let s := { s with upd.health := none, upd.lowRaised := false }
  let s := if s.joined then s.sendRoot 0x7841 [pack [(s.sys.hubId, 16), (0, 16)]] else s
  s.raise 250 [(s.boot.active, 1)]

/-- UPD_CONFIRM (R504). -/
def execUpdConfirm (s : State) : Host.Outcome State Fault Refusal :=
  runCmd 0x7820 s fun _ s => if s.mayConfirm then (s.confirm, okR) else (s, failR 0x30)

/-- AUTO_CONFIRM: the conditions have held for 30 s (R504). -/
def execAutoConfirm (s : State) : Host.Outcome State Fault Refusal :=
  .next (if s.upd.cfg.autoConfirm && s.mayConfirm && s.up && !s.mbx.restart then s.confirm else s)

/-- HEALTH_LOW: 60 s before the health timer ends (R503). -/
def execHealthLow (s : State) : Host.Outcome State Fault Refusal :=
  match s.upd.health with
  | some n => .next (if s.boot.trial && !s.upd.lowRaised then { s with upd.lowRaised := true }.raise 253 [(n, 16)] else s)
  | none => .next s

/-- HEALTH_TIMER_EXPIRY: in trial, a cold reset into the fall-back image (R505). -/
def execHealthTimerExpiry (info : StartInfo) (s : State) : Host.Outcome State Fault Refusal :=
  .next (if s.boot.trial && s.upd.health.isSome then (s.fallBack 0).coldReset 7 info else s)

end Sys2Proof.Machine
end

