-- ==== Sys2Proof/Machine/Startup.lean ====
section
/-!
DEFINITION. Start-up, resets, domain faults and Bivouac (17_startup.md), the end of a command (R39), dead-feed start (R371 to R374), and the
PCIe function reset (R28, R39, R414, R423).
-/

namespace Sys2Proof.Machine

/-! ### Power on and start-up -/

/-- POWER_ON: VAON rises; the comparators run and DOM_AON is about to start (R518). -/
def execPowerOn (s : State) : Host.Outcome State Fault Refusal :=
  .next (if s.sys.stage == .off then { s with sys.stage := .aonReset } else s)

/-- DOM_AON_START: the AON seconds counter starts at 0 and start-up begins; without the 32.768 kHz clock the clock monitor raises its alarm
(R371, R481, R518, R519, R522). -/
def execDomAonStart (clk32 : Bool) (info : StartInfo) (s : State) : Host.Outcome State Fault Refusal :=
  if s.sys.stage != .aonReset then .next s
  else
    let s := { s with sys.aonS := 0, sys.clk32 := clk32, sys.domains := modAt s.sys.domains 0 fun _ => true }
    .next ((if clk32 then s else s.startAlarm 5).coldStart info)

/-- Put an event among those held, by event number (R45). -/
def insertHeld (e : Nat × Word) : List (Nat × Word) → List (Nat × Word)
  | [] => [e]
  | x :: xs => if e.1 < x.1 then e :: x :: xs else x :: insertHeld e xs

/-- Held events in the order of their numbers. -/
def sortHeld (es : List (Nat × Word)) : List (Nat × Word) := es.foldl (fun acc e => insertHeld e acc) []

/-- Events that follow EV000 at the end of start-up: EV004 with the boot clamp log, EV007 after a wake, and those left waiting
(R60, R521, R532). -/
def State.startEvents (s : State) : List (Nat × Word) :=
  (if s.mbx.clampLog.isEmpty then [] else [(4, wd s.mbx.clampCount)]) ++ ((s.sys.wakeSource.map fun w => (7, pack [(w, 4)])).toList ++ s.sys.heldEvents)

/-- Start-up ends: the mailboxes take their classes, EV000 comes first, and the other events of this instant follow in ascending number; a
ROOT with SYNTH_EN runs SYNTH (R45, R60, R71, R521, R532). -/
def State.endStart (s : State) : State :=
  let s := { s with sys.stage := .running }.refreshAuth
  let s := s.raise 0 [(s.sys.cause, 8), (s.sys.start, 4), (s.domainBits, 14)]
  let s := (sortHeld s.startEvents).foldl (fun (s : State) e => s.raiseW e.1 e.2 .owner) { s with sys.heldEvents := [], sys.wakeSource := none }
  if s.isRoot && s.phase.cfg.synthEn && s.phase.st == .acquire then s.enterSynth else s

/-- STARTUP_END (R521). -/
def execStartupEnd (s : State) : Host.Outcome State Fault Refusal :=
  .next (if s.sys.stage == .starting && s.domOn 2 && !s.upd.dead then s.endStart else s)

/-- STARTUP_TIMEOUT: VC makes a cold reset with cause 6; without DOM_VAULT no VC runs (R519, R522). -/
def execStartupTimeout (info : StartInfo) (s : State) : Host.Outcome State Fault Refusal :=
  .next (if s.sys.stage == .starting && s.domOn 1 then s.coldReset 6 info else s)

/-! ### Dead-feed start -/

/-- The level that an advertisement of the service port allows (R372). -/
def rpLevel : Rp → Nat
  | .dflt => 0
  | .r15 => 1
  | .r30 => 2

/-- The service port's level rises: with 7.5 W and more DOM_VAULT and DOM_MGMT start (R372, R522). -/
def State.raiseLevel (s : State) (level : Nat) (info : StartInfo) : State :=
  let s := { s with desk.level := Nat.max s.desk.level level }
  if 1 ≤ s.desk.level && !s.domOn 1 && s.sys.stage == .starting then s.deadRun info else s

/-- DEAD_FEED_ADVERTISEMENT (R372). -/
def execDeadFeedAdvertisement (port : Fin 4) (rp : Rp) (info : StartInfo) (s : State) : Host.Outcome State Fault Refusal :=
  .next (if s.sys.start == 1 && s.desk.service == some port then s.raiseLevel (rpLevel rp) info else s)

/-- PD_PARTNER_ANSWER: the partner answers a message of the hub; a contract of 7.5 W or more in DEAD_SINK raises the level (R364, R366, R368, R372,
R382). -/
def execPdPartnerAnswer (port : Fin 4) (msg : PdMsg) (answer : PdAnswer) (info : StartInfo) (s : State) :
    Host.Outcome State Fault Refusal :=
  let s := s.partnerAnswer port.val msg answer
  .next (if s.sys.start == 1 && s.desk.service == some port then s.raiseLevel 0 info else s)

/-- The service function ends: EV199 flag 0, the other ports return to UNATTACHED, and the service port becomes ATTACHED_SNK (R374). -/
def State.leaveDeadSink (s : State) (p : Fin 4) : State :=
  let s := s.raiseOrHold 199 [(p.val, 2), (0, 1)]
  let s := { s with sys.start := s.startKind, desk.service := none, desk.level := 0 }
  let s := (List.range 4).foldl (fun s q => if q = p.val then s else s.portAfresh q) s
  s.enterSnk p.val

/-- The image that runs fails the digests measured at step 5 of the dead-feed start. -/
def State.imageBad (s : State) (info : StartInfo) : Bool := (badPart info s.runImage).isSome

/-- DEAD_FEED_FEED_GOOD: VAON moves to the feed and the normal start-up goes on without a reset: from step 4 when DOM_VAULT had started, else from
step 2. No register is extended twice (R374, R522). -/
def execDeadFeedFeedGood (info : StartInfo) (s : State) : Host.Outcome State Fault Refusal :=
  match s.desk.service with
  | none => .next s
  | some p =>
    if s.sys.start != 1 || s.pwr.selected.isNone then .next s
    else
      let vault := s.domOn 1
      let s := s.leaveDeadSink p
      if !vault then .next (s.fedStart info)
      else if s.lifecycle == .blank then .next s
      else if s.imageBad info then .next ((s.fallBack 2).coldReset 7 info)
      else .next (s.memStart.domainsStart)

/-! ### Resets -/

/-- RESET_N_ASSERT: everything but the kept parts of DOM_AON is reset; the desk ports' discharge switches draw VBUS down (R368, R524). -/
def execResetNAssert (s : State) : Host.Outcome State Fault Refusal :=
  if s.sys.stage == .off || s.sys.stage == .aonReset then .next s
  else
    let t := s.coldBase 1
    .next { t with sys.stage := .resetHeld, desk.port := t.desk.port.map fun (x : DeskPort) => { x with discharge := true } }

/-- RESET_N_RELEASE: start-up follows (R524). -/
def execResetNRelease (info : StartInfo) (s : State) : Host.Outcome State Fault Refusal :=
  .next (if s.sys.stage == .resetHeld then s.coldStart info else s)

/-- WARM_START: VC reloads and checks the images; `copies` says that they match (0), that some were loaded from the active slot (1), or that a
second mismatch makes a cold reset (2) (R525). -/
def execWarmStart (copies : Fin 3) (info : StartInfo) (s : State) : Host.Outcome State Fault Refusal :=
  if s.sys.stage != .warmStart then .next s
  else if copies = 2 then .next (s.coldReset 6 info)
  else .next s.warmStart

/-- What waits for the persistent log is written to it (R551). -/
def State.flushLog (s : State) : State := s.diag.pwait.foldl (fun (s : State) e => s.plogAdd e) { s with diag.pwait := [], diag.pretry := false }

/-- An engine's watchdog: EV015 and the log, unless its memory error has told of it already (R523, R549). -/
def State.watchdog (s : State) (engine : Nat) : State :=
  if s.diag.stopped.getD engine false then s
  else { s with diag.stopped := modAt s.diag.stopped engine fun _ => true }.engineFault engine 1

/-- MC_WATCHDOG_EXPIRY: a control restart begins (R523, R526). -/
def execMcWatchdogExpiry (s : State) : Host.Outcome State Fault Refusal :=
  .next (if s.up && !s.mbx.restart then (s.watchdog 0).restartBegin else s)

/-- ENGINE_WATCHDOG_EXPIRY: a warm reset with cause 5 (R523). -/
def execEngineWatchdogExpiry (engine : Fin 12) (s : State) : Host.Outcome State Fault Refusal :=
  .next (if s.up && decide (2 ≤ engine.val) then ((s.watchdog engine.val).flushLog).warmReset 5 else s)

/-- VC_WATCHDOG_EXPIRY: a cold reset with cause 6 (R523). -/
def execVcWatchdogExpiry (info : StartInfo) (s : State) : Host.Outcome State Fault Refusal :=
  .next (if s.domOn 1 then ((s.watchdog 1).flushLog).coldReset 6 info else s)

/-- CONTROL_RESTART_END (R39, R526). -/
def execControlRestartEnd (s : State) : Host.Outcome State Fault Refusal := .next s.restartEnd

/-- CONTROL_RESTART_TIMEOUT: a warm reset with cause 4 (R526). -/
def execControlRestartTimeout (s : State) : Host.Outcome State Fault Refusal := .next (if s.mbx.restart then s.warmReset 4 else s)

/-- POWER_LOSS: the hub loses everything but flash and OTP (R374, R486, R524, R527). -/
def execPowerLoss (s : State) : Host.Outcome State Fault Refusal :=
  let z := State.reset
  let t := s.coldBase 0
  .next { t with
    sys.stage := .off, sys.aonS := 0, sys.clk32 := false, sys.domains := z.sys.domains
    vault.log := [], vault.alarm := z.vault.alarm, vault.active := z.vault.active, vault.alarmAt := z.vault.alarmAt
    vault.unstable := z.vault.unstable, vault.cfg := z.vault.cfg, upd.health := none, pwr := z.pwr, desk.port := z.desk.port }

/-! ### Domain faults -/

/-- DOMAIN_PG_LOSS: a core domain makes a cold reset with cause 10; another is switched off with EV006, for 1 s, or after 3 faults within 60 s
until a record or a cold reset (R514). -/
def execDomainPgLoss (domain : Fin 14) (info : StartInfo) (s : State) : Host.Outcome State Fault Refusal :=
  let d := domain.val
  if d = 0 || !s.domOn d then .next s
  else
    let now := s.sys.aonS
    let times := now :: ((s.sys.faults.getD d {}).times.filter fun t => decide (now < t + 60))
    let n := times.length
    let s := s.logErr 8 d 4 (if d < 5 then 255 else 6) n
    if d < 5 then .next ((s.flushLog).coldReset 10 info)
    else
      let kept := decide (3 ≤ n)
      let s := { s with sys.faults := modAt s.sys.faults d fun _ => { times := times, keptOff := kept, retry := !kept } }
      .next ((s.domainOff d).raise 6 [(d, 4), (n, 4), (b2n kept, 1)])

/-- DOMAIN_RETRY: 1 s after a fault the domain is switched on again (R514). -/
def execDomainRetry (domain : Fin 14) (s : State) : Host.Outcome State Fault Refusal :=
  let d := domain.val
  if (s.sys.faults.getD d {}).retry then
    .next ({ s with sys.faults := modAt s.sys.faults d fun f => { f with retry := false } }.syncDomains)
  else .next s

/-! ### Commands -/

/-- SYS_RESET: the reset follows the answer (R535). -/
def execSysReset (s : State) : Host.Outcome State Fault Refusal :=
  runCmd 0x0102 s fun r s =>
    let k := r.f 0 1 0
    let kind := if k = 3 then 0 else k
    if kind != 0 && s.vault.arm.isSome then (s, failR 0x30) else ({ s with sys.resetDue := some kind }, okC (k == 3))

/-- SYS_BIVOUAC: the standby follows the answer (R530, R536). -/
def execSysBivouac (s : State) : Host.Outcome State Fault Refusal :=
  runCmd 0x0130 s fun r s =>
    if s.isRoot || s.upd.session != .none || s.boot.trial || s.sys.start == 1 then (s, failR 0x30)
    else
      let timer := (r.w 1).toNat
      let asked := r.f 0 6 0
      let addTimer := timer != 0 && !asked.testBit 4
      let mask := asked ||| 32 ||| (if timer != 0 then 16 else 0)
      ({ s with sys.bivLight := bitAt (r.w 0) 31, sys.wakeMask := mask, sys.wakeTimer := timer, sys.resetDue := some 5 }, okC addTimer)

/-- The entry to Bivouac, step by step: the tree is left, desk ports are detached, heads stop, and the domains that the table marks off go off
(R530, R512). -/
def State.enterBivouac (s : State) : State :=
  let joined := s.joined
  let s := s.treeDown
  let s := if joined then s.raise 10 [(0, 4), (255, 8)] else s
  let s := (List.range 4).foldl (fun s p => if (s.dk p).attached then s.leaveAttach p .unattached else s) s
  let s := ([9, 11, 12] ++ (if s.sys.bivLight then [] else [13])).foldl (fun (s : State) d => if s.domOn d then s.domainOff d else s) s
  let s := s.emptyFabric
  let off := [2, 4, 5, 6, 7, 8, 10]
  { s with sys.stage := .bivouac, sys.domains := Vector.ofFn fun i => s.sys.domains[i.val] && !off.contains i.val }

/-- BIVOUAC_WAKE: an enabled source, or a tamper alarm, wakes the hub (R532). -/
def execBivouacWake (source : Fin 7) (s : State) : Host.Outcome State Fault Refusal :=
  let n := source.val
  let on := s.sys.wakeMask.testBit n || n == 5
  .next (if s.sys.stage == .bivouac && on && (n != 6 || s.sys.bivLight) then s.wakeFrom n else s)

/-- Opcodes whose effect waits on something outside the MC, and which end with TIMEOUT when it does not come (R61, R318). -/
def State.mayTimeOut (s : State) (r : Waiting) : Bool :=
  r.opcode == 0x3020 || r.opcode == 0x3021 || r.opcode == 0x3022 || (r.opcode == 0x7814 && s.upd.leaseWait)

/-- What follows the answer of a command: the next command, or the reset, activation, lifecycle change or standby that it asked for
(R476, R502, R530, R535). -/
def State.afterAnswer (s : State) (info : StartInfo) : State :=
  match s.sys.resetDue with
  | none => s.startNext
  | some k =>
    let s := { s with sys.resetDue := none }
    match k with
    | 0 => s.restartBegin
    | 1 => s.warmReset 3
    | 2 => s.coldReset 2 info
    | 3 => s.activate info
    | 4 => s.changeLifecycle info
    | _ => s.enterBivouac

/-- COMMAND_FINISH: the command that runs is answered once its effect is complete or a check has refused it; one whose wait has run out is given up
with TIMEOUT (R39, R42). `info` is what a cold reset that follows finds. -/
def execCommandFinish (info : StartInfo) (s : State) : Host.Outcome State Fault Refusal :=
  if s.mbx.restart then .next s
  else match s.mbx.running with
  | none => .next s
  | some x =>
    match x.resp with
    | some r => .next ((s.finish x.req r).afterAnswer info)
    | none =>
      if s.mayTimeOut x.req then
        let s := { s.abortEp with upd.leaseWait := false }
        .next ((s.finish x.req (failR 0x50)).startNext)
      else .next s

/-! ### PCIe function reset -/

/-- PCIE_FUNCTION_RESET: the function's mailbox alone is closed and starts afresh, its SEQ from 0; a command of it that runs finishes and its
response is discarded; a function record that waited takes effect, and a storage function stops (R28, R33, R39, R45, R62, R414, R423). -/
def execPcieFunctionReset (fn : BitVec 5) (s : State) : Host.Outcome State Fault Refusal :=
  let f := fn.toNat
  let i : Fin 38 := ⟨f + 6, by have := fn.isLt; omega⟩
  let runs := match s.mbx.running with | some x => x.req.src == .win i | none => false
  let m := s.box i
  let s := s.modBox i fun _ => { discard := runs || m.discard, st := if s.mbx.restart then .offline else .idle }
  let s := { s with
    mbx.saved := if s.mbx.restart then updAt s.mbx.saved i fun _ => .idle else s.mbx.saved
    mbx.waiting := s.mbx.waiting.filter fun (r : Waiting) => r.src != Source.win i }
  let storage := ((s.stor.func.getD f {}).storage)
  let s := if storage then s.storFlr f else s
  let s := match s.stor.nextFunc.getD f none with
    | some c => { s with stor.func := modAt s.stor.func f fun _ => c, stor.nextFunc := modAt s.stor.nextFunc f fun _ => none }
    | none => s
  .next s.refreshAuth

end Sys2Proof.Machine
end

