-- ==== Sys2Proof/Machine/Dispatch.lean ====
section
/-!
DEFINITION. The dispatch: one arm per row of the opcode table.
-/

namespace Sys2Proof.Machine

/-- The effect of a command on everything but the queue. -/
def exec (i : Instr) (s : State) : Host.Outcome State Fault Refusal :=
  match i with
  | .doorbellRing box value => Sys2Proof.Machine.execDoorbellRing box value s
  | .evqConsWrite box cons => Sys2Proof.Machine.execEvqConsWrite box cons s
  | .evqPendClear box => Sys2Proof.Machine.execEvqPendClear box s
  | .registerWrite box offset value => Sys2Proof.Machine.execRegisterWrite box offset value s
  | .mgmtSpiBadTransaction instruction clocked => Sys2Proof.Machine.execMgmtSpiBadTransaction instruction clocked s
  | .pciePartialWindowAccess box write offset enables value => Sys2Proof.Machine.execPciePartialWindowAccess box write offset enables value s
  | .svcRequestFrame box skipped head payload crc => Sys2Proof.Machine.execSvcRequestFrame box skipped head payload crc s
  | .svcFrameGapTimeout box => Sys2Proof.Machine.execSvcFrameGapTimeout box s
  | .svcEventFrameSend box => Sys2Proof.Machine.execSvcEventFrameSend box s
  | .peerCommandPdu tun port opcode len tag data => Sys2Proof.Machine.execPeerCommandPdu tun port opcode len tag data s
  | .commandFinish info => Sys2Proof.Machine.execCommandFinish info s
  | .rateLimitWindowEnd ms => Sys2Proof.Machine.execRateLimitWindowEnd ms s
  | .sysStatus => Sys2Proof.Machine.execSysStatus s
  | .sysReset => Sys2Proof.Machine.execSysReset s
  | .sysCounters => Sys2Proof.Machine.execSysCounters s
  | .sysTopo => Sys2Proof.Machine.execSysTopo s
  | .sysSvcWindow => Sys2Proof.Machine.execSysSvcWindow s
  | .svcWindowExpiry => Sys2Proof.Machine.execSvcWindowExpiry s
  | .sysBivouac => Sys2Proof.Machine.execSysBivouac s
  | .bivouacWake source => Sys2Proof.Machine.execBivouacWake source s
  | .cfgApply => Sys2Proof.Machine.execCfgApply s
  | .cfgClamplog => Sys2Proof.Machine.execCfgClamplog s
  | .evtMask => Sys2Proof.Machine.execEvtMask s
  | .powerOn => Sys2Proof.Machine.execPowerOn s
  | .domAonStart clk32 info => Sys2Proof.Machine.execDomAonStart clk32 info s
  | .startupEnd => Sys2Proof.Machine.execStartupEnd s
  | .startupTimeout info => Sys2Proof.Machine.execStartupTimeout info s
  | .deadFeedFeedGood info => Sys2Proof.Machine.execDeadFeedFeedGood info s
  | .resetNAssert => Sys2Proof.Machine.execResetNAssert s
  | .resetNRelease info => Sys2Proof.Machine.execResetNRelease info s
  | .warmStart copies info => Sys2Proof.Machine.execWarmStart copies info s
  | .mcWatchdogExpiry => Sys2Proof.Machine.execMcWatchdogExpiry s
  | .engineWatchdogExpiry engine => Sys2Proof.Machine.execEngineWatchdogExpiry engine s
  | .vcWatchdogExpiry info => Sys2Proof.Machine.execVcWatchdogExpiry info s
  | .controlRestartEnd => Sys2Proof.Machine.execControlRestartEnd s
  | .controlRestartTimeout => Sys2Proof.Machine.execControlRestartTimeout s
  | .domainPgLoss domain info => Sys2Proof.Machine.execDomainPgLoss domain info s
  | .domainRetry domain => Sys2Proof.Machine.execDomainRetry domain s
  | .pcieFunctionReset fn => Sys2Proof.Machine.execPcieFunctionReset fn s
  | .joinRequest via hub role depth version cert key place => Sys2Proof.Machine.execJoinRequest via hub role depth version cert key place s
  | .joinReply via hub reason rootId number hops auth => Sys2Proof.Machine.execJoinReply via hub reason rootId number hops auth s
  | .joinReplyTimeout => Sys2Proof.Machine.execJoinReplyTimeout s
  | .joinRetry => Sys2Proof.Machine.execJoinRetry s
  | .zxEdge => Sys2Proof.Machine.execZxEdge s
  | .mainsLostTimeout => Sys2Proof.Machine.execMainsLostTimeout s
  | .mainsNoiseWindowEnd => Sys2Proof.Machine.execMainsNoiseWindowEnd s
  | .acquireTimeout => Sys2Proof.Machine.execAcquireTimeout s
  | .mainsPullInLock => Sys2Proof.Machine.execMainsPullInLock s
  | .guylineSyncSend => Sys2Proof.Machine.execGuylineSyncSend s
  | .guylineDelayReqSend => Sys2Proof.Machine.execGuylineDelayReqSend s
  | .guylineSync port flags gen depth ref arcFrac origin freq => Sys2Proof.Machine.execGuylineSync port flags gen depth ref arcFrac origin freq s
  | .guylineDelayRequest port => Sys2Proof.Machine.execGuylineDelayRequest port s
  | .guylineDelayResponse port rxTime => Sys2Proof.Machine.execGuylineDelayResponse port rxTime s
  | .guylineLoss => Sys2Proof.Machine.execGuylineLoss s
  | .schedulerFire idx samples => Sys2Proof.Machine.execSchedulerFire idx samples s
  | .trigEdge pin rising => Sys2Proof.Machine.execTrigEdge pin rising s
  | .trigWindowEnd pin => Sys2Proof.Machine.execTrigWindowEnd pin s
  | .countWindowClose pin => Sys2Proof.Machine.execCountWindowClose pin s
  | .phaseStatus => Sys2Proof.Machine.execPhaseStatus s
  | .phaseArm => Sys2Proof.Machine.execPhaseArm s
  | .phaseCancel => Sys2Proof.Machine.execPhaseCancel s
  | .timeStatus => Sys2Proof.Machine.execTimeStatus s
  | .timeConvert => Sys2Proof.Machine.execTimeConvert s
  | .timeRestep => Sys2Proof.Machine.execTimeRestep s
  | .linkRxAlign port lane0 lane1 => Sys2Proof.Machine.execLinkRxAlign port lane0 lane1 s
  | .linkAttemptExpiry port => Sys2Proof.Machine.execLinkAttemptExpiry port s
  | .linkHelloSend port => Sys2Proof.Machine.execLinkHelloSend port s
  | .linkHelloReceive port flags sender depth ver nport role => Sys2Proof.Machine.execLinkHelloReceive port flags sender depth ver nport role s
  | .linkHelloTimeout port => Sys2Proof.Machine.execLinkHelloTimeout port s
  | .cellReceive port cell corrected bad0 bad1 overlaps => Sys2Proof.Machine.execCellReceive port cell corrected bad0 bad1 overlaps s
  | .cellSlotTransmit port bufErr => Sys2Proof.Machine.execCellSlotTransmit port bufErr s
  | .creditCellDue port => Sys2Proof.Machine.execCreditCellDue port s
  | .creditStallTimeout port vl => Sys2Proof.Machine.execCreditStallTimeout port vl s
  | .replayRequestReceive port lseq => Sys2Proof.Machine.execReplayRequestReceive port lseq s
  | .replayRequestWaitExpiry port => Sys2Proof.Machine.execReplayRequestWaitExpiry port s
  | .replayTimeout port => Sys2Proof.Machine.execReplayTimeout port s
  | .keepaliveTimeout port => Sys2Proof.Machine.execKeepaliveTimeout port s
  | .laneLockLoss port lane => Sys2Proof.Machine.execLaneLockLoss port lane s
  | .laneDropMessage port lane echo => Sys2Proof.Machine.execLaneDropMessage port lane echo s
  | .laneAddMessage port lane echo => Sys2Proof.Machine.execLaneAddMessage port lane echo s
  | .ringSurveySend which => Sys2Proof.Machine.execRingSurveySend which s
  | .ringSurveyReceive port head pos link failed => Sys2Proof.Machine.execRingSurveyReceive port head pos link failed s
  | .ringSurveyTimeout which => Sys2Proof.Machine.execRingSurveyTimeout which s
  | .ringFailReceive port head link nseq => Sys2Proof.Machine.execRingFailReceive port head link nseq s
  | .ringClearReceive port head link nseq => Sys2Proof.Machine.execRingClearReceive port head link nseq s
  | .ringWtrExpiry which => Sys2Proof.Machine.execRingWtrExpiry which s
  | .ringRevertReceive port head link nseq hold inst => Sys2Proof.Machine.execRingRevertReceive port head link nseq hold inst s
  | .ringRevertInstant which => Sys2Proof.Machine.execRingRevertInstant which s
  | .ringRevertHoldEnd which => Sys2Proof.Machine.execRingRevertHoldEnd which s
  | .linkStatus => Sys2Proof.Machine.execLinkStatus s
  | .linkCounters => Sys2Proof.Machine.execLinkCounters s
  | .linkControl => Sys2Proof.Machine.execLinkControl s
  | .linkRing => Sys2Proof.Machine.execLinkRing s
  | .tunOpen => Sys2Proof.Machine.execTunOpen s
  | .tunAdmitSend idx => Sys2Proof.Machine.execTunAdmitSend idx s
  | .tunAdmit queues => Sys2Proof.Machine.execTunAdmit queues s
  | .tunOffer cert sigOk => Sys2Proof.Machine.execTunOffer cert sigOk s
  | .tunOfferTimeout number => Sys2Proof.Machine.execTunOfferTimeout number s
  | .tunOfferAnswer number reason handleB share => Sys2Proof.Machine.execTunOfferAnswer number reason handleB share s
  | .tunResult cert sigOk => Sys2Proof.Machine.execTunResult cert sigOk s
  | .tunOpenTimeout idx => Sys2Proof.Machine.execTunOpenTimeout idx s
  | .tunClose => Sys2Proof.Machine.execTunClose s
  | .tunStatus => Sys2Proof.Machine.execTunStatus s
  | .tunList => Sys2Proof.Machine.execTunList s
  | .tunRekey => Sys2Proof.Machine.execTunRekey s
  | .tunRelease => Sys2Proof.Machine.execTunRelease s
  | .tunClosed => Sys2Proof.Machine.execTunClosed s
  | .tunNumberQuarantineEnd number => Sys2Proof.Machine.execTunNumberQuarantineEnd number s
  | .tunnelCellReceive cell tag shareOk => Sys2Proof.Machine.execTunnelCellReceive cell tag shareOk s
  | .dataCellOffer idx pdu dest sop eop payload => Sys2Proof.Machine.execDataCellOffer idx pdu dest sop eop payload s
  | .tunAckTimer idx => Sys2Proof.Machine.execTunAckTimer idx s
  | .tunRtoExpiry idx => Sys2Proof.Machine.execTunRtoExpiry idx s
  | .tunKeepaliveSend idx => Sys2Proof.Machine.execTunKeepaliveSend idx s
  | .tunDeadTimeout idx => Sys2Proof.Machine.execTunDeadTimeout idx s
  | .tunStallClose idx => Sys2Proof.Machine.execTunStallClose idx s
  | .tunCloseTimeout idx second => Sys2Proof.Machine.execTunCloseTimeout idx second s
  | .lossyRepeatTimer idx => Sys2Proof.Machine.execLossyRepeatTimer idx s
  | .rekeyMinExpiry idx => Sys2Proof.Machine.execRekeyMinExpiry idx s
  | .rekeyAcceptTimeout idx => Sys2Proof.Machine.execRekeyAcceptTimeout idx s
  | .rekeyRetry idx => Sys2Proof.Machine.execRekeyRetry idx s
  | .oldKeyRetire idx => Sys2Proof.Machine.execOldKeyRetire idx s
  | .rsqHoleTimeout tunnel status => Sys2Proof.Machine.execRsqHoleTimeout tunnel status s
  | .sharedAdmitRetry ingress => Sys2Proof.Machine.execSharedAdmitRetry ingress s
  | .egressDecision egress => Sys2Proof.Machine.execEgressDecision egress s
  | .crossbarSlot => Sys2Proof.Machine.execCrossbarSlot s
  | .gsEccError bank row ingress egress corrected => Sys2Proof.Machine.execGsEccError bank row ingress egress corrected s
  | .orderedHoldDrain tunnel => Sys2Proof.Machine.execOrderedHoldDrain tunnel s
  | .orderedHoldExpiry tunnel => Sys2Proof.Machine.execOrderedHoldExpiry tunnel s
  | .barrierDrain => Sys2Proof.Machine.execBarrierDrain s
  | .barrierTimeout id => Sys2Proof.Machine.execBarrierTimeout id s
  | .fwdStatus => Sys2Proof.Machine.execFwdStatus s
  | .fwdCounters => Sys2Proof.Machine.execFwdCounters s
  | .fwdGet => Sys2Proof.Machine.execFwdGet s
  | .fwdSet => Sys2Proof.Machine.execFwdSet s
  | .fwdBarrier => Sys2Proof.Machine.execFwdBarrier s
  | .fwdBarrierDone => Sys2Proof.Machine.execFwdBarrierDone s
  | .refillTick => Sys2Proof.Machine.execRefillTick s
  | .allotStatus => Sys2Proof.Machine.execAllotStatus s
  | .allotQueue => Sys2Proof.Machine.execAllotQueue s
  | .allotPolicer => Sys2Proof.Machine.execAllotPolicer s
  | .allotStage => Sys2Proof.Machine.execAllotStage s
  | .allotCancel => Sys2Proof.Machine.execAllotCancel s
  | .allotChange => Sys2Proof.Machine.execAllotChange s
  | .allotRequest ans => Sys2Proof.Machine.execAllotRequest ans s
  | .allotApplied => Sys2Proof.Machine.execAllotApplied s
  | .beacon engine pair offGrid => Sys2Proof.Machine.execBeacon engine pair offGrid s
  | .beaconLate engine pair offGrid => Sys2Proof.Machine.execBeaconLate engine pair offGrid s
  | .statusFrameReceive seg framed valid mac node cseq flags alarm tid result words => Sys2Proof.Machine.execStatusFrameReceive seg framed valid mac node cseq flags alarm tid result words s
  | .enrolFrameReceive seg signal frame => Sys2Proof.Machine.execEnrolFrameReceive seg signal frame s
  | .nodeAbsentTimeout seg node => Sys2Proof.Machine.execNodeAbsentTimeout seg node s
  | .segmentViolation seg node => Sys2Proof.Machine.execSegmentViolation seg node s
  | .babbleWindowEnd seg node => Sys2Proof.Machine.execBabbleWindowEnd seg node s
  | .babbleCutExpiry seg node => Sys2Proof.Machine.execBabbleCutExpiry seg node s
  | .segmentJam seg => Sys2Proof.Machine.execSegmentJam seg s
  | .segmentJamClear seg => Sys2Proof.Machine.execSegmentJamClear seg s
  | .jamCutExpiry seg => Sys2Proof.Machine.execJamCutExpiry seg s
  | .sceneReportTimeout handle => Sys2Proof.Machine.execSceneReportTimeout handle s
  | .epSegment => Sys2Proof.Machine.execEpSegment s
  | .epNode => Sys2Proof.Machine.execEpNode s
  | .sceneStatus => Sys2Proof.Machine.execSceneStatus s
  | .sceneArm => Sys2Proof.Machine.execSceneArm s
  | .sceneCancel => Sys2Proof.Machine.execSceneCancel s
  | .sceneDone => Sys2Proof.Machine.execSceneDone s
  | .dirGet => Sys2Proof.Machine.execDirGet s
  | .dirFind => Sys2Proof.Machine.execDirFind s
  | .dirStatus => Sys2Proof.Machine.execDirStatus s
  | .dirSet => Sys2Proof.Machine.execDirSet s
  | .dirDelete => Sys2Proof.Machine.execDirDelete s
  | .dirReport ans => Sys2Proof.Machine.execDirReport ans s
  | .dirGone => Sys2Proof.Machine.execDirGone s
  | .bar2Read fn offset len => Sys2Proof.Machine.execBar2Read fn offset len s
  | .bar2Write fn offset slots => Sys2Proof.Machine.execBar2Write fn offset slots s
  | .delayedReadHoldEnd tag => Sys2Proof.Machine.execDelayedReadHoldEnd tag s
  | .delayedReadCollectExpiry tag => Sys2Proof.Machine.execDelayedReadCollectExpiry tag s
  | .memReadTimeout tag => Sys2Proof.Machine.execMemReadTimeout tag s
  | .prefetchExpiry fn win => Sys2Proof.Machine.execPrefetchExpiry fn win s
  | .bridgeRead src tag lsid exp slots target bytes dev => Sys2Proof.Machine.execBridgeRead src tag lsid exp slots target bytes dev s
  | .bridgeWrite src confirmed tag lsid exp target data dev => Sys2Proof.Machine.execBridgeWrite src confirmed tag lsid exp target data dev s
  | .bridgeLock src tag lsid target depth source hub => Sys2Proof.Machine.execBridgeLock src tag lsid target depth source hub s
  | .bridgeUnlock src tag lsid target => Sys2Proof.Machine.execBridgeUnlock src tag lsid target s
  | .bridgeSubscribe src firstEp mask => Sys2Proof.Machine.execBridgeSubscribe src firstEp mask s
  | .bridgeAnswer tun op status tag lsid target data => Sys2Proof.Machine.execBridgeAnswer tun op status tag lsid target data s
  | .bridgeIntr tun ep alarm => Sys2Proof.Machine.execBridgeIntr tun ep alarm s
  | .lockExpiry seg => Sys2Proof.Machine.execLockExpiry seg s
  | .lockBackoffEnd lsid => Sys2Proof.Machine.execLockBackoffEnd lsid s
  | .epBridge => Sys2Proof.Machine.execEpBridge s
  | .epWindow => Sys2Proof.Machine.execEpWindow s
  | .epWinget => Sys2Proof.Machine.execEpWinget s
  | .epRead => Sys2Proof.Machine.execEpRead s
  | .epWrite => Sys2Proof.Machine.execEpWrite s
  | .epLock => Sys2Proof.Machine.execEpLock s
  | .epUnlock => Sys2Proof.Machine.execEpUnlock s
  | .epErrlog => Sys2Proof.Machine.execEpErrlog s
  | .dispHpdHigh head edid => Sys2Proof.Machine.execDispHpdHigh head edid s
  | .dispHpdLow head => Sys2Proof.Machine.execDispHpdLow head s
  | .dispIrqHpd head lost => Sys2Proof.Machine.execDispIrqHpd head lost s
  | .frameStart head => Sys2Proof.Machine.execFrameStart head s
  | .rasterSend idx => Sys2Proof.Machine.execRasterSend idx s
  | .displayCellReceive idx payload => Sys2Proof.Machine.execDisplayCellReceive idx payload s
  | .dispStatus => Sys2Proof.Machine.execDispStatus s
  | .dispEdid => Sys2Proof.Machine.execDispEdid s
  | .dispCommit => Sys2Proof.Machine.execDispCommit s
  | .dispWrite => Sys2Proof.Machine.execDispWrite s
  | .dispTarget => Sys2Proof.Machine.execDispTarget s
  | .ccAttachDetect port cc1 cc2 => Sys2Proof.Machine.execCcAttachDetect port cc1 cc2 s
  | .drpToggle port => Sys2Proof.Machine.execDrpToggle port s
  | .ccDebounceExpiry port cc1 cc2 vbus5 vbus0 => Sys2Proof.Machine.execCcDebounceExpiry port cc1 cc2 vbus5 vbus0 s
  | .trySrcDetect port cc1 cc2 => Sys2Proof.Machine.execTrySrcDetect port cc1 cc2 s
  | .trySrcTimeout port => Sys2Proof.Machine.execTrySrcTimeout port s
  | .trywaitTimeout port => Sys2Proof.Machine.execTrywaitTimeout port s
  | .deskDetach port => Sys2Proof.Machine.execDeskDetach port s
  | .vbusDischarged port => Sys2Proof.Machine.execVbusDischarged port s
  | .safe0vTimeout port => Sys2Proof.Machine.execSafe0vTimeout port s
  | .errorRecoveryEnd port => Sys2Proof.Machine.execErrorRecoveryEnd port s
  | .vbusProtection port kind => Sys2Proof.Machine.execVbusProtection port kind s
  | .faultExit port => Sys2Proof.Machine.execFaultExit port s
  | .sourceCapsSend port cable => Sys2Proof.Machine.execSourceCapsSend port cable s
  | .pdRequest port pdo mv ma => Sys2Proof.Machine.execPdRequest port pdo mv ma s
  | .pdTransitionDone port => Sys2Proof.Machine.execPdTransitionDone port s
  | .ppsRequestTimeout port => Sys2Proof.Machine.execPpsRequestTimeout port s
  | .eprModeEnter port => Sys2Proof.Machine.execEprModeEnter port s
  | .prSwapReceive port => Sys2Proof.Machine.execPrSwapReceive port s
  | .vconnSwapReceive port => Sys2Proof.Machine.execVconnSwapReceive port s
  | .drSwapReceive port => Sys2Proof.Machine.execDrSwapReceive port s
  | .pdWaitReceive port msg => Sys2Proof.Machine.execPdWaitReceive port msg s
  | .waitRetryExpiry port msg => Sys2Proof.Machine.execWaitRetryExpiry port msg s
  | .hardReset port received => Sys2Proof.Machine.execHardReset port received s
  | .srcRecoverExpiry port => Sys2Proof.Machine.execSrcRecoverExpiry port s
  | .swapPsRdyTimeout port => Sys2Proof.Machine.execSwapPsRdyTimeout port s
  | .deskReoffer => Sys2Proof.Machine.execDeskReoffer s
  | .deskReclaimTimeout port => Sys2Proof.Machine.execDeskReclaimTimeout port s
  | .contractTimeout port => Sys2Proof.Machine.execContractTimeout port s
  | .deskStatus mv ma => Sys2Proof.Machine.execDeskStatus mv ma s
  | .deskControl => Sys2Proof.Machine.execDeskControl s
  | .vdmDiscover port sop kind svid => Sys2Proof.Machine.execVdmDiscover port sop kind svid s
  | .vdmEnterMode port sop svid mode goodCrc => Sys2Proof.Machine.execVdmEnterMode port sop svid mode goodCrc s
  | .vdmExitMode port sop svid goodCrc => Sys2Proof.Machine.execVdmExitMode port sop svid goodCrc s
  | .dpStatusUpdate port => Sys2Proof.Machine.execDpStatusUpdate port s
  | .dpConfigure port pin rate goodCrc => Sys2Proof.Machine.execDpConfigure port pin rate goodCrc s
  | .dpSinkTraining port rate lanes stream => Sys2Proof.Machine.execDpSinkTraining port rate lanes stream s
  | .captureFrameComplete port lines => Sys2Proof.Machine.execCaptureFrameComplete port lines s
  | .damageSend port => Sys2Proof.Machine.execDamageSend port s
  | .usbTunnelAttach idx port => Sys2Proof.Machine.execUsbTunnelAttach idx port s
  | .usbTunnelAttachAck idx status speed => Sys2Proof.Machine.execUsbTunnelAttachAck idx status speed s
  | .usbTunnelDetach idx status => Sys2Proof.Machine.execUsbTunnelDetach idx status s
  | .usbTunnelPacket idx uop data => Sys2Proof.Machine.execUsbTunnelPacket idx uop data s
  | .usbLaptopTransaction port dsport iso inward data => Sys2Proof.Machine.execUsbLaptopTransaction port dsport iso inward data s
  | .peripheralEnumerate port speed exportable => Sys2Proof.Machine.execPeripheralEnumerate port speed exportable s
  | .deskTunnelRetry port which => Sys2Proof.Machine.execDeskTunnelRetry port which s
  | .deskDataStatus => Sys2Proof.Machine.execDeskDataStatus s
  | .deskBind => Sys2Proof.Machine.execDeskBind s
  | .nvmeCommandFetch fn qid cid opc flags nsid cdw10 cdw11 cdw12 data => Sys2Proof.Machine.execNvmeCommandFetch fn qid cid opc flags nsid cdw10 cdw11 cdw12 data s
  | .storagePduRequest idx op volume tag nlb lba data => Sys2Proof.Machine.execStoragePduRequest idx op volume tag nlb lba data s
  | .storageCompletion src tag status data => Sys2Proof.Machine.execStorageCompletion src tag status data s
  | .storageInfo idx volume ack => Sys2Proof.Machine.execStorageInfo idx volume ack s
  | .storageTimeout tag => Sys2Proof.Machine.execStorageTimeout tag s
  | .driveLinkUp port gen lanes ident => Sys2Proof.Machine.execDriveLinkUp port gen lanes ident s
  | .driveReadyTimeout port => Sys2Proof.Machine.execDriveReadyTimeout port s
  | .storStatus => Sys2Proof.Machine.execStorStatus s
  | .storDrive => Sys2Proof.Machine.execStorDrive s
  | .ethLinkChange port signal => Sys2Proof.Machine.execEthLinkChange port signal s
  | .ethFrameReceive src frame => Sys2Proof.Machine.execEthFrameReceive src frame s
  | .ethLearnAge group mac => Sys2Proof.Machine.execEthLearnAge group mac s
  | .ptpSyncSend port => Sys2Proof.Machine.execPtpSyncSend port s
  | .ptpMessageReceive port domain msg => Sys2Proof.Machine.execPtpMessageReceive port domain msg s
  | .ethStatus => Sys2Proof.Machine.execEthStatus s
  | .ethFlush => Sys2Proof.Machine.execEthFlush s
  | .feedSample a b bus => Sys2Proof.Machine.execFeedSample a b bus s
  | .feedQualifyExpiry feed => Sys2Proof.Machine.execFeedQualifyExpiry feed s
  | .feedWarnSwitchTimer => Sys2Proof.Machine.execFeedWarnSwitchTimer s
  | .feedRevertTimer => Sys2Proof.Machine.execFeedRevertTimer s
  | .feedGateOffSensed => Sys2Proof.Machine.execFeedGateOffSensed s
  | .feedGateOffTimeout => Sys2Proof.Machine.execFeedGateOffTimeout s
  | .feedDeadTimeEnd => Sys2Proof.Machine.execFeedDeadTimeEnd s
  | .feedGateOnSensed => Sys2Proof.Machine.execFeedGateOnSensed s
  | .feedGateOnTimeout => Sys2Proof.Machine.execFeedGateOnTimeout s
  | .feedWarnRelease => Sys2Proof.Machine.execFeedWarnRelease s
  | .seatSample port seated => Sys2Proof.Machine.execSeatSample port seated s
  | .seatingQualified port => Sys2Proof.Machine.execSeatingQualified port s
  | .unseatWindowEnd port => Sys2Proof.Machine.execUnseatWindowEnd port s
  | .portPowerTick port mv ma gate fast => Sys2Proof.Machine.execPortPowerTick port mv ma gate fast s
  | .inrushTimeout port => Sys2Proof.Machine.execInrushTimeout port s
  | .shortAtStart port => Sys2Proof.Machine.execShortAtStart port s
  | .gateRiseTimeout port => Sys2Proof.Machine.execGateRiseTimeout port s
  | .shortedFetDetect port => Sys2Proof.Machine.execShortedFetDetect port s
  | .retryInstant port => Sys2Proof.Machine.execRetryInstant port s
  | .calibratorDone port lasting => Sys2Proof.Machine.execCalibratorDone port lasting s
  | .portOn60s port => Sys2Proof.Machine.execPortOn60s port s
  | .meterSample samples => Sys2Proof.Machine.execMeterSample samples s
  | .energyWindowClose => Sys2Proof.Machine.execEnergyWindowClose s
  | .pwrStatus => Sys2Proof.Machine.execPwrStatus s
  | .pwrPortStatus => Sys2Proof.Machine.execPwrPortStatus s
  | .pwrMeter => Sys2Proof.Machine.execPwrMeter s
  | .pwrInterval => Sys2Proof.Machine.execPwrInterval s
  | .pwrFeed => Sys2Proof.Machine.execPwrFeed s
  | .pwrPort => Sys2Proof.Machine.execPwrPort s
  | .tamperAlarm source => Sys2Proof.Machine.execTamperAlarm source s
  | .tamperUnstableEnd input => Sys2Proof.Machine.execTamperUnstableEnd input s
  | .tamperRecordCopy => Sys2Proof.Machine.execTamperRecordCopy s
  | .lifecycleArmLapse => Sys2Proof.Machine.execLifecycleArmLapse s
  | .keyStatus => Sys2Proof.Machine.execKeyStatus s
  | .keySlot => Sys2Proof.Machine.execKeySlot s
  | .keyMeasure => Sys2Proof.Machine.execKeyMeasure s
  | .keyAttest => Sys2Proof.Machine.execKeyAttest s
  | .keyCerts => Sys2Proof.Machine.execKeyCerts s
  | .keyGenerate => Sys2Proof.Machine.execKeyGenerate s
  | .keyPut => Sys2Proof.Machine.execKeyPut s
  | .keyDerive => Sys2Proof.Machine.execKeyDerive s
  | .keyErase => Sys2Proof.Machine.execKeyErase s
  | .keyExtend => Sys2Proof.Machine.execKeyExtend s
  | .keySign => Sys2Proof.Machine.execKeySign s
  | .keyCsr => Sys2Proof.Machine.execKeyCsr s
  | .keyCertSet cert => Sys2Proof.Machine.execKeyCertSet cert s
  | .keyDeny => Sys2Proof.Machine.execKeyDeny s
  | .keyLifecycle => Sys2Proof.Machine.execKeyLifecycle s
  | .keyTamper => Sys2Proof.Machine.execKeyTamper s
  | .updStatus => Sys2Proof.Machine.execUpdStatus s
  | .updBegin => Sys2Proof.Machine.execUpdBegin s
  | .updBlock => Sys2Proof.Machine.execUpdBlock s
  | .updCommit vendor owner digests rootVer => Sys2Proof.Machine.execUpdCommit vendor owner digests rootVer s
  | .updAbort => Sys2Proof.Machine.execUpdAbort s
  | .updActivate => Sys2Proof.Machine.execUpdActivate s
  | .updConfirm => Sys2Proof.Machine.execUpdConfirm s
  | .updLease ans => Sys2Proof.Machine.execUpdLease ans s
  | .updLeaseEnd => Sys2Proof.Machine.execUpdLeaseEnd s
  | .updIdleTimeout => Sys2Proof.Machine.execUpdIdleTimeout s
  | .leaseTimeout => Sys2Proof.Machine.execLeaseTimeout s
  | .healthLow => Sys2Proof.Machine.execHealthLow s
  | .healthTimerExpiry info => Sys2Proof.Machine.execHealthTimerExpiry info s
  | .autoConfirm => Sys2Proof.Machine.execAutoConfirm s
  | .rowTestDone bank row pass => Sys2Proof.Machine.execRowTestDone bank row pass s
  | .laneTestDone port lane pass => Sys2Proof.Machine.execLaneTestDone port lane pass s
  | .lpddrEccError err addr info => Sys2Proof.Machine.execLpddrEccError err addr info s
  | .engineMemoryError engine => Sys2Proof.Machine.execEngineMemoryError engine s
  | .pcieAerError port status => Sys2Proof.Machine.execPcieAerError port status s
  | .persistentLogWrite ok => Sys2Proof.Machine.execPersistentLogWrite ok s
  | .diagStatus => Sys2Proof.Machine.execDiagStatus s
  | .diagErrlog => Sys2Proof.Machine.execDiagErrlog s
  | .diagTest loop => Sys2Proof.Machine.execDiagTest loop s
  | .diagRestore => Sys2Proof.Machine.execDiagRestore s
  | .diagClear => Sys2Proof.Machine.execDiagClear s
  | .powerLoss => Sys2Proof.Machine.execPowerLoss s
  | .driveLinkDown port => Sys2Proof.Machine.execDriveLinkDown port s
  | .driveFatalStatus port => Sys2Proof.Machine.execDriveFatalStatus port s
  | .pcieLinkChange port gen lanes => Sys2Proof.Machine.execPcieLinkChange port gen lanes s
  | .laneSearchAlign port lane => Sys2Proof.Machine.execLaneSearchAlign port lane s
  | .pdPartnerAnswer port msg answer info => Sys2Proof.Machine.execPdPartnerAnswer port msg answer info s
  | .sourceCapsReceive port dualRole ma => Sys2Proof.Machine.execSourceCapsReceive port dualRole ma s
  | .eprModeExit port => Sys2Proof.Machine.execEprModeExit port s
  | .deadFeedAdvertisement port rp info => Sys2Proof.Machine.execDeadFeedAdvertisement port rp info s
  | .linkRateReport hub port kbps bundled => Sys2Proof.Machine.execLinkRateReport hub port kbps bundled s
  | .dispUnderrun head ecc => Sys2Proof.Machine.execDispUnderrun head ecc s
  | .storageTunnelRetry fn nsid => Sys2Proof.Machine.execStorageTunnelRetry fn nsid s
  | .flrWaitExpiry fn => Sys2Proof.Machine.execFlrWaitExpiry fn s
  | .tamperSourceInactive source => Sys2Proof.Machine.execTamperSourceInactive source s
  | .dispLinkTrained head result => Sys2Proof.Machine.execDispLinkTrained head result s
  | .deskUsbLinkTrained port rate => Sys2Proof.Machine.execDeskUsbLinkTrained port rate s
  | .dpStreamEnded port => Sys2Proof.Machine.execDpStreamEnded port s

end Sys2Proof.Machine
end

