-- ==== Sys2Proof/Safety.lean ====
section
/-!
DEFINITION. What counts as a safe run, in the terms that the statements use: every step answers a next state, and the hub keeps the
canonical form of LPDDR5X and the bounds of its event queues.
-/

namespace Sys2Proof

/-- The step at `s` answers a next state. -/
def Steps (s : Machine.State) : Prop := ∃ t, Machine.step s = .next t

end Sys2Proof

namespace Sys2Proof.Machine

/-- A mailbox keeps its bounds: PROD, CONS and SEQ are numbers modulo 2¹⁶, the queue holds at most 256 entries, and EV001 is not masked
(R45, R47, R62). -/
structure Mailbox.Ok (m : Mailbox) : Prop where
  prod : m.prod < 65536
  cons : m.cons < 65536
  seq : m.seqNext < 65536
  room : m.used ≤ 256
  unmasked : m.mask.getLsbD 1 = true

/-- A safe state: LPDDR5X is in its canonical form, every mailbox keeps its bounds, at most 64 events are held during a control
restart, and the error log holds at most 256 entries (R47, R49, R62, R550). -/
structure State.Inv (s : State) : Prop where
  dram : Memory.wf s.dram = true
  boxes : ∀ i, (s.box i).Ok
  held : s.mbx.heldEvents.length ≤ 64
  log : s.diag.log.length ≤ errorLogSize

end Sys2Proof.Machine
end

