-- ==== Sys2Proof/WellFormed.lean ====
section
/-!
DEFINITION. Which commands are well formed: the bounds that the spec puts on operands that are numbers or lists. An operand held in a
bit vector or a `Fin` carries its bound in its type.
-/

namespace Sys2Proof

/-- A place of the register window: a word of the 16 KiB window (R32, R35). -/
def wordOffset (o : Nat) : Bool := decide (o % 4 = 0) && decide (o < 16384)

/-- A TUNNEL value of 20 bits (R118). -/
def tunnelNumber (t : Nat) : Bool := decide (t < 1048576)

/-- A PTP time in ns that fits 64 bits. -/
def ptpTime (t : Nat) : Bool := decide (t < 18446744073709551616)

/-- A voltage as the hub measures it, in mV. -/
def millivolts (v : Nat) : Bool := decide (v ≤ 65535)

/-- A cell whose payload fits (R118). -/
def Cell.wf (c : Cell) : Bool := decide (c.payload.length ≤ 224)

/-- A certificate whose bytes fill its words and whose facts fit their fields. -/
def Cert.wf (c : Cert) : Bool :=
  decide (c.words.length = (c.len + 3) / 4) && decide (c.len < 65536) && decide (c.hub < 65536) && ptpTime c.notBefore && ptpTime c.notAfter

/-- A keyshare of 49 words (R175). -/
def keyshare (k : List Word) : Bool := decide (k.length = 49)

/-- A place in the tree whose fields fit. -/
def Place.wf (p : Place) : Bool := decide (p.parent < 65536) && decide (p.parentPort < 4) && decide (p.pos < 64)

/-- Facts of boot flash that name slots that exist; a copy is tried three times (R495, R505). -/
def StartInfo.wf (i : StartInfo) : Bool := i.badKeys.all (fun k => decide (k < 72)) && decide (i.copyFails ≤ 3)

/-- A PTP message whose fields fit. -/
def PtpMsg.wf : PtpMsg → Bool
  | .announce m => ptpTime m.identity && decide (m.prio1 < 256) && decide (m.cls < 256) && decide (m.prio2 < 256)
  | .sync i _ _ t _ | .followUp i _ t _ => ptpTime i && ptpTime t
  | .delayReq _ _ | .pdelayReq _ _ => true
  | .delayResp _ t _ | .pdelayResp _ _ t _ | .pdelayFollowUp _ t _ => ptpTime t

/-- The command is well formed. -/
def Instr.wf : Instr → Bool
  | .doorbellRing _ _ => true
  | .evqConsWrite _ _ => true
  | .evqPendClear _ => true
  | .registerWrite _ o _ => wordOffset o
  | .mgmtSpiBadTransaction _ _ => true
  | .pciePartialWindowAccess _ _ o _ _ => wordOffset o
  | .svcRequestFrame _ _ _ _ _ => true
  | .svcFrameGapTimeout _ => true
  | .svcEventFrameSend _ => true
  | .peerCommandPdu t _ _ _ _ d => tunnelNumber t && decide (d.length ≤ 1022)
  | .commandFinish i => i.wf
  | .rateLimitWindowEnd _ => true
  | .sysStatus => true
  | .sysReset => true
  | .sysCounters => true
  | .sysTopo => true
  | .sysSvcWindow => true
  | .svcWindowExpiry => true
  | .sysBivouac => true
  | .bivouacWake _ => true
  | .cfgApply => true
  | .cfgClamplog => true
  | .evtMask => true
  | .powerOn => true
  | .domAonStart _ i => i.wf
  | .startupEnd => true
  | .startupTimeout i => i.wf
  | .deadFeedFeedGood i => i.wf
  | .resetNAssert => true
  | .resetNRelease i => i.wf
  | .warmStart _ i => i.wf
  | .mcWatchdogExpiry => true
  | .engineWatchdogExpiry _ => true
  | .vcWatchdogExpiry i => i.wf
  | .controlRestartEnd => true
  | .controlRestartTimeout => true
  | .domainPgLoss _ i => i.wf
  | .domainRetry _ => true
  | .pcieFunctionReset _ => true
  | .joinRequest _ _ _ _ _ c k p => c.wf && keyshare k.share && p.wf
  | .joinReply _ _ r _ _ _ a => a.cert.wf && (r.isSome || keyshare a.key.share)
  | .joinReplyTimeout => true
  | .joinRetry => true
  | .zxEdge => true
  | .mainsLostTimeout => true
  | .mainsNoiseWindowEnd => true
  | .acquireTimeout => true
  | .mainsPullInLock => true
  | .guylineSyncSend => true
  | .guylineDelayReqSend => true
  | .guylineSync _ _ _ _ _ _ o _ => ptpTime o.ns
  | .guylineDelayRequest _ => true
  | .guylineDelayResponse _ t => ptpTime t
  | .guylineLoss => true
  | .schedulerFire i s => decide (i < 1024) && decide (s.length ≤ 16)
  | .trigEdge _ _ => true
  | .trigWindowEnd _ => true
  | .countWindowClose _ => true
  | .phaseStatus => true
  | .phaseArm => true
  | .phaseCancel => true
  | .timeStatus => true
  | .timeConvert => true
  | .timeRestep => true
  | .linkRxAlign _ _ _ => true
  | .linkAttemptExpiry _ => true
  | .linkHelloSend _ => true
  | .linkHelloReceive _ _ _ _ _ _ _ => true
  | .linkHelloTimeout _ => true
  | .cellReceive _ c _ _ _ _ => c.wf
  | .cellSlotTransmit _ _ => true
  | .creditCellDue _ => true
  | .creditStallTimeout _ _ => true
  | .replayRequestReceive _ _ => true
  | .replayRequestWaitExpiry _ => true
  | .replayTimeout _ => true
  | .keepaliveTimeout _ => true
  | .laneLockLoss _ _ => true
  | .laneDropMessage _ _ _ => true
  | .laneAddMessage _ _ _ => true
  | .ringSurveySend _ => true
  | .ringSurveyReceive _ _ _ _ _ => true
  | .ringSurveyTimeout _ => true
  | .ringFailReceive _ _ _ _ => true
  | .ringClearReceive _ _ _ _ => true
  | .ringWtrExpiry _ => true
  | .ringRevertReceive _ _ _ _ _ _ => true
  | .ringRevertInstant _ => true
  | .ringRevertHoldEnd _ => true
  | .linkStatus => true
  | .linkCounters => true
  | .linkControl => true
  | .linkRing => true
  | .tunOpen => true
  | .tunAdmitSend _ => true
  | .tunAdmit l => l.all fun q => decide (q.1 < 65536)
  | .tunOffer c _ => c.wf
  | .tunOfferTimeout _ => true
  | .tunOfferAnswer _ _ _ s => s == [] || keyshare s
  | .tunResult c _ => c.wf
  | .tunOpenTimeout _ => true
  | .tunClose => true
  | .tunStatus => true
  | .tunList => true
  | .tunRekey => true
  | .tunRelease => true
  | .tunClosed => true
  | .tunNumberQuarantineEnd _ => true
  | .tunnelCellReceive c _ _ => c.wf
  | .dataCellOffer _ _ _ _ _ p => decide (p.length ≤ 224)
  | .tunAckTimer _ => true
  | .tunRtoExpiry _ => true
  | .tunKeepaliveSend _ => true
  | .tunDeadTimeout _ => true
  | .tunStallClose _ => true
  | .tunCloseTimeout _ _ => true
  | .lossyRepeatTimer _ => true
  | .rekeyMinExpiry _ => true
  | .rekeyAcceptTimeout _ => true
  | .rekeyRetry _ => true
  | .oldKeyRetire _ => true
  | .rsqHoleTimeout _ _ => true
  | .sharedAdmitRetry _ => true
  | .egressDecision _ => true
  | .crossbarSlot => true
  | .gsEccError _ _ _ _ _ => true
  | .orderedHoldDrain _ => true
  | .orderedHoldExpiry _ => true
  | .barrierDrain => true
  | .barrierTimeout _ => true
  | .fwdStatus => true
  | .fwdCounters => true
  | .fwdGet => true
  | .fwdSet => true
  | .fwdBarrier => true
  | .fwdBarrierDone => true
  | .refillTick => true
  | .allotStatus => true
  | .allotQueue => true
  | .allotPolicer => true
  | .allotStage => true
  | .allotCancel => true
  | .allotChange => true
  | .allotRequest _ => true
  | .allotApplied => true
  | .beacon _ _ _ => true
  | .beaconLate _ _ _ => true
  | .statusFrameReceive _ _ _ _ _ _ _ _ _ _ w => decide (w.length ≤ 4)
  | .enrolFrameReceive _ _ _ => true
  | .nodeAbsentTimeout _ _ => true
  | .segmentViolation _ _ => true
  | .babbleWindowEnd _ _ => true
  | .babbleCutExpiry _ _ => true
  | .segmentJam _ => true
  | .segmentJamClear _ => true
  | .jamCutExpiry _ => true
  | .sceneReportTimeout _ => true
  | .epSegment => true
  | .epNode => true
  | .sceneStatus => true
  | .sceneArm => true
  | .sceneCancel => true
  | .sceneDone => true
  | .dirGet => true
  | .dirFind => true
  | .dirStatus => true
  | .dirSet => true
  | .dirDelete => true
  | .dirReport a => match a with | none => true | some r => decide (r.2.2.length ≤ 1022)
  | .dirGone => true
  | .bar2Read _ _ _ => true
  | .bar2Write _ _ s => decide (s.length ≤ 1024)
  | .delayedReadHoldEnd _ => true
  | .delayedReadCollectExpiry _ => true
  | .memReadTimeout _ => true
  | .prefetchExpiry _ _ => true
  | .bridgeRead _ _ _ _ _ _ _ d => match d with | none => true | some w => decide (w.length ≤ 1024)
  | .bridgeWrite _ _ _ _ _ _ d _ => decide (d.length ≤ 1024)
  | .bridgeLock _ _ _ _ _ _ _ => true
  | .bridgeUnlock _ _ _ _ => true
  | .bridgeSubscribe _ _ _ => true
  | .bridgeAnswer _ _ _ _ _ _ d => decide (d.length ≤ 1024)
  | .bridgeIntr _ _ _ => true
  | .lockExpiry _ => true
  | .lockBackoffEnd _ => true
  | .epBridge => true
  | .epWindow => true
  | .epWinget => true
  | .epRead => true
  | .epWrite => true
  | .epLock => true
  | .epUnlock => true
  | .epErrlog => true
  | .dispHpdHigh _ e => e.all fun b => decide (b.length = 32)
  | .dispHpdLow _ => true
  | .dispIrqHpd _ _ => true
  | .frameStart _ => true
  | .rasterSend _ => true
  | .displayCellReceive _ p => decide (p.length ≤ 224)
  | .dispStatus => true
  | .dispEdid => true
  | .dispCommit => true
  | .dispWrite => true
  | .dispTarget => true
  | .ccAttachDetect _ _ _ => true
  | .drpToggle _ => true
  | .ccDebounceExpiry _ _ _ _ _ => true
  | .trySrcDetect _ _ _ => true
  | .trySrcTimeout _ => true
  | .trywaitTimeout _ => true
  | .deskDetach _ => true
  | .vbusDischarged _ => true
  | .safe0vTimeout _ => true
  | .errorRecoveryEnd _ => true
  | .vbusProtection _ _ => true
  | .faultExit _ => true
  | .sourceCapsSend _ _ => true
  | .pdRequest _ _ v a => decide (v ≤ 65535) && decide (a ≤ 65535)
  | .pdTransitionDone _ => true
  | .ppsRequestTimeout _ => true
  | .eprModeEnter _ => true
  | .prSwapReceive _ => true
  | .vconnSwapReceive _ => true
  | .drSwapReceive _ => true
  | .pdWaitReceive _ _ => true
  | .waitRetryExpiry _ _ => true
  | .hardReset _ _ => true
  | .srcRecoverExpiry _ => true
  | .swapPsRdyTimeout _ => true
  | .deskReoffer => true
  | .deskReclaimTimeout _ => true
  | .contractTimeout _ => true
  | .deskStatus v a => decide (v ≤ 65535) && decide (a ≤ 65535)
  | .deskControl => true
  | .vdmDiscover _ _ _ _ => true
  | .vdmEnterMode _ _ _ _ _ => true
  | .vdmExitMode _ _ _ _ => true
  | .dpStatusUpdate _ => true
  | .dpConfigure _ _ _ _ => true
  | .dpSinkTraining _ _ _ s => match s with | none => true | some t => decide (t.1 ≤ 65535) && decide (t.2.1 ≤ 65535)
  | .captureFrameComplete _ l => l.all fun r => decide (r.1 < 65536)
  | .damageSend _ => true
  | .usbTunnelAttach _ _ => true
  | .usbTunnelAttachAck _ _ _ => true
  | .usbTunnelDetach _ _ => true
  | .usbTunnelPacket _ _ d => decide (d.length ≤ 4096)
  | .usbLaptopTransaction _ _ _ _ d => decide (d.length ≤ 1024)
  | .peripheralEnumerate _ _ _ => true
  | .deskTunnelRetry _ _ => true
  | .deskDataStatus => true
  | .deskBind => true
  | .nvmeCommandFetch _ _ _ _ _ _ _ _ _ d => decide (d.length ≤ 32768)
  | .storagePduRequest _ _ _ _ _ _ d => decide (d.length ≤ 32768)
  | .storageCompletion _ _ _ d => decide (d.length ≤ 32768)
  | .storageInfo _ _ _ => true
  | .storageTimeout _ => true
  | .driveLinkUp _ _ _ i => match i with | none => true | some d => decide (d.ns.length ≤ 1024) && decide (d.used ≤ 255) && decide (d.warning ≤ 255)
  | .driveReadyTimeout _ => true
  | .storStatus => true
  | .storDrive => true
  | .ethLinkChange _ _ => true
  | .ethFrameReceive _ f => decide (f.length ≤ 9600)
  | .ethLearnAge _ _ => true
  | .ptpSyncSend _ => true
  | .ptpMessageReceive _ _ m => m.wf
  | .ethStatus => true
  | .ethFlush => true
  | .feedSample a b v => millivolts a && millivolts b && millivolts v
  | .feedQualifyExpiry _ => true
  | .feedWarnSwitchTimer => true
  | .feedRevertTimer => true
  | .feedGateOffSensed => true
  | .feedGateOffTimeout => true
  | .feedDeadTimeEnd => true
  | .feedGateOnSensed => true
  | .feedGateOnTimeout => true
  | .feedWarnRelease => true
  | .seatSample _ _ => true
  | .seatingQualified _ => true
  | .unseatWindowEnd _ => true
  | .portPowerTick _ v _ _ _ => millivolts v
  | .inrushTimeout _ => true
  | .shortAtStart _ => true
  | .gateRiseTimeout _ => true
  | .shortedFetDetect _ => true
  | .retryInstant _ => true
  | .calibratorDone _ _ => true
  | .portOn60s _ => true
  | .meterSample s => decide (s.length = 16)
  | .energyWindowClose => true
  | .pwrStatus => true
  | .pwrPortStatus => true
  | .pwrMeter => true
  | .pwrInterval => true
  | .pwrFeed => true
  | .pwrPort => true
  | .tamperAlarm _ => true
  | .tamperUnstableEnd _ => true
  | .tamperRecordCopy => true
  | .lifecycleArmLapse => true
  | .keyStatus => true
  | .keySlot => true
  | .keyMeasure => true
  | .keyAttest => true
  | .keyCerts => true
  | .keyGenerate => true
  | .keyPut => true
  | .keyDerive => true
  | .keyErase => true
  | .keyExtend => true
  | .keySign => true
  | .keyCsr => true
  | .keyCertSet c => c.wf
  | .keyDeny => true
  | .keyLifecycle => true
  | .keyTamper => true
  | .updStatus => true
  | .updBegin => true
  | .updBlock => true
  | .updCommit _ _ _ _ => true
  | .updAbort => true
  | .updActivate => true
  | .updConfirm => true
  | .updLease a => match a with | none => true | some w => decide (w.length ≤ 1022)
  | .updLeaseEnd => true
  | .updIdleTimeout => true
  | .leaseTimeout => true
  | .healthLow => true
  | .healthTimerExpiry i => i.wf
  | .autoConfirm => true
  | .rowTestDone _ _ _ => true
  | .laneTestDone _ _ _ => true
  | .lpddrEccError _ a i => decide (a < Config.memMiB * 1048576) && i.wf
  | .engineMemoryError _ => true
  | .pcieAerError _ _ => true
  | .persistentLogWrite _ => true
  | .diagStatus => true
  | .diagErrlog => true
  | .diagTest _ => true
  | .diagRestore => true
  | .diagClear => true
  | .powerLoss => true
  | .driveLinkDown _ => true
  | .driveFatalStatus _ => true
  | .pcieLinkChange _ _ _ => true
  | .laneSearchAlign _ _ => true
  | .pdPartnerAnswer _ _ _ i => i.wf
  | .sourceCapsReceive _ _ a => decide (a ≤ 65535)
  | .eprModeExit _ => true
  | .deadFeedAdvertisement _ _ i => i.wf
  | .linkRateReport _ _ k _ => decide (k < 4294967296)
  | .dispUnderrun _ _ => true
  | .storageTunnelRetry _ _ => true
  | .flrWaitExpiry _ => true
  | .tamperSourceInactive _ => true
  | .dispLinkTrained _ _ => true
  | .deskUsbLinkTrained _ _ => true
  | .dpStreamEnded _ => true

end Sys2Proof
end

