-- ==== Sys2Proof/Certificates/Slice0/Obligations.lean ====
section
/-!
DEFINITION. The statements for the provers. A clause that gives `exec c s` as one next state states the frame of `c` too: every
part of the hub that the right-hand side does not name is as it was in `s`.
-/

open Sys2Proof Sys2Proof.Machine

/-- A step runs the command at the front of the queue. For every command and state: a step with that command at the front of the queue is exec of it on
the state with the rest of the queue. With an empty queue a step is one FCLK cycle of 0.8 ns (the model's choice, log entry 2): the clock of the
disciplined oscillator and the PTP time move on by 0.8 ns as the servo has trimmed it, the phase count by the arcs of that time at the arc rate in
force, with their fractions kept, and nothing else changes. (spec/02_mailboxes.md: Order and duration) -/
def Obligations.StepTakesTheFrontCommand : Prop :=
  (∀ (c : Instr) (r : List Instr) (s : State), s.pending = c :: r → step s = exec c { s with pending := r }) ∧
  (∀ s : State, s.pending = [] → step s = .next { s with
     time.clock := s.time.clock + (8 * (1000000000 + s.time.rate)).toNat
     time.ns := s.time.ns + (s.time.sub + (8 * (1000000000 + s.time.rate)).toNat) / 10000000000
     time.sub := (s.time.sub + (8 * (1000000000 + s.time.rate)).toNat) % 10000000000
     phase.count := (s.phase.count + (s.phase.sub + 262144 * s.arcRate * (8 * (1000000000 + s.time.rate)).toNat / 1000000000) / 10000000000000) % 2 ^ 50
     phase.sub := (s.phase.sub + 262144 * s.arcRate * (8 * (1000000000 + s.time.rate)).toNat / 1000000000) % 10000000000000 })

/-- The hub before VAON is applied. In State.reset: the phase base is in ACQUIRE and PTP time UNSET, the AON seconds are 0, no scheduler entry and no
tunnel is held, the hub is joined to no tree, the error log is empty, no command waits, the count of refused requests is 0, the SEQ of every event
queue is 0 and every event is enabled in every mailbox, the 16 lighting ports are UNSEATED, and LPDDR5X lists no byte (the model's choice, log entry
4). (spec/00_scope.md: Requirements, timers and counters, spec/02_mailboxes.md: Event queues, spec/02_mailboxes.md: Commands and events of this
chapter, spec/03_phase_base.md: The phase counter, spec/03_phase_base.md: PTP time, spec/03_phase_base.md: The scheduler, spec/17_startup.md: Cold
start, spec/17_startup.md: Resets) -/
def Obligations.ResetStateIsAsTheSpecSays : Prop :=
  State.reset.phase.st = .acquire ∧ State.reset.time.st = .unset ∧ State.reset.sys.aonS = 0 ∧ State.reset.sched.entries = [] ∧ State.reset.tun.table = [] ∧
  State.reset.joined = false ∧ State.reset.diag.log = [] ∧ State.reset.dram = [] ∧ State.reset.pending = [] ∧ State.reset.mbx.authRefused = 0 ∧
  (∀ i, (State.reset.box i).seqNext = 0 ∧ (State.reset.box i).mask = BitVec.allOnes 256) ∧
  (∀ p : Fin 16, (State.reset.lp p.val).st = .unseated)

/-- The reset state is a safe state that steps. The reset state is safe: LPDDR5X is in canonical form, every mailbox keeps its bounds, no more than 64
events are held and the error log holds at most 256 entries. A step from it answers a next state. (spec/02_mailboxes.md: Event queues,
spec/02_mailboxes.md: Commands and events of this chapter, spec/18_faults.md: Error logs) -/
def Obligations.ResetIsSafe : Prop :=
  State.reset.Inv ∧ Steps State.reset

/-- Every step from a safe state leads to a safe state. For every state, reached or not, that is safe: if a step answers a next state, that state is safe.
So whatever command runs, LPDDR5X keeps its one canonical form, PROD, CONS and SEQ stay numbers modulo 2^16 with at most 256 entries in every queue,
EV001 stays unmasked in every mailbox, at most 64 events are held during a control restart and the error log holds at most 256 entries.
(spec/01_topology.md: Hosts sharing one hub, spec/02_mailboxes.md: Event queues, spec/02_mailboxes.md: Commands and events of this chapter,
spec/18_faults.md: Error logs) -/
def Obligations.EveryStepKeepsTheSafeStates : Prop :=
  ∀ s t : State, s.Inv → step s = .next t → t.Inv

/-- Every command answers a next state and leaves the queue as it was. For every command and every state, exec answers a next state, never a fault and
never a refusal, and the commands that wait are the same ones in the same order. (spec/01_topology.md: Hosts sharing one hub, spec/02_mailboxes.md:
Order and duration) -/
def Obligations.EveryCommandCompletesAndLeavesTheQueue : Prop :=
  ∀ (c : Instr) (s : State), ∃ t, exec c s = .next t ∧ t.pending = s.pending

/-- A step always answers, and takes exactly the front command. For every state a step answers a next state whose queue is the old one without its front
command; an empty queue stays empty. (spec/01_topology.md: Hosts sharing one hub) -/
def Obligations.EveryStepTakesOneCommand : Prop :=
  ∀ s : State, ∃ t, step s = .next t ∧ t.pending = s.pending.tail

/-- R47: what an event queue holds and when it is full. Of a mailbox that keeps its bounds. The queue is full exactly when PROD - CONS, modulo 2^16,
equals 256. An event that finds room, with none lost before, is written into the slot PROD mod 256 with its SEQ, number, DATA and stamp, PROD is
incremented modulo 2^16, CONS is as it was, every other slot is as it was, and the mailbox keeps its bounds, so that at most 256 entries are held. A
CONS write that would make PROD - CONS exceed 256 is ignored; any other in a window that can be reached completes, and CONS then has the value
written. Completes with its own effect: EVQ_CONS_WRITE. (R47) -/
def Obligations.QueuesHoldTheirEntries : Prop :=
  (∀ m : Mailbox, m.Ok → (m.full = true ↔ (m.prod + 65536 - m.cons) % 65536 = 256)) ∧
  (∀ (m : Mailbox) (ev : Nat) (data : Word) (st : Stamp), m.Ok → m.full = false → m.lost = 0 →
     (m.push ev data st).prod = (m.prod + 1) % 65536 ∧ (m.push ev data st).cons = m.cons ∧ (m.push ev data st).Ok ∧
     (m.push ev data st).slot (m.prod % 256) = some { seq := m.seqNext, event := ev, data := data, stamp := st } ∧
     (∀ k, k ≠ m.prod % 256 → (m.push ev data st).slot k = m.slot k)) ∧
  (∀ (box : Fin 38) (c : BitVec 16) (s : State), 256 < ((s.box box).prod + 65536 - c.toNat) % 65536 → exec (.evqConsWrite box c) s = .next s) ∧
  (∀ (box : Fin 38) (c : BitVec 16) (s : State), s.windowOn box = true → ((s.box box).prod + 65536 - c.toNat) % 65536 ≤ 256 →
     ∃ t, exec (.evqConsWrite box c) s = .next t ∧ (t.box box).cons = c.toNat)

/-- R48: events lost in a full queue, and EV001. Of a mailbox that keeps its bounds. An event that finds the queue full is lost: the lost count goes up by
1, saturating at 0xFFFF_FFFF, SEQ is advanced, and nothing else of the mailbox changes. When a CONS write makes space after a loss, the hub writes
EV001 first: into the slot PROD mod 256, with the lost count in DATA and the SEQ that shows the gap, and the count starts again from 0, whatever the
event mask. An event that finds room after the lost ones have been reported is written into the next slot with the next SEQ.  Completes with its own
effect: EVQ_CONS_WRITE. (R48) -/
def Obligations.LostEventsAreReported : Prop :=
  (∀ (m : Mailbox) (ev : Nat) (data : Word) (st : Stamp), m.full = true →
     m.push ev data st = { m with lost := Nat.min 0xFFFFFFFF (m.lost + 1), seqNext := (m.seqNext + 1) % 65536 }) ∧
  (∀ (m : Mailbox) (st : Stamp), m.full = false → m.lost ≠ 0 →
     (m.flushLost st).slot (m.prod % 256) = some { seq := m.seqNext, event := 1, data := wd m.lost, stamp := st } ∧ (m.flushLost st).lost = 0 ∧
     (m.flushLost st).prod = (m.prod + 1) % 65536 ∧ (m.flushLost st).seqNext = (m.seqNext + 1) % 65536) ∧
  (∀ (m : Mailbox) (k : BitVec 256) (st : Stamp), { m with mask := k }.flushLost st = { m.flushLost st with mask := k }) ∧
  (∀ (m : Mailbox) (ev : Nat) (data : Word) (st : Stamp), (m.flushLost st).full = false →
     (m.push ev data st).slot ((m.flushLost st).prod % 256) = some { seq := (m.flushLost st).seqNext, event := ev, data := data, stamp := st }) ∧
  (∀ (box : Fin 38) (c : BitVec 16) (s : State), s.windowOn box = true → (s.box box).lost ≠ 0 → ((s.box box).prod + 65536 - c.toNat) % 65536 < 256 →
     ∃ t, exec (.evqConsWrite box c) s = .next t ∧ (t.box box).lost = 0 ∧
       (t.box box).slot ((s.box box).prod % 256) = some { seq := (s.box box).seqNext, event := 1, data := wd (s.box box).lost, stamp := s.now })

/-- Raising an event writes it to every mailbox it is bound for, and to no other. Outside a control restart, an event raised is pushed into the queue of
every mailbox whose class may receive it and whose mask enables it, with the phase stamp of now, and the queue is put in the order of stamps and event
numbers; every other mailbox is as it was. Nothing else of the hub changes but the record of what was sent. Putting a queue in order changes no more
than its slots, and nothing when at most one entry waits; of the last two entries that wait, with equal stamps and the higher number first, the events
change places while each slot keeps its SEQ. During a control restart no mailbox changes: the event is held while fewer than 64 are, and else joins
those to be counted as lost. (spec/02_mailboxes.md: Event queues, spec/19_commands.md: Events) -/
def Obligations.EventsReachTheMailboxesBoundForThem : Prop :=
  (∀ (s : State) (ev : Nat) (data : Word) (d : EvDest), s.mbx.restart = false →
     (∀ i, (s.raiseW ev data d).box i = if (s.box i).bound i ev d then ((s.box i).push ev data s.now).settle else s.box i) ∧
     { s.raiseW ev data d with mbx := s.mbx, outbox := s.outbox } = s ∧ { (s.raiseW ev data d).mbx with boxes := s.mbx.boxes } = s.mbx) ∧
  (∀ m : Mailbox, { m.settle with evSlots := m.evSlots } = m) ∧
  (∀ m : Mailbox, m.used ≤ 1 → m.settle = m) ∧
  (∀ (m : Mailbox) (a b : EvEntry), m.used = 2 → m.slot ((m.prod + 65534) % 65536 % 256) = some b → m.slot ((m.prod + 65535) % 65536 % 256) = some a →
     a.stamp = b.stamp → a.event < b.event →
     m.settle.slot ((m.prod + 65534) % 65536 % 256) = some { a with seq := b.seq } ∧
     m.settle.slot ((m.prod + 65535) % 65536 % 256) = some { b with seq := a.seq }) ∧
  (∀ (s : State) (ev : Nat) (data : Word) (d : EvDest), s.mbx.restart = true → s.mbx.heldEvents.length < 64 →
     s.raiseW ev data d = { s with mbx.heldEvents := s.mbx.heldEvents ++ [({ event := ev, data := data, stamp := s.now, dest := d } : HeldEvent)] }) ∧
  (∀ (s : State) (ev : Nat) (data : Word) (d : EvDest), s.mbx.restart = true → 64 ≤ s.mbx.heldEvents.length →
     s.raiseW ev data d = { s with mbx.heldLost := s.mbx.heldLost ++ [({ event := ev, data := data, stamp := s.now, dest := d } : HeldEvent)] })

/-- The checks of a request before its command runs, in their order. Of a request taken in its turn while no command runs and no control restart is under
way. With an opcode that is not assigned the answer is UNKNOWN_OPCODE (0x12), whatever its class and length. With one that its class may not issue,
the answer is the class check's code, 0x20 or 0x21, whatever its length; the refusal is counted and EV003 reported under its limit, and nothing else
changes. Else with a length that the command does not take it is BAD_LENGTH (0x11) and nothing else changes. A request that passes these checks,
outside the golden image and a dead-feed start, runs without an answer yet, and nothing else changes. (spec/02_mailboxes.md: Request and response
images, spec/02_mailboxes.md: Order and duration, spec/02_mailboxes.md: Authority) -/
def Obligations.RequestsAreCheckedInOrder : Prop :=
  (∀ (s : State) (r : Waiting), s.mbx.running = none → s.mbx.restart = false → s.mbx.waiting = [] → opInfo r.opcode = none →
     s.submit r = { s with mbx.running := some { req := r, resp := some { result := 0x12 } } }) ∧
  (∀ (s : State) (r : Waiting) (x : OpInfo) (c : Nat), s.mbx.running = none → s.mbx.restart = false → s.mbx.waiting = [] → opInfo r.opcode = some x →
     s.checkClass x r = some c →
     (c = 0x20 ∨ c = 0x21) ∧ s.submit r = ({ s with mbx.running := some { req := r, resp := some { result := c } }, mbx.authRefused := bump s.mbx.authRefused }.raiseRated 3 r.src.code 1
       [(r.src.code, 8), (c, 8), (r.opcode, 16)])) ∧
  (∀ (s : State) (r : Waiting) (x : OpInfo), s.mbx.running = none → s.mbx.restart = false → s.mbx.waiting = [] → opInfo r.opcode = some x →
     s.checkClass x r = none → x.len.ok r = false → s.submit r = { s with mbx.running := some { req := r, resp := some { result := 0x11 } } }) ∧
  (∀ (s : State) (r : Waiting) (x : OpInfo), s.mbx.running = none → s.mbx.restart = false → s.mbx.waiting = [] → opInfo r.opcode = some x →
     s.checkClass x r = none → x.len.ok r = true → s.upd.goldenRun = false → s.sys.start ≠ 1 → s.submit r = { s with mbx.running := some { req := r } })

/-- LPDDR5X: a read after a write, and every other byte. Of a state whose memory is in canonical form. After a write of some bytes at an address, a read
of as many there gives those bytes, every byte outside them reads as before, and the memory is in canonical form. (spec/17_startup.md: LPDDR5X) -/
def Obligations.MemoryReadsWhatWasWritten : Prop :=
  ∀ (s : State) (a : Nat) (bs : List Byte), Memory.wf s.dram = true →
  dramReadBytes (s.memWrite a bs).dram a bs.length = bs ∧ Memory.wf (s.memWrite a bs).dram = true ∧
  (∀ b, b < a ∨ a + bs.length ≤ b → dramRead (s.memWrite a bs).dram b = dramRead s.dram b)

/-- Doorbell, EVQ_CONS, EVQ_PEND, other window accesses, and transactions of MGMT_SPI. DOORBELL_RING: the windows whose RING is written in one FCLK cycle
ring in the order of the mailbox numbers, each as one doorbell. One doorbell of a window that can be reached, in IDLE or DONE, makes the mailbox BUSY,
clears its response area and submits the request image of its request area; in BUSY or OFFLINE it sets DB_IGNORED and submits nothing; a window that
cannot be reached is as it was. EVQ_CONS_WRITE takes a CONS with PROD - CONS of at most 256 in a window that can be reached and then writes EV001 for
lost events; any other changes nothing. EVQ_PEND_CLEAR clears EVQ_PEND where the window can be reached and PROD equals CONS, and else changes nothing.
REGISTER_WRITE of a whole aligned word in a window that can be reached is the write that the offset names, and else changes nothing. A transaction of
MGMT_SPI with an unknown instruction byte or an address that is no multiple of 4 is ignored and drives no SPI_SDO; instruction 0x02 writes the whole
words of its bytes from the address up, and 0x0B drives the bytes of the words from the address up, one for each byte clocked after the dummy byte;
with the window not to be reached nothing is read or written. A PCIe access to an aligned offset of a window that can be reached, without all byte
enables: a read returns 0 and a write changes nothing; with all of them a read returns the word at the offset and a write is the write of the word.
Each completes with its own effect: DOORBELL_RING, EVQ_CONS_WRITE, EVQ_PEND_CLEAR, REGISTER_WRITE, MGMT_SPI_BAD_TRANSACTION,
PCIE_PARTIAL_WINDOW_ACCESS. (spec/00_scope.md: Field maps and access codes, spec/02_mailboxes.md: Register window, spec/02_mailboxes.md: Access
through MGMT_SPI and PCIe, spec/02_mailboxes.md: Commands and responses, spec/02_mailboxes.md: Event queues, spec/02_mailboxes.md: Interrupts) -/
def Obligations.WindowWritesDoWhatTheirRegistersSay : Prop :=
  (∀ (box : Fin 38) (v : Word) (also : List (Fin 38)) (s : State),
     exec (.doorbellRing box ⟨v, also⟩) s =
       .next (((List.finRange 38).filter fun i => (i == box && bitAt v 0) || also.contains i).foldl State.ringOne s)) ∧
  (∀ (i : Fin 38) (s : State), s.windowOn i = true → (s.box i).st = .idle ∨ (s.box i).st = .done →
     s.ringOne i = ((s.spiHeard i).modBox i fun m => { m with st := .busy, respArea := [] }).submit ((s.box i).image (.win i))) ∧
  (∀ (i : Fin 38) (s : State), s.windowOn i = true → (s.box i).st = .busy ∨ (s.box i).st = .offline →
     s.ringOne i = (s.spiHeard i).modBox i fun m => { m with dbIgnored := true }) ∧
  (∀ (i : Fin 38) (s : State), s.windowOn i = false → s.ringOne i = s) ∧
  (∀ (box : Fin 38) (c : BitVec 16) (s : State),
     exec (.evqConsWrite box c) s = .next (if s.windowOn box ∧ ((s.box box).prod + 65536 - c.toNat) % 65536 ≤ 256 then
       (s.spiHeard box).modBox box fun m => ({ m with cons := c.toNat }).flushLost s.now else s)) ∧
  (∀ (box : Fin 38) (s : State),
     exec (.evqPendClear box) s = .next (if s.windowOn box ∧ (s.box box).prod = (s.box box).cons then
       (s.spiHeard box).modBox box fun m => { m with evqPend := false } else s)) ∧
  (∀ (box : Fin 38) (o : Nat) (v : Word) (s : State),
     exec (.registerWrite box o v) s = .next (if s.windowOn box ∧ o % 4 = 0 then (s.spiHeard box).windowWrite box o v else s)) ∧
  (∀ (i : Fin 38) (o : Nat) (v : Word) (s : State), o ≠ 0x2000 → o ≠ 0x2014 → s.windowWrite i o v = s.modBox i fun m => m.write o v) ∧
  (∀ (i : Byte) (a : BitVec 16) (d : List Byte) (s : State), (i ≠ 0x02 ∧ i ≠ 0x0B) ∨ a.toNat % 4 ≠ 0 →
     exec (.mgmtSpiBadTransaction i ⟨a, d⟩) s = .next { s with mbx.spiIgnore := true, mbx.spiSdo := false }) ∧
  (∀ (i : Byte) (a : BitVec 16) (d : List Byte) (s : State), i = 0x02 ∨ i = 0x0B → a.toNat % 4 = 0 → s.windowOn 0 = false →
     exec (.mgmtSpiBadTransaction i ⟨a, d⟩) s = .next { s with mbx.spiSdo := false }) ∧
  (∀ (a : BitVec 16) (d : List Byte) (s : State), a.toNat % 4 = 0 → s.windowOn 0 = true →
     exec (.mgmtSpiBadTransaction 0x02 ⟨a, d⟩) s = .next ({ s with mbx.spiIgnore := false, mbx.spiSdo := false }.spiWrites a.toNat (wordsLE d))) ∧
  (∀ (a : BitVec 16) (d : List Byte) (s : State), a.toNat % 4 = 0 → s.windowOn 0 = true →
     exec (.mgmtSpiBadTransaction 0x0B ⟨a, d⟩) s =
       .next ({ s with mbx.spiIgnore := false, mbx.spiSdo := true }.send (.spi ((s.box 0).spiOut a.toNat (d.length - 1))))) ∧
  (∀ (box : Fin 38) (w : Bool) (o : Nat) (e : BitVec 4) (v : Word) (s : State), 6 ≤ box.val → o < 0x4000 → o % 4 = 0 → e ≠ 0xF → s.windowOn box = true →
     exec (.pciePartialWindowAccess box w o e v) s = .next (if w then s else { s with mbx.pcieRead := some 0 }.send (.pcie (fnOf box) [0]))) ∧
  (∀ (box : Fin 38) (w : Bool) (o : Nat) (v : Word) (s : State), 6 ≤ box.val → o < 0x4000 → o % 4 = 0 → s.windowOn box = true →
     exec (.pciePartialWindowAccess box w o 0xF v) s = .next (if w then s.windowWrite box o v else
       { s with mbx.pcieRead := some ((s.box box).read o) }.send (.pcie (fnOf box) [(s.box box).read o]))) ∧
  (∀ (box : Fin 38) (w : Bool) (o : Nat) (e : BitVec 4) (v : Word) (s : State), box.val < 6 ∨ 0x4000 ≤ o ∨ o % 4 ≠ 0 ∨ s.windowOn box = false →
     exec (.pciePartialWindowAccess box w o e v) s = .next s)

/-- Frames of SVC_UART and PEER command PDUs. Of a framed mailbox that takes frames: the receiver holds the bytes of a frame under way and adds those that
arrive. While no frame has ended it keeps what it holds from SYNC on; a bad frame is counted in svcBadFrame and the bytes after it are kept from the
next SYNC on; a good frame is a doorbell with the request image of its payload, and the bytes after it are kept likewise. SYNC, TYPE 0x01, a LEN of 8
to 4,096 with its payload, and the CRC-16 over TYPE, LEN and PAYLOAD, each least significant byte first, make a good frame; a frame with another TYPE,
with another CRC, or with a LEN outside that range is bad. A gap of more than 1 ms with a frame under way discards it and counts it; with none under
way nothing changes. With an event entry waiting the oldest is sent as a TYPE 0x03 frame and consumed, and EV001 is written where events were lost;
with none waiting nothing is sent. A PEER command on an open mailbox tunnel joins the requests that wait; with 64 PEER commands waiting it is answered
BUSY (0x30) at once and nothing else changes. On any other tunnel it changes nothing. Each completes with its own effect: SVC_REQUEST_FRAME,
SVC_FRAME_GAP_TIMEOUT, SVC_EVENT_FRAME_SEND, PEER_COMMAND_PDU. (spec/02_mailboxes.md: SVC_UART frames, spec/02_mailboxes.md: PEER mailboxes) -/
def Obligations.FramedAndPeerMailboxesTakeRequests : Prop :=
  (∀ (box : Fin 38) (sk hd pl cr bytes held : List Byte) (s : State), bytes = sk ++ hd ++ pl ++ cr → s.frameOn box = true → rxStep ((s.box box).rx ++ bytes) = .more held →
     exec (.svcRequestFrame box sk hd pl cr) s = .next (s.modBox box fun m => { m with rx := held })) ∧
  (∀ (box : Fin 38) (sk hd pl cr bytes rest : List Byte) (s : State), bytes = sk ++ hd ++ pl ++ cr → s.frameOn box = true → rxStep ((s.box box).rx ++ bytes) = .bad rest →
     exec (.svcRequestFrame box sk hd pl cr) s =
       .next ({ s with mbx.svcBadFrame := bump s.mbx.svcBadFrame }.modBox box fun m => { m with rx := rest.dropWhile (· != 0xA5) })) ∧
  (∀ (box : Fin 38) (sk hd pl cr bytes payload rest : List Byte) (s : State), bytes = sk ++ hd ++ pl ++ cr → s.frameOn box = true → rxStep ((s.box box).rx ++ bytes) = .good payload rest →
     exec (.svcRequestFrame box sk hd pl cr) s =
       .next ((s.modBox box fun m => { m with rx := rest.dropWhile (· != 0xA5) }).doorbell box (frameImage box payload))) ∧
  (∀ (box : Fin 38) (sk hd pl cr : List Byte) (s : State), s.frameOn box = false → exec (.svcRequestFrame box sk hd pl cr) s = .next s) ∧
  (∀ (l0 l1 : Byte) (p rest : List Byte), p.length = l0.toNat + 256 * l1.toNat → 8 ≤ p.length → p.length ≤ 4096 →
     rxStep ([0xA5, 0x01, l0, l1] ++ p ++ [(crc16Frame (0x01 :: l0 :: l1 :: p)).extractLsb' 0 8, (crc16Frame (0x01 :: l0 :: l1 :: p)).extractLsb' 8 8] ++ rest) =
       .good p rest) ∧
  (∀ (ty l0 l1 c0 c1 : Byte) (p rest : List Byte), p.length = l0.toNat + 256 * l1.toNat → 8 ≤ p.length → p.length ≤ 4096 →
     ty ≠ 0x01 ∨ [c0, c1] ≠ [(crc16Frame (ty :: l0 :: l1 :: p)).extractLsb' 0 8, (crc16Frame (ty :: l0 :: l1 :: p)).extractLsb' 8 8] →
     rxStep ([0xA5, ty, l0, l1] ++ p ++ [c0, c1] ++ rest) = .bad rest) ∧
  (∀ (ty l0 l1 : Byte) (rest : List Byte), l0.toNat + 256 * l1.toNat < 8 ∨ 4096 < l0.toNat + 256 * l1.toNat →
     rxStep ([0xA5, ty, l0, l1] ++ rest) = .bad rest) ∧
  (∀ (box : Fin 38) (s : State), s.frameOn box = true → (s.box box).rx ≠ [] →
     exec (.svcFrameGapTimeout box) s = .next ({ s with mbx.svcBadFrame := bump s.mbx.svcBadFrame }.modBox box fun m => { m with rx := [] })) ∧
  (∀ (box : Fin 38) (s : State), s.frameOn box = false ∨ (s.box box).rx = [] → exec (.svcFrameGapTimeout box) s = .next s) ∧
  (∀ (box : Fin 38) (e : EvEntry) (s : State), s.frameOn box = true → (s.box box).prod ≠ (s.box box).cons →
     (s.box box).slot ((s.box box).cons % 256) = some e →
     exec (.svcEventFrameSend box) s = .next ((s.send (.frame box (frameBytes 0x03 e.words))).modBox box fun m =>
       ({ m with cons := (m.cons + 1) % 65536 }).flushLost s.now)) ∧
  (∀ (box : Fin 38) (s : State), s.frameOn box = false ∨ (s.box box).prod = (s.box box).cons → exec (.svcEventFrameSend box) s = .next s) ∧
  (∀ (tun : Nat) (p : Fin 4) (op len : BitVec 16) (tag : Word) (d : List Word) (s : State),
     exec (.peerCommandPdu tun p op len tag d) s = .next (if s.mailboxTunnel tun = false then s else if 64 ≤ s.peerWaiting then
         s.send (.answer (.peer tun p) op.toNat tag.toNat 0x30 0 [])
       else s.submit { src := .peer tun p, opcode := op.toNat, len := len.toNat, tag := tag, data := d }))

/-- SYS.STATUS, SYS.COUNTERS, SYS.TOPO, SYS.SVC_WINDOW, CFG.CLAMPLOG and EVT.MASK. Of the command that runs. SYS.STATUS returns CAUSE, START, DOMAINS,
uptime, AON time and the restart counts, to a TENANT only CAUSE and else 0. SYS.COUNTERS returns the eight hub-wide counters as they were and, with
CLEAR, sets them to 0. SYS.TOPO returns the topology words, to a TENANT only word 0 and else 0. SYS.SVC_WINDOW with n minutes opens a window of n, at
most 240, raises EV005 with 1 and the minutes, and returns OK_CLAMPED when it lowered n; with 0 it closes an open window with EV005 and 0, and without
one changes nothing. When the minutes of an open window run out it closes with EV005; without one nothing changes. CFG.CLAMPLOG returns the clamp
report of the boot clamp log from an entry on. EVT.MASK from a mailbox sets, where data comes with it, the mask bits of the events that its class may
receive and EV001's, keeps the others, and returns the mask of those events. Each completes with its own effect: SYS_STATUS, SYS_COUNTERS, SYS_TOPO,
SYS_SVC_WINDOW, SVC_WINDOW_EXPIRY, CFG_CLAMPLOG, EVT_MASK. (spec/01_topology.md: SYS.TOPO, spec/02_mailboxes.md: Service window, spec/02_mailboxes.md:
Configuration records, spec/02_mailboxes.md: Commands and events of this chapter, spec/17_startup.md: Commands and events) -/
def Obligations.SystemReportsHaveTheirWords : Prop :=
  (∀ (s : State) (r : Waiting), s.runningOp 0x0101 = some r →
     exec .sysStatus s = .next (s.respond (okR (if (s.srcTenant r.src).isSome then [pack [(s.sys.cause, 8)], 0, 0, 0] else
       [pack [(s.sys.cause, 8), (s.sys.start, 4), (0, 6), (s.domainBits, 14)], wd s.sys.upS, wd s.sys.aonS, pack [(s.sys.warm, 16), (s.sys.restarts, 16)]])))) ∧
  (∀ (s : State) (r : Waiting), s.runningOp 0x0103 = some r →
     exec .sysCounters s = .next ((if bitAt (r.w 0) 0 then
         { s with mbx.svcBadFrame := 0, mbx.authRefused := 0, phase.guyBad := 0, tun.unknown := 0, tun.dup := 0, tun.bad := 0,
                  sys.schedSkip := 0, sys.tableRestore := 0 } else s).respond
       (okR [wd s.mbx.svcBadFrame, wd s.mbx.authRefused, wd s.phase.guyBad, wd s.tun.unknown, wd s.tun.dup, wd s.tun.bad, wd s.sys.schedSkip,
         wd s.sys.tableRestore]))) ∧
  (∀ (s : State) (r : Waiting), s.runningOp 0x0110 = some r →
     exec .sysTopo s = .next (s.respond (okR (if (s.srcTenant r.src).isSome then [wordAt s.topoWords 0, 0, 0] else s.topoWords)))) ∧
  (∀ (s : State) (r : Waiting), s.runningOp 0x0120 = some r → r.f 0 7 0 ≠ 0 →
     exec .sysSvcWindow s = .next (({ s with mbx.svcWindow := some (Nat.min (r.f 0 7 0) 240) }.refreshAuth.raise 5
       [(1, 8), (Nat.min (r.f 0 7 0) 240, 8)]).respond (okC (Nat.min (r.f 0 7 0) 240 != r.f 0 7 0)))) ∧
  (∀ (s : State) (r : Waiting) (m : Nat), s.runningOp 0x0120 = some r → r.f 0 7 0 = 0 → s.mbx.svcWindow = some m →
     exec .sysSvcWindow s = .next (({ s with mbx.svcWindow := none }.refreshAuth.raise 5 [(0, 8), (m, 8)]).respond okR)) ∧
  (∀ (s : State) (r : Waiting), s.runningOp 0x0120 = some r → r.f 0 7 0 = 0 → s.mbx.svcWindow = none →
     exec .sysSvcWindow s = .next (s.respond okR)) ∧
  (∀ (s : State), s.mbx.svcWindow = none → exec .svcWindowExpiry s = .next s) ∧
  (∀ (s : State) (m : Nat), s.mbx.svcWindow = some m →
     exec .svcWindowExpiry s = .next ({ s with mbx.svcWindow := none }.refreshAuth.raise 5 [(0, 8), (m, 8)])) ∧
  (∀ (s : State) (r : Waiting), s.runningOp 0x0210 = some r →
     exec .cfgClamplog s = .next (s.respond (okR (clampReport 0 s.mbx.clampCount (s.mbx.clampLog.drop (r.w 0).toNat))))) ∧
  (∀ (s : State) (r : Waiting) (i : Fin 38), s.runningOp 0x0301 = some r → r.src = .win i →
     exec .evtMask s = .next (if r.data.isEmpty then s.respond (okR (maskWords ((s.box i).mask &&& receivable (s.box i).auth)))
       else (s.modBox i fun b => { b with mask := ((maskOf r.data &&& receivable (s.box i).auth) ||| ((s.box i).mask &&& ~~~ receivable (s.box i).auth)) ||| 2#256 }).respond
         (okR (maskWords ((((maskOf r.data &&& receivable (s.box i).auth) ||| ((s.box i).mask &&& ~~~ receivable (s.box i).auth)) ||| 2#256) &&&
           receivable (s.box i).auth)))))

/-- ZX_IN edges, lost mains, noise, acquisition and pull-in. ZX_EDGE. Before VAON, and at a ROOT with SYNTH_EN, nothing changes. Else an edge less than a
quarter of a nominal cycle (or of a 66 Hz cycle while no frequency is known) after the last accepted one is rejected and counted, and the ninth
rejection in a window makes the input noisy, its mains not accepted, with EV097 flag 1. On a noisy input any other edge is only remembered as the
last; on a usable one it is accepted. MAINS_LOST_TIMEOUT: at a ROOT in LOCKED without SYNTH_EN mains is no longer accepted, the phase correction is 0,
the input's state is 4 (3 while noisy), and the hub enters HOLDOVER at the mean frequency of the last cycles; at a ROOT with SYNTH_EN nothing changes;
at a hub that is not the ROOT only the mains input's own record changes. MAINS_NOISE_WINDOW_END: a noisy input with 8 rejections or fewer becomes
usable with EV097 flag 0; else only the count of rejections starts afresh. ACQUIRE_TIMEOUT: a ROOT in ACQUIRE enters SYNTH with the phase counter at
the synthetic alignment; else nothing changes. MAINS_PULL_IN_LOCK: a ROOT that pulls in onto accepted mains, with the error below 64 arcs for 16
cycles, enters LOCKED with no correction left; else nothing changes. Each completes with its own effect: ZX_EDGE, MAINS_LOST_TIMEOUT,
MAINS_NOISE_WINDOW_END, ACQUIRE_TIMEOUT, MAINS_PULL_IN_LOCK. (spec/03_phase_base.md: Mains tracking on ZX_IN) -/
def Obligations.MainsEdgesAndTheirTimeoutsMovePhase : Prop :=
  (∀ s : State, s.sys.stage = .off ∨ (s.isRoot && s.phase.cfg.synthEn) = true → exec .zxEdge s = .next s) ∧
  (∀ (s : State) (e hz : Nat), s.sys.stage ≠ .off → (s.isRoot && s.phase.cfg.synthEn) = false → s.phase.lastEdge = some e →
     s.nominalHz = some hz → hz = 50 ∨ hz = 60 → (s.time.clock - e) * (4 * hz) < secT → s.phase.winRej ≠ 8 ∨ s.phase.noisy = true →
     exec .zxEdge s = .next { s with phase.rejected := bump s.phase.rejected, phase.winRej := s.phase.winRej + 1 }) ∧
  (∀ (s : State) (e : Nat), s.sys.stage ≠ .off → (s.isRoot && s.phase.cfg.synthEn) = false → s.phase.lastEdge = some e →
     s.nominalHz = none → (s.time.clock - e) * 264 < secT → s.phase.winRej = 8 → s.phase.noisy = false →
     ∃ t, exec .zxEdge s = .next t ∧ t.phase.noisy = true ∧ t.phase.zx = 3 ∧ t.phase.mainsOk = false ∧ t.phase.winRej = 9) ∧
  (∀ (s : State), s.sys.stage ≠ .off → (s.isRoot && s.phase.cfg.synthEn) = false → s.phase.lastEdge = none →
     exec .zxEdge s = .next (if s.phase.noisy then { s with phase.lastEdge := some s.time.clock } else s.acceptEdge)) ∧
  (∀ (s : State) (e : Nat), s.sys.stage ≠ .off → (s.isRoot && s.phase.cfg.synthEn) = false → s.phase.lastEdge = some e →
     secT ≤ (s.time.clock - e) * 200 →
     exec .zxEdge s = .next (if s.phase.noisy then { s with phase.lastEdge := some s.time.clock } else s.acceptEdge)) ∧
  (∀ (s : State), s.isRoot = true → s.phase.cfg.synthEn = false → s.phase.st = .locked →
     ∃ t, exec .mainsLostTimeout s = .next t ∧ t.phase.st = .holdover ∧ t.phase.mainsOk = false ∧ t.phase.zx = (if s.phase.noisy then 3 else 4) ∧
       t.phase.corr = 0 ∧ t.phase.freq = s.meanFreq) ∧
  (∀ (s : State), s.isRoot = true → s.phase.cfg.synthEn = true → exec .mainsLostTimeout s = .next s) ∧
  (∀ (s : State), s.isRoot = false → exec .mainsLostTimeout s = .next { s with phase.zx := if s.phase.noisy then 3 else 4, phase.mainsOk := false, phase.goodRun := 0, phase.gap := true, phase.nearRun := 0, phase.offsetHeld := true }) ∧
  (∀ (s : State), s.phase.noisy = true → s.phase.winRej ≤ 8 →
     exec .mainsNoiseWindowEnd s = .next ({ s with phase.winRej := 0, phase.noisy := false, phase.zx := 1, phase.goodRun := 0 }.raise 97
       [(0, 1), (s.phase.winRej, 16)])) ∧
  (∀ (s : State), s.phase.noisy = false ∨ 8 < s.phase.winRej → exec .mainsNoiseWindowEnd s = .next { s with phase.winRej := 0 }) ∧
  (∀ (s : State), s.isRoot = true → s.phase.st = .acquire → ∃ t, exec .acquireTimeout s = .next t ∧ t.phase.st = .synth ∧ t.phase.count = s.synthAlign.1) ∧
  (∀ (s : State), s.isRoot = false ∨ s.phase.st ≠ .acquire → exec .acquireTimeout s = .next s) ∧
  (∀ (s : State), s.isRoot = true → s.phase.pulling = true → s.phase.mainsOk = true → 16 ≤ s.phase.nearRun →
     ∃ t, exec .mainsPullInLock s = .next t ∧ t.phase.st = .locked ∧ t.phase.pulling = false ∧ t.phase.corr = 0) ∧
  (∀ (s : State), s.isRoot = false ∨ s.phase.pulling = false ∨ s.phase.mainsOk = false ∨ s.phase.nearRun < 16 → exec .mainsPullInLock s = .next s)

/-- Guyline Sync and Delay messages, and Guyline lost. A hub that sends Guyline queues a Sync on each downstream link, in the order of the ports; a hub
that does not sends none. A hub queues a Delay request on its upstream link. A hub that sends Guyline answers a Delay request of a downstream link
with its PTP time; any other changes nothing. A Delay response on the upstream link sets the link delay to ((t2 - t1) + (t4 - t3)) / 2; one on another
link changes nothing. A Sync on a link that is not the upstream link changes nothing. A Sync on the upstream link of a hub in ACQUIRE steps PTP time
to its origin plus the link's delay and its fraction, steps the phase counter to its REF and ARC_FRAC plus the delay, and takes its GEN and frequency.
A hub other than the ROOT that is not in ACQUIRE, with no loss reported, enters HOLDOVER when Guyline is lost, with no correction left, and remembers
the loss; one in ACQUIRE, a ROOT, or one that has reported the loss is as it was. Each completes with its own effect: GUYLINE_SYNC_SEND,
GUYLINE_DELAY_REQ_SEND, GUYLINE_DELAY_REQUEST, GUYLINE_DELAY_RESPONSE, GUYLINE_SYNC, GUYLINE_LOSS. (spec/03_phase_base.md: Guyline timing) -/
def Obligations.GuylineMessagesCarryTimeAndPhase : Prop :=
  (∀ s : State, exec .guylineSyncSend s = .next (if s.guylineSends then
     (List.finRange 4).foldl (fun s p => if s.guylineDown p then s.guyQueue p 0 0 else s) s else s)) ∧
  (∀ s : State, exec .guylineDelayReqSend s = .next ((List.finRange 4).foldl (fun s p => if s.guylineUp p then s.guyQueue p 1 0 else s) s)) ∧
  (∀ (s : State) (p : Fin 4), s.guylineSends = true → s.guylineDown p = true → exec (.guylineDelayRequest p) s = .next (s.guyQueue p 2 s.time.ns)) ∧
  (∀ (s : State) (p : Fin 4), s.guylineSends = false ∨ s.guylineDown p = false → exec (.guylineDelayRequest p) s = .next s) ∧
  (∀ (s : State) (p : Fin 4) (rx : Nat), s.guylineUp p = true →
     exec (.guylineDelayResponse p rx) s = .next { s with
       phase.linkDelay := (((s.phase.t2 : Int) - s.phase.t1) + ((rx : Int) - s.phase.t3)) / 2, phase.guyDelayDone := true }) ∧
  (∀ (s : State) (p : Fin 4) (rx : Nat), s.guylineUp p = false → exec (.guylineDelayResponse p rx) s = .next s) ∧
  (∀ (s : State) (p : Fin 4) (fl dp : BitVec 8) (g af oF : BitVec 16) (ref : Stamp) (o : Nat) (fq : Word), s.guylineUp p = false →
     exec (.guylineSync p fl g dp ref af ⟨o, oF⟩ fq) s = .next s) ∧
  (∀ (s : State) (p : Fin 4) (fl dp : BitVec 8) (g af oF : BitVec 16) (ref : Stamp) (o : Nat) (fq : Word), s.guylineUp p = true → s.phase.st = .acquire →
     ∃ t, exec (.guylineSync p fl g dp ref af ⟨o, oF⟩ fq) s = .next t ∧ t.time.ns = ((o : Int) + s.syncDelay p).toNat ∧ t.time.sub = oF.toNat * 10000000000 / 65536 ∧ t.phase.gen = g.toNat ∧
       t.phase.freq = fq.toNat ∧ (t.phase.count, t.phase.sub) = syncPhase ref af (s.syncDelay p) fq.toNat) ∧
  (∀ s : State, s.isRoot = false → s.phase.st ≠ .acquire → s.phase.lossReported = false →
     ∃ t, exec .guylineLoss s = .next t ∧ t.phase.st = .holdover ∧ t.phase.guyLost = true ∧ t.phase.lossReported = true ∧ t.phase.corr = 0) ∧
  (∀ s : State, s.isRoot = true ∨ s.phase.st = .acquire ∨ s.phase.lossReported = true → exec .guylineLoss s = .next s)

/-- PHASE.STATUS, PHASE.ARM, PHASE.CANCEL, TIME.STATUS, TIME.CONVERT and TIME.RESTEP. Of the command that runs. PHASE.STATUS and TIME.STATUS return their
words and change nothing else. PHASE.ARM on reference or local phase in ACQUIRE, or on PTP time while it is UNSET, returns BUSY (0x30). On an aligned
base of 0 to 2, with ACTION 0, 1 or 6, it arms in the pool an entry with its base, action, NOTIFY and target, the instant as R91 clamps it, its period
not below 16 arcs or 1,250 ns, and its count of firings (one without a period, endless for COUNT 0), and returns the handle and the instant, with
OK_CLAMPED when the instant or the period was changed; with the pool full it returns NO_RESOURCE (0x40) and arms nothing. PHASE.CANCEL removes the
pool entry of the handle and returns OUTCOME 1 when it fired meanwhile, else 0 when it was there, else 2. TIME.CONVERT of a PTP time to a PTP time
returns it as it is; of an instant to reference or local phase it returns the count that it is now, and to PTP time the time that it is now.
TIME.RESTEP at a ROOT with no source and no time given returns BUSY; with a time given the ROOT steps PTP time to it, and with a source by its offset;
at another hub, not in ACQUIRE, PTP time is stepped by its offset and entries are invalidated; in ACQUIRE BUSY is returned. Each completes with its
own effect: PHASE_STATUS, TIME_STATUS, PHASE_ARM, PHASE_CANCEL, TIME_CONVERT, TIME_RESTEP. (spec/03_phase_base.md: PTP time, spec/03_phase_base.md:
The scheduler, spec/03_phase_base.md: Commands) -/
def Obligations.PhaseAndTimeCommandsAnswer : Prop :=
  (∀ (s : State) (r : Waiting), s.runningOp 0x1001 = some r → exec .phaseStatus s = .next (s.respond (okR s.phaseStatusWords))) ∧
  (∀ (s : State) (r : Waiting), s.runningOp 0x1101 = some r → exec .timeStatus s = .next (s.respond (okR s.timeStatusWords))) ∧
  (∀ (s : State) (r : Waiting), s.runningOp 0x1010 = some r → r.f 0 31 30 ≠ 2 → s.phase.st = .acquire →
     exec .phaseArm s = .next (s.respond (failR 0x30))) ∧
  (∀ (s : State) (r : Waiting), s.runningOp 0x1010 = some r → r.f 0 31 30 = 2 → s.time.st = .unset →
     exec .phaseArm s = .next (s.respond (failR 0x30))) ∧
  (∀ (s : State) (r : Waiting) (b a p v : Nat) (c : Bool), s.runningOp 0x1010 = some r → r.f 0 31 30 = b → r.f 0 29 27 = a → b < 3 → a = 0 ∨ a = 1 ∨ a = 6 →
     (if b = 2 then s.time.st ≠ .unset else s.phase.st ≠ .acquire) → s.applyInstant b (u64At r.data 1) = (v, c) →
     p = (if (r.w 3).toNat = 0 then 0 else Nat.max (r.w 3).toNat (if b = 2 then 1250 else 16)) →
     exec .phaseArm s = .next (((s.armEntry { base := b, action := a, notify := bitAt (r.w 0) 26, target := r.f 0 23 16, inst := v, period := p, left := if p = 0 then some 1 else if (r.w 4).toNat = 0 then none else some (r.w 4).toNat, armer := some r.src }).map
       fun x => x.1.respond (okC (c || p != (r.w 3).toNat) (wd (schedHandle x.2.idx x.2.gen) :: wd2 (instantWord b v)))).getD (s.respond (failR 0x40)))) ∧
  (∀ (s : State) (r : Waiting) (b : Bool) (v : Nat) (s' : State) (e' : SchedEntry), s.runningOp 0x1010 = some r → r.f 0 31 30 = 0 → r.f 0 29 27 = 0 →
     s.phase.st ≠ .acquire → s.applyInstant 0 (u64At r.data 1) = (v, b) → (r.w 3).toNat = 0 →
     s.armEntry { base := 0, action := 0, notify := bitAt (r.w 0) 26, target := r.f 0 23 16, inst := v, period := 0, left := some 1, armer := some r.src } =
       some (s', e') →
     exec .phaseArm s = .next (s'.respond (okC b (wd (schedHandle e'.idx e'.gen) :: wd2 (instantWord 0 v))))) ∧
  (∀ (s : State) (r : Waiting), s.runningOp 0x1011 = some r →
     exec .phaseCancel s = .next (({ s with
         sched.lastFired := []
         sched.entries := s.sched.entries.filter fun e => !(e.idx < 960 && !e.byScene && schedHandle e.idx e.gen == r.f 0 15 0) }).respond
       (okR [pack [(if s.sched.lastFired.contains (r.f 0 15 0) then 1
         else if s.sched.entries.any (fun e => e.idx < 960 && !e.byScene && schedHandle e.idx e.gen == r.f 0 15 0) then 0 else 2, 8)]]))) ∧
  (∀ (s : State) (r : Waiting), s.runningOp 0x1102 = some r → r.f 0 3 2 = 2 → r.f 0 1 0 = 2 →
     exec .timeConvert s = .next (s.respond (okR (wd2 (u64At r.data 1) ++ [pack [(0, 24), (Nat.min (s.unc 2) 255, 8)]])))) ∧
  (∀ (s : State) (r : Waiting), s.runningOp 0x1102 = some r → r.f 0 3 2 < 3 → r.f 0 1 0 < 3 → ¬(r.f 0 3 2 = 2 ∧ r.f 0 1 0 = 2) →
     exec .timeConvert s = .next (s.respond (okR (wd2 (s.fromRefCount (r.f 0 1 0) (s.toRefCount (r.f 0 3 2) (u64At r.data 1))) ++
       [pack [(0, 24), (Nat.min (s.unc 2) 255, 8)]])))) ∧
  (∀ (s : State) (r : Waiting), s.runningOp 0x1110 = some r → s.isRoot = true → s.time.cfg.source = 0 → r.len ≠ 8 →
     exec .timeRestep s = .next (s.respond (failR 0x30))) ∧
  (∀ (s : State) (r : Waiting), s.runningOp 0x1110 = some r → s.isRoot = true → s.time.cfg.source ≠ 0 ∨ r.len = 8 →
     exec .timeRestep s = .next ((let t := (if s.time.cfg.source = 0 then { s with time.ns := u64At r.data 0, time.sub := 0 } else s.stepTime (-s.time.offset)).nextGenRoot
       (if t.phase.st = .synth then { t with phase.count := t.synthAlign.1, phase.sub := t.synthAlign.2, phase.corr := 0 } else t).restepped).respond okR)) ∧
  (∀ (s : State) (r : Waiting), s.runningOp 0x1110 = some r → s.isRoot = false → s.phase.st = .acquire → exec .timeRestep s = .next (s.respond (failR 0x30))) ∧
  (∀ (s : State) (r : Waiting), s.runningOp 0x1110 = some r → s.isRoot = false → s.phase.st ≠ .acquire →
     exec .timeRestep s = .next ((s.stepTime (-s.time.offset)).restepped.respond okR))

/-- A scheduler entry fires; edges, noise windows and count windows of TRIG pins. SCHEDULER_FIRE: an entry that is there carries out its action, goes on
to its next instant or frees itself, and raises EV104 with NOTIFY; in Bivouac an entry whose action needs a domain that is off is skipped and counted
instead, and goes on to its next instant; without such an entry nothing changes. TRIG_EDGE: at an output, and before VAON, nothing changes. Else an
edge less than 10 µs after the last accepted one is rejected and counted, and the 1,001st rejection in a window makes the hub ignore the pin, with
EV107 flag 1; any other edge of an ignored pin is only remembered; one of a usable pin that does not count raises EV106 with its stamp where its
direction is enabled; one of a pin that counts is counted in its window, and EV106 then carries AMBIGUOUS where its stamp straddles. TRIG_WINDOW_END:
an ignored pin with 1,000 rejections or fewer is used again with EV107 flag 0; else only its rejections are counted afresh. COUNT_WINDOW_CLOSE of an
input that counts raises EV108 with the edges counted and the ambiguous ones among them, and the edges of the next window open it; of another pin
nothing changes. Each completes with its own effect: SCHEDULER_FIRE, TRIG_EDGE, TRIG_WINDOW_END, COUNT_WINDOW_CLOSE. (spec/03_phase_base.md: The
scheduler, spec/03_phase_base.md: Windows, uncertainty and captures) -/
def Obligations.SchedulerAndTriggersFire : Prop :=
  (∀ (s : State) (i : Nat) (sm : List (Nat × Int)), s.sched.entries.find? (fun e => e.idx == i) = none → exec (.schedulerFire i sm) s = .next s) ∧
  (∀ (s : State) (i : Nat) (sm : List (Nat × Int)) (e : SchedEntry), s.sched.entries.find? (fun e => e.idx == i) = some e → s.sys.stage ≠ .bivouac →
     exec (.schedulerFire i sm) s = .next (((((s.noteFired e).advanceEntry e).fireAction e sm)).notifyFired e)) ∧
  (∀ (s : State) (i : Nat) (sm : List (Nat × Int)) (e : SchedEntry), s.sched.entries.find? (fun e => e.idx == i) = some e → s.sys.stage = .bivouac →
     (actionDomain e.action).all (fun d => s.domOn d) = true →
     exec (.schedulerFire i sm) s = .next (((((s.noteFired e).advanceEntry e).fireAction e sm)).notifyFired e)) ∧
  (∀ (s : State) (i d : Nat) (sm : List (Nat × Int)) (e : SchedEntry), s.sched.entries.find? (fun e => e.idx == i) = some e → s.sys.stage = .bivouac →
     actionDomain e.action = some d → s.domOn d = false →
     exec (.schedulerFire i sm) s = .next ({ s with sys.schedSkip := bump s.sys.schedSkip }.skipEntry e)) ∧
  (∀ (s : State) (p : Fin 8) (r : Bool) (e : Nat), s.sys.stage ≠ .off → s.trig[p.val].output = false → s.trig[p.val].lastEdge = some e →
     s.time.clock - e < secT / 100000 → s.trig[p.val].winRej ≠ 1000 ∨ s.trig[p.val].ignored = true →
     exec (.trigEdge p r) s = .next { s with trig := updAt s.trig p fun x => { x with winRej := x.winRej + 1, level := r } }) ∧
  (∀ (s : State) (p : Fin 8) (r : Bool) (e : Nat), s.sys.stage ≠ .off → s.trig[p.val].output = false → s.trig[p.val].lastEdge = some e →
     s.time.clock - e < secT / 100000 → s.trig[p.val].winRej = 1000 → s.trig[p.val].ignored = false →
     ∃ t, exec (.trigEdge p r) s = .next t ∧ t.trig[p.val].ignored = true ∧ t.trig[p.val].winRej = 1001) ∧
  (∀ (s : State) (p : Fin 8) (r : Bool), s.sys.stage ≠ .off → s.trig[p.val].output = false →
     s.trig[p.val].lastEdge.all (fun e => secT / 100000 ≤ s.time.clock - e) = true → s.trig[p.val].ignored = true →
     exec (.trigEdge p r) s = .next { s with trig := updAt s.trig p fun x => { x with lastEdge := some s.time.clock, level := r } }) ∧
  (∀ (s : State) (p : Fin 8) (r : Bool), s.sys.stage ≠ .off → s.trig[p.val].output = false →
     s.trig[p.val].lastEdge.all (fun e => secT / 100000 ≤ s.time.clock - e) = true → s.trig[p.val].ignored = false → s.pinCounts p = false →
     exec (.trigEdge p r) s = .next (let t := { s with trig := updAt s.trig p fun x => { x with lastEdge := some s.time.clock, level := r } }
       if t.trig[p.val].edges.testBit (if r then 0 else 1) then
         t.raiseAt 106 (pack [(p.val, 3), (b2n r, 1)]) (mkStamp t.holdoverFlag false false t.synthFlag t.phase.count) .owner else t)) ∧
  (∀ (s : State) (p : Fin 8) (r : Bool), s.sys.stage ≠ .off → s.trig[p.val].output = false →
     s.trig[p.val].lastEdge.all (fun e => secT / 100000 ≤ s.time.clock - e) = true → s.trig[p.val].ignored = false → s.pinCounts p = true →
     exec (.trigEdge p r) s = .next (let t := { s with trig := updAt s.trig p fun x => { x with lastEdge := some s.time.clock, level := r } }
       if s.trig[p.val].edges.testBit (if r then 0 else 1) then (t.countEdge p).1.raiseAt 106 (pack [(p.val, 3), (b2n r, 1)])
         (mkStamp t.holdoverFlag (t.countEdge p).2 false t.synthFlag t.phase.count) .owner else (t.countEdge p).1)) ∧
  (∀ (s : State) (p : Fin 8) (r : Bool), s.sys.stage = .off ∨ s.trig[p.val].output = true → exec (.trigEdge p r) s = .next s) ∧
  (∀ (s : State) (p : Fin 8), s.trig[p.val].ignored = true → s.trig[p.val].winRej ≤ 1000 →
     ∃ t, exec (.trigWindowEnd p) s = .next t ∧ t.trig[p.val].ignored = false ∧ t.trig[p.val].winRej = 0) ∧
  (∀ (s : State) (p : Fin 8), s.trig[p.val].ignored = false ∨ 1000 < s.trig[p.val].winRej →
     exec (.trigWindowEnd p) s = .next { s with trig := updAt s.trig p fun x => { x with winRej := 0 } }) ∧
  (∀ (s : State) (p : Fin 8), s.pinCounts p = true → s.trig[p.val].output = false →
     exec (.countWindowClose p) s = .next ({ s with trig := updAt s.trig p fun x =>
         { x with count := x.nextCount, ambig := x.nextAmbig, nextCount := 0, nextAmbig := 0, winIdx := x.winIdx + 1 } }.raise
       108 [(p.val, 3), (Nat.min s.trig[p.val].ambig 4095, 12), (Nat.min s.trig[p.val].count 65535, 16)])) ∧
  (∀ (s : State) (p : Fin 8), s.pinCounts p = false ∨ s.trig[p.val].output = true → exec (.countWindowClose p) s = .next s)

/-- Lane search, HELLO and lane changes of a trunk port. Of a trunk port. LINK_RX_ALIGN: in SEARCH the lanes that LANES allows, that are not under test
and that the row names are aligned and the receiver has locked; once every allowed lane has aligned the port enters HELLO; in another state nothing
changes. LINK_ATTEMPT_EXPIRY: in SEARCH with a lane aligned the port enters HELLO; with none, after a receiver has locked it stays for one more
attempt, and else goes to the next lower rate, to MAX_RATE after the lowest, with cause 4; in another state nothing changes. LINK_HELLO_SEND queues a
HELLO, with SEEN when a neighbour's HELLO has come, and the port enters ACTIVE if that was all it waited for; outside HELLO and ACTIVE nothing
changes. LINK_HELLO_RECEIVE takes the neighbour it names; in HELLO with a version within 1 the port enters ACTIVE if that was all it waited for; with
another version EV035 is raised once; in ACTIVE the pair and the tree are checked anew; in SEARCH and DISABLED nothing changes. LINK_HELLO_TIMEOUT
returns a port in HELLO to SEARCH at the same rate with cause 5. LANE_LOCK_LOSS of one lane of two begins its drop with LANE_DROP; of every lane it
takes an ACTIVE port down with cause 1. LANE_DROP_MESSAGE that is no echo is answered with ECHO on a port of two lanes, whose lane goes out of use.
LANE_SEARCH_ALIGN and LANE_ADD_MESSAGE of a lane that may return queue LANE_ADD and its echo; the echoed lane, and that of an echo awaited, is used
again. In the cases named as changing nothing, and for a lane that may not return, the state is as it was. Each completes with its own effect:
LINK_RX_ALIGN, LINK_ATTEMPT_EXPIRY, LINK_HELLO_SEND, LINK_HELLO_RECEIVE, LINK_HELLO_TIMEOUT, LANE_LOCK_LOSS, LANE_DROP_MESSAGE, LANE_SEARCH_ALIGN,
LANE_ADD_MESSAGE. (spec/04_trunk_link.md: Bringing a port up, spec/04_trunk_link.md: Keepalive and link loss, spec/04_trunk_link.md: Lane drop and
restoration) -/
def Obligations.TrunkPortsTrainAndEnterHello : Prop :=
  (∀ (s : State) (p : Fin 4) (a b : Bool), (s.tp p.val).st ≠ .search → exec (.linkRxAlign p a b) s = .next s) ∧
  (∀ (s : State) (p : Fin 4) (a b : Bool), (s.tp p.val).st = .search →
     exec (.linkRxAlign p a b) s = .next (
       let u := s.modTp p.val fun t => { t with stay := true, locked := true, aligned := #v[
         t.aligned[0] || (a && (s.tp p.val).allowed 0 && !s.testRuns 2 (laneUnit p.val 0)), t.aligned[1] || (b && (s.tp p.val).allowed 1 && !s.testRuns 2 (laneUnit p.val 1))] }
       if ((u.tp p.val).allowed 0 || (u.tp p.val).allowed 1) && (!(u.tp p.val).allowed 0 || (u.tp p.val).aligned[0]) && (!(u.tp p.val).allowed 1 || (u.tp p.val).aligned[1])
       then u.enterHello p.val else u)) ∧
  (∀ (s : State) (p : Fin 4), (s.tp p.val).st ≠ .search → exec (.linkAttemptExpiry p) s = .next s) ∧
  (∀ (s : State) (p : Fin 4), (s.tp p.val).st = .search → (s.tp p.val).aligned[0] = true ∨ (s.tp p.val).aligned[1] = true →
     exec (.linkAttemptExpiry p) s = .next (s.enterHello p.val)) ∧
  (∀ (s : State) (p : Fin 4), (s.tp p.val).st = .search → (s.tp p.val).aligned[0] = false → (s.tp p.val).aligned[1] = false →
     exec (.linkAttemptExpiry p) s = .next (if (s.tp p.val).stay then s.modTp p.val fun t => { t with stay := false }
       else s.enterSearch p.val (if 2 ≤ (s.tp p.val).rate then (s.tp p.val).cfg.maxRate else (s.tp p.val).rate + 1) 4)) ∧
  (∀ (s : State) (p : Fin 4), (s.tp p.val).st = .hello ∨ (s.tp p.val).st = .active →
     exec (.linkHelloSend p) s = .next ((s.modTp p.val fun t => { t with
       lcq := t.lcq ++ [{ msg := 0, flags := b2n (s.tp p.val).nb.isSome * 128 }]
       sentSeen := t.sentSeen || t.nb.isSome }).tryActive p.val)) ∧
  (∀ (s : State) (p : Fin 4), (s.tp p.val).st = .search ∨ (s.tp p.val).st = .disabled → exec (.linkHelloSend p) s = .next s) ∧
  (∀ (s : State) (p : Fin 4) (f dp v n : Byte) (h : BitVec 16) (ro : BitVec 2), (s.tp p.val).st = .search ∨ (s.tp p.val).st = .disabled →
     exec (.linkHelloReceive p f h dp v n ro) s = .next s) ∧
  (∀ (s : State) (p : Fin 4) (f dp v n : Byte) (h : BitVec 16) (ro : BitVec 2), (s.tp p.val).st = .active →
     exec (.linkHelloReceive p f h dp v n ro) s =
       .next ((((s.modTp p.val fun t => { t with nb := some (neighbourOf f h.toNat dp.toNat v.toNat n.toNat ro.toNat) }).noteBelow p
         (((s.tp p.val).nb.map fun x => x.depth).getD 255)).checkBundles).settle)) ∧
  (∀ (s : State) (p : Fin 4) (f dp v n : Byte) (h : BitVec 16) (ro : BitVec 2), (s.tp p.val).st = .hello →
     exec (.linkHelloReceive p f h dp v n ro) s =
       .next ((fun u : State => if versionNear v.toNat s.version then u.tryActive p.val else if (s.tp p.val).verRaised then u
         else (u.modTp p.val fun t => { t with verRaised := true }).raise 35 [(p.val, 2), (v.toNat, 8)])
           ((s.modTp p.val fun t => { t with nb := some (neighbourOf f h.toNat dp.toNat v.toNat n.toNat ro.toNat) }).noteBelow p
             (((s.tp p.val).nb.map fun x => x.depth).getD 255)))) ∧
  (∀ (s : State) (p : Fin 4), exec (.linkHelloTimeout p) s =
     .next (if (s.tp p.val).st = .hello then s.enterSearch p.val (s.tp p.val).rate 5 else s)) ∧
  (∀ (s : State) (p : Fin 4) (l : Fin 2), exec (.laneLockLoss p (some l)) s =
     .next (if (s.tp p.val).twoLanes ∧ (s.tp p.val).dropPending[l.val] = none then
       s.modTp p.val fun t => { t with dropPending := updAt t.dropPending l fun _ => some 1, lcq := t.lcq ++ [{ msg := 5, pos := l.val }] } else s)) ∧
  (∀ (s : State) (p : Fin 4), exec (.laneLockLoss p none) s =
     .next (if (s.tp p.val).st = .active then s.leaveActive p.val 1 (some (s.tp p.val).rate) 0 else s)) ∧
  (∀ (s : State) (p : Fin 4) (l : Fin 2), (s.tp p.val).st = .active → (s.tp p.val).twoLanes = true →
     exec (.laneDropMessage p l false) s = .next ((s.modTp p.val fun t => { t with lcq := t.lcq ++ [{ msg := 5, flags := 64, pos := l.val }] }).laneOff p.val l)) ∧
  (∀ (s : State) (p : Fin 4) (l : Fin 2), (s.tp p.val).twoLanes = false → exec (.laneDropMessage p l false) s = .next s) ∧
  (∀ (s : State) (p : Fin 4) (l : Fin 2), s.laneMayReturn p.val l = false →
     exec (.laneSearchAlign p l) s = .next s ∧ ∀ e : Bool, exec (.laneAddMessage p l e) s = .next s) ∧
  (∀ (s : State) (p : Fin 4) (l : Fin 2), s.laneMayReturn p.val l = true →
     exec (.laneAddMessage p l true) s = .next (if (s.tp p.val).addPending[l.val] then s.laneOn p.val l else s)) ∧
  (∀ (s : State) (p : Fin 4) (l : Fin 2), s.laneMayReturn p.val l = true →
     exec (.laneSearchAlign p l) s = .next (s.modTp p.val fun t => { t with
       addPending := updAt t.addPending l fun _ => true, lcq := t.lcq ++ [{ msg := 6, pos := l.val }] })) ∧
  (∀ (s : State) (p : Fin 4) (l : Fin 2), s.laneMayReturn p.val l = true →
     exec (.laneAddMessage p l false) s = .next ((s.modTp p.val fun t => { t with lcq := t.lcq ++ [{ msg := 6, flags := 64, pos := l.val }] }).laneOn p.val l))

/-- Cells, credit, replay and keepalive of a trunk port. Of a trunk port. CELL_RECEIVE: a cell in HELLO or ACTIVE goes through the checks of R123 and its
FEC codewords are counted on their lanes; in other states nothing changes. CELL_SLOT_TRANSMIT: DISABLED sends nothing; SEARCH sends the training
pattern until its receiver has locked and then a fill cell; HELLO sends the oldest link control message, or a fill cell; ACTIVE sends the first of
R125's list that is ready. CREDIT_CELL_DUE makes a credit cell due in ACTIVE. CREDIT_STALL_TIMEOUT in ACTIVE, for a VL of 1 to 6 without credit whose
cells wait, marks it stalled with EV037 flag 1. A replay request in ACTIVE is counted and starts sending again from its LSEQ when the replay buffer
holds it. REPLAY_REQUEST_WAIT_EXPIRY in ACTIVE while a request waits: it is repeated up to four times, and after the fourth EV036 is raised and the
link drops with cause 3. REPLAY_TIMEOUT in ACTIVE sends everything unacknowledged again. KEEPALIVE_TIMEOUT drops an ACTIVE link with cause 2. For a VL
that is stalled already, has credit or has no waiting cell, and in the other states, nothing changes. Each completes with its own effect:
CELL_RECEIVE, CELL_SLOT_TRANSMIT, CREDIT_CELL_DUE, CREDIT_STALL_TIMEOUT, REPLAY_REQUEST_RECEIVE, REPLAY_REQUEST_WAIT_EXPIRY, REPLAY_TIMEOUT,
KEEPALIVE_TIMEOUT. (spec/04_trunk_link.md: The cell, spec/04_trunk_link.md: Virtual lanes, spec/04_trunk_link.md: Credits, spec/04_trunk_link.md:
Acknowledgement and replay, spec/04_trunk_link.md: Keepalive and link loss) -/
def Obligations.TrunkPortsKeepTheLinkAlive : Prop :=
  (∀ (s : State) (p : Fin 4) (c : Cell) (k a b : Nat) (o : Bool), (s.tp p.val).st ≠ .hello → (s.tp p.val).st ≠ .active →
     exec (.cellReceive p c k a b o) s = .next s) ∧
  (∀ (s : State) (p : Fin 4) (c : Cell) (k a b : Nat) (o : Bool), (s.tp p.val).st = .hello ∨ (s.tp p.val).st = .active →
     exec (.cellReceive p c k a b o) s =
       .next (((((s.receiveCell p c o).cntL p.val 2 k).cntL p.val 3 (a + b)).badCodewords p.val 0 a).badCodewords p.val 1 b)) ∧
  (∀ (s : State) (p : Fin 4) (e : Bool), (s.tp p.val).st = .disabled → exec (.cellSlotTransmit p e) s = .next s) ∧
  (∀ (s : State) (p : Fin 4) (e : Bool), (s.tp p.val).st = .search →
     exec (.cellSlotTransmit p e) s = .next (if (s.tp p.val).locked then s.sendCredit p 0 else s.send (.prbs p (decide ((s.tp p.val).rate < 2))))) ∧
  (∀ (s : State) (p : Fin 4) (e : Bool), (s.tp p.val).st = .hello → (s.tp p.val).lcq = [] → exec (.cellSlotTransmit p e) s = .next (s.sendCredit p 0)) ∧
  (∀ (s : State) (p : Fin 4) (e : Bool) (m : LinkMsg) (ms : List LinkMsg), (s.tp p.val).st = .hello → (s.tp p.val).lcq = m :: ms →
     exec (.cellSlotTransmit p e) s = .next ((s.modTp p.val fun t => { t with lcq := ms }).sendLocal p 6 (s.controlPayload p m))) ∧
  (∀ (s : State) (p : Fin 4) (e : Bool), (s.tp p.val).st = .active → exec (.cellSlotTransmit p e) s = .next (s.activeSlot p e)) ∧
  (∀ (s : State) (p : Fin 4), exec (.creditCellDue p) s =
     .next (if (s.tp p.val).st = .active then s.modTp p.val fun t => { t with creditDue := true } else s)) ∧
  (∀ (s : State) (p : Fin 4) (v : BitVec 3), (s.tp p.val).st = .active → 1 ≤ v.toNat → v.toNat ≤ 6 → (s.tp p.val).credit v.toNat = false →
     s.vlWaits p.val v.toNat = true → (s.tp p.val).stalled.getD (vlIdx v.toNat) true = false →
     exec (.creditStallTimeout p v) s = .next ((s.modTp p.val fun t => { t with stalled := modAt t.stalled (vlIdx v.toNat) fun _ => true }).raise 37
       [(p.val, 2), (v.toNat, 3), (1, 1)])) ∧
  (∀ (s : State) (p : Fin 4) (v : BitVec 3), (s.tp p.val).st ≠ .active ∨ v.toNat = 0 ∨ v.toNat = 7 ∨ (s.tp p.val).credit v.toNat = true ∨
     s.vlWaits p.val v.toNat = false ∨ (s.tp p.val).stalled.getD (vlIdx v.toNat) true = true → exec (.creditStallTimeout p v) s = .next s) ∧
  (∀ (s : State) (p : Fin 4) (l : BitVec 16), (s.tp p.val).st ≠ .active →
     exec (.replayRequestReceive p l) s = .next s ∧ exec (.replayRequestWaitExpiry p) s = .next s) ∧
  (∀ (s : State) (p : Fin 4), (s.tp p.val).replayWait = false → exec (.replayRequestWaitExpiry p) s = .next s) ∧
  (∀ (s : State) (p : Fin 4) (l : BitVec 16), (s.tp p.val).st = .active →
     exec (.replayRequestReceive p l) s = .next ((s.cntL p.val 9 1).modTp p.val fun t =>
       if (t.replay.dropWhile fun c => c.lseq.toNat != l.toNat).isEmpty then t
       else { t with replaying := t.replay.dropWhile fun c => c.lseq.toNat != l.toNat })) ∧
  (∀ (s : State) (p : Fin 4), (s.tp p.val).st = .active → (s.tp p.val).replayWait = true → (s.tp p.val).replayAsked < 4 →
     exec (.replayRequestWaitExpiry p) s = .next (s.modTp p.val fun t =>
       { t with replayAsked := t.replayAsked + 1, reqDue := some (s.tp p.val).expected })) ∧
  (∀ (s : State) (p : Fin 4), (s.tp p.val).st = .active → (s.tp p.val).replayWait = true → 4 ≤ (s.tp p.val).replayAsked →
     exec (.replayRequestWaitExpiry p) s = .next ((s.raise 36 [(p.val, 2), ((s.tp p.val).expected, 16)]).leaveActive p.val 3
       (some (s.tp p.val).rate) (s.tp p.val).expected)) ∧
  (∀ (s : State) (p : Fin 4), exec (.replayTimeout p) s =
     .next (if (s.tp p.val).st = .active then s.modTp p.val fun t => { t with replaying := t.replay } else s)) ∧
  (∀ (s : State) (p : Fin 4), exec (.keepaliveTimeout p) s =
     .next (if (s.tp p.val).st = .active then s.leaveActive p.val 2 (some (s.tp p.val).rate) 0 else s))

/-- LINK.STATUS, LINK.COUNTERS, LINK.CONTROL and LINK.RING. Of the command that runs. LINK.STATUS returns the words of the port named and changes nothing
else. LINK.COUNTERS returns the 18 counters of the port as they were and, with CLEAR, sets them to 0. LINK.CONTROL with ACTION 0 to 6 carries the
action out on the port and returns the port's first word after it; ACTION 7 to 15 is taken as 0, changes nothing and gives OK_CLAMPED with the first
word. LINK.RING with ACTION 0 reports the ring that WHICH names; ACTION 1 makes the head of a ring in PENDING, with no revert under way, send
RING_REVERT first and else changes nothing; ACTION 2 to 15 reports with OK_CLAMPED. Each completes with its own effect: LINK_STATUS, LINK_COUNTERS,
LINK_CONTROL, LINK_RING. (spec/04_trunk_link.md: Counters, spec/04_trunk_link.md: Commands) -/
def Obligations.LinkCommandsReportAndControlPorts : Prop :=
  (∀ (s : State) (r : Waiting), s.runningOp 0x2001 = some r → exec .linkStatus s = .next (s.respond (okR (s.linkWords (portOf r))))) ∧
  (∀ (s : State) (r : Waiting), s.runningOp 0x2002 = some r →
     exec .linkCounters s = .next ((if bitAt (r.w 0) 0 then s.modTp (portOf r).val fun t => { t with c := Vector.replicate 18 0 } else s).respond
       (okR (s.trunk[(portOf r).val].c.toList.map wd)))) ∧
  (∀ (s : State) (r : Waiting), s.runningOp 0x2010 = some r → r.f 0 3 0 ≤ 6 →
     exec .linkControl s = .next ((s.linkAction (portOf r).val (r.f 0 3 0)).respond (okR [(s.linkAction (portOf r).val (r.f 0 3 0)).linkWord0 (portOf r)]))) ∧
  (∀ (s : State) (r : Waiting), s.runningOp 0x2010 = some r → 6 < r.f 0 3 0 →
     exec .linkControl s = .next (s.respond (okC true [s.linkWord0 (portOf r)]))) ∧
  (∀ (s : State) (r : Waiting), s.runningOp 0x2020 = some r → r.f 0 3 0 ≠ 1 →
     exec .linkRing s = .next (s.respond (okC (decide (1 < r.f 0 3 0)) (s.ringWords (r.f 0 29 29))))) ∧
  (∀ (s : State) (r : Waiting), s.runningOp 0x2020 = some r → r.f 0 3 0 = 1 →
     exec .linkRing s = .next ((fun u : State => u.respond (okR (u.ringWords (r.f 0 29 29)))) (if s.headsRing (r.f 0 29 29) ∧ (s.rg (r.f 0 29 29)).on ∧
       (s.rg (r.f 0 29 29)).st = .pending ∧ (s.rg (r.f 0 29 29)).revertAt = none then s.sendRevert (r.f 0 29 29) else s)))

/-- Ring surveys, notices, and the revert. Ring 0 is the one a hub heads; ring 1 is the one it is a member of or, by the model's choice (log entry 24),
the second ring of a ROOT. RING_SURVEY_SEND: the head of a ring that is on queues RING_SURVEY on an ACTIVE PORT_A with its hub ID and its blocked and
failed links; else nothing changes. RING_SURVEY_TIMEOUT makes the head's ring INCOMPLETE from IDLE; else nothing changes. A survey that comes home to
its head on PORT_B is taken; a member of ring 1 notes it and passes it on; a head ignores one of another hub or on its PORT_A; on a port of no ring
nothing changes. A RING_FAIL, RING_CLEAR or RING_REVERT notice on a port of no ring changes nothing; one of the head of the port's ring, with an NSEQ
not seen from that head, is remembered, takes effect and goes on out of the other ring port; one seen before, or of another head, changes nothing.
RING_WTR_EXPIRY: in PENDING while wait-to-restore runs, the head sends RING_REVERT; else nothing changes. RING_REVERT_INSTANT: with a revert armed the
new link is blocked, none has failed, the ring is IDLE and cells are held; with none armed nothing changes. RING_REVERT_HOLD_END: the cells held are
queued in order and none is held any more. Each completes with its own effect: RING_SURVEY_SEND, RING_SURVEY_TIMEOUT, RING_WTR_EXPIRY,
RING_REVERT_INSTANT, RING_REVERT_HOLD_END, RING_SURVEY_RECEIVE, RING_FAIL_RECEIVE, RING_CLEAR_RECEIVE, RING_REVERT_RECEIVE. (spec/04_trunk_link.md:
Ring protection) -/
def Obligations.RingsFollowTheirNotices : Prop :=
  (∀ (s : State) (w : Fin 2), exec (.ringSurveySend w) s = .next (if s.headsRing w.val ∧ (s.rg w.val).on then
     s.sendLc (s.rg w.val).portA.val { msg := 1, head := s.sys.hubId, link := (s.rg w.val).blocked, pos := 0, failed := (s.rg w.val).failed } else s)) ∧
  (∀ (s : State) (w : Fin 2), exec (.ringSurveyTimeout w) s =
     .next (if s.headsRing w.val ∧ (s.rg w.val).on ∧ (s.rg w.val).st = .idle then s.setRing w.val .incomplete else s)) ∧
  (∀ (s : State) (p : Fin 4) (h : BitVec 16) (a b c : Byte), s.ringOf p.val = none →
     exec (.ringSurveyReceive p h a b c) s = .next s) ∧
  (∀ (s : State) (p : Fin 4) (h : BitVec 16) (l n : Byte), s.ringOf p.val = none → exec (.ringFailReceive p h l n) s = .next s) ∧
  (∀ (s : State) (p : Fin 4) (h : BitVec 16) (l n : Byte) (hold : BitVec 16) (i : Stamp), s.ringOf p.val = none →
     exec (.ringRevertReceive p h l n hold i) s = .next s) ∧
  (∀ (s : State) (w : Fin 2), exec (.ringWtrExpiry w) s =
     .next (if s.headsRing w.val ∧ (s.rg w.val).on ∧ (s.rg w.val).st = .pending ∧ (s.rg w.val).wtrRun then s.sendRevert w.val else s)) ∧
  (∀ (s : State) (w : Fin 2) (i : Nat), (s.rg w.val).revertAt = some i →
     exec (.ringRevertInstant w) s = .next (((((s.modRing w.val fun r => { r with
       blocked := r.nextBlocked, failed := 255, failed2 := none, revertAt := none, wtrRun := false, wtrLeft := 0, holding := true }).setRing w.val .idle).refreshRing
         w.val).settle))) ∧
  (∀ (s : State) (w : Fin 2), exec (.ringRevertHoldEnd w) s = .next ((s.rg w.val).heldCells.foldl (fun s c => (s.cntF 2 1).enqueue c.q c)
     (s.modRing w.val fun r => { r with holding := false, heldCells := [] }))) ∧
  (∀ (s : State) (w : Nat) (p : Fin 4) (h : BitVec 16) (a b c : Byte), s.ringOf p.val = some w → s.headsRing w = true → s.sys.hubId = h.toNat →
     (s.rg w).portB = p → exec (.ringSurveyReceive p h a b c) s = .next (s.surveyHome w a.toNat).settle) ∧
  (∀ (s : State) (p : Fin 4) (h : BitVec 16) (a b c : Byte), s.ringOf p.val = some 1 → s.headsRing 1 = false →
     exec (.ringSurveyReceive p h a b c) s = .next (s.surveyPass p h.toNat a.toNat b.toNat c.toNat).settle) ∧
  (∀ (s : State) (w : Nat) (p : Fin 4) (h : BitVec 16) (l n : Byte) (hold : BitVec 16) (i : Stamp), s.ringOf p.val = some w →
     (s.rg w).on = false ∨ s.headOf w ≠ h.toNat ∨ (s.rg w).seen.contains (h.toNat, n.toNat) = true →
     exec (.ringFailReceive p h l n) s = .next s ∧ exec (.ringClearReceive p h l n) s = .next s ∧ exec (.ringRevertReceive p h l n hold i) s = .next s) ∧
  (∀ (s : State) (w : Nat) (p : Fin 4) (h : BitVec 16) (l n : Byte) (hold : BitVec 16) (i : Stamp), s.ringOf p.val = some w → (s.rg w).on = true →
     s.headOf w = h.toNat → (s.rg w).seen.contains (h.toNat, n.toNat) = false →
     exec (.ringFailReceive p h l n) s = .next ((((s.noteSeen w h.toNat n.toNat).ringFail w l.toNat).sendLc (s.otherPort w p.val)
       { msg := 2, head := h.toNat, link := l.toNat, nseq := n.toNat }).settle) ∧
     exec (.ringClearReceive p h l n) s = .next ((((s.noteSeen w h.toNat n.toNat).ringClear w l.toNat).sendLc (s.otherPort w p.val)
       { msg := 3, head := h.toNat, link := l.toNat, nseq := n.toNat }).settle) ∧
     exec (.ringRevertReceive p h l n hold i) s = .next ((((s.noteSeen w h.toNat n.toNat).armRevert w l.toNat hold.toNat (stampCount i)).sendLc
       (s.otherPort w p.val) { msg := 4, head := h.toNat, link := l.toNat, nseq := n.toNat, hold := hold.toNat, inst := i }).settle)) ∧
  (∀ (s : State) (w : Nat) (p : Fin 4) (h : BitVec 16) (a b c : Byte), s.ringOf p.val = some w → s.headsRing w = true →
     s.sys.hubId ≠ h.toNat ∨ (s.rg w).portB ≠ p → exec (.ringSurveyReceive p h a b c) s = .next s) ∧
  (∀ (s : State) (w : Fin 2), (s.rg w.val).revertAt = none → exec (.ringRevertInstant w) s = .next s)

/-- Egress decisions, crossbar slots, resequencing holes, holds, barriers and Groundsheet errors. EGRESS_DECISION has the effect that the arbiter of the
egress gives. CROSSBAR_SLOT without a cut-through under way crosses the pairs matched, moves the pointers by the first iteration, drains the internal
ports, and lets Ethernet ports that paused go on. SHARED_ADMIT_RETRY: a blocked ingress whose cell now finds room is freed; one whose cell does not,
or that has none, is as it was. RSQ_HOLE_TIMEOUT: for a TUNNEL without entry, or a context without held cells, nothing changes; else the hole of the
context ends, the skips are counted, and the cells that it lets go pass on in order. A tunnel queue that is closed opens at ORDERED_HOLD_DRAIN when
the cells ahead of its mark have left, and at ORDERED_HOLD_EXPIRY with c_hold_expired and EV070; for an open queue, and a TUNNEL without one, nothing
changes. BARRIER_DRAIN ends the barriers whose cells have left. BARRIER_TIMEOUT marks the barrier timed out and ends those that can end, with FLUSH
after marking its cells for discard; without such a barrier nothing changes. GS_ECC_ERROR: a corrected error is counted and logged, and with 16 or
more in its row a test of the row begins; an uncorrectable one with no cut-through under way and no cell in a window is counted in c_gs_error. Each
completes with its own effect: EGRESS_DECISION, CROSSBAR_SLOT, SHARED_ADMIT_RETRY, ORDERED_HOLD_DRAIN, ORDERED_HOLD_EXPIRY, BARRIER_DRAIN,
BARRIER_TIMEOUT, GS_ECC_ERROR, RSQ_HOLE_TIMEOUT. (spec/06_ridge.md: The central scheduler, spec/06_ridge.md: Groundsheet, spec/06_ridge.md:
Resequencer, spec/06_ridge.md: Ordered updates, spec/06_ridge.md: Barriers, spec/07_allotment.md: The per-egress decision) -/
def Obligations.RidgeMovesCellsAndKeepsTheirOrder : Prop :=
  (∀ (s : State) (e : Fin 15), exec (.egressDecision e) s = .next (s.decide1 e.val)) ∧
  (∀ s : State, s.fwd.cut = [] → exec .crossbarSlot s =
    .next ((List.finRange 4).foldl (fun s p => s.ethResume p)
     ((s.matching []).pairs.foldl (fun (s : State) x => s.cross x.1 x.2) ({ s with fwd.cut := [] }.movePointers (s.matching []).first)).drainInternal)) ∧
  (∀ (s : State) (i : Fin 15), s.fwd.blocked.find? (fun x => x.1 == i.val) = none → exec (.sharedAdmitRetry i) s = .next s) ∧
  (∀ (s : State) (i : Fin 15) (k : Nat) (c : Cell), s.fwd.blocked.find? (fun x => x.1 == i.val) = some (k, c) →
     exec (.sharedAdmitRetry i) s = .next (if (s.offerNow i.val c).2 then
       { (s.offerNow i.val c).1 with fwd.blocked := dropFirst (fun x => x.1 == i.val) (s.offerNow i.val c).1.fwd.blocked } else s)) ∧
  (∀ (s : State) (t : BitVec 20) (b : Bool), s.entryOf t.toNat = none → exec (.rsqHoleTimeout t b) s = .next s) ∧
  (∀ (s : State) (t : BitVec 20) (b : Bool) (e : FwdEntry), s.entryOf t.toNat = some e → (e.ctx b).heldCells = [] → exec (.rsqHoleTimeout t b) s = .next s) ∧
  (∀ (s : State) (t : BitVec 20) (k : QKey), s.tunnelQueue t.toNat = some k → (s.queueOf k).closed = true → s.allCells.any (fun c => (s.queueOf k).drainIds.contains c.serial) = false →
     exec (.orderedHoldDrain t) s = .next (s.openAndWake k)) ∧
  (∀ (s : State) (t : BitVec 20) (k : QKey), s.tunnelQueue t.toNat = some k → (s.queueOf k).closed = true →
     exec (.orderedHoldExpiry t) s = .next (((s.openAndWake k).cntF 16 1).raise 70 [(t.toNat, 20)])) ∧
  (∀ s : State, exec .barrierDrain s = .next s.endBarriers) ∧
  (∀ (s : State) (i : Fin 4) (b : Barrier), s.fwd.barriers.find? (fun x => x.id == i.val) = some b → b.flush = false →
     exec (.barrierTimeout i) s = .next ({ s with fwd.barriers := s.fwd.barriers.map fun (x : Barrier) => if x.id == i.val then { x with timedOut := true } else x }.endBarriers)) ∧
  (∀ (s : State) (b : Fin 64) (r : Fin 1024) (i e : Fin 15) (n : Nat),
     exec (.gsEccError b r i e (some n)) s = .next (if 16 ≤ n then ((s.cntF 11 1).logErr 1 b.val 0 255 r.val).testRow b.val r.val
       else (s.cntF 11 1).logErr 1 b.val 0 255 r.val)) ∧
  (∀ (s : State) (b : Fin 64) (r : Fin 1024) (i e : Fin 15), s.fwd.cut = [] → s.fwd.egress = Vector.replicate 16 {} →
     ∃ t, exec (.gsEccError b r i e none) s = .next t ∧ t.fwd.c[12] = bump s.fwd.c[12]) ∧
  (∀ (s : State) (t : BitVec 20) (b : Bool) (e : FwdEntry), s.entryOf t.toNat = some e → (e.ctx b).heldCells ≠ [] →
     exec (.rsqHoleTimeout t b) s = .next (((s.modEntry e.tunnel fun (e' : FwdEntry) => e'.setCtx b ((e.ctx b).endHole s.clockNs).1).noteSkips e.tunnel b
       ((e.ctx b).endHole s.clockNs).2.2).passCells ((e.ctx b).endHole s.clockNs).2.1)) ∧
  (∀ (s : State) (t : BitVec 20), (s.tunnelQueue t.toNat).all (fun k => !(s.queueOf k).closed) = true →
     exec (.orderedHoldDrain t) s = .next s ∧ exec (.orderedHoldExpiry t) s = .next s) ∧
  (∀ (s : State) (i : Fin 4) (b : Barrier), s.fwd.barriers.find? (fun x => x.id == i.val) = some b → b.flush = true →
     exec (.barrierTimeout i) s =
       .next (({ s with fwd.barriers := s.fwd.barriers.map fun (x : Barrier) => if x.id == i.val then { x with timedOut := true } else x }.flushCells b).endBarriers)) ∧
  (∀ (s : State) (i : Fin 4), s.fwd.barriers.find? (fun x => x.id == i.val) = none → exec (.barrierTimeout i) s = .next s)

/-- FWD.STATUS, FWD.COUNTERS, FWD.GET, FWD.SET, FWD.BARRIER and FWD.BARRIER_DONE. Of the command that runs. FWD.STATUS, FWD.COUNTERS and FWD.GET return
their words; FWD.GET of a TUNNEL without entry returns VALID 0; FWD.COUNTERS with CLEAR sets the 17 counters to 0, and nothing else changes. FWD.SET
that would install a new entry beyond 32,768 returns NO_RESOURCE (0x40) with EV071; one that installs an entry while fewer are held installs it as the
plan of its words gives, and returns the entry's words, with OK_CLAMPED where the plan changed a value. FWD.BARRIER with three barriers open returns
BUSY (0x30); else, from a mailbox window, it opens one with the next generation and a timeout of 1 to 10,000 ms, and returns its ID and the cells
counted, with OK_CLAMPED where the timeout was changed. FWD.BARRIER_DONE is answered OK. Each completes with its own effect: FWD_STATUS, FWD_COUNTERS,
FWD_GET, FWD_SET, FWD_BARRIER, FWD_BARRIER_DONE. (spec/06_ridge.md: Forwarding entries, spec/06_ridge.md: Barriers, spec/06_ridge.md: Counters,
spec/06_ridge.md: Commands) -/
def Obligations.ForwardingCommandsSetAndReportEntries : Prop :=
  (∀ (s : State) (r : Waiting), s.runningOp 0x2201 = some r → exec .fwdStatus s = .next (s.respond (okR s.fwdStatusWords))) ∧
  (∀ (s : State) (r : Waiting), s.runningOp 0x2202 = some r →
     exec .fwdCounters s = .next ((if bitAt (r.w 0) 0 then { s with fwd.c := Vector.replicate 17 0 } else s).respond (okR (s.fwd.c.toList.map wd)))) ∧
  (∀ (s : State) (r : Waiting), s.runningOp 0x2203 = some r →
     exec .fwdGet s = .next (s.respond (okR (((s.fwd.entries.find? (fun e => e.tunnel == r.f 0 31 12)).getD
       { tunnel := r.f 0 31 12, valid := false, holdUs := 0 }).words)))) ∧
  (∀ (s : State) (r : Waiting), s.runningOp 0x2210 = some r → bitAt (r.w 0) 11 = true → fld (r.w 1) 31 28 ≠ 15 → s.entryOf (fld (r.w 0) 31 12) = none →
     32768 ≤ s.entryCount →
     exec .fwdSet s = .next ((s.raise 71 [(fld (r.w 0) 31 12, 20)]).respond (failR 0x40))) ∧
  (∀ (s : State) (r : Waiting), s.runningOp 0x2210 = some r → bitAt (r.w 0) 11 = true → fld (r.w 1) 31 28 ≠ 15 → s.entryCount < 32768 →
     exec .fwdSet s = .next ((s.installEntry (s.setPlan (r.w 0) (r.w 1) (r.w 2))).respond (okC (s.setPlan (r.w 0) (r.w 1) (r.w 2)).clamped
       (((s.installEntry (s.setPlan (r.w 0) (r.w 1) (r.w 2))).fwd.entries.find? (fun e => e.tunnel == fld (r.w 0) 31 12)).getD
         (s.setPlan (r.w 0) (r.w 1) (r.w 2)).e).words))) ∧
  (∀ (s : State) (r : Waiting), s.runningOp 0x2220 = some r → 3 ≤ s.fwd.barriers.length → exec .fwdBarrier s = .next (s.respond (failR 0x30))) ∧
  (∀ (s : State) (r : Waiting) (i : Fin 38), s.runningOp 0x2220 = some r → s.fwd.barriers.length < 3 → r.src = .win i →
     let b : Barrier := { id := s.fwd.bgen, gen := s.fwd.bgen, flush := bitAt (r.w 0) 0, byOwner := true, timeoutMs := clampN 1 10000 (r.f 0 31 16) }
     let t : State := { s with fwd.barriers := s.fwd.barriers ++ [b], fwd.bgen := (s.fwd.bgen + 1) % 4 }
     exec .fwdBarrier s = .next (t.respond (okC (clampN 1 10000 (r.f 0 31 16) != r.f 0 31 16)
       [pack [(s.fwd.bgen, 8), (0, 8), (Nat.min (t.barrierCount b) 65535, 16)]]))) ∧
  (∀ (s : State) (r : Waiting), s.runningOp 0x2241 = some r → exec .fwdBarrierDone s = .next (s.respond okR))

/-- Join requests, replies, the reply timeout and the retry. JOIN_REQUEST: a blocked port takes none; one at a hub that is not joined, or on its upstream
port, is a bad cell of that port. The ROOT answers it with the first reason of its table that applies, the check of the certificate and of the
keyshare's signature among them, and else admits the hub; a joined hub that is not the ROOT notes the port and carries the request, with keyshare and
certificate, to the ROOT; one that came through another hub does nothing there. JOIN_REPLY on the ROOT channel for a hub whose request this hub
carried goes out of that request's port, with the ROOT's keyshare and certificate when it admits; for another hub it does nothing. JOIN_REPLY on a
port: a blocked port takes none; one that answers no request of this hub that waits on that port is a bad cell; a refusal leaves the hub in RETRY with
LAST_REFUSAL and EV009; an admission whose certificate or signature fails its check is taken as a refusal with 0x04 (log entry 166); else the hub is
admitted. A reply that does not come within 1 s is taken as reason 0 while the hub waits, and is nothing else. JOIN_RETRY sends the request again
while the hub waits for the retry, and is nothing else. Each completes with its own effect: JOIN_REQUEST, JOIN_REPLY, JOIN_REPLY_TIMEOUT, JOIN_RETRY.
(spec/01_topology.md: Joining the tree) -/
def Obligations.JoiningTheTreeIsAnswered : Prop :=
  (∀ (s : State) (p : Fin 4) (h : BitVec 16) (ro : BitVec 2) (d v : Byte) (c : Cert) (sh : List Word) (ok : Bool) (pl : Place), s.portBlocked p = true →
     exec (.joinRequest (some p) h ro d v c ⟨sh, ok⟩ pl) s = .next s) ∧
  (∀ (s : State) (p : Fin 4) (h : BitVec 16) (ro : BitVec 2) (d v : Byte) (c : Cert) (sh : List Word) (ok : Bool) (pl : Place), s.portBlocked p = false →
     s.joined = false ∨ s.isUpstream p = true →
     exec (.joinRequest (some p) h ro d v c ⟨sh, ok⟩ pl) s = .next (s.cntL p.val 14 1)) ∧
  (∀ (s : State) (h : BitVec 16) (ro : BitVec 2) (d v : Byte) (c : Cert) (sh : List Word) (ok : Bool) (pl : Place), s.joined = false ∨ s.headsTree = false →
     exec (.joinRequest none h ro d v c ⟨sh, ok⟩ pl) s = .next s) ∧
  (∀ (s s' : State) (p : Fin 4) (code reason : Nat) (h : BitVec 16) (ro : BitVec 2) (d v : Byte) (c : Cert) (sh : List Word) (ok : Bool) (pl : Place),
     s.joined = true → s.isUpstream p = false → s.portBlocked p = false → s.headsTree = true → s.checkCert c h.toNat = (s', code) →
     s'.joinReason h.toNat d.toNat v.toNat (roleOf ro.toNat) pl (if code = 0 && !ok then 2 else code) = some reason →
     exec (.joinRequest (some p) h ro d v c ⟨sh, ok⟩ pl) s = .next { s' with outbox := .join p [1, h.toNat, reason, 0, 0, s'.sys.hubId] :: s'.outbox }) ∧
  (∀ (s s' : State) (code reason : Nat) (h : BitVec 16) (ro : BitVec 2) (d v : Byte) (c : Cert) (sh : List Word) (ok : Bool) (pl : Place),
     s.joined = true → s.headsTree = true → s.checkCert c h.toNat = (s', code) →
     s'.joinReason h.toNat d.toNat v.toNat (roleOf ro.toNat) pl (if code = 0 && !ok then 2 else code) = some reason →
     exec (.joinRequest none h ro d v c ⟨sh, ok⟩ pl) s =
       .next { s' with outbox := .tun (((s'.hubRec pl.parent).map (·.chan)).getD 0) 1 [1, h.toNat, reason, 0, 0, s'.sys.hubId] :: s'.outbox }) ∧
  (∀ (s s' : State) (via : Option (Fin 4)) (h : BitVec 16) (ro : BitVec 2) (d v : Byte) (c : Cert) (sh : List Word) (pl : Place),
     s.joined = true → via.all (fun p => !s.isUpstream p && !s.portBlocked p) = true → s.headsTree = true → s.checkCert c h.toNat = (s', 0) →
     s'.joinReason h.toNat d.toNat v.toNat (roleOf ro.toNat) pl 0 = none →
     exec (.joinRequest via h ro d v c ⟨sh, true⟩ pl) s = .next (s'.admitHub via pl.parent
       { hub := h.toNat, role := roleOf ro.toNat, depth := d.toNat, parent := pl.parent, parentPort := pl.parentPort, ring := pl.ring, pos := pl.pos,
         port := pl.port, portB := pl.portB, headB := pl.headB, cert := c, version := v.toNat } sh)) ∧
  (∀ (s : State) (p : Fin 4) (h : BitVec 16) (ro : BitVec 2) (d v : Byte) (c : Cert) (sh : List Word) (ok : Bool) (pl : Place), s.joined = true →
     s.isUpstream p = false → s.portBlocked p = false → s.headsTree = false →
     exec (.joinRequest (some p) h ro d v c ⟨sh, ok⟩ pl) s = .next { s with
       topo.proxied := s.topo.proxied ++ [(p, h.toNat)]
       outbox := .tun (s.topo.rootChan.getD 0) 0 (joinWords [h.toNat, ro.toNat, d.toNat, v.toNat] sh c) :: s.outbox }) ∧
  (∀ (s : State) (p : Fin 4) (h r : BitVec 16) (n : BitVec 19) (ho re : Byte) (c : Cert) (sh : List Word) (ok : Bool),
     s.topo.proxied.find? (fun x => x.2 == h.toNat) = some (p, h.toNat) →
     exec (.joinReply none h (some re) r n ho ⟨c, sh, ok⟩) s = .next { s with
       topo.proxied := s.topo.proxied.filter fun x => x.2 != h.toNat
       outbox := .join p [1, h.toNat, re.toNat, n.toNat, ho.toNat, r.toNat] :: s.outbox }) ∧
  (∀ (s : State) (p : Fin 4) (h r : BitVec 16) (n : BitVec 19) (ho : Byte) (c : Cert) (sh : List Word) (ok : Bool),
     s.topo.proxied.find? (fun x => x.2 == h.toNat) = some (p, h.toNat) →
     exec (.joinReply none h none r n ho ⟨c, sh, ok⟩) s = .next { s with
       topo.proxied := s.topo.proxied.filter fun x => x.2 != h.toNat
       outbox := .join p (joinWords [1, h.toNat, 255, n.toNat, ho.toNat, r.toNat] sh c) :: s.outbox }) ∧
  (∀ (s : State) (h r : BitVec 16) (n : BitVec 19) (ho : Byte) (re : Option Byte) (c : Cert) (sh : List Word) (ok : Bool),
     s.topo.proxied.find? (fun x => x.2 == h.toNat) = none → exec (.joinReply none h re r n ho ⟨c, sh, ok⟩) s = .next s) ∧
  (∀ (s : State) (p : Fin 4) (h r : BitVec 16) (n : BitVec 19) (ho : Byte) (re : Option Byte) (c : Cert) (sh : List Word) (ok : Bool), s.portBlocked p = true →
     exec (.joinReply (some p) h re r n ho ⟨c, sh, ok⟩) s = .next s) ∧
  (∀ (s : State) (p : Fin 4) (h r : BitVec 16) (n : BitVec 19) (ho : Byte) (re : Option Byte) (c : Cert) (sh : List Word) (ok : Bool), s.portBlocked p = false →
     s.topo.join ≠ .waiting ∨ s.topo.upstream ≠ some p ∨ h.toNat ≠ s.sys.hubId →
     exec (.joinReply (some p) h re r n ho ⟨c, sh, ok⟩) s = .next (s.cntL p.val 14 1)) ∧
  (∀ (s : State) (p : Fin 4) (h r : BitVec 16) (n : BitVec 19) (ho re : Byte) (c : Cert) (sh : List Word) (ok : Bool), s.portBlocked p = false →
     s.topo.join = .waiting → s.topo.upstream = some p → h.toNat = s.sys.hubId →
     exec (.joinReply (some p) h (some re) r n ho ⟨c, sh, ok⟩) s = .next ({ s with topo.join := .retry, topo.lastRefusal := re.toNat }.raise 9 [(re.toNat, 8)])) ∧
  (∀ (s s' : State) (p : Fin 4) (h r : BitVec 16) (n : BitVec 19) (ho : Byte) (c : Cert) (sh : List Word) (ok : Bool) (code : Nat), s.portBlocked p = false →
     s.topo.join = .waiting → s.topo.upstream = some p → h.toNat = s.sys.hubId → s.checkCert c r.toNat = (s', code) → code ≠ 0 ∨ ok = false →
     exec (.joinReply (some p) h none r n ho ⟨c, sh, ok⟩) s = .next ({ s' with topo.join := .retry, topo.lastRefusal := 4 }.raise 9 [(4, 8)])) ∧
  (∀ (s s' : State) (p : Fin 4) (h r : BitVec 16) (n : BitVec 19) (ho : Byte) (c : Cert) (sh : List Word), s.portBlocked p = false →
     s.topo.join = .waiting → s.topo.upstream = some p → h.toNat = s.sys.hubId → s.checkCert c r.toNat = (s', 0) →
     exec (.joinReply (some p) h none r n ho ⟨c, sh, true⟩) s = .next (s'.joinAdmitted p r.toNat n.toNat ho.toNat c sh)) ∧
  (∀ s : State, exec .joinReplyTimeout s = .next (if s.topo.join = .waiting then
     { s with topo.join := .retry, topo.lastRefusal := 0 }.raise 9 [(0, 8)] else s)) ∧
  (∀ s : State, exec .joinRetry s = .next (if s.topo.join = .retry then s.sendJoin else s))

/-- Power on, start-up, warm start, dead-feed start and power loss. POWER_ON takes an unpowered hub to the start of DOM_AON. DOM_AON_START there starts
the AON seconds at 0 and begins start-up; without the 32.768 kHz clock the clock monitor's alarm comes first. STARTUP_END of a starting hub with
DOM_MGMT on and an image to run ends start-up: the mailboxes take their classes, EV000 is raised before the events held, and none stays held.
STARTUP_TIMEOUT is a cold reset with cause 6 in a start-up with DOM_VAULT on. WARM_START in a warm reset goes on from the images, or is a cold reset
with cause 6 on a second mismatch. DEAD_FEED_ADVERTISEMENT of the service port of a dead-feed start raises the level, which with 7.5 W or more starts
DOM_VAULT when it is off. DEAD_FEED_FEED_GOOD of such a start with a feed selected ends the service function; DOM_VAULT off: the normal start-up goes
on from step 2; on: a blank part stays as it is, an image that fails its digests falls back with a cold reset of cause 7, and else start-up goes on
from step 4. POWER_LOSS leaves the hub off with no AON time, no domain on, no alarm log, and no power path. In every other stage, port or case each of
these changes nothing. Each completes with its own effect: POWER_ON, DOM_AON_START, STARTUP_END, STARTUP_TIMEOUT, WARM_START, DEAD_FEED_ADVERTISEMENT,
DEAD_FEED_FEED_GOOD, POWER_LOSS. (spec/11_desk_power.md: Dead-feed start, spec/17_startup.md: Cold start, spec/17_startup.md: Resets) -/
def Obligations.StartUpWarmStartAndDeadFeed : Prop :=
  (∀ s : State, exec .powerOn s = .next (if s.sys.stage = .off then { s with sys.stage := .aonReset } else s)) ∧
  (∀ (s : State) (i : StartInfo), s.sys.stage = .aonReset →
     exec (.domAonStart true i) s = .next ({ s with sys.aonS := 0, sys.clk32 := true, sys.domains := modAt s.sys.domains 0 fun _ => true }.coldStart i)) ∧
  (∀ (s : State) (i : StartInfo), s.sys.stage = .aonReset →
     exec (.domAonStart false i) s = .next (({ s with sys.aonS := 0, sys.clk32 := false, sys.domains := modAt s.sys.domains 0 fun _ => true }.startAlarm 5).coldStart i)) ∧
  (∀ (s : State) (c k : Bool) (i : StartInfo), s.sys.stage ≠ .aonReset → exec (.domAonStart c i) s = .next s) ∧
  (∀ s : State, s.sys.stage = .starting → s.domOn 2 = true → s.upd.dead = false →
     exec .startupEnd s = .next s.endStart ∧ s.endStart.up = true ∧ s.endStart.sys.heldEvents = [] ∧ s.endStart.sys.wakeSource = none) ∧
  (∀ s : State, s.sys.stage = .starting → s.isRoot = false →
     s.endStart = (sortHeld ((if s.mbx.clampLog.isEmpty then [] else [(4, wd s.mbx.clampCount)]) ++
       ((s.sys.wakeSource.map fun w => (7, pack [(w, 4)])).toList ++ s.sys.heldEvents))).foldl (fun (u : State) e => u.raiseW e.1 e.2 .owner)
       { (({ s with sys.stage := .running }.refreshAuth).raise 0 [(s.sys.cause, 8), (s.sys.start, 4), (s.domainBits, 14)]) with
         sys.heldEvents := [], sys.wakeSource := none }) ∧
  (∀ s : State, s.sys.stage ≠ .starting ∨ s.domOn 2 = false ∨ s.upd.dead = true → exec .startupEnd s = .next s) ∧
  (∀ (s : State) (i : StartInfo), exec (.startupTimeout i) s = .next (if s.sys.stage = .starting ∧ s.domOn 1 then s.coldReset 6 i else s)) ∧
  (∀ (s : State) (k : Fin 3) (i : StartInfo), exec (.warmStart k i) s =
     .next (if s.sys.stage = .warmStart then (if k = 2 then s.coldReset 6 i else s.warmStart) else s)) ∧
  (∀ (s : State) (p : Fin 4) (rp : Rp) (i : StartInfo),
     let u : State := { s with desk.level := Nat.max s.desk.level (rpLevel rp) }
     exec (.deadFeedAdvertisement p rp i) s = .next (if s.sys.start = 1 ∧ s.desk.service = some p then
       (if 1 ≤ u.desk.level ∧ s.domOn 1 = false ∧ s.sys.stage = .starting then u.deadRun i else u) else s)) ∧
  (∀ (s : State) (i : StartInfo), s.desk.service = none ∨ s.sys.start ≠ 1 ∨ s.pwr.selected = none → exec (.deadFeedFeedGood i) s = .next s) ∧
  (∀ (s : State) (p : Fin 4) (i : StartInfo), s.desk.service = some p → s.sys.start = 1 → s.pwr.selected.isSome = true → s.domOn 1 = false →
     exec (.deadFeedFeedGood i) s = .next ((s.leaveDeadSink p).fedStart i)) ∧
  (∀ (s : State) (p : Fin 4) (i : StartInfo), s.desk.service = some p → s.sys.start = 1 → s.pwr.selected.isSome = true → s.domOn 1 = true →
     exec (.deadFeedFeedGood i) s = .next ((fun u : State => if u.lifecycle = .blank then u
       else if u.imageBad i then (u.fallBack 2).coldReset 7 i else u.memStart.domainsStart) (s.leaveDeadSink p))) ∧
  (∀ s : State, ∃ t, exec .powerLoss s = .next t ∧ t.sys.stage = .off ∧ t.sys.aonS = 0 ∧ t.sys.domains = Vector.replicate 14 false ∧ t.vault.log = [] ∧
     t.pending = s.pending ∧ t.pwr = {})

/-- RESET_N, watchdogs, control restart, domain faults, SYS.RESET and Bivouac. RESET_N low holds a powered hub in reset with every desk port discharging;
its release starts the hub up. MC_WATCHDOG_EXPIRY of a running hub begins a control restart; ENGINE_WATCHDOG_EXPIRY of another engine than VC is a
warm reset with cause 5; VC_WATCHDOG_EXPIRY with DOM_VAULT on is a cold reset with cause 6. CONTROL_RESTART_END ends one, CONTROL_RESTART_TIMEOUT
makes it a warm reset with cause 4. DOMAIN_PG_LOSS of a core domain that is on is logged and is a cold reset with cause 10; of another it is logged
and switched off with EV006 and the faults within 60 s, for a retry after 1 s, or kept off from the third on. DOMAIN_RETRY of one that waits for it
takes the retry back and follows the configuration. SYS_RESET asks for its kind of reset after its answer, kind 3 as 0 with OK_CLAMPED, and is refused
BUSY with an armed lifecycle change, save for kind 0. SYS_BIVOUAC is refused BUSY at the ROOT, in an update session or trial or in a dead-feed start,
and else asks for standby with the sources it names, the timer's source added, with OK_CLAMPED, where a timer is given. BIVOUAC_WAKE by an enabled
source, by a tamper alarm, or by the lighting with LIGHT, wakes a standing-by hub. In other stages, and with nothing that waits, each changes nothing.
Each completes with its own effect: RESET_N_ASSERT, RESET_N_RELEASE, MC_WATCHDOG_EXPIRY, ENGINE_WATCHDOG_EXPIRY, VC_WATCHDOG_EXPIRY,
CONTROL_RESTART_END, CONTROL_RESTART_TIMEOUT, DOMAIN_PG_LOSS, DOMAIN_RETRY, SYS_RESET, SYS_BIVOUAC, BIVOUAC_WAKE. (spec/02_mailboxes.md: Commands and
responses, spec/17_startup.md: Power domains, spec/17_startup.md: Resets, spec/17_startup.md: Bivouac, spec/17_startup.md: Commands and events) -/
def Obligations.ResetsFollowTheirCauses : Prop :=
  (∀ s : State, s.sys.stage ≠ .off → s.sys.stage ≠ .aonReset →
     exec .resetNAssert s = .next { s.coldBase 1 with
       sys.stage := .resetHeld, desk.port := (s.coldBase 1).desk.port.map fun (x : DeskPort) => { x with discharge := true } }) ∧
  (∀ s : State, s.sys.stage = .off ∨ s.sys.stage = .aonReset → exec .resetNAssert s = .next s) ∧
  (∀ (s : State) (i : StartInfo), exec (.resetNRelease i) s = .next (if s.sys.stage = .resetHeld then s.coldStart i else s)) ∧
  (∀ s : State, exec .mcWatchdogExpiry s = .next (if s.up ∧ s.mbx.restart = false then (s.watchdog 0).restartBegin else s)) ∧
  (∀ (s : State) (e : Fin 12), exec (.engineWatchdogExpiry e) s = .next (if s.up = true ∧ 2 ≤ e.val then ((s.watchdog e.val).flushLog).warmReset 5 else s)) ∧
  (∀ (s : State) (i : StartInfo), exec (.vcWatchdogExpiry i) s = .next (if s.domOn 1 then ((s.watchdog 1).flushLog).coldReset 6 i else s)) ∧
  (∀ s : State, exec .controlRestartEnd s = .next s.restartEnd) ∧
  (∀ s : State, exec .controlRestartTimeout s = .next (if s.mbx.restart then s.warmReset 4 else s)) ∧
  (∀ (s : State) (d : Fin 14) (i : StartInfo), d.val = 0 ∨ s.domOn d.val = false → exec (.domainPgLoss d i) s = .next s) ∧
  (∀ (s : State) (d : Fin 14) (i : StartInfo), s.domOn d.val = true → 1 ≤ d.val → d.val < 5 →
     exec (.domainPgLoss d i) s = .next (((s.logErr 8 d.val 4 255
       (((s.sys.faults.getD d.val {}).times.filter fun t => decide (s.sys.aonS < t + 60)).length + 1)).flushLog).coldReset 10 i)) ∧
  (∀ (s : State) (d : Fin 14) (i : StartInfo), s.domOn d.val = true → 5 ≤ d.val →
     let ts : List Nat := s.sys.aonS :: ((s.sys.faults.getD d.val {}).times.filter fun t => decide (s.sys.aonS < t + 60))
     let u : State := s.logErr 8 d.val 4 6 ts.length
     exec (.domainPgLoss d i) s = .next (({ u with sys.faults := modAt u.sys.faults d.val fun _ =>
       { times := ts, keptOff := decide (3 ≤ ts.length), retry := !decide (3 ≤ ts.length) } }.domainOff d.val).raise 6
         [(d.val, 4), (ts.length, 4), (b2n (decide (3 ≤ ts.length)), 1)])) ∧
  (∀ (s : State) (d : Fin 14),
     exec (.domainRetry d) s = .next (if (s.sys.faults.getD d.val {}).retry then
       { s with sys.faults := modAt s.sys.faults d.val fun f => { f with retry := false } }.syncDomains else s)) ∧
  (∀ (s : State) (r : Waiting), s.runningOp 0x0102 = some r →
     exec .sysReset s = .next ((fun k : Nat => if k ≠ 0 ∧ s.vault.arm.isSome then s.respond (failR 0x30)
       else { s with sys.resetDue := some k }.respond (okC (r.f 0 1 0 == 3))) (if r.f 0 1 0 = 3 then 0 else r.f 0 1 0))) ∧
  (∀ (s : State) (r : Waiting), s.runningOp 0x0130 = some r → (s.isRoot || s.upd.session != .none || s.boot.trial || s.sys.start == 1) = true →
     exec .sysBivouac s = .next (s.respond (failR 0x30))) ∧
  (∀ (s : State) (r : Waiting), s.runningOp 0x0130 = some r → (s.isRoot || s.upd.session != .none || s.boot.trial || s.sys.start == 1) = false →
     exec .sysBivouac s = .next ({ s with
       sys.bivLight := bitAt (r.w 0) 31, sys.wakeMask := r.f 0 6 0 ||| 32 ||| (if (r.w 1).toNat = 0 then 0 else 16)
       sys.wakeTimer := (r.w 1).toNat, sys.resetDue := some 5 }.respond (okC ((r.w 1).toNat != 0 && !(r.f 0 6 0).testBit 4)))) ∧
  (∀ (s : State) (k : Fin 7), exec (.bivouacWake k) s =
     .next (if s.sys.stage = .bivouac ∧ (s.sys.wakeMask.testBit k.val = true ∨ k.val = 5) ∧ (k.val ≠ 6 ∨ s.sys.bivLight = true) then s.wakeFrom k.val else s))

/-- COMMAND_FINISH, RATE_LIMIT_WINDOW_END and PCIE_FUNCTION_RESET. COMMAND_FINISH without a command that runs, or in a control restart, does nothing. A
command with its response is answered, and what follows its answer happens: the next command, or the reset, activation, lifecycle change or standby
that it asked for. An endpoint command, or a lease that waits for an answer from elsewhere, without response is given up with TIMEOUT (0x50); another
without response stays. RATE_LIMIT_WINDOW_END of a millisecond ends the burst windows of the trunk ports and the limited events of that window; of an
AON second it counts the AON and up time by 1 and ends the limited events and the node limits of that second. PCIE_FUNCTION_RESET empties the
function's mailbox, starts its SEQ at 0, drops the requests of it that wait, discards the answer of one that runs, restarts a storage function, and
puts a function record that waited into force. Each completes with its own effect: COMMAND_FINISH, RATE_LIMIT_WINDOW_END, PCIE_FUNCTION_RESET.
(spec/02_mailboxes.md: Commands and responses, spec/02_mailboxes.md: Event queues) -/
def Obligations.CommandsEndAndWindowsTurnOver : Prop :=
  (∀ (s : State) (i : StartInfo), s.mbx.restart = true ∨ s.mbx.running = none → exec (.commandFinish i) s = .next s) ∧
  (∀ (s : State) (i : StartInfo) (x : Running) (r : Response), s.mbx.restart = false → s.mbx.running = some x → x.resp = some r →
     exec (.commandFinish i) s = .next ((s.finish x.req r).afterAnswer i)) ∧
  (∀ (s : State) (i : StartInfo) (x : Running), s.mbx.restart = false → s.mbx.running = some x → x.resp = none →
     x.req.opcode = 0x3020 ∨ x.req.opcode = 0x3021 ∨ x.req.opcode = 0x3022 ∨ (x.req.opcode = 0x7814 ∧ s.upd.leaseWait = true) →
     exec (.commandFinish i) s = .next ((State.finish { s.abortEp with upd.leaseWait := false } x.req (failR 0x50)).startNext)) ∧
  (∀ (s : State) (i : StartInfo) (x : Running), s.mbx.restart = false → s.mbx.running = some x → x.resp = none → s.mayTimeOut x.req = false →
     exec (.commandFinish i) s = .next s) ∧
  (∀ s : State, exec (.rateLimitWindowEnd true) s = .next (s.msWindow.endWindow true)) ∧
  (∀ s : State, ∃ t, exec (.rateLimitWindowEnd false) s = .next t ∧ t.sys.aonS = (s.sys.aonS + 1) % 2 ^ 32 ∧ t.sys.upS = bump s.sys.upS) ∧
  (∀ s : State, exec (.rateLimitWindowEnd false) s = .next ((s.aonSecond.endWindow false).intrSeconds)) ∧
  (∀ (s : State) (f : BitVec 5) (i : Fin 38), i.val = f.toNat + 6 → (s.stor.func.getD f.toNat {}).storage = false →
     let run : Bool := (s.mbx.running.map fun x => x.req.src == .win i).getD false
     let u : State := s.modBox i fun m => { discard := run || m.discard, st := if s.mbx.restart then .offline else .idle }
     let v : State := { u with
       mbx.saved := if s.mbx.restart then updAt u.mbx.saved i fun _ => .idle else u.mbx.saved
       mbx.waiting := s.mbx.waiting.filter fun (r : Waiting) => r.src != Source.win i }
     exec (.pcieFunctionReset f) s = .next (if (s.stor.nextFunc.getD f.toNat none).isSome then
       { v with stor.func := modAt s.stor.func f.toNat fun x => (s.stor.nextFunc.getD f.toNat none).getD x
                stor.nextFunc := modAt s.stor.nextFunc f.toNat fun _ => none }.refreshAuth else v.refreshAuth)) ∧
  (∀ (s : State) (f : BitVec 5) (i : Fin 38), i.val = f.toNat + 6 → (s.stor.func.getD f.toNat {}).storage = true → s.stor.nextFunc.getD f.toNat none = none →
     let run : Bool := (s.mbx.running.map fun x => x.req.src == .win i).getD false
     let u : State := s.modBox i fun m => { discard := run || m.discard, st := if s.mbx.restart then .offline else .idle }
     let v : State := { u with
       mbx.saved := if s.mbx.restart then updAt u.mbx.saved i fun _ => .idle else u.mbx.saved
       mbx.waiting := s.mbx.waiting.filter fun (r : Waiting) => r.src != Source.win i }
     exec (.pcieFunctionReset f) s = .next (v.storFlr f.toNat).refreshAuth)

/-- CFG.APPLY. Of the command that runs. A stream of another class than OWNER that is not empty is refused with REFUSED_AUTHORITY and index 0. A stream
that does not parse is refused with the code and the place of its first fault, and nothing changes. A stream that parses is applied record by record,
the domains follow, and the response holds the number of records and the clamps, with OK_CLAMPED when a value was changed and else OK. Completes with
its own effect: CFG_APPLY. (spec/02_mailboxes.md: Configuration records) -/
def Obligations.ConfigurationIsAppliedWholeOrRefused : Prop :=
  (∀ (s : State) (r : Waiting), s.runningOp 0x0201 = some r → s.isOwner r.src = false → r.data ≠ [] → exec .cfgApply s = .next (s.respond (failR 0x20 0))) ∧
  (∀ (s : State) (r : Waiting) (e : RecFault), s.runningOp 0x0201 = some r → parseStream (s.isOwner r.src) r.data = .error e →
     exec .cfgApply s = .next (s.respond (failR e.code e.index))) ∧
  (∀ (s s' : State) (r : Waiting) (rs : List Rec) (cs : List Clamp), s.runningOp 0x0201 = some r → parseStream (s.isOwner r.src) r.data = .ok rs →
     s.applyRecs true 0 rs = (s', cs) →
     exec .cfgApply s = .next (s'.syncDomains.respond (okC (!cs.isEmpty) (clampReport rs.length cs.length cs))))

/-- TUN.OPEN and the admission of a tunnel. TUN_OPEN at a hub that is not joined returns BUSY (0x30), with no table entry free NO_RESOURCE (0x40); else it
opens the tunnel with class 7 taken as 6, its rates clamped and a TENANT's own tenant, and returns its handle, OK_CLAMPED where something was changed.
TUN_ADMIT_SEND of an opening end A without number and keyshare that cannot sign refuses with 7; one with its ephemeral key sends TUN.ADMIT with
parameters, handle and keyshare; it waits without that key. TUN_ADMIT at the ROOT answers with TUN.RESULT of the first reason that applies, or records
the admission and sends TUN.OFFER to end B. TUN_OFFER_ANSWER of an offer that refuses is passed to end A; one that accepts installs the entries, names
an epoch and sends TUN.RESULT to both ends; in a control restart it is only noted. TUN_OFFER_TIMEOUT refuses with 8. TUN_OFFER at end B waits for a
free ephemeral slot and else takes or refuses the offer. TUN_RESULT goes to end B by number and handle, else to the opening end A by handle.
TUN_OPEN_TIMEOUT of an end A without TUN.RESULT refuses with 0x0A. Where the entry or offer is not there or is in another state, nothing changes. Each
completes with its own effect: TUN_OPEN, TUN_ADMIT_SEND, TUN_ADMIT, TUN_OFFER_TIMEOUT, TUN_OFFER_ANSWER, TUN_OFFER, TUN_RESULT, TUN_OPEN_TIMEOUT.
(spec/05_tunnels.md: Opening) -/
def Obligations.OpeningATunnelGoesThroughTheRoot : Prop :=
  (∀ (s : State) (r : Waiting), s.runningOp 0x2101 = some r → s.joined = false → exec .tunOpen s = .next (s.respond (failR 0x30))) ∧
  (∀ (s : State) (r : Waiting), s.runningOp 0x2101 = some r → s.joined = true →
     let p : OpenParams := readOpen r.data 0
     let cls : Nat := if p.cls = 7 then 6 else p.cls
     let k : OpenParams × Bool := clampRates cls p.cir p.pir p.cbs p.pbs
     let q : OpenParams := { p with cls := cls, cir := k.1.cir, pir := k.1.pir, cbs := k.1.cbs, pbs := k.1.pbs, tenant := (s.srcTenant r.src).getD p.tenant }
     exec .tunOpen s = .next (((s.openTun q (some r.src)).map fun (x : State × Nat) =>
       x.1.respond (okC (k.2 || p.cls == 7) [wd (((x.1.tunAt x.2).map (·.handle)).getD 0)])).getD (s.respond (failR 0x40)))) ∧
  (∀ (s : State) (i : BitVec 14), s.tunAt i.toNat = none → exec (.tunAdmitSend i) s = .next s ∧ exec (.tunOpenTimeout i) s = .next s) ∧
  (∀ (s : State) (i : BitVec 14) (t : Tunnel), s.tunAt i.toNat = some t → (t.st != .opening || !t.endA || t.number != 0 || !t.ownShare.isEmpty) = true →
     exec (.tunAdmitSend i) s = .next s) ∧
  (∀ (s : State) (i : BitVec 14) (t : Tunnel), s.tunAt i.toNat = some t → t.st = .opening → t.endA = true → t.number = 0 → t.ownShare = [] → s.canSign = false →
     exec (.tunAdmitSend i) s = .next (s.refuseTun t.idx 7)) ∧
  (∀ (s : State) (i : BitVec 14) (t : Tunnel), s.tunAt i.toNat = some t → t.st = .opening → t.endA = true → t.number = 0 → t.ownShare = [] → s.canSign = true →
     exec (.tunAdmitSend i) s = .next (if t.eph = none then s else
       ((s.ownKeyshare t).2.modTun t.idx fun x => { x with ownShare := (s.ownKeyshare t).1 }).sendRoot 0x2140 (t.p.words ++ wd t.handle :: (s.ownKeyshare t).1))) ∧
  (∀ (s u : State) (r : Waiting) (qs : List (Nat × Bool)) (e : Nat), s.runningOp 0x2140 = some r →
     u = (if (readOpen r.data 0).farHub = 0 then s.dirTouch (readOpen r.data 0).farEp else s) →
     u.admitCheck (s.peerHub r.src) (readOpen r.data 0) qs = .error e →
     exec (.tunAdmit qs) s = .next ((u.sendHub (s.peerHub r.src) 0x2142 (refusal e (r.w 6).toNat 0 0 0)).respond okR)) ∧
  (∀ (s u : State) (r : Waiting) (qs : List (Nat × Bool)) (b n h : Nat) (ls : List Leg), s.runningOp 0x2140 = some r →
     u = (if (readOpen r.data 0).farHub = 0 then s.dirTouch (readOpen r.data 0).farEp else s) →
     u.admitCheck (s.peerHub r.src) (readOpen r.data 0) qs = .ok (b, n, h, ls) →
     let t : RootTun := { number := n, stage := .offered, hubA := s.peerHub r.src, hubB := b, handleA := (r.w 6).toNat, p := readOpen r.data 0,
                          hops := h, legs := ls, keyshareA := (r.data.drop 7).take 49 }
     exec (.tunAdmit qs) s = .next (({ u with tun.rootTuns := u.tun.rootTuns ++ [t] }.sendHub b 0x2141 ([tunnelWord n h, pack [(s.peerHub r.src, 16)]] ++ (readOpen r.data 0).words ++
       (r.data.drop 7).take 49 ++ certBlock (u.certOf (s.peerHub r.src)))).respond okR)) ∧
  (∀ (s : State) (n : BitVec 19), s.tun.rootTuns.find? (fun x => x.number == n.toNat && x.stage == .offered) = none →
     exec (.tunOfferTimeout n) s = .next s ∧ ∀ (re : Byte) (hb : Word) (sh : List Word), exec (.tunOfferAnswer n re hb sh) s = .next s) ∧
  (∀ (s : State) (n : BitVec 19) (re : Byte) (hb : Word) (sh : List Word) (t : RootTun),
     s.tun.rootTuns.find? (fun x => x.number == n.toNat && x.stage == .offered) = some t → t.marked = true →
     exec (.tunOfferAnswer n re hb sh) s = .next (if re = 0 then s.modRootTun n.toNat fun x => { x with stage := .accepted, handleB := hb.toNat } else s)) ∧
  (∀ (s : State) (n : BitVec 19) (re : Byte) (hb : Word) (sh : List Word) (t : RootTun),
     s.tun.rootTuns.find? (fun x => x.number == n.toNat && x.stage == .offered) = some t → t.marked = false → re ≠ 0 →
     exec (.tunOfferAnswer n re hb sh) s = .next ((s.modRootTun t.number fun x => { x with stage := .released, legs := [] }).sendHub t.hubA 0x2142
       (refusal re.toNat t.handleA 0 t.number t.hops))) ∧
  (∀ (s : State) (n : BitVec 19) (hb : Word) (sh : List Word) (t : RootTun),
     s.tun.rootTuns.find? (fun x => x.number == n.toNat && x.stage == .offered) = some t → t.marked = false →
     let u : State := (s.modRootTun n.toNat fun x => { x with stage := .resulted, handleB := hb.toNat }).installLegs n.toNat t.legs
     let v : State × Nat := u.nameEpoch (u.shapesFor n.toNat t.p.cls t.legs)
     let x : State := v.1.modRootTun n.toNat fun y => { y with epochAt := v.2 }
     let head : List Word := [0, wd t.handleA, wd hb.toNat, tunnelWord n.toNat t.hops] ++ wd2 v.2
     let y : State := x.sendHub t.hubA 0x2142 (head ++ sh ++ certBlock (x.certOf t.hubB))
     exec (.tunOfferAnswer n 0 hb sh) s = .next ((y.sendHub t.hubB 0x2142 (head ++ t.keyshareA ++ certBlock (y.certOf t.hubA))).checkOver)) ∧
  (∀ (s : State) (n : BitVec 19) (t : RootTun), s.tun.rootTuns.find? (fun x => x.number == n.toNat && x.stage == .offered) = some t →
     exec (.tunOfferTimeout n) s = .next ((s.modRootTun t.number fun x => { x with stage := .released, legs := [] }).sendHub t.hubA 0x2142
       (refusal 8 t.handleA 0 t.number t.hops))) ∧
  (∀ (s : State) (c : Cert) (k : Bool), s.freeEph = none → exec (.tunOffer c k) s = .next s) ∧
  (∀ (s : State) (r : Waiting) (c : Cert) (k : Bool), s.freeEph.isSome = true → s.runningOp 0x2141 = some r →
     let x : State × Nat × Nat × List Word := s.takeOffer r c k
     let u : State := if r.src = .self then x.1.offerAnswered (r.f 0 31 12 / 2) x.2.1 x.2.2.1 x.2.2.2 else x.1
     exec (.tunOffer c k) s = .next (u.respond (if x.2.1 = 0 then okR (0 :: wd x.2.2.1 :: x.2.2.2) else denyR x.2.1 [pack [(x.2.1, 8)], 0]))) ∧
  (∀ (s : State) (r : Waiting) (c : Cert) (k : Bool) (t : Tunnel), s.runningOp 0x2142 = some r →
     s.tun.table.find? (fun t => !t.endA && t.number == r.f 3 31 12 / 2 && t.handle == (r.w 2).toNat) = some t →
     exec (.tunResult c k) s = .next ((s.resultAtB t.idx (r.f 0 31 24) (u64At r.data 4 % 2 ^ 50)).respond okR)) ∧
  (∀ (s : State) (r : Waiting) (c : Cert) (k : Bool) (t : Tunnel), s.runningOp 0x2142 = some r →
     s.tun.table.find? (fun t => !t.endA && t.number == r.f 3 31 12 / 2 && t.handle == (r.w 2).toNat) = none →
     s.tun.table.find? (fun t => t.endA && t.number == 0 && t.handle == (r.w 1).toNat && (t.st == .opening || t.st == .closing)) = some t →
     exec (.tunResult c k) s = .next ((s.resultAtA t (r.f 0 31 24) (r.f 3 31 12 / 2) (r.f 3 11 4) (u64At r.data 4 % 2 ^ 50)
       ((r.data.drop 6).take 49) c k).respond okR)) ∧
  (∀ (s : State) (r : Waiting) (c : Cert) (k : Bool), s.runningOp 0x2142 = some r →
     s.tun.table.find? (fun t => !t.endA && t.number == r.f 3 31 12 / 2 && t.handle == (r.w 2).toNat) = none →
     s.tun.table.find? (fun t => t.endA && t.number == 0 && t.handle == (r.w 1).toNat && (t.st == .opening || t.st == .closing)) = none →
     exec (.tunResult c k) s = .next (s.respond okR)) ∧
  (∀ (s : State) (i : BitVec 14) (t : Tunnel), s.tunAt i.toNat = some t →
     exec (.tunOpenTimeout i) s = .next (if t.st = .opening ∧ t.endA ∧ t.upAt = none then s.refuseTun t.idx 10 else s))

/-- TUN.CLOSE, STATUS, LIST, REKEY, RELEASE and CLOSED. Of the command that runs. TUN.CLOSE of a handle that the mailbox may see begins the close with
cause 0. TUN.STATUS returns the tunnel's words, or zeros for another handle. TUN.LIST returns how many tunnels the mailbox may see, and their handles
by index. TUN.REKEY returns 0x70 while the vault cannot sign, and else offers a new key. TUN.RELEASE at the ROOT takes the tunnel of that number apart
when it comes from one of its ends. TUN.CLOSED closes the tunnel of that number, with the cause of its close, or 3. CLOSE and REKEY of another handle,
RELEASE of another tunnel and CLOSED of an unknown number return OK alone. A quarantine that ends frees its number. Each completes with its own
effect: TUN_CLOSE, TUN_STATUS, TUN_LIST, TUN_REKEY, TUN_RELEASE, TUN_CLOSED, TUN_NUMBER_QUARANTINE_END. (spec/05_tunnels.md: Ends, numbers and
handles, spec/05_tunnels.md: Keys and encryption, spec/05_tunnels.md: Closing, spec/05_tunnels.md: Commands) -/
def Obligations.TunnelCommandsCloseReportAndRelease : Prop :=
  (∀ (s : State) (r : Waiting) (t : Tunnel), s.runningOp 0x2102 = some r → s.tunFor r (r.w 0).toNat = some t →
     exec .tunClose s = .next ((s.beginClose t.idx 0).respond okR)) ∧
  (∀ (s : State) (r : Waiting), s.runningOp 0x2102 = some r → s.tunFor r (r.w 0).toNat = none → exec .tunClose s = .next (s.respond okR)) ∧
  (∀ (s : State) (r : Waiting) (t : Tunnel), s.runningOp 0x2103 = some r → s.tunFor r (r.w 0).toNat = some t →
     exec .tunStatus s = .next (s.respond (okR t.statusWords))) ∧
  (∀ (s : State) (r : Waiting), s.runningOp 0x2103 = some r → s.tunFor r (r.w 0).toNat = none →
     exec .tunStatus s = .next (s.respond (okR (List.replicate 11 0)))) ∧
  (∀ (s : State) (r : Waiting) (ts : List Tunnel), s.runningOp 0x2104 = some r → (s.tun.table.filter fun t => s.seesTun r.src t).foldr insertTun [] = ts →
     exec .tunList s = .next (s.respond (okR (pack [(ts.length, 16), (((ts.filter fun t => decide (r.f 0 13 0 ≤ t.idx)).take 1020).length, 16)] ::
       ((ts.filter fun t => decide (r.f 0 13 0 ≤ t.idx)).take 1020).map fun t => wd t.handle)))) ∧
  (∀ (s : State) (r : Waiting) (t : Tunnel), s.runningOp 0x2110 = some r → s.tunFor r (r.w 0).toNat = some t →
     exec .tunRekey s = .next (if s.canSign then (s.offerRekey t.idx).respond okR else s.respond (failR 0x70))) ∧
  (∀ (s : State) (r : Waiting), s.runningOp 0x2110 = some r → s.tunFor r (r.w 0).toNat = none → exec .tunRekey s = .next (s.respond okR)) ∧
  (∀ (s : State) (r : Waiting) (t : RootTun), s.runningOp 0x2143 = some r →
     s.tun.rootTuns.find? (fun x => x.number == r.f 0 31 12 / 2 && (x.hubA == s.peerHub r.src || x.hubB == s.peerHub r.src)) = some t →
     exec .tunRelease s = .next ((s.dismantle t (r.f 0 7 0)).respond okR)) ∧
  (∀ (s : State) (r : Waiting), s.runningOp 0x2143 = some r →
     s.tun.rootTuns.find? (fun x => x.number == r.f 0 31 12 / 2 && (x.hubA == s.peerHub r.src || x.hubB == s.peerHub r.src)) = none →
     exec .tunRelease s = .next (s.respond okR)) ∧
  (∀ (s : State) (r : Waiting) (t : Tunnel), s.runningOp 0x2144 = some r → s.tunByNumber (r.f 0 31 12 / 2) = some t →
     exec .tunClosed s = .next (((s.closeTun t.idx (if t.st = .closing then t.closeCause else 3)).serveKeys).respond okR)) ∧
  (∀ (s : State) (r : Waiting), s.runningOp 0x2144 = some r → s.tunByNumber (r.f 0 31 12 / 2) = none → exec .tunClosed s = .next (s.respond okR)) ∧
  (∀ (s : State) (n : BitVec 19), exec (.tunNumberQuarantineEnd n) s = .next { s with tun.quarantine := s.tun.quarantine.filter fun x => x != n.toNat })

/-- Cells, acknowledgement, keepalive, stall, close and key timers of a tunnel. TUNNEL_CELL_RECEIVE: a cell on a TUNNEL of no tunnel of this hub is
counted; one that is not encrypted, whose tag fails, or whose key no longer serves fails its tag; another is heard from, notes a newer key, ends a
stall for silence, counts a mark of another class than NETWORK, and is taken as a status cell or as a data cell. DATA_CELL_OFFER to a tunnel that is
neither UP nor STALLED is dropped; else the cell waits, a cell of a mailbox PDU of a MGMT tunnel with the control cells, and what can be sent is sent.
TUN_RTO_EXPIRY retransmits what a reliable sender holds; TUN_ACK_TIMER sends an ACK that is due; TUN_KEEPALIVE_SEND sends one in UP or STALLED;
TUN_DEAD_TIMEOUT marks the tunnel quiet, and in UP makes it STALLED; TUN_STALL_CLOSE of a STALLED tunnel leaves the tree for the ROOT channel, closes
and departs the hub of a ROOT channel at the ROOT, and else releases and closes; TUN_CLOSE_TIMEOUT of a CLOSING one closes it, or at the first
releases it for the end that began or end A; LOSSY_REPEAT_TIMER of a lossy class sends the unanswered CLOSE or REKEY_OFFER again; REKEY_MIN_EXPIRY
offers at end A; REKEY_ACCEPT_TIMEOUT drops an offer that was sent; REKEY_RETRY offers again; OLD_KEY_RETIRE forgets the older key once it is done. An
index of no tunnel and every other state or case is left alone. Each completes with its own effect: TUNNEL_CELL_RECEIVE, DATA_CELL_OFFER,
TUN_RTO_EXPIRY, TUN_ACK_TIMER, TUN_KEEPALIVE_SEND, TUN_DEAD_TIMEOUT, TUN_STALL_CLOSE, TUN_CLOSE_TIMEOUT, LOSSY_REPEAT_TIMER, REKEY_MIN_EXPIRY,
REKEY_ACCEPT_TIMEOUT, REKEY_RETRY, OLD_KEY_RETIRE. (spec/05_tunnels.md: Keys and encryption, spec/05_tunnels.md: Delivery, spec/05_tunnels.md:
Closing, spec/07_allotment.md: Policers) -/
def Obligations.TunnelCellsAndTimersKeepATunnel : Prop :=
  (∀ (s : State) (c : Cell) (g : Option Bool) (k : Bool), s.tun.table.find? (fun t => t.number != 0 && t.rx == c.tunnel.toNat) = none →
     exec (.tunnelCellReceive c g k) s = .next { s with tun.unknown := bump s.tun.unknown }) ∧
  (∀ (s : State) (c : Cell) (g : Option Bool) (k : Bool) (t : Tunnel), s.tun.table.find? (fun t => t.number != 0 && t.rx == c.tunnel.toNat) = some t →
     (c.enc && g.any fun n => t.keyServes c n) = false →
     exec (.tunnelCellReceive c g k) s = .next (s.tagFailed t)) ∧
  (∀ (s : State) (c : Cell) (n k : Bool) (t : Tunnel), s.tun.table.find? (fun t => t.number != 0 && t.rx == c.tunnel.toNat) = some t → c.enc = true →
     t.keyServes c n = true →
     let u : State := (s.modTun t.idx fun x => { x with quiet := false }).noteNewKey t c n
     let v : State := if t.st = .stalled ∧ t.stall = 6 then (u.modTun t.idx fun x => { x with stall := 0 }).setTun t.idx .up 1 else u
     let y : State := if c.cm = true ∧ t.p.cls ≠ 5 then v.cntF 3 1 else v
     exec (.tunnelCellReceive c (some n) k) s = .next (if inStatus c then
         (if rebuild t.rxSseq c.seq.toNat < t.rxSseq then y else (y.modTun t.idx fun x => { x with rxSseq := rebuild t.rxSseq c.seq.toNat + 1 }).status t.idx c)
       else ((y.tunAt t.idx).map fun x => y.dataCell x c k).getD y)) ∧
  (∀ (s : State) (i : BitVec 14), s.tunAt i.toNat = none → (∀ (b so eo : Bool) (d : BitVec 24) (p : List Byte), exec (.dataCellOffer i b d so eo p) s = .next s) ∧
     exec (.tunRtoExpiry i) s = .next s ∧ exec (.tunAckTimer i) s = .next s ∧ exec (.tunKeepaliveSend i) s = .next s ∧ exec (.tunDeadTimeout i) s = .next s ∧
     exec (.tunStallClose i) s = .next s ∧ (∀ b : Bool, exec (.tunCloseTimeout i b) s = .next s) ∧ exec (.lossyRepeatTimer i) s = .next s ∧
     exec (.rekeyMinExpiry i) s = .next s ∧ exec (.rekeyAcceptTimeout i) s = .next s ∧ exec (.rekeyRetry i) s = .next s ∧ exec (.oldKeyRetire i) s = .next s) ∧
  (∀ (s : State) (i : BitVec 14) (b so eo : Bool) (d : BitVec 24) (p : List Byte) (t : Tunnel), s.tunAt i.toNat = some t → t.st ≠ .up → t.st ≠ .stalled →
     exec (.dataCellOffer i b d so eo p) s = .next s) ∧
  (∀ (s : State) (i : BitVec 14) (b so eo : Bool) (d : BitVec 24) (p : List Byte) (t : Tunnel), s.tunAt i.toNat = some t → t.st = .up ∨ t.st = .stalled →
     exec (.dataCellOffer i b d so eo p) s = .next ((s.modTun t.idx fun x => if b = true ∧ x.p.cls = 1
       then { x with ctlWait := x.ctlWait ++ [{ ctype := 5, dest := d, sop := so, eop := eo, payload := p.take 224 }] }
       else { x with waiting := x.waiting ++ [{ ctype := 1, dest := d, sop := so, eop := eo, payload := p.take 224 }] }).sendWaiting t.idx)) ∧
  (∀ (s : State) (i : BitVec 14) (t : Tunnel), s.tunAt i.toNat = some t →
     exec (.tunRtoExpiry i) s = .next (if reliable t.p.cls ∧ t.unacked ≠ [] then s.retransmit t.idx t.oldest else s)) ∧
  (∀ (s : State) (i : BitVec 14) (t : Tunnel), s.tunAt i.toNat = some t →
     exec (.tunAckTimer i) s = .next (if reliable t.p.cls ∧ (t.ackTimer ∨ 16 ≤ t.sinceAck) then s.sendAck t.idx else s)) ∧
  (∀ (s : State) (i : BitVec 14) (t : Tunnel), s.tunAt i.toNat = some t →
     exec (.tunKeepaliveSend i) s = .next (if t.st = .up ∨ t.st = .stalled then s.sendStatus t.idx 0 0 else s)) ∧
  (∀ (s : State) (i : BitVec 14) (t : Tunnel), s.tunAt i.toNat = some t →
     exec (.tunDeadTimeout i) s = .next (if t.st = .up then
       ((s.modTun t.idx fun x => { x with quiet := true }).modTun t.idx fun x => { x with stall := 6 }).setTun t.idx .stalled 6
       else s.modTun t.idx fun x => { x with quiet := true })) ∧
  (∀ (s : State) (i : BitVec 14) (t : Tunnel), s.tunAt i.toNat = some t → t.st ≠ .stalled → exec (.tunStallClose i) s = .next s) ∧
  (∀ (s : State) (i : BitVec 14) (t : Tunnel), s.tunAt i.toNat = some t → t.st = .stalled → s.topo.rootChan = some t.idx →
     exec (.tunStallClose i) s = .next s.leaveTree) ∧
  (∀ (s : State) (i : BitVec 14) (t : Tunnel), s.tunAt i.toNat = some t → t.st = .stalled → s.topo.rootChan ≠ some t.idx →
     exec (.tunStallClose i) s = .next (((s.channelHub t.idx).map fun h => ((s.closeTun t.idx 6).hubDeparted h).serveKeys).getD
       (((s.sendRelease t.idx 6).closeTun t.idx 6).serveKeys))) ∧
  (∀ (s : State) (i : BitVec 14) (b : Bool) (t : Tunnel), s.tunAt i.toNat = some t →
     exec (.tunCloseTimeout i b) s = .next (if t.st ≠ .closing then s else if b then (s.closeTun t.idx t.closeCause).serveKeys
       else if t.endA ∨ t.began then s.sendRelease t.idx t.closeCause else s)) ∧
  (∀ (s : State) (i : BitVec 14) (t : Tunnel), s.tunAt i.toNat = some t → reliable t.p.cls = true ∨ t.repeats = 0 → exec (.lossyRepeatTimer i) s = .next s) ∧
  (∀ (s : State) (i : BitVec 14) (t : Tunnel), s.tunAt i.toNat = some t → reliable t.p.cls = false → t.repeats ≠ 0 → t.st = .closing → t.began = true →
     t.gotClose = false →
     exec (.lossyRepeatTimer i) s = .next ((s.modTun t.idx fun x => { x with repeats := x.repeats - 1 }).sendClose t.idx t.closeCause)) ∧
  (∀ (s : State) (i : BitVec 14) (t : Tunnel), s.tunAt i.toNat = some t → reliable t.p.cls = false → t.repeats ≠ 0 →
     (t.st == .closing && t.began && !t.gotClose) = false →
     let u : State := s.modTun t.idx fun x => { x with repeats := x.repeats - 1 }
     exec (.lossyRepeatTimer i) s = .next ((t.offer.map fun k => if t.ownShare.isEmpty then u else u.sendControl t.idx 5 0 k 0 t.ownShare).getD u)) ∧
  (∀ (s : State) (i : BitVec 14) (t : Tunnel), s.tunAt i.toNat = some t → exec (.rekeyMinExpiry i) s = .next (if t.endA then s.offerRekey t.idx else s)) ∧
  (∀ (s : State) (i : BitVec 14) (t : Tunnel), s.tunAt i.toNat = some t →
     exec (.rekeyAcceptTimeout i) s = .next (if t.offer.isSome ∧ t.ownShare.isEmpty = false then (s.dropOffer t.idx true).serveKeys else s)) ∧
  (∀ (s : State) (i : BitVec 14) (t : Tunnel), s.tunAt i.toNat = some t → exec (.rekeyRetry i) s = .next (if t.offerRetry then s.offerRekey t.idx else s)) ∧
  (∀ (s : State) (i : BitVec 14) (t : Tunnel), s.tunAt i.toNat = some t →
     exec (.oldKeyRetire i) s = .next (if s.oldKeyDone t then s.modTun t.idx fun x => { x with oldKey := none, newEseq := none, newSseq := none } else s))

/-- The refill tick, link rates, and the ALLOT commands. REFILL_TICK applies the closed epochs that have fired, in order, starts or stops scaling at every
egress, refills every queue and policer, and sends the cells that then can go. LINK_RATE_REPORT is taken at the ROOT that heads a tree only. Of the
command that runs: ALLOT_STAGE stages its entries and answers, and keeps what it undid where it staged. ALLOT_CANCEL takes back a pending epoch and
its scheduler entry with OUTCOME 0, and of one not pending reports 2 when its number has not been in force or discarded and 1 else. ALLOT_STATUS,
ALLOT_QUEUE and ALLOT_POLICER report, zeros where there is no such queue or tunnel, ALLOT_QUEUE with OK_CLAMPED for VL 0 or 7. ALLOT_CHANGE of a
tunnel that is not UP returns BUSY (0x30), of one that is UP asks the ROOT for the clamped rates, and of no tunnel returns OK. ALLOT_REQUEST at the
ROOT answers its decision, also to the hub itself; the answer to a hub's own is taken there. ALLOT_APPLIED raises EV076 for each outcome but 0; for
outcome 2 and 3 the values of that epoch at that hub are named again, with every value of the hub where the epoch is no longer remembered (log entry
172). Each completes with its own effect: REFILL_TICK, LINK_RATE_REPORT, ALLOT_STAGE, ALLOT_CANCEL, ALLOT_STATUS, ALLOT_QUEUE, ALLOT_POLICER,
ALLOT_CHANGE, ALLOT_REQUEST, ALLOT_APPLIED. (spec/05_tunnels.md: Opening, spec/07_allotment.md: Rate units and the refill tick, spec/07_allotment.md:
Epochs, spec/07_allotment.md: Changing a tunnel's rates, spec/07_allotment.md: ALLOT commands) -/
def Obligations.AllotmentPolicesAndStages : Prop :=
  (∀ s : State,
     let a : State := (s.allot.pendingEp.filter fun e => e.closed && e.fired).foldl (fun u e => u.applyEpoch e) s
     let b : State := (List.range 15).foldl (fun u e => u.rescale e) a.listVl1
     let c : State := { b with fwd.queues := b.fwd.queues.map b.refillQueue, tun.table := b.tun.table.map Tunnel.refill }
     exec .refillTick s = .next (c.tun.table.foldl (fun u t => u.sendWaiting t.idx) c)) ∧
  (∀ (s : State) (h : BitVec 16) (p : Fin 4) (k : Nat) (b : Bool),
     exec (.linkRateReport h p k b) s = .next (if s.headsTree then s.setRate h.toNat p.val k b else s)) ∧
  (∀ (s : State) (r : Waiting), s.runningOp 0x2310 = some r →
     exec .allotStage s = .next (State.respond { (s.stage r.data).1 with
       allot.undo := if (s.stage r.data).2.result = 0 ∨ (s.stage r.data).2.result = 1 then
         some ((r.w 0).toNat, s.allot.pendingEp.find? (fun e => e.no == (r.w 0).toNat)) else none } (s.stage r.data).2)) ∧
  (∀ (s : State) (r : Waiting), s.runningOp 0x2311 = some r → s.allot.pendingEp.any (fun e => e.no == (r.w 0).toNat) = true →
     exec .allotCancel s = .next ({ s with
       allot.pendingEp := s.allot.pendingEp.filter fun e => e.no != (r.w 0).toNat
       allot.gone := s.allot.gone ++ [(r.w 0).toNat]
       sched.entries := s.sched.entries.filter fun e => !(e.action == 5 && e.target == (r.w 0).toNat) }.respond (okR [0]))) ∧
  (∀ (s : State) (r : Waiting), s.runningOp 0x2311 = some r → s.allot.pendingEp.any (fun e => e.no == (r.w 0).toNat) = false →
     exec .allotCancel s = .next (s.respond (okR [pack [(if (r.w 0).toNat = 0 ∨ (epochAhead (r.w 0).toNat s.allot.epochNo = true ∧
       s.allot.gone.contains (r.w 0).toNat = false) then 2 else 1, 8)]]))) ∧
  (∀ (s : State) (r : Waiting), s.runningOp 0x2301 = some r → exec .allotStatus s = .next (s.respond (okR s.allotStatusWords))) ∧
  (∀ (s : State) (r : Waiting), s.runningOp 0x2302 = some r → s.selected (r.w 0) = none → exec .allotQueue s = .next (s.respond (okR (List.replicate 6 0)))) ∧
  (∀ (s : State) (r : Waiting) (k : QKey), s.runningOp 0x2302 = some r → s.selected (r.w 0) = some k →
     exec .allotQueue s = .next (s.respond (okC (!bitAt (r.w 0) 23 && (r.f 0 22 20 == 0 || r.f 0 22 20 == 7)) (s.queueWords k)))) ∧
  (∀ (s : State) (r : Waiting) (t : Tunnel), s.runningOp 0x2303 = some r → s.tunFor r (r.w 0).toNat = some t →
     exec .allotPolicer s = .next (s.respond (okR [pack [(t.p.cir, 24)], pack [(t.p.pir, 24)], pack [(t.p.cbs, 16), (t.p.pbs, 16)],
       pack [(t.cTok / wholeCell, 16), (t.pTok / wholeCell, 16)], wd t.excess, wd t.drops]))) ∧
  (∀ (s : State) (r : Waiting), s.runningOp 0x2303 = some r → s.tunFor r (r.w 0).toNat = none →
     exec .allotPolicer s = .next (s.respond (okR (List.replicate 6 0)))) ∧
  (∀ (s : State) (r : Waiting), s.runningOp 0x2320 = some r → s.tunFor r (r.w 0).toNat = none → exec .allotChange s = .next (s.respond okR)) ∧
  (∀ (s : State) (r : Waiting) (t : Tunnel), s.runningOp 0x2320 = some r → s.tunFor r (r.w 0).toNat = some t → t.st ≠ .up →
     exec .allotChange s = .next (s.respond (failR 0x30))) ∧
  (∀ (s : State) (r : Waiting) (t : Tunnel) (c : OpenParams) (b : Bool), s.runningOp 0x2320 = some r → s.tunFor r (r.w 0).toNat = some t → t.st = .up →
     clampRates t.p.cls (r.f 1 31 8) (r.f 2 31 8) (r.f 3 31 16) (r.f 3 15 0) = (c, b) →
     exec .allotChange s = .next ((s.askRates t c).respond (okC b))) ∧
  (∀ (s : State) (n : BitVec 20) (re : Byte), exec (.allotRequest (some (n, re))) s = .next (s.changeAnswered n.toNat re.toNat)) ∧
  (∀ (s : State) (r : Waiting), s.runningOp 0x2340 = some r →
     let x : State × Response := s.decideChange (s.peerHub r.src) (r.f 0 31 12) (r.f 1 31 8) (r.f 2 31 8) (r.f 3 31 16) (r.f 3 15 0)
     exec (.allotRequest none) s = .next (State.respond (if r.src = .self then x.1.changeAnswered (r.f 0 31 12) (fld (wordAt x.2.data 0) 31 24) else x.1) x.2)) ∧
  (∀ (s : State) (r : Waiting), s.runningOp 0x2341 = some r → r.f 0 15 8 ≠ 2 → r.f 0 15 8 ≠ 3 →
     exec .allotApplied s = .next ((if r.f 0 15 8 = 0 then s else s.raise 76 [(r.f 0 31 16, 16), (r.f 0 15 8, 4)]).respond okR)) ∧
  (∀ (s : State) (r : Waiting) (no : Nat) (es : List (Nat × List Word)), s.runningOp 0x2341 = some r → r.f 0 15 8 = 2 ∨ r.f 0 15 8 = 3 →
     s.allot.named.find? (fun x => x.1 == (r.w 1).toNat) = some (no, es) →
     let u : State := s.raise 76 [(r.f 0 31 16, 16), (r.f 0 15 8, 4)]
     exec .allotApplied s = .next ((u.nameEpoch ((es.filter fun x => x.1 == r.f 0 31 16).filterMap fun e => u.entryNow (r.f 0 31 16) e.2)).1.respond okR)) ∧
  (∀ (s : State) (r : Waiting), s.runningOp 0x2341 = some r → r.f 0 15 8 = 2 ∨ r.f 0 15 8 = 3 →
     s.allot.named.find? (fun x => x.1 == (r.w 1).toNat) = none →
     ∃ es, exec .allotApplied s = .next (((s.raise 76 [(r.f 0 31 16, 16), (r.f 0 15 8, 4)]).nameEpoch es).1.respond okR))

/-- Beacons, status and enrol frames, violations, babbling and jams of a lighting segment. Of a segment. BEACON and BEACON_LATE act in RUN only. On the
grid BEACON starts a beacon when the grid instant has come, but skips one less than 2,364 bit times after the last beacon, and sends one more than
3,600 after it off the grid; off the grid it starts one from 2,344 bit times on where no grid instant serves. BEACON_LATE starts the beacon that was
due, counted and with EV133, or skips it the same way. STATUS_FRAME_RECEIVE takes a status frame with the node and CSEQ of the poll; a bad signal
counts against the polled node, a framed one for the segment too. ENROL_FRAME_RECEIVE takes the first answer of an enrol cycle: a frame is assigned
its ID, silence advances the search, a collision deepens it, is tried again, or is given up and counted. NODE_ABSENT_TIMEOUT reports an absent node
gone once. SEGMENT_VIOLATION counts; the ninth of a node in a window makes it babble, with EV131 and QUIET. BABBLE_WINDOW_END starts the window
afresh, and ten good ones in a row end the babble. A jam takes the segment out of RUN and back with EV132, and the cut times switch its port off. In
every other state and case nothing changes. Each completes with its own effect: BEACON, BEACON_LATE, STATUS_FRAME_RECEIVE, ENROL_FRAME_RECEIVE,
NODE_ABSENT_TIMEOUT, SEGMENT_VIOLATION, BABBLE_WINDOW_END, BABBLE_CUT_EXPIRY, SEGMENT_JAM, SEGMENT_JAM_CLEAR, JAM_CUT_EXPIRY. (spec/08_lighting.md:
Segments and the PLCA cycle, spec/08_lighting.md: Remund frames, spec/08_lighting.md: Nodes, spec/08_lighting.md: Endpoint IDs and the directory) -/
def Obligations.LightingSegmentsFollowTheBus : Prop :=
  (∀ (s : State) (n k : Fin 4) (g : Fin 16) (o : Bool), g = lightPort n k → (s.sg g.val).st ≠ .run → exec (.beacon n k o) s = .next s ∧ exec (.beaconLate n k o) s = .next s) ∧
  (∀ (s : State) (n k : Fin 4) (g : Fin 16), g = lightPort n k → (s.sg g.val).st = .run → (s.sg g.val).lastStart = none →
     exec (.beacon n k true) s = .next s ∧ exec (.beacon n k false) s = .next (if (s.sg g.val).due.isSome then s.startBeacon g false false else s)) ∧
  (∀ (s : State) (n k : Fin 4) (g : Fin 16) (t : Nat), g = lightPort n k → (s.sg g.val).st = .run → s.sinceBeacon g.val = some t →
     exec (.beacon n k true) s = .next (if 2344 * bitTime ≤ t ∧ s.offGridCase t = true then s.startBeacon g true false else s)) ∧
  (∀ (s : State) (n k : Fin 4) (g : Fin 16) (t : Nat), g = lightPort n k → (s.sg g.val).st = .run → s.sinceBeacon g.val = some t →
     exec (.beacon n k false) s = .next (if (s.sg g.val).due = none then s else if t < 2364 * bitTime then s.modSeg g.val fun x => { x with due := none }
       else s.startBeacon g (decide (3600 * bitTime < t)) false)) ∧
  (∀ (s : State) (n k : Fin 4) (g : Fin 16) (o : Bool), g = lightPort n k → (s.sg g.val).dueAt o = none → exec (.beaconLate n k o) s = .next s) ∧
  (∀ (s : State) (n k : Fin 4) (g : Fin 16) (o : Bool) (d : Nat), g = lightPort n k → (s.sg g.val).st = .run → (s.sg g.val).dueAt o = some d →
     exec (.beaconLate n k o) s = .next (if s.time.clock < d then s
       else if (!o && (s.sg g.val).lastStart.any fun t => decide (d < t + 2364 * bitTime)) = true then s.modSeg g.val fun x => { x with due := none }
       else ((s.cntS g.val 0).raiseRated 133 g.val 1 [(g.val, 4), (Nat.min ((s.time.clock - d) / bitTime) 65535, 16)]).startBeacon g o true)) ∧
  (∀ (s : State) (g : Fin 16) (fr v : Bool) (m : BitVec 48) (n : BitVec 5) (c fl ti re : Byte) (al : BitVec 18) (ws : List (BitVec 18)),
     (s.sg g.val).st ≠ .run ∨ (s.sg g.val).lastFrame = none → exec (.statusFrameReceive g fr v m n c fl al ti re ws) s = .next s) ∧
  (∀ (s : State) (g : Fin 16) (fr : Bool) (m : BitVec 48) (n : BitVec 5) (c fl ti re : Byte) (al : BitVec 18) (ws : List (BitVec 18)) (f : CycleFrame),
     (s.sg g.val).st = .run → (s.sg g.val).lastFrame = some f →
     exec (.statusFrameReceive g fr true m n c fl al ti re ws) s = .next (if n.toNat = f.poll ∧ c.toNat = f.cseq ∧ f.poll ≠ 0 then
       s.statusFrame g.val f.poll m.toNat fl.toNat al.toNat ti.toNat re.toNat (ws.map (·.toNat)) else s)) ∧
  (∀ (s : State) (g : Fin 16) (fr : Bool) (m : BitVec 48) (n : BitVec 5) (c fl ti re : Byte) (al : BitVec 18) (ws : List (BitVec 18)) (f : CycleFrame),
     (s.sg g.val).st = .run → (s.sg g.val).lastFrame = some f →
     exec (.statusFrameReceive g fr false m n c fl al ti re ws) s =
       .next ((if fr then s.cntS g.val 1 else s).modNode g.val f.poll fun x => { x with garbled := bump x.garbled })) ∧
  (∀ (s : State) (g : Fin 16) (b : Bool) (fr : Option (BitVec 48 × BitVec 6)), ((s.sg g.val).st == .run && (s.sg g.val).lastFrame.any (fun f => f.enrol) &&
       !(s.sg g.val).answered) = false →
     exec (.enrolFrameReceive g b fr) s = .next s) ∧
  (∀ (s : State) (g : Fin 16) (f : CycleFrame) (b : Bool) (m : BitVec 48) (k : BitVec 6), (s.sg g.val).st = .run → (s.sg g.val).lastFrame = some f → f.enrol = true →
     (s.sg g.val).answered = false →
     exec (.enrolFrameReceive g b (some (m, k))) s = .next ((s.modSeg g.val fun x => { x with answered := true }).modSeg g.val fun x =>
       ({ x with queue := { cmd := .assign, node := f.poll, mac := m.toNat, count := 1 } :: x.queue }).advanced)) ∧
  (∀ (s : State) (g : Fin 16) (f : CycleFrame), (s.sg g.val).st = .run → (s.sg g.val).lastFrame = some f → f.enrol = true → (s.sg g.val).answered = false →
     exec (.enrolFrameReceive g false none) s = .next ((s.modSeg g.val fun x => { x with answered := true }).modSeg g.val fun x => x.advanced)) ∧
  (∀ (s : State) (g : Fin 16) (f : CycleFrame), (s.sg g.val).st = .run → (s.sg g.val).lastFrame = some f → f.enrol = true → (s.sg g.val).answered = false →
     let u : State := s.modSeg g.val fun x => { x with answered := true }
     exec (.enrolFrameReceive g true none) s = .next (if (s.sg g.val).bits < 8 then u.modSeg g.val fun x => { x with bits := x.bits + 1, search := true }
       else if (s.sg g.val).tries < 15 then u.modSeg g.val fun x => { x with tries := x.tries + 1 } else (u.cntS g.val 5).modSeg g.val fun x => x.advanced)) ∧
  (∀ (s : State) (g : Fin 16) (n : BitVec 5), exec (.nodeAbsentTimeout g n) s =
     .next (if ((s.sg g.val).node n.toNat).st = .absent ∧ ((s.sg g.val).node n.toNat).goneSent = false then s.reportGone g.val n.toNat else s)) ∧
  (∀ (s : State) (g : Fin 16), exec (.segmentViolation g 0) s = .next (s.cntS g.val 2)) ∧
  (∀ (s : State) (g : Fin 16) (n : BitVec 5), n.toNat ≠ 0 →
     let u : State := (s.cntS g.val 2).modNode g.val n.toNat fun x => { x with viol := x.viol + 1 }
     let y : Node := (u.sg g.val).node n.toNat
     exec (.segmentViolation g n) s = .next (if y.viol = 9 ∧ y.st ≠ .babbling then
       ((((u.modNode g.val n.toNat fun x => { x with prev := x.st, goodWin := 0, reading := false }).setNode g.val n.toNat .babbling).raise 131
         [(g.val, 4), (n.toNat, 5), (1, 1), (y.viol, 16)]).rmFirst g.val { cmd := .quiet, node := n.toNat, count := 1 }) else u)) ∧
  (∀ (s : State) (g : Fin 16) (n : BitVec 5),
     let y : Node := (s.sg g.val).node n.toNat
     let k : Nat := if y.st = .babbling ∧ y.viol ≤ 8 then y.goodWin + 1 else 0
     let u : State := s.modNode g.val n.toNat fun x => { x with viol := 0, goodWin := k }
     exec (.babbleWindowEnd g n) s = .next (if 10 ≤ k then u.endBabble g.val n.toNat y.viol else u)) ∧
  (∀ (s : State) (g : Fin 16) (n : BitVec 5), exec (.babbleCutExpiry g n) s =
     .next (if (s.sg g.val).cfg.babbleCut ≠ 0 ∧ ((s.sg g.val).node n.toNat).st = .babbling ∧ (s.sg g.val).st ≠ .off then (s.setSeg g.val .off 4).tripPort g 4 else s)) ∧
  (∀ (s : State) (g : Fin 16), exec (.segmentJam g) s =
     .next (if (s.sg g.val).st = .run then (s.setSeg g.val .jammed 2).raise 132 [(g.val, 4), (1, 1)] else s)) ∧
  (∀ (s : State) (g : Fin 16), exec (.segmentJamClear g) s =
     .next (if (s.sg g.val).st = .jammed then (s.setSeg g.val .run 2).raise 132 [(g.val, 4), (0, 1)] else s)) ∧
  (∀ (s : State) (g : Fin 16), exec (.jamCutExpiry g) s =
     .next (if (s.sg g.val).st = .jammed ∧ (s.sg g.val).cfg.jamCut ≠ 0 then (s.setSeg g.val .off 3).tripPort g 3 else s))

/-- EP.SEGMENT, EP.NODE, SCENE.STATUS, ARM, CANCEL and DONE. Of the command that runs. EP_SEGMENT returns the segment's state, masks and counters as they
were and, with CLEAR, sets the counters to 0. EP_NODE reports the node after its ACTION: 0 none; 1 frees a node with FORGET, its endpoints reported
gone before; 2 ends babbling at once; 3 and above act as none, with OK_CLAMPED. SCENE_STATUS reports the armed gos, the next instant and the counters.
SCENE_ARM in ACQUIRE returns BUSY (0x30); of a mailbox it is armed for the owner, and on the ROOT channel for the tree. SCENE_CANCEL of a go that is
not there returns 2, of one whose frame before AT has not left cancels it with 0, at its origin at each hub left too, and of another returns 1.
SCENE_DONE at the ROOT records a hub's outcome. SCENE_REPORT_TIMEOUT at the origin of a go whose AT has passed ends it with the worst outcome, the
hubs left counted as bad; of another or no go it does nothing. Each completes with its own effect: EP_SEGMENT, EP_NODE, SCENE_STATUS, SCENE_ARM,
SCENE_CANCEL, SCENE_DONE, SCENE_REPORT_TIMEOUT. (spec/08_lighting.md: Scenes, spec/08_lighting.md: Commands) -/
def Obligations.LightingAndSceneCommandsAnswer : Prop :=
  (∀ (s : State) (r : Waiting), s.runningOp 0x3080 = some r →
     exec .epSegment s = .next ((if bitAt (r.w 0) 0 then s.modSeg (r.f 0 31 28) fun x => { x with c := Vector.replicate 6 0 } else s).respond
       (okR ([pack [((s.sg (r.f 0 31 28)).st.code, 4), (0, 20), ((s.sg (r.f 0 31 28)).cseq, 8)], wd ((s.sg (r.f 0 31 28)).mask .admitted),
         wd ((s.sg (r.f 0 31 28)).mask .babbling)] ++ (s.sg (r.f 0 31 28)).c.toList.map wd)))) ∧
  (∀ (s : State) (r : Waiting), s.runningOp 0x3081 = some r →
     let g : Nat := r.f 0 31 28
     let n : Nat := r.f 0 27 23
     let x : Node := (s.sg g).node n
     let u : State := if r.f 0 3 0 = 1 ∧ n ≠ 0 then (((if x.st = .free then s else s.reportGone g n).setNode g n .free).modNode g n fun x =>
         { st := x.st, garbled := x.garbled, viol := x.viol }).rmFirst g { cmd := .forget, node := n, count := 1 }
       else if r.f 0 3 0 = 2 then s.endBabble g n x.viol else s
     exec .epNode s = .next (u.respond (okC (decide (3 ≤ r.f 0 3 0)) ((u.sg g).node n).words))) ∧
  (∀ (s : State) (r : Waiting), s.runningOp 0x3101 = some r →
     exec .sceneStatus s = .next (s.respond (okR ([pack [((s.light.gos.filter fun x => x.ph == .armed).length, 16)]] ++ wd2 s.nextGo ++
       [wd s.light.sceneLate, wd s.light.sceneInvalid])))) ∧
  (∀ (s : State) (r : Waiting), s.runningOp 0x3110 = some r → s.phase.st = .acquire → exec .sceneArm s = .next (s.respond (failR 0x30))) ∧
  (∀ (s : State) (r : Waiting) (i : Fin 38), s.runningOp 0x3110 = some r → s.phase.st ≠ .acquire → r.src = .win i →
     exec .sceneArm s = .next ((s.armOwner r).1.respond (s.armOwner r).2)) ∧
  (∀ (s : State) (r : Waiting), s.runningOp 0x3110 = some r → s.phase.st ≠ .acquire → (∀ i : Fin 38, r.src ≠ .win i) →
     exec .sceneArm s = .next ((s.armRoot r).1.respond (s.armRoot r).2)) ∧
  (∀ (s : State) (r : Waiting) (i : Fin 38), s.runningOp 0x3111 = some r → r.src = .win i → s.light.gos.find? (fun g => g.handle == r.f 0 15 0) = none →
     exec .sceneCancel s = .next (s.respond (okR [pack [(2, 8)]]))) ∧
  (∀ (s : State) (r : Waiting), s.runningOp 0x3111 = some r → (∀ i : Fin 38, r.src ≠ .win i) →
     s.light.gos.find? (fun g => g.tree && !g.origin && g.rootHandle == r.f 0 15 0) = none →
     exec .sceneCancel s = .next (s.respond (okR [pack [(2, 8)]]))) ∧
  (∀ (s : State) (r : Waiting) (i : Fin 38) (g : Go), s.runningOp 0x3111 = some r → r.src = .win i →
     s.light.gos.find? (fun g => g.handle == r.f 0 15 0) = some g →
     let u : State := (s.dropGo g.handle).dropEntry (g.handle % 1024)
     exec .sceneCancel s = .next (if g.ph = .armed ∧ laterCount ((g.inst + 2 ^ 50 - gridArcs) % 2 ^ 50) (gridDown s.phase.count) = true then
         (if g.origin then (g.hubsLeft.filter fun h => h != u.sys.hubId).foldl (fun v hub => v.sendHub hub 0x3111 [pack [(0, 16), (g.handle, 16)]]) u else u).respond
           (okR [pack [(0, 8)]])
       else s.respond (okR [pack [(1, 8)]]))) ∧
  (∀ (s : State) (r : Waiting) (g : Go), s.runningOp 0x3111 = some r → (∀ i : Fin 38, r.src ≠ .win i) →
     s.light.gos.find? (fun g => g.tree && !g.origin && g.rootHandle == r.f 0 15 0) = some g →
     exec .sceneCancel s = .next (if g.ph = .armed ∧ laterCount ((g.inst + 2 ^ 50 - gridArcs) % 2 ^ 50) (gridDown s.phase.count) = true then
         ((s.dropGo g.handle).dropEntry (g.handle % 1024)).respond (okR [pack [(0, 8)]]) else s.respond (okR [pack [(1, 8)]]))) ∧
  (∀ (s : State) (r : Waiting), s.runningOp 0x3140 = some r →
     exec .sceneDone s = .next ((s.hubOutcome (r.f 0 15 0) (r.f 0 31 16) (r.f 1 31 24)).respond okR)) ∧
  (∀ (s : State) (h : BitVec 16) (g : Go), s.goOf h.toNat = some g →
     exec (.sceneReportTimeout h) s = .next (if g.origin ∧ g.ph ≠ .armed then s.sceneDone g (worse g.worst 4) (g.bad + g.hubsLeft.length) else s)) ∧
  (∀ (s : State) (h : BitVec 16), s.goOf h.toNat = none → exec (.sceneReportTimeout h) s = .next s)

/-- DIR.GET, FIND, STATUS, SET, DELETE, REPORT and GONE. Of the command that runs. At a hub other than the ROOT every DIR command returns NO_RESOURCE
(0x40) and changes nothing else. At the ROOT: DIR_GET returns the record of an ID, zeros without one or for another tenant's; DIR_FIND returns the ID
of the endpoint record with that MAC and EP, or 0; DIR_STATUS returns capacity, records, hits and misses. DIR_SET of an ID that does not fit its kind
is BAD_RECORD (0x10), of an endpoint ID below 0x10 NO_RESOURCE; else it sets the record that is there, or adds one, and without room raises EV137 with
NO_RESOURCE. DIR_DELETE of an endpoint that is present is BUSY (0x30), and else removes the record if there is one. DIR_REPORT binds every endpoint of
the report and returns their IDs, which the hub itself takes at once; the answer is taken at the hub that reported. DIR_GONE clears PRESENT of each
record that still names the place, with EV136. Each completes with its own effect: DIR_GET, DIR_FIND, DIR_STATUS, DIR_SET, DIR_DELETE, DIR_REPORT,
DIR_GONE. (spec/08_lighting.md: Endpoint IDs and the directory, spec/08_lighting.md: Commands) -/
def Obligations.TheDirectoryIsTheRoots : Prop :=
  (∀ (s : State) (r : Waiting), s.isRoot = false → (s.runningOp 0x3201 = some r → exec .dirGet s = .next (s.respond (failR 0x40))) ∧
     (s.runningOp 0x3202 = some r → exec .dirFind s = .next (s.respond (failR 0x40))) ∧ (s.runningOp 0x3203 = some r → exec .dirStatus s = .next (s.respond (failR 0x40))) ∧
     (s.runningOp 0x3210 = some r → exec .dirSet s = .next (s.respond (failR 0x40))) ∧ (s.runningOp 0x3211 = some r → exec .dirDelete s = .next (s.respond (failR 0x40))) ∧
     (s.runningOp 0x3240 = some r → exec (.dirReport none) s = .next (s.respond (failR 0x40))) ∧
     (s.runningOp 0x3241 = some r → exec .dirGone s = .next (s.respond (failR 0x40)))) ∧
  (∀ (s : State) (r : Waiting), s.runningOp 0x3201 = some r → s.isRoot = true →
     exec .dirGet s = .next ((s.dirTouch (r.f 0 23 0)).respond (okR ((((s.dirRec (r.f 0 23 0)).filter fun d =>
       ((s.srcTenant r.src).map fun t => d.tenant == t).getD true).map DirRec.words).getD (List.replicate 8 0))))) ∧
  (∀ (s : State) (r : Waiting), s.runningOp 0x3202 = some r → s.isRoot = true →
     exec .dirFind s = .next (s.respond (okR [pack [(((s.dir.recs.find? fun d => d.kind == 1 && d.mac == macAt r 0 && d.ep == r.f 1 5 0).map (·.id)).getD 0, 24)]]))) ∧
  (∀ (s : State) (r : Waiting), s.runningOp 0x3203 = some r → s.isRoot = true →
     exec .dirStatus s = .next (s.respond (okR [wd s.dirCapacity, wd s.dir.recs.length, wd s.dir.hits, wd s.dir.misses]))) ∧
  (∀ (s : State) (r : Waiting), s.runningOp 0x3210 = some r → s.isRoot = true →
     r.f 0 7 6 = 0 ∨ r.f 0 7 6 = 3 ∨ (0x800000 ≤ r.f 0 31 8 ∧ r.f 0 7 6 ≠ 2) ∨ (r.f 0 31 8 < 0x800000 ∧ r.f 0 7 6 = 2) →
     exec .dirSet s = .next (s.respond (failR 0x10))) ∧
  (∀ (s : State) (r : Waiting), s.runningOp 0x3210 = some r → s.isRoot = true → r.f 0 7 6 = 1 → r.f 0 31 8 < 0x10 →
     exec .dirSet s = .next (s.respond (failR 0x40))) ∧
  (∀ (s : State) (r : Waiting) (d : DirRec), s.runningOp 0x3210 = some r → s.isRoot = true →
     (r.f 0 7 6 = 2 ∧ 0x800000 ≤ r.f 0 31 8) ∨ (r.f 0 7 6 = 1 ∧ 0x10 ≤ r.f 0 31 8 ∧ r.f 0 31 8 < 0x800000) → s.dirRec (r.f 0 31 8) = some d →
     let set := fun (d : DirRec) => { d with tenant := r.f 3 15 0, shared := bitAt (r.w 0) 3, barred := r.f 0 7 6 == 1 && bitAt (r.w 0) 4, label := u64At r.data 6 }
     exec .dirSet s = .next ((s.modDir (r.f 0 31 8) set).respond (okR (set d).words))) ∧
  (∀ (s : State) (r : Waiting), s.runningOp 0x3210 = some r → s.isRoot = true →
     (r.f 0 7 6 = 2 ∧ 0x800000 ≤ r.f 0 31 8) ∨ (r.f 0 7 6 = 1 ∧ 0x10 ≤ r.f 0 31 8 ∧ r.f 0 31 8 < 0x800000) → s.dirRec (r.f 0 31 8) = none →
     let d0 : DirRec := if r.f 0 7 6 = 1 then { id := r.f 0 31 8, kind := 1, mac := macAt r 2, ep := r.f 1 6 1 } else { id := r.f 0 31 8, kind := 2 }
     let d : DirRec := { d0 with tenant := r.f 3 15 0, shared := bitAt (r.w 0) 3, barred := r.f 0 7 6 == 1 && bitAt (r.w 0) 4, label := u64At r.data 6 }
     exec .dirSet s = .next (if s.dirCapacity ≤ s.dir.recs.length then (s.raise 137 [(0, 16)]).respond (failR 0x40)
       else { s with dir.recs := s.dir.recs ++ [d] }.respond (okR d.words))) ∧
  (∀ (s : State) (r : Waiting) (d : DirRec), s.runningOp 0x3211 = some r → s.isRoot = true → s.dirRec (r.f 0 23 0) = some d → (d.kind == 1 && d.present) = false →
     exec .dirDelete s = .next ({ s with
       dir.recs := s.dir.recs.filter fun x => x.id != r.f 0 23 0, dir.cache := s.dir.cache.filter fun x => x != r.f 0 23 0 }.respond okR)) ∧
  (∀ (s : State) (r : Waiting) (d : DirRec), s.runningOp 0x3211 = some r → s.isRoot = true → s.dirRec (r.f 0 23 0) = some d → d.kind = 1 → d.present = true →
     exec .dirDelete s = .next (s.respond (failR 0x30))) ∧
  (∀ (s : State) (r : Waiting), s.runningOp 0x3211 = some r → s.isRoot = true → s.dirRec (r.f 0 23 0) = none → exec .dirDelete s = .next (s.respond okR)) ∧
  (∀ (s : State) (g : Fin 16) (n : BitVec 5) (ws : List Word), exec (.dirReport (some (g, n, ws))) s = .next (s.takeIds g.val n.toNat ws)) ∧
  (∀ (s : State) (r : Waiting), s.runningOp 0x3240 = some r → s.isRoot = true →
     let x : State × List Nat := s.bindAll r (s.peerHub r.src)
     let ws : List Word := pack [(0, 16), ((x.2.filter fun n => n == 0).length, 16)] :: (x.2.map x.1.bindWords).flatten
     exec (.dirReport none) s = .next ((if r.src = .self then x.1.takeIds (r.f 0 31 28) (r.f 0 27 23) ws else x.1).respond (okR ws))) ∧
  (∀ (s : State) (r : Waiting), s.runningOp 0x3241 = some r → s.isRoot = true →
     let p := fun (d : DirRec) => d.kind == 1 && d.present && d.hub == s.peerHub r.src && d.port == r.f 0 31 28 && d.node == r.f 0 27 23 && d.mac == macAt r 1
     let u : State := { s with dir.recs := s.dir.recs.map fun (d : DirRec) => if p d then { d with present := false, seen := s.cycleNow } else d }
     exec .dirGone s = .next (((s.dir.recs.filter p).foldl (fun (u : State) d => u.raise 136 [(d.id, 24), (2, 4)]) u).respond okR))

/-- The two feeds: qualification, switching and its senses. FEED_SAMPLE takes the voltages of a tick: the reverse turn-off, both feeds' states, diode
carry and the choice follow in order. A feed in QUALIFYING whose time runs out is GOOD, which ends an undervoltage of the selected one, and the choice
is made anew. FEED_GATE_OFF_SENSED while the gate of the old feed turns off begins the dead time, FEED_GATE_OFF_TIMEOUT is a stuck FET fault.
FEED_DEAD_TIME_END selects the feed that was chosen, and the old feed is judged as not selected. FEED_GATE_ON_SENSED while the gate of the new feed
turns on ends the switch, counts it and chooses anew, FEED_GATE_ON_TIMEOUT is an open FET fault and chooses anew. The lead time of a warning ends; a
revert begins only with feed A GOOD; FEED_WARN_RELEASE of a warning whose feed has risen more than 1 V above WARN_V ends it with EV226. In other
states nothing changes. Each completes with its own effect: FEED_QUALIFY_EXPIRY, FEED_WARN_SWITCH_TIMER, FEED_REVERT_TIMER, FEED_GATE_OFF_SENSED,
FEED_GATE_OFF_TIMEOUT, FEED_DEAD_TIME_END, FEED_GATE_ON_SENSED, FEED_GATE_ON_TIMEOUT, FEED_WARN_RELEASE, FEED_SAMPLE. (spec/14_power_path.md: Feeds,
spec/14_power_path.md: FEED_WARN) -/
def Obligations.FeedsSwitchInOrder : Prop :=
  (∀ (s : State) (f : Fin 2), (s.fd f).st ≠ .qualifying → exec (.feedQualifyExpiry f) s = .next s) ∧
  (∀ (s : State) (f : Fin 2), (s.fd f).st = .qualifying →
     exec (.feedQualifyExpiry f) s = .next (if (s.setFeed f .good).pwr.selected = some f then { s.setFeed f .good with pwr.uvLeft := false }
       else s.setFeed f .good).decideFeed) ∧
  (∀ s : State, exec .feedWarnSwitchTimer s = .next { s with pwr.warnLead := false }.decideFeed) ∧
  (∀ s : State, exec .feedRevertTimer s = .next (if (s.fd 0).st = .good then { s with pwr.revertRun := true }.decideFeed else s)) ∧
  (∀ s : State, exec .feedGateOffSensed s = .next (if s.pwr.sw = .gateOff then { s with pwr.sw := .dead } else s)) ∧
  (∀ (s : State) (f : Fin 2), s.pwr.sw = .gateOff → s.pwr.selected = some f → exec .feedGateOffTimeout s = .next (s.fetFault f true)) ∧
  (∀ (s : State) (f : Fin 2), s.pwr.sw = .dead → s.pwr.selected = some f →
     let t : State := { s.selectFeed s.pwr.swTo s.pwr.swCause with pwr.sw := .gateOn }
     let u := t.modFeed f fun x => { x with carry := false, revOff := false, reversed := 0 }
     exec .feedDeadTimeEnd s = .next (u.setFeed f (u.nextFeed f))) ∧
  (∀ s : State, exec .feedGateOnSensed s = .next (if s.pwr.sw = .gateOn then { s with pwr.sw := .idle, pwr.switches := bump s.pwr.switches }.decideFeed else s)) ∧
  (∀ (s : State) (f : Fin 2), s.pwr.sw = .gateOn → s.pwr.selected = some f → exec .feedGateOnTimeout s = .next (s.fetFault f false).decideFeed) ∧
  (∀ s : State, (s.pwr.selected = none ∨ s.pwr.sw ≠ .gateOff → exec .feedGateOffTimeout s = .next s) ∧ (s.pwr.selected = none ∨ s.pwr.sw ≠ .dead →
     exec .feedDeadTimeEnd s = .next s) ∧ (s.pwr.selected = none ∨ s.pwr.sw ≠ .gateOn → exec .feedGateOnTimeout s = .next s)) ∧
  (∀ (s : State) (f : Fin 2), s.pwr.selected = some f → s.pwr.warn = true → s.warnMv + 1000 < (s.fd f).mv →
     exec .feedWarnRelease s = .next ({ s with pwr.warn := false, pwr.warnLead := false }.raise 226 [(0, 1), (s.selCode, 2)])) ∧
  (∀ s : State, s.pwr.selected = none ∨ s.pwr.warn = false ∨ (∀ f, s.pwr.selected = some f → (s.fd f).mv ≤ s.warnMv + 1000) →
     exec .feedWarnRelease s = .next s) ∧
  (∀ (s : State) (a b v : Nat), exec (.feedSample a b v) s = .next
     ((((((({ s with pwr.busMv := v }).modFeed 0 fun x => { x with mv := a }).modFeed 1 fun x => { x with mv := b }).reverseTurnOff v).stepFeed 0 a).stepFeed 1 b).diodeCarry).decideFeed)

/-- Seating, inrush, fault timers, retries and FET faults of a lighting port. Of a lighting port. SEAT_SAMPLE with lighting on remembers the level; two
samples of one level make it the seat's: an unseat, or SEAT low, which moves a seated UNSEATED port to SEATING. SEATING_QUALIFIED with SEAT low lets
the port go on. UNSEAT_WINDOW_END clears the count; the third quiet window of an UNSTABLE port ends that, with EV230: LATCHED where it came from there
or a latch waits, else afresh. PORT_POWER_TICK of a driven port: the sample is taken; a gate that has not risen in time is damage; a fast trip trips
with cause 2; in ON and phase 2 the fault timer counts and trips with cause 1; in INRUSH the inrush goes on. INRUSH_TIMEOUT and SHORT_AT_START below 5
V of a port in INRUSH trip with cause 5 and 6, or are damage where the gate should have risen. GATE_RISE_TIMEOUT in INRUSH and SHORTED_FET_DETECT of a
port not driven damage it. RETRY_INSTANT uses its instant up; PORT_ON_60S clears the trips in ON. CALIBRATOR_DONE of the port it works on frees it and
logs its outcome, or ends the port's test. In other states, and with lighting off, nothing changes. Each completes with its own effect: SEAT_SAMPLE,
SEATING_QUALIFIED, UNSEAT_WINDOW_END, PORT_POWER_TICK, INRUSH_TIMEOUT, SHORT_AT_START, GATE_RISE_TIMEOUT, SHORTED_FET_DETECT, RETRY_INSTANT,
PORT_ON_60S, CALIBRATOR_DONE. (spec/14_power_path.md: Lighting-port outputs, spec/14_power_path.md: Inrush and the damaged-FET checks,
spec/14_power_path.md: Limit, fault timer and fast trip, spec/14_power_path.md: Trips and retry, spec/18_faults.md: Current-sense calibrator) -/
def Obligations.LightingPortsPowerUpAndTrip : Prop :=
  (∀ (s : State) (p : Fin 16) (b : Bool), s.lightOn = false → exec (.seatSample p b) s = .next s) ∧
  (∀ (s : State) (p : Fin 16), s.lightOn = true →
     let u : State := s.modLp p.val fun x => { x with lastSeat := false }
     exec (.seatSample p false) s = .next (if (s.lp p.val).seatLow = true ∧ (s.lp p.val).lastSeat = false then u.unseat p.val else u)) ∧
  (∀ (s : State) (p : Fin 16), s.lightOn = true →
     let u : State := s.modLp p.val fun x => { x with lastSeat := true }
     let v : State := if (s.lp p.val).seatLow = false ∧ (s.lp p.val).lastSeat = true then u.modLp p.val fun x => { x with seatLow := true, seatOk := false } else u
     exec (.seatSample p true) s = .next (if (v.lp p.val).seatLow = true ∧ (s.lp p.val).st = .unseated then v.setLp p.val .seating else v)) ∧
  (∀ (s : State) (p : Fin 16),
     exec (.seatingQualified p) s = .next (if s.lightOn = true ∧ (s.lp p.val).seatLow = true then (s.modLp p.val fun x => { x with seatOk := true }).lpGo p.val else s)) ∧
  (∀ (s : State) (p : Fin 16), (s.lp p.val).st ≠ .unstable ∨ 2 < (s.lp p.val).unseats ∨ (s.lp p.val).quietWin < 2 →
     exec (.unseatWindowEnd p) s = .next (s.modLp p.val fun x => { x with unseats := 0, quietWin := if x.st == .unstable then
       (if (s.lp p.val).unseats ≤ 2 then (s.lp p.val).quietWin + 1 else 0) else 0 })) ∧
  (∀ (s : State) (p : Fin 16), (s.lp p.val).st = .unstable → (s.lp p.val).unseats ≤ 2 → 2 ≤ (s.lp p.val).quietWin →
     let u : State := (((s.modLp p.val fun x => { x with unseats := 0, quietWin := if x.st == .unstable then (s.lp p.val).quietWin + 1 else 0 }).raise 230
       [(p.val, 4), (0, 1), ((s.lp p.val).unseats, 16)]).modLp p.val fun x => { x with quietWin := 0, fromLatched := false, reseat := false, noShort := x.retryAt.isSome })
     exec (.unseatWindowEnd p) s = .next (if ((s.lp p.val).fromLatched || ((s.lp p.val).latchAfter && !(s.lp p.val).calRun)) = true
       then (u.modLp p.val fun x => { x with latchAfter := false }).setLp p.val .latched else u.afresh p.val)) ∧
  (∀ (s : State) (p : Fin 16) (v : Nat) (a : Int) (g f : Bool), s.lightOn = false ∨ (s.lp p.val).driven = false → exec (.portPowerTick p v a g f) s = .next s) ∧
  (∀ (s : State) (p : Fin 16) (v : Nat) (a : Int) (g f : Bool), s.lightOn = true → (s.lp p.val).driven = true →
     let u : State := s.modLp p.val fun x => { x with mv := v, ma := a, gateFull := g, gateRisen := x.gateRisen || g, inrushTicks := x.inrushTicks + 1 }
     let x : LightPower := u.lp p.val
     let w : State := if x.phase2 = true ∨ x.st = .on then u.modLp p.val fun y => y.tickTimer (decide ((y.inUse.ilim * 50 : Nat) ≤ a)) else u
     exec (.portPowerTick p v a g f) s = .next (if x.st = .inrush ∧ x.gateRisen = false ∧ x.inUse.gateRiseMs * 1000 ≤ x.inrushTicks then u.damage p.val 0
       else if f then u.tripPort p 2 else if x.inUse.faultMs * 1000 ≤ (w.lp p.val).faultTimer then w.tripPort p 1
       else if x.st = .inrush then w.inrushTick p else w)) ∧
  (∀ (s : State) (p : Fin 16), exec (.inrushTimeout p) s = .next (if (s.lp p.val).st ≠ .inrush then s
     else if (s.lp p.val).gateRisen = false ∧ (s.lp p.val).inUse.gateRiseMs ≤ (s.lp p.val).inUse.inrushMs then s.damage p.val 0 else s.tripPort p 5)) ∧
  (∀ (s : State) (p : Fin 16), exec (.shortAtStart p) s = .next (if (s.lp p.val).st ≠ .inrush ∨ 5000 ≤ (s.lp p.val).mv then s
     else if (s.lp p.val).gateRisen = false ∧ (s.lp p.val).inUse.gateRiseMs ≤ 5 then s.damage p.val 0 else s.tripPort p 6)) ∧
  (∀ (s : State) (p : Fin 16), exec (.gateRiseTimeout p) s =
     .next (if (s.lp p.val).st = .inrush ∧ (s.lp p.val).gateRisen = false then s.damage p.val 0 else s)) ∧
  (∀ (s : State) (p : Fin 16), exec (.shortedFetDetect p) s =
     .next (if (s.lp p.val).driven ∨ (s.lp p.val).st = .damaged then s else s.damage p.val 1)) ∧
  (∀ (s : State) (p : Fin 16), exec (.retryInstant p) s = .next (if (s.lp p.val).retryAt.isSome then
       (s.modLp p.val fun x => { x with retryAt := none, noShort := false }).lpGo p.val else s)) ∧
  (∀ (s : State) (p : Fin 16), exec (.portOn60s p) s = .next (if (s.lp p.val).st = .on then s.modLp p.val fun x => { x with trips := 0 } else s)) ∧
  (∀ (s : State) (p : Fin 16) (b : Bool), (s.diag.calQueue.getD (p.val / 4) []).head? ≠ some p → exec (.calibratorDone p b) s = .next s) ∧
  (∀ (s : State) (p : Fin 16) (b : Bool), (s.diag.calQueue.getD (p.val / 4) []).head? = some p → s.testOf 3 p.val = none →
     exec (.calibratorDone p b) s = .next ((s.calDone p b).logErr 4 p.val (if b then 3 else 1) (if b then 227 else 255) (s.lp p.val).lastCause)) ∧
  (∀ (s : State) (p : Fin 16) (b : Bool) (t : UnitTest), (s.diag.calQueue.getD (p.val / 4) []).head? = some p → s.testOf 3 p.val = some t →
     exec (.calibratorDone p b) s = .next ((s.calDone p b).testEnds t 4 p.val (if b then 3 else 1) 255 (s.lp p.val).lastCause))

/-- Metering, energy windows, and the PWR commands. METER_SAMPLE takes all 16 ports; ENERGY_WINDOW_CLOSE moves the energies of the open window to the last
and opens the next with EV231. Of the command that runs: PWR_STATUS and PWR_INTERVAL report. PWR_PORT_STATUS reports a port and, with CLEAR, sets its
three counters to 0. PWR_METER reports the port live, or its snapshot with SNAP. PWR_FEED 1 and 2 of a feed that is not GOOD return NO_RESOURCE
(0x40); of one that is GOOD they force it unless a FET is stuck; 3 releases; 4 clears the FET faults; each then chooses anew and returns the power
word, and another ACTION returns it alone, with OK_CLAMPED from 5 on. PWR_PORT returns the port's word after its ACTION: 1 OFF, 2 clears the trips and
starts a port that is off, latched, locked out or damaged afresh, 3 trips with cause 0, 4 ends a retry wait, others nothing, with OK_CLAMPED from 5
on. Each completes with its own effect: METER_SAMPLE, ENERGY_WINDOW_CLOSE, PWR_STATUS, PWR_PORT_STATUS, PWR_METER, PWR_INTERVAL, PWR_FEED, PWR_PORT.
(spec/14_power_path.md: Metering, spec/14_power_path.md: Commands) -/
def Obligations.PowerIsMeteredAndCommanded : Prop :=
  (∀ (s : State) (x : List (Nat × Int)), exec (.meterSample x) s = .next (s.sampleAll x)) ∧
  (∀ s : State, exec .energyWindowClose s = .next (s.closeEnergy false)) ∧
  (∀ (s : State) (r : Waiting), s.runningOp 0x6001 = some r →
     exec .pwrStatus s = .next (s.respond (okR [s.pwrWord0, pack [(Nat.min (s.fd 0).mv 65535, 16), (Nat.min (s.fd 1).mv 65535, 16)], wd s.pwr.switches, wd s.pwr.warns]))) ∧
  (∀ (s : State) (r : Waiting), s.runningOp 0x6002 = some r →
     exec .pwrPortStatus s = .next ((if bitAt (r.w 0) 0 then s.modLp (lpOf r).val fun x => { x with cTrip := 0, cFast := 0, cUnseat := 0 } else s).respond
       (okR [s.lpWord0 (lpOf r).val, pack [(Nat.min (s.lp (lpOf r).val).mv 65535, 16), ((BitVec.ofInt 16 (clampI (-32768) 32767 (s.lp (lpOf r).val).ma)).toNat, 16)],
         wd (s.lp (lpOf r).val).cTrip, wd (s.lp (lpOf r).val).cFast, wd (s.lp (lpOf r).val).cUnseat]))) ∧
  (∀ (s : State) (r : Waiting), s.runningOp 0x6003 = some r →
     let x : LightPower := s.lp (lpOf r).val
     exec .pwrMeter s = .next (s.respond (okR (if bitAt (r.w 0) 0 then x.snap.getD {} else { v := x.v, i := x.i, eOut := x.eOut, eRev := x.eRev, stamp := x.stamp }).words))) ∧
  (∀ (s : State) (r : Waiting), s.runningOp 0x6004 = some r →
     exec .pwrInterval s = .next (s.respond (okR (wd2 (s.lp (lpOf r).val).lastE ++ [wd (s.lp (lpOf r).val).lastN,
       pack [(b2n (s.lp (lpOf r).val).lastStepped, 1), ((s.lp (lpOf r).val).lastAmb, 31)]] ++ wd2 (s.lp (lpOf r).val).lastStart.toNat)))) ∧
  (∀ (s : State) (r : Waiting), s.runningOp 0x6010 = some r → r.f 0 3 0 = 1 ∨ r.f 0 3 0 = 2 →
     let f : Fin 2 := if r.f 0 3 0 = 1 then 0 else 1
     let u : State := if (s.fd 0).stuck = true ∨ (s.fd 1).stuck = true then s else { s with pwr.forced := true, pwr.forceTo := f }.decideFeed
     exec .pwrFeed s = .next (if (s.fd f).st ≠ .good then s.respond (failR 0x40) else u.respond (okR [u.pwrWord0]))) ∧
  (∀ (s : State) (r : Waiting), s.runningOp 0x6010 = some r → r.f 0 3 0 ≠ 1 → r.f 0 3 0 ≠ 2 →
     let u : State := if r.f 0 3 0 = 3 then { s with pwr.forced := false }.decideFeed else if r.f 0 3 0 = 4 then ((s.clearFet 0).clearFet 1).decideFeed else s
     exec .pwrFeed s = .next (u.respond (okC (decide (5 ≤ r.f 0 3 0)) [u.pwrWord0]))) ∧
  (∀ (s : State) (r : Waiting), s.runningOp 0x6011 = some r →
     let p : Fin 16 := lpOf r
     let st : LpState := (s.lp p.val).st
     let v : State := s.modLp p.val fun x => { x with trips := 0 }
     let u : State := if r.f 0 3 0 = 1 then s.lpOff p.val
       else if r.f 0 3 0 = 2 then (if st = .off ∨ st = .latched ∨ st = .lockout ∨ st = .damaged then (v.dropWaits p.val).afresh p.val else v)
       else if r.f 0 3 0 = 3 then s.tripPort p 0
       else if r.f 0 3 0 = 4 ∧ st = .retryWait ∧ (s.lp p.val).latchAfter = false then (s.modLp p.val fun x => { x with retryAt := none }).lpGo p.val else s
     exec .pwrPort s = .next (u.respond (okC (decide (5 ≤ r.f 0 3 0)) [u.lpWord0 p.val])))

/-- BAR2 accesses, delayed reads, memory reads and prefetch of the near bridge. Of a function whose BAR2 is on; else, and of a read of length 0, nothing
changes. A read of a window that is not valid is an Unsupported Request. One on a tunnel that has gone is logged with cause 8; zeros come from an
endpoint window and a Completer Abort from a memory window. An endpoint read over 64 bytes or across a 16 KiB page is logged with cause 11 and is an
Unsupported Request; one in write-confirm mode with unconfirmed writes gets the retry answer. Else a READY entry is collected; a PENDING one is held
and counted; without an entry, READ is sent under a free tag, or, with none or with 16 entries, the answer is retry, counted. A memory read that
prefetched bytes hold completes with them; else it is sent under a free tag, or held while writes are unconfirmed, or gets the retry answer. A write
behind one that waits at the port waits too; else a window that is not valid is an Unsupported Request, a tunnel that has gone is logged with cause 8,
and a write that can be reached is sent; one endpoint slot with its three bytes enabled as a WRITE of one word. A held delayed read answers retry when
its hold ends; a READY one that is not collected is dropped, counted and logged with cause 10. A memory read that is not answered is logged with cause
8 and aborts. Where there is none of that tag nothing changes. A prefetch ends with its window's. Each completes with its own effect: BAR2_READ,
BAR2_WRITE, DELAYED_READ_HOLD_END, DELAYED_READ_COLLECT_EXPIRY, MEM_READ_TIMEOUT, PREFETCH_EXPIRY. (spec/09_bridge.md: Delayed reads,
spec/09_bridge.md: Wide writes and ordering) -/
def Obligations.WindowsOfTheNearBridgeReadAndWrite : Prop :=
  (∀ (s : State) (f : BitVec 5) (o : BitVec 30) (l : BitVec 13), s.bar2On f.toNat = false ∨ l = 0 → exec (.bar2Read f o l) s = .next s) ∧
  (∀ (s : State) (f : BitVec 5) (o : BitVec 30) (l : BitVec 13), s.bar2On f.toNat = true → l ≠ 0 → (s.window f.toNat (o.toNat / 2 ^ 27)).valid = false →
     exec (.bar2Read f o l) s = .next { s with outbox := .pcieErr f.toNat 1 :: s.outbox }) ∧
  (∀ (s : State) (f : BitVec 5) (o : BitVec 30) (l : BitVec 13) (w : Window), s.bar2On f.toNat = true → l ≠ 0 → s.window f.toNat (o.toNat / 2 ^ 27) = w → w.valid = true →
     s.windowTun w = some none →
     exec (.bar2Read f o l) s = .next (if w.exp = 0 then
         (s.logWindow f.toNat (o.toNat / 2 ^ 27) 8 (slotsOf o.toNat l.toNat) (w.epTarget (o.toNat % 2 ^ 27))).complete f.toNat (List.replicate (slotsOf o.toNat l.toNat) 0)
       else (s.logWindow f.toNat (o.toNat / 2 ^ 27) 8 0 (w.memTarget (o.toNat % 2 ^ 27))).send (.pcieErr f.toNat 4))) ∧
  (∀ (s : State) (f : BitVec 5) (o : BitVec 30) (l : BitVec 13) (w : Window), s.bar2On f.toNat = true → l ≠ 0 → s.window f.toNat (o.toNat / 2 ^ 27) = w → w.valid = true →
     s.windowTun w ≠ some none → w.exp = 0 → 64 < l.toNat ∨ 16384 < o.toNat % 16384 + l.toNat →
     exec (.bar2Read f o l) s = .next ((s.logWindow f.toNat (o.toNat / 2 ^ 27) 11 (slotsOf o.toNat l.toNat) (w.epTarget (o.toNat % 2 ^ 27))).send (.pcieErr f.toNat 1))) ∧
  (∀ (s : State) (f : BitVec 5) (o : BitVec 30) (l : BitVec 13) (w : Window), s.bar2On f.toNat = true → l ≠ 0 → s.window f.toNat (o.toNat / 2 ^ 27) = w → w.valid = true →
     s.windowTun w ≠ some none → w.exp = 0 → l.toNat ≤ 64 → o.toNat % 16384 + l.toNat ≤ 16384 → (w.confirm && s.unconfirmed f.toNat (o.toNat / 2 ^ 27)) = true →
     exec (.bar2Read f o l) s = .next (s.complete f.toNat (List.replicate (slotsOf o.toNat l.toNat) retrySlot))) ∧
  (∀ (s : State) (f : BitVec 5) (o : BitVec 30) (l : BitVec 13) (w : Window) (d : DelayedRead), s.bar2On f.toNat = true → l ≠ 0 → s.window f.toNat (o.toNat / 2 ^ 27) = w →
     w.valid = true → s.windowTun w ≠ some none → w.exp = 0 → l.toNat ≤ 64 → o.toNat % 16384 + l.toNat ≤ 16384 → w.confirm = false →
     s.bridge.dr.find? (fun d => d.fn == f.toNat && d.win == o.toNat / 2 ^ 27 && d.offset == o.toNat && d.len == l.toNat) = some d →
     exec (.bar2Read f o l) s = .next (if d.st = .ready then (s.collect d d.cause d.data d.hub).portDrain else (s.modDr d.tag fun x => { x with held := true }).cntB 0)) ∧
  (∀ (s : State) (f : BitVec 5) (o : BitVec 30) (l : BitVec 13) (w : Window), s.bar2On f.toNat = true → l ≠ 0 → s.window f.toNat (o.toNat / 2 ^ 27) = w →
     w.valid = true → s.windowTun w ≠ some none → w.exp = 0 → l.toNat ≤ 64 → o.toNat % 16384 + l.toNat ≤ 16384 → w.confirm = false →
     s.bridge.dr.find? (fun d => d.fn == f.toNat && d.win == o.toNat / 2 ^ 27 && d.offset == o.toNat && d.len == l.toNat) = none →
     s.freeTag = none ∨ 16 ≤ (s.bridge.dr.filter fun d => d.fn == f.toNat).length →
     exec (.bar2Read f o l) s = .next ((s.cntB 1).complete f.toNat (List.replicate (slotsOf o.toNat l.toNat) retrySlot))) ∧
  (∀ (s : State) (f : BitVec 5) (o : BitVec 30) (l : BitVec 13) (w : Window) (g : Nat), s.bar2On f.toNat = true → l ≠ 0 → s.window f.toNat (o.toNat / 2 ^ 27) = w →
     w.valid = true → s.windowTun w ≠ some none → w.exp = 0 → l.toNat ≤ 64 → o.toNat % 16384 + l.toNat ≤ 16384 → w.confirm = false →
     s.bridge.dr.find? (fun d => d.fn == f.toNat && d.win == o.toNat / 2 ^ 27 && d.offset == o.toNat && d.len == l.toNat) = none →
     s.freeTag = some g → (s.bridge.dr.filter fun d => d.fn == f.toNat).length < 16 →
     let t : Option Nat := (s.windowTun w).bind id
     let d : DelayedRead := { fn := f.toNat, win := o.toNat / 2 ^ 27, offset := o.toNat, len := l.toNat, tag := g, held := true, tun := t }
     exec (.bar2Read f o l) s = .next ({ s with bridge.dr := s.bridge.dr ++ [d] }.sendPdu t opRead 0 g (s.windowLsid f.toNat (o.toNat / 2 ^ 27)) 0
       (slotsOf o.toNat l.toNat) (w.epTarget (o.toNat % 2 ^ 27)) 0 [])) ∧
  (∀ (s : State) (f : BitVec 5) (o : BitVec 30) (l : BitVec 13) (w : Window) (n a : Nat), s.bar2On f.toNat = true → l ≠ 0 → s.window f.toNat (o.toNat / 2 ^ 27) = w →
     w.valid = true → s.windowTun w ≠ some none → w.exp ≠ 0 → n = slotsOf o.toNat l.toNat → a = w.memTarget (o.toNat % 2 ^ 27 / 4 * 4) →
     s.prefetched f.toNat (o.toNat / 2 ^ 27) a (4 * n) = none → s.freeTag = none →
     exec (.bar2Read f o l) s = .next (s.complete f.toNat (List.replicate n retrySlot))) ∧
  (∀ (s : State) (f : BitVec 5) (o : BitVec 30) (l : BitVec 13) (w : Window) (n a : Nat) (p : Prefetched), s.bar2On f.toNat = true → l ≠ 0 →
     s.window f.toNat (o.toNat / 2 ^ 27) = w → w.valid = true → s.windowTun w ≠ some none → w.exp ≠ 0 → n = slotsOf o.toNat l.toNat →
     a = w.memTarget (o.toNat % 2 ^ 27 / 4 * 4) → s.prefetched f.toNat (o.toNat / 2 ^ 27) a (4 * n) = some p →
     exec (.bar2Read f o l) s = .next ((s.cntB 3).complete f.toNat (wordsLE ((p.data.drop (a - p.start)).take (4 * n))))) ∧
  (∀ (s : State) (f : BitVec 5) (o : BitVec 30) (l : BitVec 13) (w : Window) (n a g : Nat), s.bar2On f.toNat = true → l ≠ 0 → s.window f.toNat (o.toNat / 2 ^ 27) = w →
     w.valid = true → s.windowTun w ≠ some none → w.exp ≠ 0 → n = slotsOf o.toNat l.toNat → a = w.memTarget (o.toNat % 2 ^ 27 / 4 * 4) →
     s.prefetched f.toNat (o.toNat / 2 ^ 27) a (4 * n) = none → s.freeTag = some g →
     let t : Option Nat := (s.windowTun w).bind id
     let held : Bool := w.confirm && s.unconfirmed f.toNat (o.toNat / 2 ^ 27)
     let b : BrWrite := { fn := f.toNat, win := o.toNat / 2 ^ 27, tag := g, op := opRead, exp := w.exp, target := a, bytes := 4 * n, tun := t, sent := !held }
     let u : State := { s with bridge.out := s.bridge.out ++ [b] }
     exec (.bar2Read f o l) s = .next (if held then u else u.sendPdu t opRead 0 g 0 w.exp 0 a (4 * n) [])) ∧
  (∀ (s : State) (f : BitVec 5) (o : BitVec 30) (x : List (BitVec 4 × Word)), s.bar2On f.toNat = false → exec (.bar2Write f o x) s = .next s) ∧
  (∀ (s : State) (f : BitVec 5) (o : BitVec 30) (x : List (BitVec 4 × Word)), s.bar2On f.toNat = true → s.bridge.port.any (fun p => p.fn == f.toNat) = true →
     exec (.bar2Write f o x) s = .next { s with bridge.port := s.bridge.port ++ [{ fn := f.toNat, off := o.toNat, slots := x }] }) ∧
  (∀ (s : State) (f : BitVec 5) (o : BitVec 30) (x : List (BitVec 4 × Word)), s.bar2On f.toNat = true → s.bridge.port.any (fun p => p.fn == f.toNat) = false →
     (s.window f.toNat (o.toNat / 2 ^ 27)).valid = false →
     exec (.bar2Write f o x) s = .next { s with outbox := .pcieErr f.toNat 1 :: s.outbox }) ∧
  (∀ (s : State) (f : BitVec 5) (o : BitVec 30) (x : List (BitVec 4 × Word)) (w : Window), s.bar2On f.toNat = true → s.bridge.port.any (fun p => p.fn == f.toNat) = false →
     s.window f.toNat (o.toNat / 2 ^ 27) = w → w.valid = true → s.windowTun w = some none →
     exec (.bar2Write f o x) s = .next (s.logWindow f.toNat (o.toNat / 2 ^ 27) 8 (if w.exp = 0 then x.length else 0)
       (if w.exp = 0 then w.epTarget (o.toNat % 2 ^ 27) else w.memTarget (o.toNat % 2 ^ 27)))) ∧
  (∀ (s : State) (f : BitVec 5) (o : BitVec 30) (x : List (BitVec 4 × Word)) (w : Window), s.bar2On f.toNat = true → s.bridge.port.any (fun p => p.fn == f.toNat) = false →
     s.window f.toNat (o.toNat / 2 ^ 27) = w → w.valid = true → s.windowTun w ≠ some none →
     exec (.bar2Write f o x) s = .next (s.remundWindow f.toNat (o.toNat / 2 ^ 27) o.toNat x ((s.windowTun w).bind id))) ∧
  (∀ (s : State) (f : BitVec 5) (o : BitVec 30) (e : BitVec 4) (v : Word) (w : Window), s.bar2On f.toNat = true → s.bridge.port.any (fun p => p.fn == f.toNat) = false →
     s.window f.toNat (o.toNat / 2 ^ 27) = w → w.valid = true → s.windowTun w ≠ some none → w.exp = 0 → w.confirm = false → e &&& 7 = 7 →
     exec (.bar2Write f o [(e, v)]) s = .next ((s.freeWritten f.toNat (o.toNat / 2 ^ 27) o.toNat 1).sendPdu ((s.windowTun w).bind id) opWrite 0 0
       (s.windowLsid f.toNat (o.toNat / 2 ^ 27)) 0 1 (w.epTarget (o.toNat % 2 ^ 27)) 0 [v])) ∧
  (∀ (s : State) (g : Byte) (d : DelayedRead), s.bridge.dr.find? (fun d => d.tag == g.toNat && d.held) = some d →
     exec (.delayedReadHoldEnd g) s = .next ((s.modDr d.tag fun x => { x with held := false }).complete d.fn (List.replicate (slotsOf d.offset d.len) retrySlot))) ∧
  (∀ (s : State) (g : Byte), s.bridge.dr.find? (fun d => d.tag == g.toNat && d.held) = none → exec (.delayedReadHoldEnd g) s = .next s) ∧
  (∀ (s : State) (g : Byte) (d : DelayedRead), s.bridge.dr.find? (fun d => d.tag == g.toNat && d.st == .ready) = some d →
     exec (.delayedReadCollectExpiry g) s = .next (((s.dropDr d.tag).cntB 2).logWindow d.fn d.win 10 (slotsOf d.offset d.len)
       ((s.window d.fn d.win).epTarget (d.offset % 2 ^ 27))).portDrain) ∧
  (∀ (s : State) (g : Byte), s.bridge.dr.find? (fun d => d.tag == g.toNat && d.st == .ready) = none → exec (.delayedReadCollectExpiry g) s = .next s) ∧
  (∀ (s : State) (g : Byte) (o : BrWrite), s.bridge.out.find? (fun o => o.tag == g.toNat && o.op == opRead) = some o →
     exec (.memReadTimeout g) s = .next (((s.dropOut o.tag).logWindow o.fn o.win 8 0 o.target).send (.pcieErr o.fn 4)).portDrain) ∧
  (∀ (s : State) (g : Byte), s.bridge.out.find? (fun o => o.tag == g.toNat && o.op == opRead) = none → exec (.memReadTimeout g) s = .next s) ∧
  (∀ (s : State) (f : BitVec 5) (w : BitVec 3),
     exec (.prefetchExpiry f w) s = .next { s with bridge.pf := s.bridge.pf.filter fun p => !(p.fn == f.toNat && p.win == w.toNat) })

/-- READ, WRITE, LOCK, UNLOCK, SUBSCRIBE, answers and INTR between bridges. Of a bridge. A PDU from a tunnel that it does not hear changes nothing; READ
or WRITE of an export that the tunnel does not reach is counted and answered with the cause. READ of EXPORT 0 starts accesses for 1 to 16 slots, one
of another export is answered with DATA and its cause. A WRITE without data changes nothing, one to EXPORT 0 starts accesses, one to another export
writes it; a WRITE_C is answered with WACK, a WRITE with ERR where it fails. A LOCK that cannot be placed is counted and answered with the cause; of a
segment without lock it is granted; of one held by the same sequence it is answered again; else one upstream of the holder waits and another is
refused with 0x10. UNLOCK ends what the sequence holds or waits for and is acknowledged. A lock that expires is released with status 1. SUBSCRIBE
replaces the subscription of its source and first endpoint. DATA goes to the delayed read, or memory read, that waits under its tag on its tunnel,
WACK to its WRITE_C, LOCK_ACK to its sequence, UNLOCK_ACK frees its tag; ERR goes to the delayed read of its tag, or is logged for the window of its
address; without one nothing changes but at ports. An UNLOCK_ACK of no request ends a lock of its sequence. A reserved operation is counted. INTR
raises EV161 for every window that covers the endpoint and asks for its bits. A back-off that ends asks for the first lock again. Each completes with
its own effect: BRIDGE_READ, BRIDGE_WRITE, BRIDGE_LOCK, BRIDGE_UNLOCK, LOCK_EXPIRY, BRIDGE_SUBSCRIBE, LOCK_BACKOFF_END, BRIDGE_ANSWER, BRIDGE_INTR.
(spec/09_bridge.md: Delayed reads, spec/09_bridge.md: Locked sequences, spec/09_bridge.md: Failed writes and write-confirm, spec/09_bridge.md: Polled
interrupts) -/
def Obligations.BridgesExchangeTheirPdus : Prop :=
  (∀ (s : State) (b : BrFrom) (g l by' h : BitVec 16) (e : BitVec 4) (n dp so : Byte) (t : BitVec 64) (c v : Bool) (d : Option (List Word)) (ws : List Word) (f : BitVec 24)
       (m : BitVec 6), s.hears b = false →
     exec (.bridgeRead b g l e n t by' d) s = .next s ∧ exec (.bridgeWrite b c g l e t ws v) s = .next s ∧ exec (.bridgeLock b g l t dp so h) s = .next s ∧
     exec (.bridgeUnlock b g l t) s = .next s ∧ exec (.bridgeSubscribe b f m) s = .next s) ∧
  (∀ (s : State) (b : BrFrom) (g l by' : BitVec 16) (e : BitVec 4) (n : Byte) (t : BitVec 64) (d : Option (List Word)), s.hears b = true → s.reaches b e.toNat = false →
     exec (.bridgeRead b g l e n t by' d) s =
       .next ((s.cntB 7).sendPdu b.index 0x81 (if e = 0 then 1 else 12) g.toNat 0 e.toNat 0 t.toNat 0 [])) ∧
  (∀ (s : State) (b : BrFrom) (g l by' : BitVec 16) (n : Byte) (t : BitVec 64) (d : Option (List Word)), s.hears b = true → s.reaches b 0 = true →
     exec (.bridgeRead b g l 0 n t by' d) s =
       .next (s.farStart b.index none g.toNat l.toNat opRead t.toNat (clampN 1 16 n.toNat) (s.fromTenant b) [])) ∧
  (∀ (s : State) (b : BrFrom) (g l by' : BitVec 16) (e : BitVec 4) (n : Byte) (t : BitVec 64) (d : Option (List Word)) (c : Nat) (ws : List Word), s.hears b = true →
     s.reaches b e.toNat = true → e ≠ 0 → s.exportRead (s.fromTenant b) e.toNat t.toNat by'.toNat d = (c, ws) →
     exec (.bridgeRead b g l e n t by' d) s =
       .next ((if c = 0 then s else s.cntB 7).sendPdu b.index 0x81 c g.toNat 0 e.toNat 0 t.toNat (4 * ws.length) ws)) ∧
  (∀ (s : State) (b : BrFrom) (c v : Bool) (g l : BitVec 16) (e : BitVec 4) (t : BitVec 64), exec (.bridgeWrite b c g l e t [] v) s = .next s) ∧
  (∀ (s : State) (b : BrFrom) (c v : Bool) (g l : BitVec 16) (e : BitVec 4) (t : BitVec 64) (d : Word) (ds : List Word), s.hears b = true → s.reaches b e.toNat = false →
     exec (.bridgeWrite b c g l e t (d :: ds) v) s =
       .next ((s.cntB 7).sendPdu b.index (if c then 0x83 else 0x82) (if e = 0 then 1 else 12) (if c then g.toNat else 0) 0 e.toNat 0 t.toNat 0 [])) ∧
  (∀ (s : State) (b : BrFrom) (c v : Bool) (g l : BitVec 16) (t : BitVec 64) (d : Word) (ds : List Word), s.hears b = true → s.reaches b 0 = true →
     exec (.bridgeWrite b c g l 0 t (d :: ds) v) s =
       .next (s.farStart b.index none g.toNat l.toNat (if c then opWriteC else opWrite) t.toNat (d :: ds).length (s.fromTenant b) (d :: ds))) ∧
  (∀ (s u : State) (b : BrFrom) (c v : Bool) (g l : BitVec 16) (e : BitVec 4) (t : BitVec 64) (d : Word) (ds : List Word) (k : Nat), s.hears b = true →
     s.reaches b e.toNat = true → e ≠ 0 → s.exportWrite (s.fromTenant b) e.toNat t.toNat (d :: ds) v = (u, k) →
     exec (.bridgeWrite b c g l e t (d :: ds) v) s = .next (if c then (if k = 0 then u else u.cntB 7).sendPdu b.index 0x83 k g.toNat 0 e.toNat 0 t.toNat 0 []
       else if k = 0 then u else (u.cntB 7).sendPdu b.index 0x82 k 0 0 e.toNat 0 t.toNat 0 [])) ∧
  (∀ (s : State) (b : BrFrom) (g l h : BitVec 16) (t : BitVec 64) (d o : Byte) (c : Nat), s.hears b = true → s.partPlace (s.fromTenant b) t.toNat = .inl c →
     exec (.bridgeLock b g l t d o h) s = .next ((s.cntB 7).sendPdu b.index 0x84 c g.toNat l.toNat 0 0 t.toNat 0 [])) ∧
  (∀ (s : State) (b : BrFrom) (g l h : BitVec 16) (t : BitVec 64) (d o : Byte) (x : Nat × Nat × Nat), s.hears b = true → s.partPlace (s.fromTenant b) t.toNat = .inr x →
     (s.sg x.1).lock = none →
     exec (.bridgeLock b g l t d o h) s = .next (s.grantLock x.1
       { lsid := l.toNat, hub := h.toNat, depth := d.toNat, source := o.toNat, ep := t.toNat / 4096, tun := b.index, tag := g.toNat })) ∧
  (∀ (s : State) (b : BrFrom) (g l h : BitVec 16) (t : BitVec 64) (d o : Byte) (x : Nat × Nat × Nat) (k : Lock), s.hears b = true →
     s.partPlace (s.fromTenant b) t.toNat = .inr x → (s.sg x.1).lock = some k →
     let q : Lock := { lsid := l.toNat, hub := h.toNat, depth := d.toNat, source := o.toNat, ep := t.toNat / 4096, tun := b.index, tag := g.toNat }
     exec (.bridgeLock b g l t d o h) s = .next (if k.lsid = l.toNat ∧ k.tun = b.index then s.sendPdu b.index 0x84 0 g.toNat l.toNat 0 0 t.toNat 0 []
       else if q.upstream k then s.modSeg x.1 fun y => { y with lockWait := y.lockWait ++ [q] } else s.sendPdu b.index 0x84 0x10 g.toNat l.toNat 0 0 t.toNat 0 [])) ∧
  (∀ (s : State) (b : BrFrom) (g l : BitVec 16) (t : BitVec 64), s.hears b = true →
     let mine : Lock → Bool := fun k => k.lsid == l.toNat && k.tun == b.index && k.ep == t.toNat / 4096
     let u : State := (List.range 16).foldl (fun (s : State) (i : Nat) =>
       let v : State := s.modSeg i fun x => { x with lockWait := x.lockWait.filter fun k => !mine k }
       if (v.sg i).lock.any mine then v.releaseLock i 0 else v) s
     exec (.bridgeUnlock b g l t) s = .next (u.sendPdu b.index 0x85 0 g.toNat l.toNat 0 0 t.toNat 0 [])) ∧
  (∀ (s : State) (g : Fin 16), exec (.lockExpiry g) s = .next (s.releaseLock g.val 1)) ∧
  (∀ (s : State) (i : BitVec 14) (f : BitVec 24) (m : BitVec 6), s.hears (.tun i) = true →
     let b : Subscription := { tun := some i.toNat, src := none, firstEp := f.toNat, mask := m.toNat, tenant := s.fromTenant (.tun i) }
     exec (.bridgeSubscribe (.tun i) f m) s = .next { s with
       bridge.subs := putBy (fun x => x.tun == b.tun && x.src == b.src && x.firstEp == b.firstEp) b s.bridge.subs }) ∧
  (∀ (s : State) (n : BitVec 5) (f : BitVec 24) (m : BitVec 6),
     let b : Subscription := { tun := none, src := some (fnSource n.toNat), firstEp := f.toNat, mask := m.toNat, tenant := s.fnTenant n.toNat }
     exec (.bridgeSubscribe (.fn n) f m) s = .next { s with
       bridge.subs := putBy (fun x => x.tun == b.tun && x.src == b.src && x.firstEp == b.firstEp) b s.bridge.subs }) ∧
  (∀ (s : State) (l : BitVec 16) (q : LockSeq), s.bridge.seqs.find? (fun q => q.lsid == l.toNat && q.backoff) = some q →
     exec (.lockBackoffEnd l) s = .next ((s.modSeq q.lsid fun x => { x with backoff := false }).sendLockPdu { q with backoff := false } 4 (q.eps.headD 0))) ∧
  (∀ (s : State) (l : BitVec 16), s.bridge.seqs.find? (fun q => q.lsid == l.toNat && q.backoff) = none → exec (.lockBackoffEnd l) s = .next s) ∧
  (∀ (s : State) (i : Option (BitVec 14)) (o st : Byte) (g l : BitVec 16) (t : BitVec 64) (d : List Word), o = 0 ∨ (7 ≤ o.toNat ∧ o.toNat < 0x81) ∨ 0x86 < o.toNat →
     exec (.bridgeAnswer i o st g l t d) s = .next (s.cntB 8).portDrain) ∧
  (∀ (s : State) (i : Option (BitVec 14)) (o st : Byte) (g l : BitVec 16) (t : BitVec 64) (d : List Word), (1 ≤ o.toNat ∧ o.toNat ≤ 6) ∨ o = 0x86 →
     exec (.bridgeAnswer i o st g l t d) s = .next s.portDrain) ∧
  (∀ (s : State) (i : Option (BitVec 14)) (st : Byte) (g l : BitVec 16) (t : BitVec 64) (d : List Word) (x : DelayedRead),
     s.bridge.dr.find? (fun k => k.tag == g.toNat && k.st == .pending && k.tun == i.map (·.toNat)) = some x →
     exec (.bridgeAnswer i 0x81 st g l t d) s = .next (s.drAnswer x st.toNat d (((i.bind fun k => s.tunAt k.toNat).map (·.farHub)).getD 0)).portDrain) ∧
  (∀ (s : State) (i : Option (BitVec 14)) (st : Byte) (g l : BitVec 16) (t : BitVec 64) (d : List Word) (x : BrWrite),
     s.bridge.dr.find? (fun k => k.tag == g.toNat && k.st == .pending && k.tun == i.map (·.toNat)) = none →
     s.bridge.out.find? (fun o => o.tag == g.toNat && o.op == opRead && o.tun == i.map (·.toNat) && o.sent) = some x →
     exec (.bridgeAnswer i 0x81 st g l t d) s = .next (s.memAnswer x st.toNat d (((i.bind fun k => s.tunAt k.toNat).map (·.farHub)).getD 0)).portDrain) ∧
  (∀ (s : State) (i : Option (BitVec 14)) (st : Byte) (g l : BitVec 16) (t : BitVec 64) (d : List Word) (x : DelayedRead), g ≠ 0 →
     s.bridge.dr.find? (fun k => k.tag == g.toNat && k.st == .pending && k.tun == i.map (·.toNat)) = some x →
     exec (.bridgeAnswer i 0x82 st g l t d) s = .next (s.drAnswer x st.toNat [] (((i.bind fun k => s.tunAt k.toNat).map (·.farHub)).getD 0)).portDrain) ∧
  (∀ (s : State) (i : Option (BitVec 14)) (st : Byte) (g l : BitVec 16) (t : BitVec 64) (d : List Word),
     g = 0 ∨ s.bridge.dr.find? (fun k => k.tag == g.toNat && k.st == .pending && k.tun == i.map (·.toNat)) = none →
     exec (.bridgeAnswer i 0x82 st g l t d) s = .next (((s.windowFor (i.map (·.toNat)) t.toNat).map fun (x : Nat × Nat) =>
       s.logBridge (fnSource x.1) st.toNat (s.window x.1 x.2).exp x.2 0 t.toNat false (((i.bind fun k => s.tunAt k.toNat).map (·.farHub)).getD 0)).getD s).portDrain) ∧
  (∀ (s : State) (i : Option (BitVec 14)) (st : Byte) (g l : BitVec 16) (t : BitVec 64) (d : List Word),
     exec (.bridgeAnswer i 0x83 st g l t d) s = .next (((s.bridge.out.find? fun o => o.tag == g.toNat && o.op == opWriteC && o.tun == i.map (·.toNat) && o.sent).map
       fun (x : BrWrite) => s.wack x st.toNat (((i.bind fun k => s.tunAt k.toNat).map (·.farHub)).getD 0)).getD s).portDrain) ∧
  (∀ (s : State) (i : Option (BitVec 14)) (st : Byte) (g l : BitVec 16) (t : BitVec 64) (d : List Word),
     exec (.bridgeAnswer i 0x84 st g l t d) s = .next (((s.bridge.out.find? fun o => o.tag == g.toNat && o.op == 4 && o.tun == i.map (·.toNat) && o.sent).map
       fun (x : BrWrite) => ((s.bridge.seqs.find? fun q => q.lsid == l.toNat).map fun (q : LockSeq) => (s.dropOut x.tag).lockAck q st.toNat).getD (s.dropOut x.tag)).getD s).portDrain) ∧
  (∀ (s : State) (i : Option (BitVec 14)) (st : Byte) (g l : BitVec 16) (t : BitVec 64) (d : List Word),
     let k : Option Nat := i.map (·.toNat)
     exec (.bridgeAnswer i 0x85 st g l t d) s = .next (((s.bridge.out.find? fun o => o.tag == g.toNat && o.op == 5 && o.tun == k && o.sent).map
       fun (x : BrWrite) => s.dropOut x.tag).getD (((s.bridge.seqs.find? fun q => q.lsid == l.toNat && q.tun == k).map fun (q : LockSeq) =>
         if st = 0 ∨ q.granted ≤ q.lost then s else s.lockEnded q st.toNat).getD s)).portDrain) ∧
  (∀ (s : State) (i : Option (BitVec 14)) (e : BitVec 24) (a : BitVec 18), exec (.bridgeIntr i e a) s = .next ((List.range 256).foldl (fun (u : State) (k : Nat) =>
       let w : Window := u.window (k / 8) (k % 8)
       if w.valid && w.intrEn && w.exp == 0 && w.handle == ((i.bind fun k => s.tunAt k.toNat).map (·.handle)).getD 0 && decide (w.firstEp ≤ e.toNat) &&
           decide (e.toNat < w.firstEp + 8192) && (a.toNat / 4096 &&& w.intrMask) != 0 then u.raise 161 [(e.toNat, 24), (a.toNat / 4096, 6)] (.only (fnSource (k / 8)))
       else u) s)) ∧
  (∀ (s : State) (i : Option (BitVec 14)) (e : BitVec 24) (a : BitVec 18), (∀ f w, (s.window f w).valid = false) → exec (.bridgeIntr i e a) s = .next s) ∧
  (∀ (s : State) (e : BitVec 24) (a : BitVec 18) (x : Window), s.bridge.windows = modAt (Vector.replicate 256 {}) 0 (fun _ => x) → x.valid = true → x.intrEn = true → x.exp = 0 →
     x.handle = 0 → x.firstEp ≤ e.toNat → e.toNat < x.firstEp + 8192 → (a.toNat / 4096) &&& x.intrMask ≠ 0 →
     exec (.bridgeIntr none e a) s = .next (s.raise 161 [(e.toNat, 24), (a.toNat / 4096, 6)] (.only (fnSource 0))))

/-- EP.BRIDGE, WINDOW, WINGET, READ, WRITE, LOCK, UNLOCK and ERRLOG. Of the command that runs. EP_BRIDGE returns free tags, locks held and the nine
counters and, with CLEAR, sets them to 0. EP_WINDOW, WINGET, LOCK and UNLOCK from a mailbox that is no PCIe function return NO_RESOURCE (0x40).
EP_WINDOW of a function records the window, valid where it is asked and its export can be reached, else with NO_RESOURCE when it was asked, OK_CLAMPED
when INTR is asked of an export other than 0, and subscribes; EP_WINGET returns it. EP_READ and EP_WRITE whose accesses run wait; across word 4095
they return TIMEOUT (0x50) with DETAIL 0x0B; otherwise they start their accesses. EP_LOCK of a window with a sequence returns BUSY (0x30) when that is
complete or expired, else waits; of a window that is not valid, or not of EXPORT 0, it returns NO_RESOURCE; on a tunnel that has gone 0x50 with DETAIL
8; without a free tag it waits; else it asks for the first lock of a new sequence. EP_UNLOCK of a sequence that is not held returns RESULT 2, else it
releases it, with RESULT 1 when it had expired. EP_ERRLOG returns up to 16 entries from the one named, of a TENANT those of its own function. Each
completes with its own effect: EP_BRIDGE, EP_WINDOW, EP_WINGET, EP_READ, EP_WRITE, EP_LOCK, EP_UNLOCK, EP_ERRLOG. (spec/09_bridge.md: Windows,
spec/09_bridge.md: Locked sequences, spec/09_bridge.md: Commands) -/
def Obligations.EndpointCommandsAccessNodes : Prop :=
  (∀ (s : State) (r : Waiting), s.runningOp 0x3001 = some r →
     exec .epBridge s = .next ((if bitAt (r.w 0) 0 then { s with bridge.c := Vector.replicate 9 0 } else s).respond
       (okR (pack [(256 - s.tagsUsed.length, 16), (s.bridge.seqs.foldl (fun a q => a + (q.granted - q.lost)) 0, 16)] :: s.bridge.c.toList.map wd)))) ∧
  (∀ (s : State) (r : Waiting), s.runningOp 0x3010 = some r → fnOfSrc r.src = none → exec .epWindow s = .next (s.respond (failR 0x40))) ∧
  (∀ (s : State) (r : Waiting) (f : Nat), s.runningOp 0x3010 = some r → fnOfSrc r.src = some f →
     let e : Nat := r.f 0 23 20
     let h : Nat := (r.w 1).toNat
     let reach : Bool := if h = 0 then e == 0 || (s.bridge.exports.getD e {}).valid else (s.tunFor r h).any fun (t : Tunnel) => t.st == .up && bridgeTunnel t e
     let w : Window := { valid := bitAt (r.w 0) 28 && reach, confirm := bitAt (r.w 0) 27, intrEn := bitAt (r.w 0) 26 && e == 0, exp := e, handle := h,
                         intrMask := r.f 2 31 26, firstEp := r.f 2 23 0, page := (r.w 3).toNat }
     exec .epWindow s = .next ((State.subscribe { s with bridge.windows := modAt s.bridge.windows (f * 8 + r.f 0 31 29) fun _ => w }
         (if h = 0 then none else (s.tunFor r h).map fun (t : Tunnel) => t.idx) w).respond
       (if bitAt (r.w 0) 28 && !reach then { result := 0x40, data := w.words (r.f 0 31 29) } else okC (bitAt (r.w 0) 26 && e != 0) (w.words (r.f 0 31 29))))) ∧
  (∀ (s : State) (r : Waiting), s.runningOp 0x3011 = some r →
     exec .epWinget s = .next (s.respond (((fnOfSrc r.src).map fun (f : Nat) => okR ((s.window f (r.f 0 31 29)).words (r.f 0 31 29))).getD (failR 0x40)))) ∧
  (∀ (s : State) (r : Waiting), s.runningOp 0x3020 = some r →
     exec .epRead s = .next (if s.epRuns r.src then s else if 4096 < r.f 1 11 0 + (r.f 1 19 16 + 1) then s.respond (failR 0x50 11)
       else s.farStart none (some r.src) 0 0 opRead (r.f 0 23 0 * 4096 + r.f 1 11 0) (r.f 1 19 16 + 1) (s.accessTenant r) [])) ∧
  (∀ (s : State) (r : Waiting), s.runningOp 0x3020 = some r → s.epRuns r.src = false → r.f 1 11 0 + (r.f 1 19 16 + 1) ≤ 4096 →
     exec .epRead s = .next (s.farStart none (some r.src) 0 0 opRead (r.f 0 23 0 * 4096 + r.f 1 11 0) (r.f 1 19 16 + 1) (s.accessTenant r) [])) ∧
  (∀ (s : State) (r : Waiting), s.runningOp 0x3021 = some r →
     exec .epWrite s = .next (if s.epRuns r.src then s else if 4096 < r.f 1 11 0 + (r.f 1 19 16 + 1) then s.respond (failR 0x50 11)
       else s.farStart none (some r.src) 0 0 (if bitAt (r.w 0) 31 then opWriteC else opWrite) (r.f 0 23 0 * 4096 + r.f 1 11 0) (r.f 1 19 16 + 1)
         (s.accessTenant r) (r.data.drop 2))) ∧
  (∀ (s : State) (r : Waiting), s.runningOp 0x3021 = some r → s.epRuns r.src = false →
     r.f 1 11 0 + (r.f 1 19 16 + 1) ≤ 4096 →
     exec .epWrite s = .next (s.farStart none (some r.src) 0 0 (if bitAt (r.w 0) 31 then opWriteC else opWrite) (r.f 0 23 0 * 4096 + r.f 1 11 0) (r.f 1 19 16 + 1)
       (s.accessTenant r) (r.data.drop 2))) ∧
  (∀ (s : State) (r : Waiting), s.runningOp 0x3022 = some r → fnOfSrc r.src = none → exec .epLock s = .next (s.respond (failR 0x40))) ∧
  (∀ (s : State) (r : Waiting) (f : Nat) (q : LockSeq), s.runningOp 0x3022 = some r → fnOfSrc r.src = some f →
     s.bridge.seqs.find? (fun q => q.fn == f && q.win == r.f 0 31 29) = some q →
     exec .epLock s = .next (if q.complete ∨ q.expired then s.respond (failR 0x30) else s)) ∧
  (∀ (s : State) (r : Waiting) (f : Nat), s.runningOp 0x3022 = some r → fnOfSrc r.src = some f →
     s.bridge.seqs.find? (fun q => q.fn == f && q.win == r.f 0 31 29) = none → (s.window f (r.f 0 31 29)).valid = false ∨ (s.window f (r.f 0 31 29)).exp ≠ 0 →
     exec .epLock s = .next (s.respond (failR 0x40))) ∧
  (∀ (s : State) (r : Waiting) (f : Nat) (w : Window), s.runningOp 0x3022 = some r → fnOfSrc r.src = some f →
     s.bridge.seqs.find? (fun q => q.fn == f && q.win == r.f 0 31 29) = none → s.window f (r.f 0 31 29) = w → w.valid = true → w.exp = 0 → s.windowTun w = some none →
     exec .epLock s = .next (s.respond (failR 0x50 8))) ∧
  (∀ (s : State) (r : Waiting) (f : Nat) (w : Window), s.runningOp 0x3022 = some r → fnOfSrc r.src = some f →
     s.bridge.seqs.find? (fun q => q.fn == f && q.win == r.f 0 31 29) = none → s.window f (r.f 0 31 29) = w → w.valid = true → w.exp = 0 → s.windowTun w ≠ some none →
     let q : LockSeq := { lsid := s.bridge.nextLsid, fn := f, win := r.f 0 31 29, eps := r.f 1 23 0 :: (if r.f 2 23 0 = 0 then [] else [r.f 2 23 0]), src := r.src,
                          tun := (s.windowTun w).bind id }
     exec .epLock s = .next (if s.freeTag = none then s else { s with
       bridge.nextLsid := if s.bridge.nextLsid = 65535 then 1 else s.bridge.nextLsid + 1, bridge.seqs := s.bridge.seqs ++ [q] }.sendLockPdu q 4 (r.f 1 23 0))) ∧
  (∀ (s : State) (r : Waiting), s.runningOp 0x3023 = some r → fnOfSrc r.src = none → exec .epUnlock s = .next (s.respond (failR 0x40))) ∧
  (∀ (s : State) (r : Waiting) (f : Nat), s.runningOp 0x3023 = some r → fnOfSrc r.src = some f →
     s.bridge.seqs.find? (fun q => q.lsid == r.f 0 15 0 && q.fn == f && q.complete) = none → exec .epUnlock s = .next (s.respond (okR [pack [(2, 8)]]))) ∧
  (∀ (s : State) (r : Waiting) (f : Nat) (q : LockSeq), s.runningOp 0x3023 = some r → fnOfSrc r.src = some f →
     s.bridge.seqs.find? (fun q => q.lsid == r.f 0 15 0 && q.fn == f && q.complete) = some q →
     exec .epUnlock s = .next (((s.releaseSeq q).dropSeq q.lsid).respond (okR [pack [(if q.expired then 1 else 0, 8)]]))) ∧
  (∀ (s : State) (r : Waiting), s.runningOp 0x3030 = some r →
     let seen : List ErrLogEntry := s.bridge.log.filter fun x => s.srcTenant r.src == none || x.source == r.src.code
     exec .epErrlog s = .next (s.respond (okR (pack [(seen.length, 16), (((seen.drop (r.f 0 5 0)).take 16).length, 16)] ::
       (((seen.drop (r.f 0 5 0)).take 16).map ErrLogEntry.words).flatten))))

/-- HPD, training, frame starts, underruns, RASTER and display cells. Of a head. HPD high with its EDID, HPD low, an IRQ_HPD pulse and the end of training
are taken by the head, training with the rate and lanes that its configuration allows. D1 of a locked pair has no frame start of its own unless it has
to restart; else, where the records that wait change no timing and the head stays enabled, the records take effect and the frame runs. An underrun is
counted with EV180, one by an ECC error is only counted. RASTER is sent for each head that has the tunnel as a target. A RASTER cell on a tunnel that
is a desk port's video target is taken. Else a cell on a tunnel that is no target is counted as unbound; on a target, one of another kind, or pixels
of a wrong number or length, as bad; RASTER is taken; pixels are written where they lie inside the target; what lies outside is counted, and so are
pixels that came too late for the line that the head sends. Each completes with its own effect: DISP_HPD_HIGH, DISP_HPD_LOW, DISP_IRQ_HPD,
DISP_LINK_TRAINED, FRAME_START, DISP_UNDERRUN, RASTER_SEND, DISPLAY_CELL_RECEIVE. (spec/10_display.md: Outputs, spec/10_display.md: Planes and frame
buffers, spec/10_display.md: Genlock, spec/10_display.md: Display tunnels) -/
def Obligations.HeadsShowFramesFromTheirTunnels : Prop :=
  (∀ (s : State) (h : Fin 2) (e : List (List Word)), exec (.dispHpdHigh h e) s = .next (s.hpdEvent h.val { kind := 1, edid := e })) ∧
  (∀ (s : State) (h : Fin 2), exec (.dispHpdLow h) s = .next (s.hpdEvent h.val {})) ∧
  (∀ (s : State) (h : Fin 2) (b : Bool), exec (.dispIrqHpd h b) s = .next (s.hpdEvent h.val { kind := 2, lost := b })) ∧
  (∀ (s : State) (h : Fin 2) (ra : Fin 6) (la : Fin 3), exec (.dispLinkTrained h (some (ra, la))) s =
     .next (s.hpdEvent h.val { kind := 3, rate := Nat.min ra.val (s.hd h.val).cfg.maxRate, lanes := lanesOf (Nat.min la.val (s.hd h.val).cfg.maxLanes) })) ∧
  (∀ (s : State) (h : Fin 2), exec (.dispLinkTrained h none) s = .next (s.hpdEvent h.val { kind := 3, lost := true })) ∧
  (∀ (s : State), s.paired = true → (s.hd 1).restart = false ∨ (s.hd 1).st = .off → exec (.frameStart 1) s = .next s) ∧
  (∀ (s : State) (h : Fin 2), (s.paired && h.val == 1) = false → s.domOn 12 = true → ((s.hd h.val).nextCfg.getD (s.hd h.val).cfg).enable = true →
     ((s.hd h.val).restart && (s.hd h.val).st != .off) = false →
     exec (.frameStart h) s = .next (((s.followers h.val).foldl (fun (s : State) (g : Nat) => s.loadRecords g) (s.loadRecords h.val)).runFrame h.val)) ∧
  (∀ (s : State) (h : Fin 2), exec (.frameStart h) s = .next (s.frameStart h.val)) ∧
  (∀ (s : State) (h : Fin 2), exec (.dispUnderrun h true) s = .next (s.cntH h.val 1)) ∧
  (∀ (s : State) (h : Fin 2), exec (.dispUnderrun h false) s =
     .next ((s.cntH h.val 0).raiseCounted 180 h.val 1 [(h.val, 1)] 16 (s.headDest h.val))) ∧
  (∀ (s u : State) (i : BitVec 14), u = (((s.hd 0).targets.find? fun t => t.tun == i.toNat).map fun (t : Target) => s.sendRaster 0 t).getD s →
     exec (.rasterSend i) s = .next ((((u.hd 1).targets.find? fun t => t.tun == i.toNat).map fun (t : Target) => u.sendRaster 1 t).getD u)) ∧
  (∀ (s : State) (i : BitVec 14) (p : List Byte), byteNum p 0 1 = 2 → s.desk.port.toList.any (fun x => x.vidTun == some i.toNat) = true →
     exec (.displayCellReceive i p) s = .next (s.takeRaster i.toNat (readRaster p))) ∧
  (∀ (s : State) (i : BitVec 14) (p : List Byte), byteNum p 0 1 ≠ 2 ∨ s.desk.port.toList.any (fun x => x.vidTun == some i.toNat) = false → s.targetOf i.toNat = none →
     exec (.displayCellReceive i p) s = .next (s.cntH (s.unboundHead i.toNat) 5)) ∧
  (∀ (s : State) (i : BitVec 14) (p : List Byte) (h : Nat) (t : Target), s.targetOf i.toNat = some (h, t) →
     (byteNum p 0 1 ≠ 1 ∧ byteNum p 0 1 ≠ 2) ∨ (byteNum p 0 1 = 1 ∧ (byteNum p 6 1 = 0 ∨ 52 < byteNum p 6 1 ∨ p.length ≠ 16 + 4 * byteNum p 6 1)) →
     exec (.displayCellReceive i p) s = .next (s.cntH h 4)) ∧
  (∀ (s : State) (i : BitVec 14) (p : List Byte) (h : Nat) (t : Target), s.targetOf i.toNat = some (h, t) → byteNum p 0 1 = 2 →
     exec (.displayCellReceive i p) s = .next (s.takeRaster i.toNat (readRaster p))) ∧
  (∀ (s : State) (i : BitVec 14) (p : List Byte) (h n y x : Nat) (t : Target), s.targetOf i.toNat = some (h, t) → byteNum p 0 1 = 1 → n = byteNum p 6 1 →
     1 ≤ n → n ≤ 52 → p.length = 16 + 4 * n → y = byteNum p 2 2 → x = byteNum p 4 2 →
     let u : State := s.writePixels t y x n p
     exec (.displayCellReceive i p) s = .next (if t.h ≤ y ∨ t.w < x + n then u.cntH h 6
       else if (s.hd h).st ≠ .off ∧ (s.hd h).firstLine t + y ≤ s.rasterLine h + 2 ∧ s.rasterLine h ≤ (s.hd h).firstLine t + y then u.cntH h 3 else u))

/-- DISP.STATUS, EDID, COMMIT, WRITE and TARGET. Of the command that runs. DISP_STATUS of a head that the mailbox may not see returns zeros, of another
its words and, with CLEAR, sets its seven counters to 0. DISP_EDID of a block that the head does not have, or without a sink, is NO_RESOURCE, else the
block in 32 words. DISP_COMMIT of a head it may not see, and of D1 of a pair, is NO_RESOURCE; else it puts out the one that waited and waits for the
next frame start, or, past the deadline, for the one after, counted and with EV179; a plane that does not fit is committed disabled with OK_CLAMPED.
DISP_WRITE of a head it may not see or beyond the frame buffer is NO_RESOURCE; within it, it writes the pixels to LPDDR5X, with OK_CLAMPED when its
offset was not a multiple of 4. DISP_TARGET of a tunnel that is not its own or not of class 2, of a head it may not see, or of D1 of a pair is
NO_RESOURCE; to unbind it frees the target of a bound one, and is NO_RESOURCE for another; to bind it is NO_RESOURCE with no free slot or a buffer
that does not fit, else it frees what the tunnel had and binds it under the lowest free slot. Each completes with its own effect: DISP_STATUS,
DISP_EDID, DISP_COMMIT, DISP_WRITE, DISP_TARGET. (spec/10_display.md: Commits, spec/10_display.md: Commands) -/
def Obligations.DisplayCommandsCommitAndBind : Prop :=
  (∀ (s : State) (r : Waiting), s.runningOp 0x4001 = some r →
     exec .dispStatus s = .next (if s.seesHead r.src (r.f 0 31 31) then
         (if bitAt (r.w 0) 0 then s.modHead (r.f 0 31 31) fun x => { x with c := Vector.replicate 7 0 } else s).respond (okR (s.dispWords (r.f 0 31 31)))
       else s.respond (okR (List.replicate 10 0)))) ∧
  (∀ (s : State) (r : Waiting), s.runningOp 0x4002 = some r → (s.hd (r.f 0 31 31)).st = .noSink ∨ (s.hd (r.f 0 31 31)).edid[r.f 0 7 0]? = none →
     exec .dispEdid s = .next (s.respond (failR 0x40))) ∧
  (∀ (s : State) (r : Waiting) (b : List Word), s.runningOp 0x4002 = some r → (s.hd (r.f 0 31 31)).st ≠ .noSink → (s.hd (r.f 0 31 31)).edid[r.f 0 7 0]? = some b →
     exec .dispEdid s = .next (s.respond (okR ((b ++ List.replicate 32 0).take 32)))) ∧
  (∀ (s : State) (r : Waiting), s.runningOp 0x4010 = some r → s.seesHead r.src (r.f 0 31 31) = false ∨ (s.paired = true ∧ r.f 0 31 31 = 1) →
     exec .dispCommit s = .next (s.respond (failR 0x40))) ∧
  (∀ (s : State) (r : Waiting) (h : Nat), s.runningOp 0x4010 = some r → r.f 0 31 31 = h → s.seesHead r.src h = true → (s.paired && h == 1) = false →
     let late : Bool := s.pastDeadline h
     let c : HeadCfg := (s.hd h).nextCfg.getD (s.hd h).cfg
     let k : Commit := { id := r.f 0 15 0, notify := bitAt (r.w 0) 30, bg := r.f 1 29 0, base := (readPlane r 2).inArea c, overlay := (readPlane r 8).inArea c,
                         frames := if late then 1 else 0, src := r.src, late := late }
     let u : State := (s.discardCommit h).modHead h fun x => { x with commit := some k }
     exec .dispCommit s = .next ((if late then (u.cntH h 2).raise 179 [(h, 1), (r.f 0 15 0, 16)] (.only r.src) else u).respond
       (okC ((readPlane r 2).inArea c != readPlane r 2 || (readPlane r 8).inArea c != readPlane r 8)))) ∧
  (∀ (s : State) (r : Waiting), s.runningOp 0x4011 = some r → s.seesHead r.src (r.f 0 31 31) = true →
     (r.w 1).toNat / 4 * 4 + 4 * (r.data.length - 2) ≤ (s.hd (r.f 0 31 31)).cfg.fbMib * mib →
     exec .dispWrite s = .next ((s.memWrite ((s.hd (r.f 0 31 31)).cfg.fbBase * mib + (r.w 1).toNat / 4 * 4) ((r.data.drop 2).map wordBytesLE).flatten).respond
       (okC ((r.w 1).toNat % 4 != 0)))) ∧
  (∀ (s : State) (r : Waiting), s.runningOp 0x4011 = some r → s.seesHead r.src (r.f 0 31 31) = false ∨
       (s.hd (r.f 0 31 31)).cfg.fbMib * mib < (r.w 1).toNat / 4 * 4 + 4 * (r.data.drop 2).length →
     exec .dispWrite s = .next (s.respond (failR 0x40))) ∧
  (∀ (s : State) (r : Waiting), s.runningOp 0x4020 = some r → s.tunFor r (r.w 1).toNat = none → exec .dispTarget s = .next (s.respond (failR 0x40))) ∧
  (∀ (s : State) (r : Waiting) (t : Tunnel), s.runningOp 0x4020 = some r → s.tunFor r (r.w 1).toNat = some t →
     t.p.cls ≠ 2 ∨ s.seesHead r.src (r.f 0 31 31) = false ∨ (s.paired = true ∧ r.f 0 31 31 = 1) → exec .dispTarget s = .next (s.respond (failR 0x40))) ∧
  (∀ (s : State) (r : Waiting) (t : Tunnel), s.runningOp 0x4020 = some r → s.tunFor r (r.w 1).toNat = some t → t.p.cls = 2 →
     s.seesHead r.src (r.f 0 31 31) = true → (s.paired && r.f 0 31 31 == 1) = false → bitAt (r.w 0) 30 = true → s.targetOf t.idx = none →
     exec .dispTarget s = .next (s.respond (failR 0x40))) ∧
  (∀ (s : State) (r : Waiting) (t : Tunnel) (x : Nat) (b : Target), s.runningOp 0x4020 = some r → s.tunFor r (r.w 1).toNat = some t → t.p.cls = 2 →
     s.seesHead r.src (r.f 0 31 31) = true → (s.paired && r.f 0 31 31 == 1) = false → bitAt (r.w 0) 30 = true → s.targetOf t.idx = some (x, b) →
     exec .dispTarget s = .next ((s.unbindTarget t.idx).respond (okR [pack [(b.slot, 2)]]))) ∧
  (∀ (s : State) (r : Waiting) (t : Tunnel), s.runningOp 0x4020 = some r → s.tunFor r (r.w 1).toNat = some t → t.p.cls = 2 →
     s.seesHead r.src (r.f 0 31 31) = true → (s.paired && r.f 0 31 31 == 1) = false → bitAt (r.w 0) 30 = false →
     leastFree (((s.hd (r.f 0 31 31)).targets.filter fun (x : Target) => x.tun != t.idx).map fun (x : Target) => x.slot) 0 4 = none ∨
       (s.hd (r.f 0 31 31)).cfg.bufferOk (u64At r.data 2) (r.f 4 31 16) (r.f 5 31 16) (r.f 5 15 0) = false →
     exec .dispTarget s = .next (s.respond (failR 0x40))) ∧
  (∀ (s : State) (r : Waiting) (t : Tunnel) (k : Nat), s.runningOp 0x4020 = some r → s.tunFor r (r.w 1).toNat = some t → t.p.cls = 2 →
     s.seesHead r.src (r.f 0 31 31) = true → (s.paired && r.f 0 31 31 == 1) = false → bitAt (r.w 0) 30 = false →
     leastFree (((s.hd (r.f 0 31 31)).targets.filter fun (x : Target) => x.tun != t.idx).map fun (x : Target) => x.slot) 0 4 = some k →
     (s.hd (r.f 0 31 31)).cfg.bufferOk (u64At r.data 2) (r.f 4 31 16) (r.f 5 31 16) (r.f 5 15 0) = true →
     exec .dispTarget s = .next (((s.unbindTarget t.idx).bindTarget (r.f 0 31 31)
       { slot := k, tun := t.idx, addr := u64At r.data 2, stride := r.f 4 31 16, w := r.f 5 31 16, h := r.f 5 15 0 }).respond (okR [pack [(k, 2)]])))

/-- Attach, Try.SRC, detach, protection and recovery of a desk port. Of a desk port. A termination seen in UNATTACHED is acted on, Rd seen in CABLE_ONLY
starts the wait as source. The role toggles only in UNATTACHED of a port that is not source only. At the end of the debounce a source waits for VBUS
at 0 V and acts on the pins: one Rd makes it source, with VCONN where the other is Ra, Ra alone is CABLE_ONLY, two Ra or two Rd an ACCESSORY, open
pins UNATTACHED; a port that sees no Rp goes back to UNATTACHED, and one that sees Rp and 5 V enters TRY_SRC; in TRYWAIT_SNK Rp and 5 V make it sink.
In TRY_SRC exactly one Rd makes it source, and the time-out TRYWAIT_SNK; that of TRYWAIT_SNK goes to UNATTACHED. A detach ends an attach, and leads
from a wait, CABLE_ONLY or ACCESSORY to UNATTACHED. VBUS that does not fall is a protective action and FAULT. ERROR_RECOVERY and FAULT end in
UNATTACHED of an enabled port, in DISABLED of another. VBUS protection 0 is a Hard Reset, 1 and 2 lead to ERROR_RECOVERY, a VCONN fault turns VCONN
off, each counted while the supply is on, and the third within 60 s leads to FAULT. In every other case nothing changes. Each completes with its own
effect: CC_ATTACH_DETECT, DRP_TOGGLE, CC_DEBOUNCE_EXPIRY, TRY_SRC_TIMEOUT, TRY_SRC_DETECT, TRYWAIT_TIMEOUT, DESK_DETACH, VBUS_DISCHARGED,
SAFE0V_TIMEOUT, ERROR_RECOVERY_END, FAULT_EXIT, VBUS_PROTECTION. (spec/11_desk_power.md: Attach, spec/11_desk_power.md: Power as source,
spec/11_desk_power.md: Cable pulled during a transition) -/
def Obligations.DeskPortsAttachAndRecover : Prop :=
  (∀ (s : State) (p : Fin 4) (a b : Cc), exec (.ccAttachDetect p a b) s =
     .next (if (s.dk p.val).st = .unattached then (s.modDk p.val fun x => { x with cc := (a, b) }).tryAttach p.val
       else if (s.dk p.val).st = .cableOnly ∧ (a = .rd ∨ b = .rd) then s.modPower p.val fun x => { x with st := .attachWaitSrc, cc := (a, b) } else s)) ∧
  (∀ (s : State) (p : Fin 4), exec (.drpToggle p) s = .next (if (s.dk p.val).st = .unattached ∧ (s.dk p.val).cfg.roleMode = false then
       s.modDk p.val fun x => { x with asSource := !x.asSource, cc := (.openCc, .openCc) } else s)) ∧
  (∀ (s : State) (p : Fin 4) (a b : Cc) (v w : Bool), (s.dk p.val).st = .attachWaitSrc →
     let u : State := s.modDk p.val fun x => if x.st == .attachWaitSrc || x.st == .attachWaitSnk || x.st == .tryWaitSnk then { x with cc := (a, b) } else x
     exec (.ccDebounceExpiry p a b v w) s = .next (if w = false then u
       else if (a = .rd ∧ (b = .openCc ∨ b = .ra)) ∨ (b = .rd ∧ (a = .openCc ∨ a = .ra)) then u.enterSrc p.val (a == .ra || b == .ra)
       else if (a = .ra ∧ b = .openCc) ∨ (a = .openCc ∧ b = .ra) then u.modPower p.val fun x => { x with st := .cableOnly }
       else if a = .ra ∧ b = .ra then u.modPower p.val fun x => { x with st := .accessory, kind := 1 }
       else if a = .rd ∧ b = .rd then u.modPower p.val fun x => { x with st := .accessory, kind := 2 }
       else if a = .openCc ∧ b = .openCc then u.toUnattached p.val else u)) ∧
  (∀ (s : State) (p : Fin 4) (a b : Cc) (v w : Bool), (s.dk p.val).st = .attachWaitSnk →
     let u : State := s.modDk p.val fun x => if x.st == .attachWaitSrc || x.st == .attachWaitSnk || x.st == .tryWaitSnk then { x with cc := (a, b) } else x
     exec (.ccDebounceExpiry p a b v w) s = .next (if a = .rp ∨ b = .rp then (if v then u.modPower p.val fun x => { x with st := .trySrc } else u)
       else u.toUnattached p.val)) ∧
  (∀ (s : State) (p : Fin 4) (a b : Cc) (v w : Bool), (s.dk p.val).st = .tryWaitSnk →
     let u : State := s.modDk p.val fun x => if x.st == .attachWaitSrc || x.st == .attachWaitSnk || x.st == .tryWaitSnk then { x with cc := (a, b) } else x
     exec (.ccDebounceExpiry p a b v w) s = .next (if (a = .rp ∨ b = .rp) ∧ v = true then u.enterSnk p.val else u)) ∧
  (∀ (s : State) (p : Fin 4), exec (.trySrcTimeout p) s = .next (if (s.dk p.val).st = .trySrc then s.modPower p.val fun x => { x with st := .tryWaitSnk } else s)) ∧
  (∀ (s : State) (p : Fin 4) (a b : Cc), exec (.trySrcDetect p a b) s = .next (if (s.dk p.val).st = .trySrc ∧ ((a = .rd ∧ b ≠ .rd) ∨ (a ≠ .rd ∧ b = .rd)) then
       (s.modDk p.val fun x => { x with cc := (a, b) }).enterSrc p.val (a == .ra || b == .ra) else s)) ∧
  (∀ (s : State) (p : Fin 4), exec (.trywaitTimeout p) s = .next (if (s.dk p.val).st = .tryWaitSnk then s.toUnattached p.val else s)) ∧
  (∀ (s : State) (p : Fin 4), exec (.deskDetach p) s = .next (if (s.dk p.val).st = .attachedSrc ∨ (s.dk p.val).st = .attachedSnk then s.leaveAttach p.val .unattached
       else if (s.dk p.val).st = .cableOnly ∨ (s.dk p.val).st = .accessory ∨ (s.dk p.val).st = .attachWaitSrc ∨ (s.dk p.val).st = .attachWaitSnk then s.toUnattached p.val else s)) ∧
  (∀ (s : State) (p : Fin 4), exec (.vbusDischarged p) s = .next ((s.modDk p.val fun x => { x with discharge := false, attachHeld := false }).tryAttach p.val)) ∧
  (∀ (s : State) (p : Fin 4), exec (.safe0vTimeout p) s = .next (if (s.dk p.val).discharge then (s.protect p.val 4).leaveAttach p.val .fault else s)) ∧
  (∀ (s : State) (p : Fin 4), exec (.errorRecoveryEnd p) s = .next (if (s.dk p.val).st = .errorRecovery then
       (if (s.dk p.val).cfg.enable then s.toUnattached p.val else s.modPower p.val fun x => { x with st := .disabled }) else s)) ∧
  (∀ (s : State) (p : Fin 4), exec (.faultExit p) s = .next (if (s.dk p.val).st = .fault then
       (if (s.dk p.val).cfg.enable then s.toUnattached p.val else s.modPower p.val fun x => { x with st := .disabled }) else s)) ∧
  (∀ (s : State) (p : Fin 4) (k : Fin 4), (k.val = 3 ∧ (s.dk p.val).vconnOn = false) ∨ (k.val ≠ 3 ∧ (s.dk p.val).vbusOn = false) → exec (.vbusProtection p k) s = .next s) ∧
  (∀ (s : State) (p : Fin 4) (k : Fin 4), (k.val = 3 ∧ (s.dk p.val).vconnOn = true) ∨ (k.val ≠ 3 ∧ (s.dk p.val).vbusOn = true) →
     let u : State := s.protect p.val k.val
     let v : State := if k.val = 0 then u.hardReset p.val false else if k.val = 3 then u.modPower p.val fun x => { x with vconnOn := false }
       else u.leaveAttach p.val .errorRecovery
     exec (.vbusProtection p k) s = .next (if 3 ≤ v.faultCount p.val then v.leaveAttach p.val .fault else v))

/-- Source_Capabilities, Request, transitions, EPR, Hard Reset and the time-outs of a contract. Of a desk port. A source that may offer sends its offer,
taking the cable's answer when VCONN is on; one that may not does nothing. A Request of a port that is source and moves nothing, within the
capabilities, is accepted and starts its transition, another is rejected. The end of a transition sends PS_RDY: the contract stands, the first one
seeks the data role, and a swap goes on. A PPS contract without Request, and a port outside its reduced capabilities after a reclaim, end in a Hard
Reset. EPR mode is entered on a source with EPR_EN, an EPR cable and an offer above 100 W, else refused. A Hard Reset of a port without attach changes
nothing; within a swap whose old source is off it counts, with EV195, and leads to ERROR_RECOVERY; else it is the port's Hard Reset. The recovery
turns VBUS on again. DESK_REOFFER waits for the port offered before, then offers the first port marked, or takes back its mark where it may not. A
port without contract in time takes its role where it is PERIPHERAL, else loses it and is used for power only. As sink the port asks for 5 V at 10 mA,
and once for PR_Swap of a dual-role partner; in DEAD_SINK for up to 3 A. In every other case nothing changes. Each completes with its own effect:
SOURCE_CAPS_SEND, PD_REQUEST, PD_TRANSITION_DONE, PPS_REQUEST_TIMEOUT, EPR_MODE_ENTER, EPR_MODE_EXIT, HARD_RESET, SRC_RECOVER_EXPIRY, DESK_REOFFER,
DESK_RECLAIM_TIMEOUT, CONTRACT_TIMEOUT, SOURCE_CAPS_RECEIVE. (spec/11_desk_power.md: Power as source, spec/11_desk_power.md: Sharing desk power,
spec/11_desk_power.md: Power as sink with a feed selected, spec/11_desk_power.md: Role swaps, Wait and hard resets, spec/12_desk_data.md: Port modes
and the data role) -/
def Obligations.DeskContractsAreMadeAndTimed : Prop :=
  (∀ (s : State) (p : Fin 4) (c : Option (Bool × Bool)), (s.dk p.val).mayOffer = false → exec (.sourceCapsSend p c) s = .next s) ∧
  (∀ (s : State) (p : Fin 4), (s.dk p.val).mayOffer = true → exec (.sourceCapsSend p none) s = .next (s.sendCaps p.val (s.offerOf p.val))) ∧
  (∀ (s : State) (p : Fin 4) (a e : Bool), (s.dk p.val).mayOffer = true →
     let t : State := if (s.dk p.val).vconnOn then s.modDk p.val fun x => { x with cable5A := a, cableEpr := e } else s
     exec (.sourceCapsSend p (some (a, e))) s = .next (t.sendCaps p.val (t.offerOf p.val))) ∧
  (∀ (s : State) (p : Fin 4) (o : Fin 16) (v a : Nat), (s.dk p.val).st ≠ .attachedSrc ∨ (s.dk p.val).recovering = true ∨ (s.dk p.val).swap ≠ .none →
     exec (.pdRequest p o v a) s = .next s) ∧
  (∀ (s : State) (p : Fin 4) (o : Fin 16) (v a : Nat) (c : Contract), (s.dk p.val).st = .attachedSrc → (s.dk p.val).recovering = false →
     (s.dk p.val).swap = .none → (s.dk p.val).request o.val v a = some c →
     exec (.pdRequest p o v a) s = .next ((s.modDk p.val fun x => { x with transition := some c }).pd p.val 3 [])) ∧
  (∀ (s : State) (p : Fin 4) (o : Fin 16) (v a : Nat), (s.dk p.val).st = .attachedSrc → (s.dk p.val).recovering = false →
     (s.dk p.val).swap = .none → (s.dk p.val).request o.val v a = none →
     exec (.pdRequest p o v a) s = .next ((s.modDk p.val fun x => { x with capsSent := false }).pd p.val 4 [])) ∧
  (∀ (s : State) (p : Fin 4) (c : Contract), (s.dk p.val).swap = .none → (s.dk p.val).transition = some c →
     let t : State := (s.pd p.val 6 []).setContract p.val c
     exec (.pdTransitionDone p) s = .next (if (s.dk p.val).contract = none then t.seekRole p.val else t).markReoffers) ∧
  (∀ (s : State) (p : Fin 4), (s.dk p.val).swap = .oldOff → (s.dk p.val).swapToSrc = true →
     exec (.pdTransitionDone p) s = .next ((s.pd p.val 6 []).swapToSource p.val)) ∧
  (∀ (s : State) (p : Fin 4), (s.dk p.val).swap = .accepted → (s.dk p.val).swapToSrc = false →
     exec (.pdTransitionDone p) s = .next ((s.modDk p.val fun x => { x with vbusOn := false, swap := .oldOff }).pd p.val 6 [])) ∧
  (∀ (s : State) (p : Fin 4), ((s.dk p.val).swap = .accepted ∧ (s.dk p.val).swapToSrc = true) ∨ ((s.dk p.val).swap = .oldOff ∧ (s.dk p.val).swapToSrc = false) ∨
       ((s.dk p.val).swap = .none ∧ (s.dk p.val).transition = none) →
     exec (.pdTransitionDone p) s = .next s) ∧
  (∀ (s : State) (p : Fin 4), exec (.ppsRequestTimeout p) s =
     .next (if ((s.dk p.val).contract.any fun (c : Contract) => c.pps) = true ∧ (s.dk p.val).st = .attachedSrc then s.hardReset p.val false else s)) ∧
  (∀ (s : State) (p : Fin 4), exec (.eprModeEnter p) s = .next (if (s.dk p.val).st ≠ .attachedSrc then s
       else if (s.dk p.val).inUse.eprEn = true ∧ (s.dk p.val).cableEpr = true ∧ 10000 < (s.dk p.val).offer then (s.modDk p.val fun x => { x with epr := true }).pd p.val 0x10A [3]
       else s.pd p.val 0x10A [4])) ∧
  (∀ (s : State) (p : Fin 4), exec (.eprModeExit p) s = .next (if (s.dk p.val).epr = true then s.modDk p.val fun x => { x with epr := false } else s)) ∧
  (∀ (s : State) (p : Fin 4) (b : Bool), exec (.hardReset p b) s = .next (s.hardReset p.val b)) ∧
  (∀ (s : State) (p : Fin 4) (b : Bool), (s.dk p.val).attached = false → (s.dk p.val).st ≠ .deadSink → exec (.hardReset p b) s = .next s) ∧
  (∀ (s : State) (p : Fin 4) (b : Bool), (s.dk p.val).attached = true → (s.dk p.val).swap = .oldOff →
     exec (.hardReset p b) s = .next ((((if b then s else s.pd p.val 0x300 []).modDk p.val fun x => { x with hardResets := bump x.hardResets }).raise 195
       [(p.val, 2), (if b then 1 else 0, 1), (1, 1)]).leaveAttach p.val .errorRecovery)) ∧
  (∀ (s : State) (p : Fin 4), exec (.srcRecoverExpiry p) s = .next (s.modDk p.val fun x =>
     if x.recovering then { x with recovering := false, vbusOn := true, discharge := false, attachHeld := false } else x)) ∧
  (∀ (s : State), (∀ p, (s.dk p).reoffer = false) → exec .deskReoffer s = .next s) ∧
  (∀ (s : State) (p : Nat), (List.range 4).find? (fun p => (s.dk p).reoffer) = some p → exec .deskReoffer s = .next (if s.reofferBusy then s
       else if (s.dk p).mayOffer then { s.sendCaps p (s.offerOf p) with desk.offering := some (p, s.clockNs) } else s.modDk p fun x => { x with reoffer := false })) ∧
  (∀ (s : State) (p : Nat), (List.range 4).find? (fun p => (s.dk p).reoffer) = some p → s.reofferBusy = false → (s.dk p).mayOffer = true →
     exec .deskReoffer s = .next { s.sendCaps p (s.offerOf p) with desk.offering := some (p, s.clockNs) }) ∧
  (∀ (s : State) (p : Fin 4),
     let t : State := s.modDk p.val fun x => { x with reclaim := false }
     exec (.deskReclaimTimeout p) s = .next (if (s.dk p.val).reclaim = false then s else if (t.dk p.val).withinCaps then t else t.hardReset p.val false)) ∧
  (∀ (s : State) (p : Fin 4), exec (.contractTimeout p) s = .next (if (s.dk p.val).attached = false ∨ (s.dk p.val).contract ≠ none then s
       else if (s.dk p.val).data.peripheral then (s.modDk p.val fun x => { x with dfp := true }).gainRole p.val
       else (if (s.dk p.val).roleHeld then s.loseRole p.val else s).raise 200 [(p.val, 2), (0, 1)])) ∧
  (∀ (s : State) (p : Fin 4) (d : Bool) (a : Nat), (s.dk p.val).st = .deadSink →
     exec (.sourceCapsReceive p d a) s = .next ((s.modDk p.val fun x => { x with sinkMa := Nat.min 3000 a }).ask p.val .sinkRequest)) ∧
  (∀ (s : State) (p : Fin 4) (d : Bool) (a : Nat), (s.dk p.val).st = .attachedSnk →
     let t : State := (s.modDk p.val fun x => { x with sinkMa := 10 }).ask p.val .sinkRequest
     exec (.sourceCapsReceive p d a) s = .next (if d = true ∧ (t.dk p.val).prAsked = false then (t.modDk p.val fun x => { x with prAsked := true }).ask p.val .prSwap else t)) ∧
  (∀ (s : State) (p : Fin 4) (d : Bool) (a : Nat), (s.dk p.val).st ≠ .attachedSnk → (s.dk p.val).st ≠ .deadSink → exec (.sourceCapsReceive p d a) s = .next s)

/-- PR_Swap, VCONN_Swap, DR_Swap, Wait answers, DESK.STATUS and DESK.CONTROL. Of a desk port. A swap asked for in DEAD_SINK is rejected, without attach
ignored, and while the power moves answered with Wait. Else PR_Swap is accepted by a sink and rejected by a source; VCONN_Swap is accepted and turns
VCONN over; DR_Swap is accepted towards the role of the port's mode and rejected away from it. A Wait answer to what was asked counts; at WAIT_RETRIES
the message is given up with EV197. The retry asks again where it waits. An old source that is off and sees no PS_RDY in time raises EV195 and goes to
ERROR_RECOVERY. A partner's answer: Accept of what was asked clears the waits and begins PR_Swap, turns VCONN over, takes the data role, or begins the
sink's contract; Reject or Not_Supported clears them, and leaves a port that asked for DR_Swap for power only; what was not asked changes nothing;
PS_RDY ends the old source, or takes the port to sink, or makes the sink's contract stand. On the service port of a dead-feed start the level then
follows. DESK_STATUS returns the port's words with the voltage and current measured; DESK_CONTROL does its ACTION (1 disable, 2 enable, 3 Hard Reset,
4 offer, 5 PR_Swap, 6 recovery), none in DEAD_SINK or where it does not apply, and answers OK_CLAMPED on an action that is none. Each completes with
its own effect: PR_SWAP_RECEIVE, VCONN_SWAP_RECEIVE, DR_SWAP_RECEIVE, PD_WAIT_RECEIVE, WAIT_RETRY_EXPIRY, SWAP_PS_RDY_TIMEOUT, PD_PARTNER_ANSWER,
DESK_STATUS, DESK_CONTROL. (spec/11_desk_power.md: Role swaps, Wait and hard resets, spec/11_desk_power.md: Commands, spec/12_desk_data.md: Port modes
and the data role) -/
def Obligations.DeskRolesSwapAndCommandsAct : Prop :=
  (∀ (s : State) (p : Fin 4), exec (.prSwapReceive p) s = .next (if (s.dk p.val).st = .deadSink then s.pd p.val 4 [] else if (s.dk p.val).attached = false then s
       else if (s.dk p.val).moving then s.pd p.val 12 [] else if (s.dk p.val).st = .attachedSrc then s.pd p.val 4 []
       else (s.modDk p.val fun x => { x with swap := .accepted, swapToSrc := true }).pd p.val 3 [])) ∧
  (∀ (s : State) (p : Fin 4), (s.dk p.val).st = .attachedSnk → (s.dk p.val).moving = false →
     exec (.prSwapReceive p) s = .next ((s.modDk p.val fun x => { x with swap := .accepted, swapToSrc := true }).pd p.val 3 [])) ∧
  (∀ (s : State) (p : Fin 4), exec (.vconnSwapReceive p) s = .next (if (s.dk p.val).st = .deadSink then s.pd p.val 4 [] else if (s.dk p.val).attached = false then s
       else if (s.dk p.val).moving then s.pd p.val 12 [] else (s.pd p.val 3 []).modPower p.val fun x => { x with vconnOn := !x.vconnOn })) ∧
  (∀ (s : State) (p : Fin 4), (s.dk p.val).st = .attachedSrc → (s.dk p.val).moving = false →
     exec (.vconnSwapReceive p) s = .next ((s.pd p.val 3 []).modPower p.val fun x => { x with vconnOn := !x.vconnOn })) ∧
  (∀ (s : State) (p : Fin 4), exec (.drSwapReceive p) s = .next (if (s.dk p.val).st = .deadSink then s.pd p.val 4 [] else if (s.dk p.val).attached = false then s
       else if (s.dk p.val).moving then s.pd p.val 12 [] else if (s.dk p.val).dfp = (s.dk p.val).data.peripheral then s.pd p.val 4 []
       else ((s.pd p.val 3 []).modDk p.val fun x => { x with dfp := !x.dfp }).gainRole p.val)) ∧
  (∀ (s : State) (p : Fin 4), (s.dk p.val).st = .attachedSrc → (s.dk p.val).moving = false → (s.dk p.val).dfp = true → (s.dk p.val).data.peripheral = false →
     exec (.drSwapReceive p) s = .next (((s.pd p.val 3 []).modDk p.val fun x => { x with dfp := !x.dfp }).gainRole p.val)) ∧
  (∀ (s : State) (p : Fin 4) (m : PdMsg), (s.dk p.val).asked.getD m.slot false = false → exec (.pdWaitReceive p m) s = .next s) ∧
  (∀ (s : State) (p : Fin 4) (m : PdMsg), (s.dk p.val).asked.getD m.slot false = true →
     (s.dk p.val).inUse.waitRetries ≤ (s.dk p.val).waits.getD m.slot 0 + 1 →
     exec (.pdWaitReceive p m) s = .next ((s.modDk p.val fun x => { x with
       asked := modAt x.asked m.slot fun _ => false
       waits := modAt x.waits m.slot fun _ => (s.dk p.val).waits.getD m.slot 0 + 1
       waitRun := modAt x.waitRun m.slot fun _ => false
       gaveUp := modAt x.gaveUp m.slot fun _ => true }).raise 197 [(p.val, 2), (m.type, 8)])) ∧
  (∀ (s : State) (p : Fin 4) (m : PdMsg), (s.dk p.val).asked.getD m.slot false = true →
     ¬ (s.dk p.val).inUse.waitRetries ≤ (s.dk p.val).waits.getD m.slot 0 + 1 →
     exec (.pdWaitReceive p m) s = .next (s.modDk p.val fun x => { x with
       asked := modAt x.asked m.slot fun _ => false
       waits := modAt x.waits m.slot fun _ => (s.dk p.val).waits.getD m.slot 0 + 1
       waitRun := modAt x.waitRun m.slot fun _ => true
       gaveUp := modAt x.gaveUp m.slot fun _ => false })) ∧
  (∀ (s : State) (p : Fin 4) (m : PdMsg), exec (.waitRetryExpiry p m) s = .next (if (s.dk p.val).waitRun.getD m.slot false then
       (s.modDk p.val fun x => { x with waitRun := modAt x.waitRun m.slot fun _ => false }).ask p.val m else s)) ∧
  (∀ (s : State) (p : Fin 4), exec (.swapPsRdyTimeout p) s = .next (if (s.dk p.val).swap = .oldOff ∧ (s.dk p.val).swapToSrc = false then
       (s.raise 195 [(p.val, 2), (0, 1), (1, 1)]).leaveAttach p.val .errorRecovery else s)) ∧
  (∀ (s : State) (p : Fin 4) (m : PdMsg) (a : PdAnswer) (i : StartInfo),
     let t : State := s.partnerAnswer p.val m a
     exec (.pdPartnerAnswer p m a i) s = .next (if t.sys.start = 1 ∧ t.desk.service = some p then t.raiseLevel 0 i else t)) ∧
  (∀ (s : State) (p : Fin 4) (m : PdMsg) (a : PdAnswer) (i : StartInfo), (s.dk p.val).asked.getD m.slot false = false → a ≠ .psRdy → s.sys.start ≠ 1 →
     exec (.pdPartnerAnswer p m a i) s = .next s) ∧
  (∀ (s : State) (p : Fin 4) (i : StartInfo), (s.dk p.val).asked.getD 0 false = true → s.sys.start ≠ 1 →
     exec (.pdPartnerAnswer p .prSwap .accept i) s = .next ((s.modDk p.val fun x =>
       { x with asked := modAt x.asked 0 fun _ => false, waits := modAt x.waits 0 fun _ => 0 }).modDk p.val fun x => { x with swap := .accepted, swapToSrc := !x.isSource })) ∧
  (∀ (s : State) (p : Fin 4) (i : StartInfo), (s.dk p.val).asked.getD 1 false = true → s.sys.start ≠ 1 →
     exec (.pdPartnerAnswer p .vconnSwap .accept i) s = .next ((s.modDk p.val fun x =>
       { x with asked := modAt x.asked 1 fun _ => false, waits := modAt x.waits 1 fun _ => 0 }).modPower p.val fun x => { x with vconnOn := !x.vconnOn })) ∧
  (∀ (s : State) (p : Fin 4) (i : StartInfo), (s.dk p.val).asked.getD 3 false = true → s.sys.start ≠ 1 →
     exec (.pdPartnerAnswer p .sinkRequest .accept i) s = .next ((s.modDk p.val fun x =>
       { x with asked := modAt x.asked 3 fun _ => false, waits := modAt x.waits 3 fun _ => 0 }).modDk p.val fun x => { x with transition := some { mv := 5000, ma := x.sinkMa } })) ∧
  (∀ (s : State) (p : Fin 4) (a : PdAnswer) (i : StartInfo), (s.dk p.val).asked.getD 2 false = true → s.sys.start ≠ 1 →
     let t : State := s.modDk p.val fun x => { x with asked := modAt x.asked 2 fun _ => false, waits := modAt x.waits 2 fun _ => 0 }
     exec (.pdPartnerAnswer p .drSwap .accept i) s = .next ((t.modDk p.val fun x => { x with dfp := !x.dfp }).gainRole p.val) ∧
     exec (.pdPartnerAnswer p .drSwap .reject i) s = .next (t.raise 200 [(p.val, 2), (0, 1)]) ∧
     exec (.pdPartnerAnswer p .drSwap .notSupported i) s = .next (t.raise 200 [(p.val, 2), (0, 1)])) ∧
  (∀ (s : State) (p : Fin 4) (m : PdMsg) (i : StartInfo), (s.dk p.val).asked.getD m.slot false = true → m ≠ .drSwap → s.sys.start ≠ 1 →
     let t : State := s.modDk p.val fun x => { x with asked := modAt x.asked m.slot fun _ => false, waits := modAt x.waits m.slot fun _ => 0 }
     exec (.pdPartnerAnswer p m .reject i) s = .next t ∧ exec (.pdPartnerAnswer p m .notSupported i) s = .next t) ∧
  (∀ (s : State) (p : Fin 4) (m : PdMsg) (i : StartInfo), (s.dk p.val).swap = .accepted → (s.dk p.val).swapToSrc = true → s.sys.start ≠ 1 →
     exec (.pdPartnerAnswer p m .psRdy i) s = .next (s.modDk p.val fun x => { x with swap := .oldOff, vbusOn := true, discharge := false })) ∧
  (∀ (s : State) (p : Fin 4) (m : PdMsg) (i : StartInfo), (s.dk p.val).swap = .oldOff → (s.dk p.val).swapToSrc = false → s.sys.start ≠ 1 →
     exec (.pdPartnerAnswer p m .psRdy i) s = .next (((s.endContract p.val).modPower p.val fun x => { x with st := .attachedSnk, swap := .none }).markReoffers)) ∧
  (∀ (s : State) (r : Waiting) (v a : Nat), s.runningOp 0x5001 = some r →
     let p := r.f 0 31 30
     let t := s.modDk p fun x => { x with vbusMv := v, ibusMa := a }
     let c := (t.dk p).contract.getD {}
     exec (.deskStatus v a) s = .next (t.respond (okR [t.deskWord0 p, pack [(Nat.min (c.mv / 20) 65535, 16), (Nat.min (c.ma / 10) 65535, 16)],
       pack [(Nat.min (t.dk p).offer 65535, 16), (Nat.min ((t.dk p).grant / 10000) 65535, 16)], pack [(Nat.min v 65535, 16), (Nat.min a 65535, 16)],
       wd (t.dk p).hardResets]))) ∧
  (∀ (s : State) (r : Waiting), s.runningOp 0x5010 = some r →
     let p : Nat := r.f 0 31 30
     let a : Nat := r.f 0 3 0
     let x : DeskPort := s.dk p
     let u : State := if x.st = .deadSink then s
       else if a = 1 then (if x.st = .disabled then s else s.leaveAttach p .disabled)
       else if a = 2 then (if x.st = .disabled ∨ x.st = .fault then s.toUnattached p else s)
       else if a = 3 then s.hardReset p false
       else if a = 4 then (if x.mayOffer then s.sendCaps p (s.offerOf p) else s)
       else if a = 5 then (if x.attached = true ∧ x.contract ≠ none ∧ x.moving = false then s.ask p .prSwap else s)
       else if a = 6 then (if x.st = .disabled ∨ x.st = .fault ∨ x.st = .errorRecovery then s else s.leaveAttach p .errorRecovery)
       else s
     exec .deskControl s = .next (u.respond (okC (decide (7 ≤ a)) [u.deskWord0 p])))

/-- VDM answers, the DisplayPort mode, its training and the captured stream of a desk port. Of a desk port. A structured VDM on SOP' or SOP'', or on a
port that does not answer, changes nothing; Discover Identity, SVIDs and Modes are answered, Modes of another SVID with NAK. Enter Mode 1 of
DisplayPort with DP_EN and no swap is answered with ACK and, after GoodCRC, enters it with EV201; any other is answered with NAK. Exit Mode of
DisplayPort is answered with ACK and ends it after GoodCRC, of another SVID with NAK. Status Update is answered in the mode only. Configure in the
mode to USB, C or D within the maximum rate is answered with ACK and moves the mux after GoodCRC; any other with NAK and the mux stays. The link to
the internal hub takes the rate that the pins leave. Training that the pins, the rate or the lanes do not allow changes nothing; else it is kept, and
without a stream the sink is trained; a stream that is none or too large is refused with cause 1, one without room with cause 2; else it is received.
The end of a stream is reported. A frame without room is refused with cause 2; else its lines are captured, and a frame that the binding has not taken
is counted with EV206. Damage is sent in bands of a bound port that receives video and has a target ready, once a frame waits or is being sent: the
spans of the band, then refresh spans where nothing is left, a band after the first counted. Each completes with its own effect: VDM_DISCOVER,
VDM_ENTER_MODE, VDM_EXIT_MODE, DP_STATUS_UPDATE, DP_CONFIGURE, DESK_USB_LINK_TRAINED, DP_SINK_TRAINING, DP_STREAM_ENDED, CAPTURE_FRAME_COMPLETE,
DAMAGE_SEND. (spec/12_desk_data.md: Alternate mode, spec/12_desk_data.md: Lane use, spec/12_desk_data.md: The DP sink, spec/12_desk_data.md: Capture
and damage) -/
def Obligations.LaptopsEnterDisplayPortMode : Prop :=
  (∀ (s : State) (p : Fin 4) (x k : Fin 3) (v : BitVec 16), (s.dk p.val).answersVdm = false ∨ x.val ≠ 0 → exec (.vdmDiscover p x k v) s = .next s) ∧
  (∀ (s : State) (p : Fin 4) (v : BitVec 16), (s.dk p.val).answersVdm = true →
     exec (.vdmDiscover p 0 0 v) s = .next (s.vdm p.val 1 true [1]) ∧
     exec (.vdmDiscover p 0 1 v) s = .next (s.vdm p.val 2 (s.dk p.val).data.dpEn (if (s.dk p.val).data.dpEn then [0xFF01] else [])) ∧
     exec (.vdmDiscover p 0 2 v) s = .next (if v = 0xFF01 then s.vdm p.val 3 true [1, 2, (s.dk p.val).data.maxDpRate] else s.vdm p.val 3 false [])) ∧
  (∀ (s : State) (p : Fin 4) (x : Fin 3) (v : BitVec 16) (m : BitVec 3) (g : Bool), (s.dk p.val).answersVdm = false ∨ x.val ≠ 0 →
     exec (.vdmEnterMode p x v m g) s = .next s ∧ exec (.vdmExitMode p x v g) s = .next s) ∧
  (∀ (s : State) (p : Fin 4) (v : BitVec 16) (m : BitVec 3) (g : Bool), (s.dk p.val).answersVdm = true →
     v ≠ 0xFF01 ∨ m ≠ 1 ∨ (s.dk p.val).data.dpEn = false ∨ (s.dk p.val).swap ≠ .none →
     exec (.vdmEnterMode p 0 v m g) s = .next (s.vdm p.val 4 false [])) ∧
  (∀ (s : State) (p : Fin 4) (g : Bool), (s.dk p.val).answersVdm = true → (s.dk p.val).data.dpEn = true → (s.dk p.val).swap = .none →
     let t : State := s.vdm p.val 4 true []
     exec (.vdmEnterMode p 0 0xFF01 1 g) s = .next (if g = true ∧ (s.dk p.val).alt = false then ((t.modDk p.val fun x => { x with alt := true, muxAux := true }).raise 201
       [(p.val, 2), (1, 1), ((s.dk p.val).pin, 2)]).refreshSink p.val else t)) ∧
  (∀ (s : State) (p : Fin 4) (v : BitVec 16) (g : Bool), (s.dk p.val).answersVdm = true → exec (.vdmExitMode p 0 v g) s =
     .next (if v ≠ 0xFF01 then s.vdm p.val 5 false [] else if g then (s.vdm p.val 5 true []).altExit p.val else s.vdm p.val 5 true [])) ∧
  (∀ (s : State) (p : Fin 4), exec (.dpStatusUpdate p) s = .next (if (s.dk p.val).alt = true then
     s.vdm p.val 16 true [1, b2n (s.dk p.val).data.multiPref, b2n (s.dk p.val).hpd] else s)) ∧
  (∀ (s : State) (p : Fin 4) (i : Byte) (r : BitVec 3) (g : Bool), (s.dk p.val).alt = false → exec (.dpConfigure p i r g) s = .next s) ∧
  (∀ (s : State) (p : Fin 4) (i : Byte) (r : BitVec 3) (g : Bool), (s.dk p.val).alt = true → i = 0 ∨ ((i = 1 ∨ i = 2) ∧ r.toNat ≤ (s.dk p.val).data.maxDpRate) →
     exec (.dpConfigure p i r g) s = .next (if g = true then (s.vdm p.val 17 true []).setMux p.val i.toNat else s.vdm p.val 17 true [])) ∧
  (∀ (s : State) (p : Fin 4) (i : Byte) (r : BitVec 3) (g : Bool), (s.dk p.val).alt = true → i ≠ 0 → 3 ≤ i.toNat ∨ (s.dk p.val).data.maxDpRate < r.toNat →
     exec (.dpConfigure p i r g) s = .next (s.vdm p.val 17 false [])) ∧
  (∀ (s : State) (p : Fin 4) (r : Fin 3), exec (.deskUsbLinkTrained p r) s = .next (if (s.dk p.val).hubShown = true then
     s.setUsb p.val (Nat.min (r.val + 2) (usbMost (s.dk p.val).pin)) else s)) ∧
  (∀ (s : State) (p : Fin 4) (r : Fin 6) (l : Fin 3) (m : Option (Nat × Nat × Nat × Bool)), (s.dk p.val).sink = 0 ∨ (s.dk p.val).pin = 0 ∨ (s.dk p.val).data.maxDpRate < r.val ∨
       lanesOf l.val = 1 ∨ ((s.dk p.val).pin = 2 ∧ lanesOf l.val = 4) →
     exec (.dpSinkTraining p r l m) s = .next s) ∧
  (∀ (s : State) (p : Fin 4) (r : Fin 6) (l : Fin 3), (s.dk p.val).pin ≠ 0 → (s.dk p.val).sink ≠ 0 → r.val ≤ (s.dk p.val).data.maxDpRate → lanesOf l.val ≠ 1 →
     (s.dk p.val).pin ≠ 2 ∨ lanesOf l.val ≠ 4 →
     exec (.dpSinkTraining p r l none) s = .next ((s.modDk p.val fun x => { x with dpRate := r.val, dpLanes := lanesOf l.val }).setSink p.val 2 0)) ∧
  (∀ (s : State) (p : Fin 4) (r : Fin 6) (l : Fin 3) (w h k : Nat) (o : Bool), (s.dk p.val).pin ≠ 0 → (s.dk p.val).sink ≠ 0 → r.val ≤ (s.dk p.val).data.maxDpRate →
     lanesOf l.val ≠ 1 → (s.dk p.val).pin ≠ 2 ∨ lanesOf l.val ≠ 4 →
     let t : State := s.modDk p.val fun x => { x with dpRate := r.val, dpLanes := lanesOf l.val }
     exec (.dpSinkTraining p r l (some (w, h, k, o))) s = .next (if o = false ∨ 7680 < w ∨ 4320 < h ∨ 1200000 < k then t.refuseStream p.val 1
       else if (s.dk p.val).data.capMib * mib < w * h * 4 then t.refuseStream p.val 2 else (t.modDk p.val fun x => { x with srcW := w, srcH := h }).setSink p.val 3 0)) ∧
  (∀ (s : State) (p : Fin 4), exec (.dpStreamEnded p) s = .next (if (s.dk p.val).sink = 3 then s.setSink p.val 2 3 else s)) ∧
  (∀ (s : State) (p : Fin 4) (l : List (Nat × List Word)), (s.dk p.val).sink ≠ 3 → exec (.captureFrameComplete p l) s = .next s) ∧
  (∀ (s : State) (p : Fin 4) (l : List (Nat × List Word)), (s.dk p.val).sink = 3 →
     let t : State := l.foldl (fun (u : State) m => u.captureLine p.val m) (s.modDk p.val fun x => { x with capNow := x.data })
     exec (.captureFrameComplete p l) s = .next (if (s.dk p.val).data.capMib * mib < (s.dk p.val).srcW * (s.dk p.val).srcH * 4 then s.refuseStream p.val 2
       else if (s.dk p.val).frameWait then (t.cntK p.val 0 1).raiseCounted 206 p.val 1 [(p.val, 2)] 16 else t.modDk p.val fun x => { x with frameWait := true })) ∧
  (∀ (s : State) (p : Fin 4), (s.dk p.val).binding = none → exec (.damageSend p) s = .next s) ∧
  (∀ (s : State) (p : Fin 4) (b : Binding), (s.dk p.val).binding = some b → (s.dk p.val).sink ≠ 3 ∨ b.video = 0 ∨ (b.video = 2 ∧ (s.videoReady p.val = false ∨
       ((s.dk p.val).vidTun.bind fun i => s.disp.pacing.find? fun y => y.1 == i) = none)) →
     exec (.damageSend p) s = .next s) ∧
  (∀ (s : State) (p : Fin 4) (b : Binding), (s.dk p.val).binding = some b → b.video = 1 → (s.dk p.val).sink = 3 → (s.dk p.val).sendOn = false →
     (s.dk p.val).frameWait = false → exec (.damageSend p) s = .next s) ∧
  (∀ (s : State) (p : Fin 4) (b : Binding) (r : Raster) (u : State), (s.dk p.val).binding = some b → (s.dk p.val).sink = 3 →
     b.video = 1 ∨ (b.video = 2 ∧ ((s.dk p.val).vidTun.bind fun i => s.disp.pacing.find? fun y => y.1 == i) = some (((s.dk p.val).vidTun).getD 0, r) ∧ s.videoReady p.val = true) →
     u = (if !(s.dk p.val).sendOn && (s.dk p.val).frameWait then s.modDk p.val fun x => { x with
       sending := x.damage, damage := [], frameWait := false, sendOn := true, firstBand := true } else s) → (u.dk p.val).sendOn = true →
     let x : DeskPort := u.dk p.val
     let room : Nat := if b.video = 1 then x.sending.length + x.spans * 256 else cellBudget (((x.vidTun.bind u.tunAt).map fun (t : Tunnel) => t.p.cir).getD 0) r
     let band : List (Nat × Nat) := bandOf (x.sending.length + 1) room x.sending
     let rest : List (Nat × Nat) := x.sending.drop band.length
     let more : List (Nat × Nat) × Nat := if rest.isEmpty then x.refreshSpans (if b.video = 1 then b.h else r.h) band x.capNow.refreshLines x.refreshNext (room - band.length)
       else ([], x.refreshNext)
     let v : State := (band ++ more.1).foldl (fun (t : State) d => t.sendSpan p.val b d) u
     exec (.damageSend p) s = .next ((if x.firstBand || band.isEmpty then v else v.cntK p.val 1 1).modDk p.val fun y => { y with
       sending := rest, refreshNext := more.2, firstBand := x.firstBand && band.isEmpty, sendOn := !rest.isEmpty }))

/-- ATTACH, DETACH and packets of USB tunnels, the internal hub, exported devices and retries. Of the desk ports. ATTACH of a USB tunnel at its end B
answers with the status and speed of the device, and binds the device when the status is 0; elsewhere it changes nothing. At each mapped port of the
tunnel an answer with status 0 shows the device and asks for the rates of its speed, another closes the tunnel, to be tried again unless it lasts;
DETACH shows it disconnected and, with a status, closes the tunnel to be tried again. A reserved UOP is counted, one of another PDU changes nothing; a
packet goes out of the mapped port that is ON, or of the ports whose device the tunnel has. A transaction of a laptop to which the hub is not shown,
or to port 0, changes nothing; to the CDC-NCM function, on a network tunnel that is UP, a tagged frame is counted and another goes into the tunnel; to
a mapped port that is ON it goes to the local device, or as a PDU into the tunnel, with NAK or NRDY at once; of an isochronous one only a local device
hears, and through a tunnel it reads empty or is counted. A device is enumerated on a PERIPHERAL port that is attached as DFP only, and local maps
that wait for it connect. A retry that waits opens its tunnel again. Each completes with its own effect: USB_TUNNEL_ATTACH, USB_TUNNEL_ATTACH_ACK,
USB_TUNNEL_DETACH, USB_TUNNEL_PACKET, USB_LAPTOP_TRANSACTION, PERIPHERAL_ENUMERATE, DESK_TUNNEL_RETRY. (spec/12_desk_data.md: The internal USB hub,
spec/12_desk_data.md: Downstream ports, spec/12_desk_data.md: Bindings) -/
def Obligations.DesksExportUsbDevices : Prop :=
  (∀ (s : State) (i : BitVec 14) (q : BitVec 2), s.tunAt i.toNat = none → exec (.usbTunnelAttach i q) s = .next s) ∧
  (∀ (s : State) (i : BitVec 14) (q : BitVec 2) (t : Tunnel), s.tunAt i.toNat = some t → t.p.cls ≠ 3 ∨ t.endA = true → exec (.usbTunnelAttach i q) s = .next s) ∧
  (∀ (s : State) (i : BitVec 14) (q : BitVec 2) (t : Tunnel), s.tunAt i.toNat = some t → t.p.cls = 3 → t.endA = false →
     let st : Nat := s.exportStatus q.toNat t.p.tenant (1, i.toNat)
     let u : State := if st = 0 then s.modDev q.toNat 0 fun d => { d with dock := some (1, i.toNat) } else s
     exec (.usbTunnelAttach i q) s = .next (u.usbPdu i.toNat 2 q.toNat st (u.dk q.toNat).dev.speed [])) ∧
  (∀ (s : State) (i : BitVec 14) (st : Byte) (v : BitVec 2), s.mappedBy i.toNat = [] → exec (.usbTunnelAttachAck i st v) s = .next s ∧ exec (.usbTunnelDetach i st) s = .next s) ∧
  (∀ (s : State) (i : BitVec 14) (v : BitVec 2) (p k : Nat), s.mappedBy i.toNat = [(p, k)] →
     let t : State := s.modMp p k fun m => { m with speed := v.toNat, retry := false }
     let u : State := t.setMp p k ((t.dk p).shownAs v.toNat) 0
     exec (.usbTunnelAttachAck i 0 v) s = .next (((u.tunAt i.toNat).map fun (x : Tunnel) => if x.p.pir = usbPir v.toNat x.p.cir then u
       else u.askRates x { x.p with pir := usbPir v.toNat x.p.cir }).getD u)) ∧
  (∀ (s : State) (i : BitVec 14) (st : Byte) (v : BitVec 2) (p k : Nat), s.mappedBy i.toNat = [(p, k)] → st ≠ 0 →
     exec (.usbTunnelAttachAck i st v) s = .next (((s.modMp p k fun m => { m with tun := none, retry := !(st == 1 || st == 2), barred := st == 1 || st == 2 }).setMp p k
       (if st = 4 then 1 else 4) st.toNat).beginClose i.toNat 0)) ∧
  (∀ (s : State) (i : BitVec 14) (st : Byte) (p k : Nat), s.mappedBy i.toNat = [(p, k)] →
     let t : State := s.setMp p k 1 st.toNat
     exec (.usbTunnelDetach i st) s = .next (if st = 0 then t else (t.modMp p k fun m => { m with tun := none, retry := true }).beginClose i.toNat 0)) ∧
  (∀ (s : State) (i : BitVec 14) (u : Byte) (d : List Byte), u ≠ 4 →
     exec (.usbTunnelPacket i u d) s = .next (if u = 0 ∨ 4 < u.toNat then s.cntK (s.usbPort i.toNat) 3 1 else s)) ∧
  (∀ (s : State) (i : BitVec 14) (d : List Byte) (p k : Nat) (l : List (Nat × Nat)), s.mappedBy i.toNat = (p, k) :: l →
     exec (.usbTunnelPacket i 4 d) s = .next (if ((s.dk p).mp k).st = 2 then s.usbOut p 0 d else s)) ∧
  (∀ (s : State) (i : BitVec 14) (d : List Byte), s.mappedBy i.toNat = [] →
     exec (.usbTunnelPacket i 4 d) s = .next ((List.range 4).foldl (fun (u : State) (p : Nat) => if (u.dk p).dev.dock = some (1, i.toNat) then u.usbOut p 0 d else u) s)) ∧
  (∀ (s : State) (p : Fin 4) (k : BitVec 3) (a b : Bool) (d : List Byte), (s.dk p.val).hubShown = false ∨ k = 0 → exec (.usbLaptopTransaction p k a b d) s = .next s) ∧
  (∀ (s : State) (p : Fin 4) (a b : Bool) (d : List Byte), (s.dk p.val).hubShown = true → (s.dk p.val).netTun = none → exec (.usbLaptopTransaction p 1 a b d) s = .next s) ∧
  (∀ (s : State) (p : Fin 4) (a b : Bool) (d : List Byte) (i : Nat), (s.dk p.val).hubShown = true → (s.dk p.val).netTun = some i →
     exec (.usbLaptopTransaction p 1 a b d) s = .next (if (s.dk p.val).dataInUse.ncmEn = false ∨ b = true ∨ s.tunIsUp i = false then s
       else if isTagged d then s.cntK p.val 4 1 else s.laptopFrame i d)) ∧
  (∀ (s : State) (p : Fin 4) (a : Bool) (d : List Byte) (i : Nat), (s.dk p.val).hubShown = true → (s.dk p.val).netTun = some i → (s.dk p.val).dataInUse.ncmEn = true →
     s.tunIsUp i = true → isTagged d = false → exec (.usbLaptopTransaction p 1 a false d) s = .next (s.laptopFrame i d)) ∧
  (∀ (s : State) (p : Fin 4) (k : BitVec 3) (a b : Bool) (d : List Byte), (s.dk p.val).hubShown = true → 2 ≤ k.toNat →
     let m : Mapped := (s.dk p.val).mp (k.toNat - 2)
     exec (.usbLaptopTransaction p k a b d) s = .next (if m.st ≠ 2 then s
       else if m.map.kind = 1 then (if a then s.usbOut m.map.farPort 0 d else (s.usbOut m.map.farPort 0 d).usbOut p.val 1 [])
       else (m.tun.map fun (i : Nat) => if a then (if b then s.usbOut p.val 0 [] else s.cntK p.val 2 1) else (s.usbPdu i 4 m.map.farPort 0 0 d).usbOut p.val 1 []).getD s)) ∧
  (∀ (s : State) (p : Fin 4) (v : BitVec 2) (e : Bool), (s.dk p.val).data.peripheral = false ∨ (s.dk p.val).attached = false ∨ (s.dk p.val).dfp = false →
     exec (.peripheralEnumerate p v e) s = .next s) ∧
  (∀ (s : State) (p : Fin 4) (v : BitVec 2) (e : Bool), (s.dk p.val).data.peripheral = true → (s.dk p.val).attached = true → (s.dk p.val).dfp = true →
     exec (.peripheralEnumerate p v e) s = .next ((List.range 24).foldl (fun (u : State) (n : Nat) =>
       let m : Mapped := (u.dk (n / 6)).mp (n % 6)
       if m.map.kind = 1 ∧ m.map.farPort = p.val ∧ m.st = 1 then u.connectMp (n / 6) (n % 6) else u)
       (s.modDev p.val 0 fun d => { d with present := true, speed := v.toNat, exportable := e }))) ∧
  (∀ (s : State) (p : Fin 4) (v : BitVec 2) (e : Bool), (s.dk p.val).data.peripheral = true → (s.dk p.val).attached = true → (s.dk p.val).dfp = true →
     (∀ q k, ((s.dk q).mp k).map.kind = 0) →
     exec (.peripheralEnumerate p v e) s = .next (s.modDev p.val 0 fun d => { d with present := true, speed := v.toNat, exportable := e })) ∧
  (∀ (s : State) (p : Fin 4), exec (.deskTunnelRetry p 0) s = .next (if (s.dk p.val).netRetry = true then
       (s.modDk p.val fun x => { x with netRetry := false }).openNet p.val else s)) ∧
  (∀ (s : State) (p : Fin 4), exec (.deskTunnelRetry p 1) s = .next (if (s.dk p.val).vidRetry = true then
       (s.modDk p.val fun x => { x with vidRetry := false }).openVid p.val else s)) ∧
  (∀ (s : State) (p : Fin 4) (k : BitVec 3), 2 ≤ k.toNat → exec (.deskTunnelRetry p k) s = .next (if ((s.dk p.val).mp (k.toNat - 2)).retry = true then
       (s.modMp p.val (k.toNat - 2) fun m => { m with retry := false }).connectMp p.val (k.toNat - 2) else s))

/-- DESK.DATA_STATUS and DESK.BIND. Of the command that runs. DESK_DATA_STATUS returns the role, the mode, the sink, the USB rate, the mapped ports, the
device and the five counters, and with CLEAR sets the counters to 0. DESK_BIND of a PERIPHERAL port is NO_RESOURCE; UNBIND of a port that is not bound
is OK; of a bound one it ends the binding and raises EV207 with flag 0. A binding to a local head whose buffer breaks the rule of a frame buffer is
NO_RESOURCE; any other is bound, with EV207 flag 1, and OK_CLAMPED where its VIDEO was 3. Each completes with its own effect: DESK_DATA_STATUS,
DESK_BIND. (spec/12_desk_data.md: Bindings, spec/12_desk_data.md: Commands) -/
def Obligations.DeskDataCommandsReportAndBind : Prop :=
  (∀ (s : State) (r : Waiting), s.runningOp 0x5002 = some r →
     let x : DeskPort := s.dk (r.f 0 31 30)
     let up : Bool := (x.netTun.map s.tunIsUp).getD false
     exec .deskDataStatus s = .next ((if bitAt (r.w 0) 0 then s.modDk (r.f 0 31 30) fun y => { y with c := Vector.replicate 5 0 } else s).respond (okR
       (pack [(b2n x.roleHeld, 1), (b2n x.alt, 1), (x.pin, 2), (x.sink, 2), (x.dpRate, 3), (x.usb, 3), (b2n x.binding.isSome, 1), (b2n up, 1)] ::
        pack [(x.dev.code, 8), ((x.mp 5).st, 4), ((x.mp 4).st, 4), ((x.mp 3).st, 4), ((x.mp 2).st, 4), ((x.mp 1).st, 4), ((x.mp 0).st, 4)] ::
        pack [(x.srcW, 16), (x.srcH, 16)] :: x.c.toList.map wd)))) ∧
  (∀ (s : State) (r : Waiting), s.runningOp 0x5020 = some r → (s.dk (r.f 0 31 30)).data.peripheral = true → exec .deskBind s = .next (s.respond (failR 0x40))) ∧
  (∀ (s : State) (r : Waiting), s.runningOp 0x5020 = some r → (s.dk (r.f 0 31 30)).data.peripheral = false → bitAt (r.w 0) 29 = true →
     exec .deskBind s = .next ((((s.dk (r.f 0 31 30)).binding.map fun (b : Binding) =>
       (s.rebind (r.f 0 31 30) none).raise 207 [(r.f 0 31 30, 2), (0, 1), (b.tenant, 16)]).getD s).respond (okR []))) ∧
  (∀ (s : State) (r : Waiting), s.runningOp 0x5020 = some r → (s.dk (r.f 0 31 30)).data.peripheral = false → bitAt (r.w 0) 29 = false →
     let b : Binding := readBinding r
     exec .deskBind s = .next (if b.video = 1 ∧ (s.hd b.head.val).cfg.bufferOk b.addr b.stride b.w b.h = false then s.respond (failR 0x40)
       else ((s.rebind (r.f 0 31 30) (some b)).raise 207 [(r.f 0 31 30, 2), (1, 1), (b.tenant, 16)]).respond (okC (r.f 4 31 30 == 3)))) ∧
  (∀ (s : State) (r : Waiting), s.runningOp 0x5020 = some r → (s.dk (r.f 0 31 30)).data.peripheral = false → bitAt (r.w 0) 29 = false →
     (readBinding r).video ≠ 1 →
     exec .deskBind s = .next (((s.rebind (r.f 0 31 30) (some (readBinding r))).raise 207 [(r.f 0 31 30, 2), (1, 1), ((readBinding r).tenant, 16)]).respond
       (okC (r.f 4 31 30 == 3))))

/-- NVMe command fetch, completions, time-outs, storage PDUs and INFO. Of the storage functions. A function that is none, one whose domain is off or with
a reset under way, and any while 256 commands are in progress fetches nothing. An admin command is carried out and posted with its status; Create I/O
CQ and SQ make their queue, an unknown opcode is Invalid Command Opcode. From a queue that is not there nothing is fetched. An I/O command with an
unknown opcode is posted with Invalid Command Opcode, one that is refused with its status; else it gets the lowest free tag and goes over the
namespace's tunnel, with the data of a write or DEALLOCATE, or to this hub's own drive. A completion of a tag that is not in progress, or from another
tunnel, changes nothing; else its CQ entry is posted, what the drive has read decrypted, and a function reset that waited for it ends. A time-out ends
its command with Transient Transport Error and is counted with EV211. A request PDU from a tunnel that is none, of another class or not UP changes
nothing; a reserved operation is counted; a request at end B is carried out: it is answered with Namespace Not Ready while its volume is OFFLINE, with
LBA Out of Range beyond it, else it goes to the drive. INFO at end B is answered with the volume, INFO_ACK sets the namespaces of its volume. The wait
of a function reset ends with EV212. A retry that waits opens the tunnel again. Each completes with its own effect: NVME_COMMAND_FETCH,
STORAGE_COMPLETION, STORAGE_TIMEOUT, STORAGE_PDU_REQUEST, STORAGE_INFO, FLR_WAIT_EXPIRY, STORAGE_TUNNEL_RETRY. (spec/13_storage_ethernet.md: Storage
functions, spec/13_storage_ethernet.md: The storage tunnel, spec/13_storage_ethernet.md: Storage corners) -/
def Obligations.StorageFunctionsRunCommands : Prop :=
  (∀ (s : State) (f : BitVec 5) (q c : BitVec 16) (o fl : Byte) (n x y z : Word) (d : List Word),
     s.isStorFn f.toNat = false ∨ s.domOn 9 = false ∨ (s.sfn f.toNat).flrWait = true ∨ 256 ≤ s.stor.cmds.length → exec (.nvmeCommandFetch f q c o fl n x y z d) s = .next s) ∧
  (∀ (s t : State) (f : BitVec 5) (c : BitVec 16) (o fl : Byte) (n x y z : Word) (d : List Word), s.isStorFn f.toNat = true → s.domOn 9 = true →
     (s.sfn f.toNat).flrWait = false → s.stor.cmds.length < 256 → t = s.modFn f.toNat (fun e => { e with ccEn := true }) →
     let a : State × Option Nat := t.adminCmd f.toNat o.toNat n.toNat x.toNat y.toNat c.toNat
     exec (.nvmeCommandFetch f 0 c o fl n x y z d) s = .next ((a.2.map fun (st : Nat) => a.1.post f.toNat 0 c.toNat st).getD a.1)) ∧
  (∀ (s t : State) (f : BitVec 5) (c : BitVec 16) (fl : Byte) (n x y z : Word) (d : List Word), s.isStorFn f.toNat = true → s.domOn 9 = true →
     (s.sfn f.toNat).flrWait = false → s.stor.cmds.length < 256 → t = s.modFn f.toNat (fun e => { e with ccEn := true }) →
     x.toNat % 65536 ≠ 0 → x.toNat % 65536 ≤ (t.sfn f.toNat).nQueues → (t.sfn f.toNat).hasQueue 0 (x.toNat % 65536) = false →
     x.toNat / 65536 ≠ 0 → x.toNat / 65536 ≤ 1023 → y.toNat / 2 % 2 = 0 →
     exec (.nvmeCommandFetch f 0 c 5 fl n x y z d) s = .next ((t.modFn f.toNat fun v => { v with queues := v.queues ++ [(0, x.toNat % 65536, x.toNat / 65536)] }).post
       f.toNat 0 c.toNat 0)) ∧
  (∀ (s t : State) (f : BitVec 5) (c : BitVec 16) (fl : Byte) (n x y z : Word) (d : List Word), s.isStorFn f.toNat = true → s.domOn 9 = true →
     (s.sfn f.toNat).flrWait = false → s.stor.cmds.length < 256 → t = s.modFn f.toNat (fun e => { e with ccEn := true }) →
     x.toNat % 65536 ≠ 0 → x.toNat % 65536 ≤ (t.sfn f.toNat).nQueues → (t.sfn f.toNat).hasQueue 1 (x.toNat % 65536) = false →
     x.toNat / 65536 ≠ 0 → x.toNat / 65536 ≤ 1023 → (t.sfn f.toNat).hasQueue 0 (y.toNat / 65536) = true →
     exec (.nvmeCommandFetch f 0 c 1 fl n x y z d) s = .next ((t.modFn f.toNat fun v => { v with queues := v.queues ++ [(1, x.toNat % 65536, y.toNat / 65536)] }).post
       f.toNat 0 c.toNat 0)) ∧
  (∀ (s t : State) (f : BitVec 5) (c : BitVec 16) (fl : Byte) (n x y z : Word) (d : List Word), s.isStorFn f.toNat = true → s.domOn 9 = true →
     (s.sfn f.toNat).flrWait = false → s.stor.cmds.length < 256 → t = s.modFn f.toNat (fun e => { e with ccEn := true }) →
     exec (.nvmeCommandFetch f 0 c 0x7F fl n x y z d) s = .next (t.post f.toNat 0 c.toNat stOpcode)) ∧
  (∀ (s t : State) (f : BitVec 5) (q c : BitVec 16) (o fl : Byte) (n x y z : Word) (d : List Word), s.isStorFn f.toNat = true → s.domOn 9 = true →
     (s.sfn f.toNat).flrWait = false → s.stor.cmds.length < 256 → q ≠ 0 → t = s.modFn f.toNat (fun e => { e with ccEn := true }) →
     (t.sfn f.toNat).hasQueue 1 q.toNat = false →
     exec (.nvmeCommandFetch f q c o fl n x y z d) s = .next t) ∧
  (∀ (s t : State) (f : BitVec 5) (q c : BitVec 16) (o fl : Byte) (n x y z : Word) (d : List Word), s.isStorFn f.toNat = true → s.domOn 9 = true →
     (s.sfn f.toNat).flrWait = false → s.stor.cmds.length < 256 → q ≠ 0 → t = s.modFn f.toNat (fun e => { e with ccEn := true }) →
     (t.sfn f.toNat).hasQueue 1 q.toNat = true → ioOp o.toNat = none →
     exec (.nvmeCommandFetch f q c o fl n x y z d) s = .next (t.post f.toNat q.toNat c.toNat stOpcode)) ∧
  (∀ (s t : State) (f : BitVec 5) (q c : BitVec 16) (o fl : Byte) (n x y z : Word) (d : List Word) (op st nlb : Nat), s.isStorFn f.toNat = true → s.domOn 9 = true →
     (s.sfn f.toNat).flrWait = false → s.stor.cmds.length < 256 → q ≠ 0 → t = s.modFn f.toNat (fun e => { e with ccEn := true }) →
     (t.sfn f.toNat).hasQueue 1 q.toNat = true → ioOp o.toNat = some op → nlb = (if op = 4 then x.toNat % 256 else if op = 3 then 0 else z.toNat % 65536) →
     (t.sfn f.toNat).ioRefusal op fl.toNat n.toNat nlb y.toNat = some st →
     exec (.nvmeCommandFetch f q c o fl n x y z d) s = .next (t.post f.toNat q.toNat c.toNat st)) ∧
  (∀ (s t : State) (f : BitVec 5) (q c : BitVec 16) (o fl : Byte) (n x y z : Word) (d : List Word) (op nlb : Nat), s.isStorFn f.toNat = true → s.domOn 9 = true →
     (s.sfn f.toNat).flrWait = false → s.stor.cmds.length < 256 → q ≠ 0 → t = s.modFn f.toNat (fun e => { e with ccEn := true }) →
     (t.sfn f.toNat).hasQueue 1 q.toNat = true → ioOp o.toNat = some op → nlb = (if op = 4 then x.toNat % 256 else if op = 3 then 0 else z.toNat % 65536) →
     (t.sfn f.toNat).ioRefusal op fl.toNat n.toNat nlb y.toNat = none →
     let k : NsMap := (t.sfn f.toNat).nsp (n.toNat - 1)
     let g : Nat := (leastFree (t.stor.cmds.map (·.tag)) 0 257).getD 0
     let lba : Nat := if op = 4 ∨ op = 3 then 0 else x.toNat + 2 ^ 32 * y.toNat
     let u : State := { t with stor.cmds := t.stor.cmds ++ [{ fn := f.toNat, qid := q.toNat, cid := c.toNat, nsid := n.toNat, tag := g, op := op, lba := lba, nlb := nlb }] }
     let w : List Word := if op = 2 ∨ op = 4 then d else []
     exec (.nvmeCommandFetch f q c o fl n x y z d) s = .next ((k.tun.map fun (i : Nat) => u.storPdu i op k.volume g 0 nlb lba [] w).getD
       (u.storRequest none g k.volume op nlb lba w))) ∧
  (∀ (s : State) (i : BitVec 14) (g st : BitVec 16) (d : List Word),
     ((s.stor.cmds.find? fun c => c.tag == g.toNat).any fun (c : StorCmd) => ((s.sfn c.fn).nsp (c.nsid - 1)).tun == some i.toNat) = false →
     exec (.storageCompletion (.tun i) g st d) s = .next s) ∧
  (∀ (s : State) (i : BitVec 14) (g st : BitVec 16) (d : List Word) (c : StorCmd), s.stor.cmds.find? (·.tag == g.toNat) = some c →
     ((s.sfn c.fn).nsp (c.nsid - 1)).tun = some i.toNat →
     let t := s.storAnswer none g.toNat 0 st.toNat 0 0 d
     exec (.storageCompletion (.tun i) g st d) s = .next (if (t.sfn c.fn).flrWait = true ∧ t.inProgress c.fn = 0 then t.endFlr c.fn else t)) ∧
  (∀ (s : State) (i : Option (BitVec 14)) (g st : BitVec 16) (d : List Word), s.stor.reqs.find? (fun r => r.tun == i.map (·.toNat) && r.tag == g.toNat) = none →
     exec (.storageCompletion (.drive i) g st d) s = .next s) ∧
  (∀ (s : State) (i : Option (BitVec 14)) (g st : BitVec 16) (d : List Word) (r : DriveReq),
     s.stor.reqs.find? (fun r => r.tun == i.map (·.toNat) && r.tag == g.toNat) = some r →
     let t : State := { s with stor.reqs := s.stor.reqs.filter fun x => !(x.tun == i.map (·.toNat) && x.tag == g.toNat) }
     let lba : Nat := r.lba - (s.vol r.vol).start
     let plain : List Word := if r.op = 1 then xtsBlocks Config.xtsDec (t.volCipher r.vol).1 (t.volCipher r.vol).2 lba (r.nlb + 1) d else d
     exec (.storageCompletion (.drive i) g st d) s = .next ((List.range 32).foldl (fun (u : State) (f : Nat) =>
       if (u.sfn f).flrWait && u.inProgress f == 0 then u.endFlr f else u) (t.storAnswer (i.map (·.toNat)) r.tag r.vol st.toNat r.nlb lba plain))) ∧
  (∀ (s : State) (g : BitVec 16), s.stor.cmds.find? (·.tag == g.toNat) = none → exec (.storageTimeout g) s = .next s) ∧
  (∀ (s : State) (g : BitVec 16) (c : StorCmd), s.stor.cmds.find? (·.tag == g.toNat) = some c →
     let t := (s.finishCmd c stTransport).modFn c.fn fun x => { x with timeouts := bump x.timeouts }
     let u := { t with stor.reqs := t.stor.reqs.filter fun r => !(r.tun == none && r.tag == g.toNat) }
     exec (.storageTimeout g) s = .next (u.raiseCounted 211 c.fn 1 [(c.fn / 16, 1), (c.fn % 16, 4)] 16 (.tenant (u.fnTenant c.fn)))) ∧
  (∀ (s : State) (i : BitVec 14) (o : Byte) (v : BitVec 4) (g n : BitVec 16) (l : BitVec 64) (d : List Word) (a : Option (Byte × Byte × BitVec 64)),
     (s.tunAt i.toNat).any (fun t => t.p.cls == 4 && t.st == .up) = false →
     exec (.storagePduRequest i o v g n l d) s = .next s ∧ exec (.storageInfo i v a) s = .next s) ∧
  (∀ (s : State) (i : BitVec 14) (o : Byte) (v : BitVec 4) (g n : BitVec 16) (l : BitVec 64) (d : List Word) (t : Tunnel), s.tunAt i.toNat = some t →
     t.p.cls = 4 → t.st = .up → o = 0 ∨ (6 < o.toNat ∧ o ≠ 0x81 ∧ o ≠ 0x86) →
     exec (.storagePduRequest i o v g n l d) s = .next (if t.endA then (s.nsBy i.toNat).foldl (fun (u : State) (x : Nat × Nat) =>
       u.modFn x.1 fun y => { y with bad := bump y.bad }) s else { s with stor.bad := bump s.stor.bad })) ∧
  (∀ (s : State) (i : BitVec 14) (o : Byte) (v : BitVec 4) (g n : BitVec 16) (l : BitVec 64) (d : List Word) (t : Tunnel), s.tunAt i.toNat = some t →
     t.p.cls = 4 → t.st = .up → (t.endA = true ∧ 1 ≤ o.toNat ∧ o.toNat ≤ 6) ∨ o = 6 ∨ o = 0x81 ∨ o = 0x86 →
     exec (.storagePduRequest i o v g n l d) s = .next s) ∧
  (∀ (s : State) (i : BitVec 14) (o : Byte) (v : BitVec 4) (g n : BitVec 16) (l : BitVec 64) (d : List Word) (t : Tunnel), s.tunAt i.toNat = some t →
     t.p.cls = 4 → t.st = .up → t.endA = false → 1 ≤ o.toNat → o.toNat ≤ 5 →
     exec (.storagePduRequest i o v g n l d) s = .next (s.storRequest (some i.toNat) g.toNat v.toNat o.toNat n.toNat l.toNat d)) ∧
  (∀ (s : State) (i : BitVec 14) (o : Byte) (v : BitVec 4) (g n : BitVec 16) (l : BitVec 64) (d : List Word) (t : Tunnel), s.tunAt i.toNat = some t →
     t.p.cls = 4 → t.st = .up → t.endA = false → 1 ≤ o.toNat → o.toNat ≤ 5 →
     (s.vol v.toNat).online = false ∨ (s.vol v.toNat).beyond o.toNat n.toNat l.toNat d = true →
     exec (.storagePduRequest i o v g n l d) s = .next (s.storPdu i.toNat 0x81 v.toNat g.toNat (if (s.vol v.toNat).online then stRange else stNotReady) n.toNat l.toNat [] [])) ∧
  (∀ (s : State) (i : BitVec 14) (v : BitVec 4) (t : Tunnel), s.tunAt i.toNat = some t → t.p.cls = 4 → t.st = .up →
     let u := { s with stor.asked := (i.toNat, v.toNat) :: s.stor.asked.filter (· != (i.toNat, v.toNat)) }
     exec (.storageInfo i v none) s = .next (if t.endA then s else u.storPdu i.toNat 0x86 v.toNat 0 0 0 0 (u.volInfo v.toNat) [])) ∧
  (∀ (s : State) (i : BitVec 14) (v : BitVec 4) (t : Tunnel) (st lb : Byte) (n : BitVec 64), s.tunAt i.toNat = some t → t.p.cls = 4 → t.st = .up →
     exec (.storageInfo i v (some (st, lb, n))) s = .next ((s.nsBy i.toNat).foldl (fun (u : State) (x : Nat × Nat) => if ((u.sfn x.1).nsp x.2).volume = v.toNat then
       (u.modNs x.1 x.2 fun y => { y with lbads := lb.toNat, count := n.toNat }).setNs x.1 x.2 (st == 0) else u) s)) ∧
  (∀ (s : State) (f : BitVec 5), exec (.flrWaitExpiry f) s = .next (if (s.sfn f.toNat).flrWait then
     (({ s with stor.cmds := s.stor.cmds.filter fun c => c.fn != f.toNat } : State).modFn f.toNat fun x => { x with flrWait := false }).raise 212
       [(f.toNat / 16, 1), (f.toNat % 16, 4), (s.inProgress f.toNat, 16)] else s)) ∧
  (∀ (s : State) (f : BitVec 5) (k : Fin 16), exec (.storageTunnelRetry f k) s =
     .next (if ((s.sfn f.toNat).nsp k.val).retry = true then s.openNs f.toNat k.val else s))

/-- Links of PCIe ports, drives that come, fail and go, STOR.STATUS and STOR.DRIVE. Of a PCIe port. A drive of a port that is no root port, or whose
domain is off, is not taken; one that links up in ABSENT or FAILED enters INIT and, with its Identify data, READY; in READY nothing changes. One not
ready in time is FAILED. A drive that is gone is ABSENT, loses its volumes and all that was known of it; one that reports a fatal status in INIT or
READY is FAILED and loses its volumes. A link change records the generation, at most MAX_GEN, and the lanes, and of a root port's lost link the drive
is gone; of a port that is off nothing changes. STOR_STATUS returns the function's words, or zeros for a function that the mailbox may not name;
STOR_DRIVE the drive's. Each completes with its own effect: DRIVE_LINK_UP, DRIVE_READY_TIMEOUT, DRIVE_LINK_DOWN, DRIVE_FATAL_STATUS, PCIE_LINK_CHANGE,
STOR_STATUS, STOR_DRIVE. (spec/13_storage_ethernet.md: PCIe ports, spec/13_storage_ethernet.md: Storage corners, spec/13_storage_ethernet.md:
Commands) -/
def Obligations.DrivesAndPcieLinksChange : Prop :=
  (∀ (s : State) (p : Fin 2) (g l : BitVec 3) (i : Option DriveIdent), (s.pp p.val).cfg.mode ≠ 1 ∨ s.domOn 9 = false → exec (.driveLinkUp p g l i) s = .next s) ∧
  (∀ (s : State) (p : Fin 2) (g l : BitVec 3) (i : Option DriveIdent), (s.pp p.val).cfg.mode = 1 → s.domOn 9 = true →
     let t : State := if (s.pp p.val).drive.st = .absent ∨ (s.pp p.val).drive.st = .failed then (s.modPp p.val fun x =>
       { x with linkGen := Nat.min g.toNat x.cfg.maxGen, lanes := l.toNat, drive.shn := false }).setDrive p.val .init else s
     exec (.driveLinkUp p g l i) s = .next ((i.map fun (y : DriveIdent) => if (t.pp p.val).drive.st = .init then ((t.modPp p.val fun x =>
       { x with drive.ns := y.ns, drive.used := y.used, drive.warning := y.warning }).setDrive p.val .ready).refreshVols p.val true else t).getD t)) ∧
  (∀ (s : State) (p : Fin 2) (g l : BitVec 3) (i : DriveIdent), (s.pp p.val).cfg.mode = 1 → s.domOn 9 = true → (s.pp p.val).drive.st = .init →
     exec (.driveLinkUp p g l (some i)) s = .next (((s.modPp p.val fun x =>
       { x with drive.ns := i.ns, drive.used := i.used, drive.warning := i.warning }).setDrive p.val .ready).refreshVols p.val true)) ∧
  (∀ (s : State) (p : Fin 2), exec (.driveReadyTimeout p) s = .next (if (s.pp p.val).drive.st = .init then s.setDrive p.val .failed else s)) ∧
  (∀ (s : State) (p : Fin 2), exec (.driveLinkDown p) s = .next (if (s.pp p.val).drive.st = .absent then s
     else ((s.setDrive p.val .absent).driveLost p.val).modPp p.val fun x => { x with linkGen := 0, lanes := 0, drive.ns := [], drive.shn := false })) ∧
  (∀ (s : State) (p : Fin 2), exec (.driveFatalStatus p) s = .next (if (s.pp p.val).drive.st = .ready ∨ (s.pp p.val).drive.st = .init then
     (s.setDrive p.val .failed).driveLost p.val else s)) ∧
  (∀ (s : State) (p : Fin 2) (g l : BitVec 3), (s.pp p.val).cfg.mode = 2 ∨ s.domOn 9 = false → exec (.pcieLinkChange p g l) s = .next s) ∧
  (∀ (s : State) (p : Fin 2) (g l : BitVec 3), (s.pp p.val).cfg.mode ≠ 2 → s.domOn 9 = true →
     let k : Nat := Nat.min g.toNat (s.pp p.val).cfg.maxGen
     let t : State := s.modPp p.val fun x => { x with linkGen := k, lanes := if k = 0 then 0 else l.toNat }
     exec (.pcieLinkChange p g l) s = .next (if k = 0 ∧ (s.pp p.val).cfg.mode = 1 then t.driveGone p.val else t)) ∧
  (∀ (s : State) (r : Waiting), s.runningOp 0x5801 = some r → s.seesFn r.src (r.f 0 31 31 * 16 + r.f 0 30 27) = false →
     exec .storStatus s = .next (s.respond (okR (List.replicate 4 0)))) ∧
  (∀ (s : State) (r : Waiting), s.runningOp 0x5801 = some r → s.seesFn r.src (r.f 0 31 31 * 16 + r.f 0 30 27) = true →
     let f := r.f 0 31 31 * 16 + r.f 0 30 27
     let ready := (List.range 16).foldl (fun a k => a + b2n ((s.sfn f).nsp k).ready * 2 ^ k) 0
     exec .storStatus s = .next (s.respond (okR [pack [(ready, 16), (s.inProgress f, 16)], wd (s.sfn f).timeouts, wd (s.sfn f).bad, wd (s.sfn f).done]))) ∧
  (∀ (s : State) (r : Waiting), s.runningOp 0x5802 = some r →
     let p := r.f 0 31 31
     let online := (List.range 16).foldl (fun a v => a + b2n ((s.vol v).online && (s.vol v).port.val == p) * 2 ^ v) 0
     exec .storDrive s = .next (s.respond (okR [pack [((s.pp p).drive.st.code, 4), ((s.pp p).linkGen, 3), ((s.pp p).lanes, 3), (0, 6), (online, 16)],
       wd (s.pp p).drive.ns.length, wd (s.pp p).drive.used, wd (s.pp p).drive.warning])))

/-- Links, frames, learning and PTP of Ethernet ports, ETH.STATUS and ETH.FLUSH. Of an Ethernet port. A port that is off changes nothing; a signal of a
speed that its mode allows brings it up, another leaves it down with cause 1, none takes it down. On a port that is down a frame is lost; one of less
than 64 or more than MAX_FRAME bytes or with a bad FCS is counted as an error; else it is counted as received: a PAUSE frame stops a port with
PAUSE_EN for its time, one with no VLAN map is counted and reported with EV219, and another is bridged without its tag, an untagged or priority-tagged
one under PVID. A frame from a tunnel of class 5 that ends here and whose group is mapped is bridged, any other lost. An aged entry is forgotten. A
MASTER port that is up sends Announce and Sync with the time, corrected by its latency, unless time is UNSET. A port that is down, without PTP, or of
another domain hears no message. A MASTER answers Delay_Req end to end and Pdelay_Req under P2P. Else an Announce is kept and the best master chosen,
and the port that feeds the servo takes its master's Syncs, one-step or with Follow_Up, and the answers to its own delay requests, which set the path
delay. ETH_STATUS returns the port's words and with CLEAR its counters go to 0; ETH_FLUSH forgets the group's entries, all for group 0. Each completes
with its own effect: ETH_LINK_CHANGE, ETH_FRAME_RECEIVE, ETH_LEARN_AGE, PTP_SYNC_SEND, PTP_MESSAGE_RECEIVE, ETH_STATUS, ETH_FLUSH.
(spec/13_storage_ethernet.md: Ethernet ports, spec/13_storage_ethernet.md: VLANs and network tunnels, spec/13_storage_ethernet.md: PTP on E ports,
spec/13_storage_ethernet.md: Commands) -/
def Obligations.EthernetPortsBridgeAndTime : Prop :=
  (∀ (s : State) (p : Fin 4) (v : Option (Fin 6)), (s.ep p.val).cfg.mode = 0 ∨ s.domOn 11 = false → exec (.ethLinkChange p v) s = .next s) ∧
  (∀ (s : State) (p : Fin 4), (s.ep p.val).cfg.mode ≠ 0 → s.domOn 11 = true →
     exec (.ethLinkChange p none) s = .next (if (s.ep p.val).up then s.setEth p.val false (s.ep p.val).speed 0 else s)) ∧
  (∀ (s : State) (p : Fin 4) (v : Fin 6), (s.ep p.val).cfg.mode ≠ 0 → s.domOn 11 = true →
     exec (.ethLinkChange p (some v)) s = .next (if speedOk (s.ep p.val).cfg.mode v.val then
         (if (s.ep p.val).up = true ∧ (s.ep p.val).speed = v.val then s else s.setEth p.val true v.val 0)
       else s.setEth p.val false (s.ep p.val).speed 1)) ∧
  (∀ (s : State) (p : Fin 4) (v : Fin 6), (s.ep p.val).cfg.mode ≠ 0 → s.domOn 11 = true → (s.ep p.val).up = false → speedOk (s.ep p.val).cfg.mode v.val = true →
     exec (.ethLinkChange p (some v)) s = .next (s.setEth p.val true v.val 0)) ∧
  (∀ (s : State) (p : Fin 4) (c : Bool) (f : List Byte), (s.ep p.val).up = false ∨ s.domOn 11 = false → exec (.ethFrameReceive (.port p c) f) s = .next s) ∧
  (∀ (s : State) (p : Fin 4) (c : Bool) (f : List Byte), (s.ep p.val).up = true → s.domOn 11 = true →
     c = false ∨ f.length + 4 < 64 ∨ (s.ep p.val).cfg.maxFrame < f.length + 4 →
     exec (.ethFrameReceive (.port p c) f) s = .next (s.modEp p.val fun x => { x with rxErr := bump x.rxErr })) ∧
  (∀ (s : State) (p : Fin 4) (f : List Byte) (n : Nat), (s.ep p.val).up = true → s.domOn 11 = true → 64 ≤ f.length + 4 → f.length + 4 ≤ (s.ep p.val).cfg.maxFrame →
     (s.ep p.val).cfg.pauseEn = true → pauseTime f = some n →
     exec (.ethFrameReceive (.port p true) f) s = .next (((s.modEp p.val fun x => { x with received := bump x.received }).modEp p.val fun x =>
       { x with pausedTo := s.clockNs + n * 512000 / ethMbps (s.ep p.val).speed }).ethResume p)) ∧
  (∀ (s : State) (p : Fin 4) (f : List Byte) (v : Nat), (s.ep p.val).up = true → s.domOn 11 = true → 64 ≤ f.length + 4 → f.length + 4 ≤ (s.ep p.val).cfg.maxFrame →
     (s.ep p.val).cfg.pauseEn = false ∨ pauseTime f = none →
     v = (if frHalf f 12 = 0x8100 ∧ frHalf f 14 % 4096 ≠ 0 then frHalf f 14 % 4096 else (s.ep p.val).cfg.pvid) →
     s.eth.maps.find? (fun m => m.port == p && m.vid == v) = none →
     exec (.ethFrameReceive (.port p true) f) s = .next
       (((s.modEp p.val fun x => { x with received := bump x.received }).modEp p.val fun x => { x with vlanDrop := bump x.vlanDrop }).raiseCounted 219 p.val 1
         [(p.val, 2)] 16)) ∧
  (∀ (s : State) (p : Fin 4) (f : List Byte) (v : Nat) (m : VlanMap), (s.ep p.val).up = true → s.domOn 11 = true → 64 ≤ f.length + 4 →
     f.length + 4 ≤ (s.ep p.val).cfg.maxFrame → (s.ep p.val).cfg.pauseEn = false ∨ pauseTime f = none →
     v = (if frHalf f 12 = 0x8100 ∧ frHalf f 14 % 4096 ≠ 0 then frHalf f 14 % 4096 else (s.ep p.val).cfg.pvid) →
     s.eth.maps.find? (fun m => m.port == p && m.vid == v) = some m →
     exec (.ethFrameReceive (.port p true) f) s = .next ((s.modEp p.val fun x => { x with received := bump x.received }).bridgeDown m
       (if frHalf f 12 = 0x8100 then f.take 12 ++ f.drop 16 else f))) ∧
  (∀ (s : State) (i : BitVec 14) (f : List Byte), s.tunAt i.toNat = none → exec (.ethFrameReceive (.tun i) f) s = .next s) ∧
  (∀ (s : State) (i : BitVec 14) (f : List Byte) (t : Tunnel), s.tunAt i.toNat = some t →
     exec (.ethFrameReceive (.tun i) f) s = .next (((s.eth.maps.find? fun m => m.group == t.p.farEp).map fun (m : VlanMap) =>
       if t.p.cls = 5 ∧ t.endA = false then s.bridgeUp t m f else s).getD s)) ∧
  (∀ (s : State) (g : BitVec 24) (m : BitVec 48), exec (.ethLearnAge g m) s = .next (s.forget fun l => l.group == g.toNat && l.mac == m.toNat)) ∧
  (∀ (s : State) (p : Fin 4), (s.ep p.val).up = false ∨ (s.ep p.val).cfg.ptpRole ≠ 1 ∨ s.time.st = .unset → exec (.ptpSyncSend p) s = .next s) ∧
  (∀ (s t : State) (p : Fin 4) (ws : List Nat), (s.ep p.val).up = true → (s.ep p.val).cfg.ptpRole = 1 → s.time.st ≠ .unset → s.announced = (t, ws) →
     exec (.ptpSyncSend p) s = .next (((t.sendPtp p 11 ws).sendPtp p 0 [(s.ep p.val).syncSeq, (t.txTime p.val / 65536).toNat, corrField (t.txTime p.val % 65536)]).modEp p.val
       fun x => { x with syncSeq := (x.syncSeq + 1) % 65536 })) ∧
  (∀ (s : State) (p : Fin 4) (d : Byte) (m : PtpMsg), (s.ep p.val).up = false ∨ (s.ep p.val).cfg.ptpRole = 0 ∨ d.toNat ≠ (s.ep p.val).cfg.domain →
     exec (.ptpMessageReceive p d m) s = .next s) ∧
  (∀ (s : State) (p : Fin 4) (d : Byte) (m : PtpMsg), (s.ep p.val).up = true → (s.ep p.val).cfg.ptpRole = 1 → d.toNat = (s.ep p.val).cfg.domain →
     exec (.ptpMessageReceive p d m) s = .next (s.masterAnswers p m)) ∧
  (∀ (s : State) (p : Fin 4) (d : Byte) (q : BitVec 16) (c : Int), (s.ep p.val).up = true → (s.ep p.val).cfg.ptpRole = 1 →
     d.toNat = (s.ep p.val).cfg.domain →
     exec (.ptpMessageReceive p d (.delayReq q c)) s = .next (if (s.ep p.val).cfg.p2p then s
       else s.sendPtp p 9 [q.toNat, (s.rxTime p.val / 65536).toNat, corrField (c - s.rxTime p.val % 65536)]) ∧
     exec (.ptpMessageReceive p d (.pdelayReq q c)) s = .next (if (s.ep p.val).cfg.p2p then s.draw.2.sendPtp p 3 [q.toNat, 0,
         corrField (c + ((s.ep p.val).cfg.rxLat + (s.ep p.val).cfg.txLat) * 65536 + (s.draw.1.toNat : Int))] else s)) ∧
  (∀ (s : State) (p : Fin 4) (d : Byte) (m : PtpMaster), (s.ep p.val).up = true → (s.ep p.val).cfg.ptpRole ≠ 0 → (s.ep p.val).cfg.ptpRole ≠ 1 →
     d.toNat = (s.ep p.val).cfg.domain →
     let ms := m :: (s.ep p.val).masters.filter (·.identity != m.identity)
     exec (.ptpMessageReceive p d (.announce m)) s = .next ((s.modEp p.val fun x => { x with masters := ms, master := bestMaster ms }).refreshPtp p.val)) ∧
  (∀ (s : State) (p : Fin 4) (d : Byte) (m : PtpMsg), (s.ep p.val).up = true → (s.ep p.val).cfg.ptpRole ≠ 0 → (s.ep p.val).cfg.ptpRole ≠ 1 →
     d.toNat = (s.ep p.val).cfg.domain → (∀ a, m ≠ .announce a) →
     exec (.ptpMessageReceive p d m) s = .next (if s.feedsServo p.val then s.slaveTakes p m else s)) ∧
  (∀ (s : State) (p : Fin 4) (d : Byte) (i t1 : Nat) (q : BitVec 16) (two : Bool) (c : Int), (s.ep p.val).up = true → (s.ep p.val).cfg.ptpRole ≠ 0 →
     (s.ep p.val).cfg.ptpRole ≠ 1 → d.toNat = (s.ep p.val).cfg.domain →
     exec (.ptpMessageReceive p d (.sync i q two t1 c)) s = .next (if s.feedsServo p.val = false ∨ (s.ep p.val).master.map (·.identity) ≠ some i then s
       else if two then s.modEp p.val fun x => { x with syncIn := some (q.toNat, i, s.rxTime p.val, c) } else s.takeSync p (s.rxTime p.val) t1 c)) ∧
  (∀ (s : State) (p : Fin 4) (d : Byte) (i t1 k : Nat) (q : BitVec 16) (c c0 t2 : Int), (s.ep p.val).up = true → (s.ep p.val).cfg.ptpRole ≠ 0 →
     (s.ep p.val).cfg.ptpRole ≠ 1 → d.toNat = (s.ep p.val).cfg.domain → s.feedsServo p.val = true → (s.ep p.val).syncIn = some (k, i, t2, c0) →
     exec (.ptpMessageReceive p d (.followUp i q t1 c)) s = .next (if k = q.toNat then s.takeSync p t2 t1 (c0 + c) else s)) ∧
  (∀ (s : State) (p : Fin 4) (d : Byte) (t4 : Nat) (q : BitVec 16) (c t3 : Int), (s.ep p.val).up = true → (s.ep p.val).cfg.ptpRole ≠ 0 →
     (s.ep p.val).cfg.ptpRole ≠ 1 → d.toNat = (s.ep p.val).cfg.domain → s.feedsServo p.val = true → (s.ep p.val).reqAt = some t3 → (s.ep p.val).cfg.p2p = false →
     q.toNat = (s.ep p.val).reqSeq →
     exec (.ptpMessageReceive p d (.delayResp q t4 c)) s = .next (s.modEp p.val fun x => { x with
       reqAt := none, pdIn := none, pathDelay := ((s.ep p.val).syncDiff + (t4 * 65536 - t3 - c)) / 2 })) ∧
  (∀ (s : State) (r : Waiting), s.runningOp 0x5901 = some r →
     let p := r.f 0 31 30
     let ports := (s.eth.maps.filter fun (m : VlanMap) => m.port.val == p).map fun (m : VlanMap) => m.group
     exec .ethStatus s = .next ((if bitAt (r.w 0) 0 then s.modEp p fun x => { x with rxErr := 0, vlanDrop := 0, sent := 0, received := 0 } else s).respond
       (okR [pack [(b2n (s.ep p).up, 1), ((s.ep p).speed, 4), ((s.ep p).cfg.ptpRole, 2), ((s.ep p).ptp, 4)], wd (s.ep p).rxErr, wd (s.ep p).vlanDrop,
         wd (s.eth.learn.filter fun (l : Learnt) => ports.contains l.group).length, wd (s.ep p).sent, wd (s.ep p).received]))) ∧
  (∀ (s : State) (r : Waiting), s.runningOp 0x5910 = some r →
     let gone : Learnt → Bool := fun l => r.f 0 23 0 == 0 || l.group == r.f 0 23 0
     exec .ethFlush s = .next ((s.forget gone).respond (okR [wd (s.eth.learn.filter gone).length])))

/-- Tamper alarms, the end of an unstable input, record copies, KEY.TAMPER and the lapse of a lifecycle arm. Of the tamper sources. While the supply is
off, of an input that is not enabled, of a source that is still active or of an unstable input an alarm changes nothing; another is taken. The end of
an unstable input makes it stable and inactive and forgets its alarms, with EV243; of a stable input it changes nothing. A source that goes inactive
is no longer active, unless it is an unstable input. The oldest record that is not copied goes to the persistent log as CLASS 12 and is marked while
DOM_MGMT is on; else nothing changes. KEY.TAMPER returns the state, the unstable inputs, whether the vault is locked, the count and the records from
the index named on; before that, ACTION 1 clears an alarm all of whose sources are inactive, and ACTION 2 erases the records while no alarm stands.
The lifecycle arm lapses unless the change has begun. Each completes with its own effect: TAMPER_ALARM, TAMPER_UNSTABLE_END, TAMPER_SOURCE_INACTIVE,
TAMPER_RECORD_COPY, KEY_TAMPER, LIFECYCLE_ARM_LAPSE. (spec/15_security.md: Lifecycle, spec/15_security.md: Tamper, spec/15_security.md: Commands) -/
def Obligations.TamperAlarmsAreTakenAndRecorded : Prop :=
  (∀ (s : State) (n : Fin 7), exec (.tamperAlarm n) s = .next (if s.sys.stage = .off ∨ (n.val < 4 ∧ s.vault.cfg.en.testBit n.val = false) ∨
     s.vault.active.getD n.val false = true ∨ s.vault.unstable.getD n.val false = true then s else s.alarm n.val)) ∧
  (∀ (s : State) (n : Fin 4), exec (.tamperUnstableEnd n) s = .next (if s.vault.unstable.getD n.val false = true then
     ({ s with vault.unstable := modAt s.vault.unstable n.val fun _ => false, vault.active := modAt s.vault.active n.val fun _ => false,
                    vault.alarmAt := modAt s.vault.alarmAt n.val fun _ => [] } : State).raiseOrHold 243 [(n.val, 2), (0, 1)] else s)) ∧
  (∀ (s : State) (n : Fin 7), exec (.tamperSourceInactive n) s = .next (if s.vault.unstable.getD n.val false = true then s
     else { s with vault.active := modAt s.vault.active n.val fun _ => false })) ∧
  (∀ (s : State), s.vault.log.all (·.copied) = true ∨ s.domOn 2 = false → exec .tamperRecordCopy s = .next s) ∧
  (∀ (s : State) (x : TamperRec), (s.vault.log.filter fun r => !r.copied).getLast? = some x → s.domOn 2 = true → exec .tamperRecordCopy s =
     .next ({ s with vault.log := markCopied s.vault.log, diag.nextSeq := s.diag.nextSeq + 1 }.plogAdd {
       cls := 12, unit := x.source, outcome := 4, event := 242, detail := x.whn * 16 + x.response, stamp := x.stamp, aonS := x.aonS,
       boots := s.diag.boots, seq := s.diag.nextSeq })) ∧
  (∀ (s t : State) (r : Waiting), s.runningOp 0x7040 = some r →
     t = (if r.f 0 3 0 = 1 ∧ s.alarmState = 2 then s.clearAlarm else if r.f 0 3 0 = 2 ∧ s.alarmState = 0 then { s with vault.log := [] } else s) →
     let rs := t.vault.log.drop (r.f 0 7 4)
     exec .keyTamper s = .next (t.respond (okR (pack [(t.alarmState, 8), (0, 4), (maskBits t.vault.unstable.toList, 4), (b2n t.vault.locked, 8), (rs.length, 8)] ::
       wd t.vault.cTamper :: (rs.map TamperRec.words).flatten)))) ∧
  (∀ (s : State), exec .lifecycleArmLapse s = .next (if s.vault.changing = true then s else { s with vault.arm := none }))

/-- KEY.STATUS, SLOT, MEASURE, ATTEST, CERTS, EXTEND, SIGN, CSR and CERT_SET. Of the command that runs. KEY.STATUS returns the lifecycle, whether the
vault is locked, the BAD slots (none to a tenant) and the time skips. Every other command here, and every other key operation, is VAULT_FAULT (0x70)
while the vault is locked. KEY.SLOT returns the slot's meta and public words after its tag is checked, NO_RESOURCE (0x40) for slot 96 and above.
KEY.MEASURE returns the eight registers; KEY.CERTS the block named: operational, intermediate, attestation, device. KEY.EXTEND extends M7. KEY.ATTEST
with slot 50 not VALID is VAULT_FAULT, else it returns the quote with slot 50's signature over its SHA-384. KEY.SIGN with a BAD slot is VAULT_FAULT,
with a slot that is no VALID signing key of KIND 4 NO_RESOURCE, else the slot's signature over the digest given. KEY.CSR is VAULT_FAULT when slot 1 is
BAD, NO_RESOURCE when it is EMPTY, else a CERT block. KEY.CERT_SET stores an intermediate as given; an operational certificate that fails a check is
not installed and the check's code returned; one that passes is installed, and a hub that is not joined to the upstream it has then asks to join. Each
completes with its own effect: KEY_STATUS, KEY_SLOT, KEY_MEASURE, KEY_ATTEST, KEY_CERTS, KEY_EXTEND, KEY_SIGN, KEY_CSR, KEY_CERT_SET.
(spec/15_security.md: Measurements and derivation, spec/15_security.md: Certificates, spec/15_security.md: Attestation, spec/15_security.md: Commands) -/
def Obligations.VaultCommandsReportMeasureAndAttest : Prop :=
  (∀ (s : State) (r : Waiting), s.runningOp 0x7001 = some r →
     let bad := fun (ns : List Nat) => if s.srcTenant r.src = none then wd (maskBits (ns.map fun n => (s.slot n).st == .bad)) else wd 0
     exec .keyStatus s = .next (s.respond (okR [pack [(s.lifecycle.code, 8), (s.lcGen, 8), (b2n s.vault.locked, 8), (0, 8)], bad (List.range 32),
       bad ((List.range 16).map (· + 32) ++ (List.range 16).map (· + 56)), wd s.vault.timeSkip]))) ∧
  (∀ (s : State) (r : Waiting) (i : Instr) (o : Nat) (c : Cert), s.vault.locked = true → s.runningOp o = some r →
     (i, o) ∈ [(Instr.keySlot, 0x7002), (.keyMeasure, 0x7003), (.keyAttest, 0x7004), (.keyCerts, 0x7005), (.keyGenerate, 0x7010), (.keyPut, 0x7011),
       (.keyDerive, 0x7012), (.keyErase, 0x7013), (.keyExtend, 0x7014), (.keySign, 0x7015), (.keyCsr, 0x7020), (.keyCertSet c, 0x7021), (.keyDeny, 0x7022)] →
     exec i s = .next (s.respond (failR 0x70))) ∧
  (∀ (s : State) (r : Waiting), s.runningOp 0x7002 = some r → s.vault.locked = false →
     let t := s.checkSlot (r.f 0 6 0)
     exec .keySlot s = .next (if 96 ≤ r.f 0 6 0 then s.respond (failR 0x40)
       else t.respond (okR ((t.slot (r.f 0 6 0)).meta8 ++ (t.slot (r.f 0 6 0)).public13)))) ∧
  (∀ (s : State) (r : Waiting), s.runningOp 0x7003 = some r → s.vault.locked = false → exec .keyMeasure s = .next (s.respond (okR s.vault.m.toList.flatten))) ∧
  (∀ (s t : State) (r : Waiting), s.runningOp 0x7004 = some r → s.vault.locked = false → t = s.checkSlot 50 → (t.slot 50).st ≠ .valid →
     exec .keyAttest s = .next (t.respond (failR 0x70))) ∧
  (∀ (s t : State) (r : Waiting), s.runningOp 0x7004 = some r → s.vault.locked = false → t = s.checkSlot 50 → (t.slot 50).st = .valid →
     let quote : List Word := [pack [(t.lifecycle.code, 8), (t.lcGen, 8), (r.f 0 7 0, 8), (0, 7), (b2n (t.vault.alarm.toList.any id), 1)], pack [(t.sys.hubId, 16), (0, 16)]] ++
       wd2 t.now.toNat ++ ((List.range 8).map fun (i : Nat) => r.w (i + 1)) ++
       (((List.range 8).filter fun (i : Nat) => (r.f 0 7 0).testBit i).flatMap fun (i : Nat) => t.vault.m.getD i [])
     let x : List Word × State := t.signWith 50 (Config.sha384 quote)
     exec .keyAttest s = .next (x.2.respond (okR (quote ++ x.1)))) ∧
  (∀ (s : State) (r : Waiting), s.runningOp 0x7005 = some r → s.vault.locked = false →
     exec .keyCerts s = .next (s.respond (okR (certBlock (if r.f 0 1 0 = 0 then s.vault.certs[0] else if r.f 0 1 0 = 1 then s.vault.certs[1]
       else if r.f 0 1 0 = 2 then s.vault.attCert else s.vault.devCert))))) ∧
  (∀ (s : State) (r : Waiting), s.runningOp 0x7014 = some r → s.vault.locked = false →
     exec .keyExtend s = .next ({ s with vault.m := modAt s.vault.m 7 fun m => wordsLE (bytesBE (Config.sha384 (m ++ r.data)) 48) }.respond (okR []))) ∧
  (∀ (s t : State) (r : Waiting) (n : Nat), s.runningOp 0x7015 = some r → s.vault.locked = false → n = r.f 0 6 0 → t = s.checkSlot n → (t.slot n).st = .bad →
     exec .keySign s = .next (t.respond (failR 0x70))) ∧
  (∀ (s t : State) (r : Waiting) (n : Nat), s.runningOp 0x7015 = some r → s.vault.locked = false → n = r.f 0 6 0 → t = s.checkSlot n → (t.slot n).st ≠ .bad →
     96 ≤ n ∨ (t.slot n).st ≠ .valid ∨ (t.slot n).kind ≠ 4 ∨ (t.slot n).usage.testBit 5 = false → exec .keySign s = .next (t.respond (failR 0x40))) ∧
  (∀ (s t : State) (r : Waiting) (n : Nat), s.runningOp 0x7015 = some r → s.vault.locked = false → n = r.f 0 6 0 → t = s.checkSlot n → n < 96 →
     (t.slot n).st = .valid → (t.slot n).kind = 4 → (t.slot n).usage.testBit 5 = true →
     let x : List Word × State := t.signWith n (BitVec.ofNat 384 (bytesNum (memBytes (r.data.drop 1))))
     exec .keySign s = .next (x.2.respond (okR x.1))) ∧
  (∀ (s t : State) (r : Waiting), s.runningOp 0x7020 = some r → s.vault.locked = false → t = s.checkSlot 1 → exec .keyCsr s = .next (
     if (t.slot 1).st = .bad then t.respond (failR 0x70) else if (t.slot 1).st = .empty then t.respond (failR 0x40)
     else { t with free := t.free + 1 }.respond (okR (certBlock { len := (Config.freeValue t.free).toNat % 2049, words := Config.freeWords t.free })))) ∧
  (∀ (s : State) (r : Waiting) (c : Cert), s.runningOp 0x7021 = some r → s.vault.locked = false → bitAt (r.w 0) 0 = true →
     exec (.keyCertSet c) s = .next ({ s with vault.certs := modAt s.vault.certs 1 fun _ => { c with len := (r.w 1).toNat, words := r.data.drop 2 } }.respond (okR [0]))) ∧
  (∀ (s : State) (r : Waiting) (c d : Cert) (x : State × Nat), s.runningOp 0x7021 = some r → s.vault.locked = false → bitAt (r.w 0) 0 = false →
     d = { c with len := (r.w 1).toNat, words := r.data.drop 2 } → x = s.checkCert d s.sys.hubId → x.2 ≠ 0 →
     exec (.keyCertSet c) s = .next (x.1.respond (okR [pack [(x.2, 8)]]))) ∧
  (∀ (s : State) (r : Waiting) (c d : Cert) (x : State × Nat), s.runningOp 0x7021 = some r → s.vault.locked = false → bitAt (r.w 0) 0 = false →
     d = { c with len := (r.w 1).toNat, words := r.data.drop 2 } → x = s.checkCert d s.sys.hubId → x.2 = 0 →
     let u : State := { x.1 with vault.certs := modAt x.1.vault.certs 0 fun _ => d }
     exec (.keyCertSet c) s = .next ((if u.isRoot = false ∧ u.topo.join = .idle ∧ u.topo.upstream.isSome = true then u.sendJoin else u).respond (okR [0])))

/-- KEY.GENERATE, PUT, DERIVE, ERASE, DENY and LIFECYCLE. Of the command that runs, with the vault not locked for all but KEY.LIFECYCLE. KEY.GENERATE of a
VALID slot is BUSY (0x30), of a slot other than 1 and 24 to 47 or a KIND it does not make NO_RESOURCE (0x40); else a new key is written, and one in
slot 1 removes the operational certificate. KEY.PUT of a VALID slot is BUSY, of a slot other than 0 and 2 NO_RESOURCE; else the key is written.
KEY.DERIVE from a BAD slot is VAULT_FAULT (0x70), to a VALID slot BUSY, from a slot that is not VALID with USAGE DERIVE, to a slot other than 56 to 71
or of a KIND it does not make NO_RESOURCE; else the derived key is written, OK_CLAMPED when a bit of 0 to 3 was not in MASK. KEY.ERASE of a slot that
commands cannot write is NO_RESOURCE; else the slot is EMPTY, and the volume of a volume slot is without key and is refreshed. KEY.DENY empties the
list, removes and adds; a full list is NO_RESOURCE and ACTION 3 BAD_PARAM (0x10). KEY.LIFECYCLE to no state is 0x21, during an update or trial BUSY
(0x31); STEP 0 arms the change with a random challenge; STEP 1 that does not match the arm is ABORTED (0x51), one that matches begins the change. Each
completes with its own effect: KEY_GENERATE, KEY_PUT, KEY_DERIVE, KEY_ERASE, KEY_DENY, KEY_LIFECYCLE. (spec/15_security.md: Measurements and
derivation, spec/15_security.md: Lifecycle, spec/15_security.md: Commands) -/
def Obligations.VaultSlotsAreMadeAndErased : Prop :=
  (∀ (s t : State) (r : Waiting) (n : Nat), s.runningOp 0x7010 = some r → s.vault.locked = false → n = r.f 0 6 0 → t = s.checkSlot n →
     let x : List Word × State := t.drawKeyField
     let u : State := x.2.writeSlot n (r.f 0 31 24) (r.f 0 23 16) 0 ((r.data.drop 1).take 4) x.1
     exec .keyGenerate s = .next (if (t.slot n).st = .valid then t.respond (failR 0x30)
       else if (n ≠ 1 ∧ (n < 24 ∨ 47 < n)) ∨ madeKind (r.f 0 31 24) (r.f 0 23 16) n = false then t.respond (failR 0x40)
       else (if n = 1 then ({ u with vault.certs := modAt u.vault.certs 0 fun _ => {} } : State) else u).respond (okR []))) ∧
  (∀ (s t : State) (r : Waiting) (n : Nat), s.runningOp 0x7011 = some r → s.vault.locked = false → n = r.f 0 6 0 → t = s.checkSlot n →
     exec .keyPut s = .next (if (t.slot n).st = .valid then t.respond (failR 0x30) else if n ≠ 0 ∧ n ≠ 2 then t.respond (failR 0x40)
       else (t.writeSlot n 5 0x10 2 [] (r.data.drop 1)).respond (okR []))) ∧
  (∀ (s t : State) (r : Waiting) (a b : Nat), s.runningOp 0x7012 = some r → s.vault.locked = false → a = r.f 0 6 0 → b = r.f 0 14 8 →
     t = (s.checkSlot a).checkSlot b →
     let m : Nat := r.f 0 23 16 ||| 15
     let ctx : List Byte := BitVec.ofNat 8 m :: memBytes (((List.range 8).filter fun i => m.testBit i).flatMap fun i => t.vault.m.getD i []) ++
       (BitVec.ofNat 8 t.lcGen :: (memBytes (r.data.drop 7)).take (r.w 6).toNat)
     exec .keyDerive s = .next (if (t.slot a).st = .bad then t.respond (failR 0x70) else if (t.slot b).st = .valid then t.respond (failR 0x30)
       else if 96 ≤ a ∨ (t.slot a).st ≠ .valid ∨ (t.slot a).usage.testBit 3 = false ∨ b < 56 ∨ 71 < b ∨ madeKind (r.f 0 31 24) (r.f 5 23 16) b = false
       then t.respond (failR 0x40)
       else (t.writeSlot b (r.f 0 31 24) (r.f 5 23 16) 1 ((r.data.drop 1).take 4) (derivedKey (r.f 0 31 24) (t.slot a).key "WH-DERIVE" ctx)).respond
         (okC (m != r.f 0 23 16)))) ∧
  (∀ (s t : State) (r : Waiting) (n : Nat), s.runningOp 0x7013 = some r → s.vault.locked = false → n = r.f 0 6 0 → t = s.modSlot n (fun _ => {}) →
     exec .keyErase s = .next (if (2 < n ∧ n < 8) ∨ (47 < n ∧ n < 56) ∨ 71 < n then s.respond (failR 0x40)
       else if 8 ≤ n ∧ n < 24 then (({ t with stor.vol := modAt t.stor.vol (n - 8) fun v => { v with keyed := false } } : State).refreshVol (n - 8) 0 false).respond (okR [])
       else t.respond (okR []))) ∧
  (∀ (s : State) (r : Waiting), s.runningOp 0x7022 = some r → s.vault.locked = false →
     let d : List Word := r.data.drop 1
     let ds : List (List Word) := if r.f 0 1 0 = 2 then [] else if r.f 0 1 0 = 1 then s.vault.deny.filter fun x => x != d
       else if d ∈ s.vault.deny then s.vault.deny else s.vault.deny ++ [d]
     exec .keyDeny s = .next (if r.f 0 1 0 = 3 then s.respond (failR 0x10) else if r.f 0 1 0 = 0 ∧ 64 ≤ s.vault.deny.length ∧ d ∉ s.vault.deny
       then s.respond (failR 0x40) else { s with vault.deny := ds }.respond (okR [wd ds.length]))) ∧
  (∀ (s : State) (r : Waiting), s.runningOp 0x7030 = some r → 5 ≤ r.f 0 31 24 → exec .keyLifecycle s = .next (s.respond (failR 0x21))) ∧
  (∀ (s : State) (r : Waiting) (l : Lifecycle), s.runningOp 0x7030 = some r → lifecycleOf (r.f 0 31 24) = some l → s.upd.session ≠ .none ∨ s.boot.trial = true →
     exec .keyLifecycle s = .next (s.respond (failR 0x31))) ∧
  (∀ (s : State) (r : Waiting) (l : Lifecycle), s.runningOp 0x7030 = some r → lifecycleOf (r.f 0 31 24) = some l → s.upd.session = .none → s.boot.trial = false →
     bitAt (r.w 0) 0 = false →
     let c := (Config.freeValue s.free).extractLsb' 0 32
     exec .keyLifecycle s = .next ({ s with free := s.free + 1, vault.arm := some { target := l, challenge := c, src := r.src } }.respond (okR [c]))) ∧
  (∀ (s : State) (r : Waiting) (l : Lifecycle), s.runningOp 0x7030 = some r → lifecycleOf (r.f 0 31 24) = some l → s.upd.session = .none → s.boot.trial = false →
     bitAt (r.w 0) 0 = true → exec .keyLifecycle s = .next (
       if s.vault.arm.any (fun (a : Arm) => a.src == r.src && a.target == l && a.challenge == r.w 1) = true
       then { s with vault.changing := true, sys.resetDue := some 4 }.respond (okR [0]) else s.respond (failR 0x51)))

/-- UPD.BEGIN, BLOCK, COMMIT, ABORT, STATUS and the session's time-out. Of the command that runs. UPD.BEGIN with TOTAL outside 1,028 bytes to 16 MiB or no
multiple of 4 is BAD_LENGTH (0x11); with a session or a trial it is BUSY_UPDATING (0x31); else it opens a session of this mailbox, in second-slot mode
when the record asks for it and no golden image runs. UPD.COMMIT with the vault locked is VAULT_FAULT (0x70). Without session UPD.BLOCK, COMMIT and
ABORT are NO_RESOURCE (0x40), from another mailbox BUSY_UPDATING. A block outside TOTAL or at no multiple of 4 is BAD_PARAM (0x10) with DETAIL 0x20,
one that clashes with a word received before with DETAIL 0x21; else its words are kept and the bytes received returned. A commit that fails a check
records and returns the check; one that passes writes the other slot and the boot control block and raises EV248. UPD.ABORT and the idle time-out end
the session with EV248; without a session the time-out changes nothing. UPD.STATUS reports the session, the trial, the mode, the last failed check,
the version, the bytes, the health timer of a trial and the versions of the components that run. Each completes with its own effect: UPD_BEGIN,
UPD_BLOCK, UPD_COMMIT, UPD_ABORT, UPD_IDLE_TIMEOUT, UPD_STATUS. (spec/16_update.md: Sessions and blocks, spec/16_update.md: Commit, spec/16_update.md:
Commands) -/
def Obligations.UpdateSessionsTakeAPackage : Prop :=
  (∀ (s : State) (r : Waiting) (n : Nat), s.runningOp 0x7810 = some r → n = (r.w 0).toNat → exec .updBegin s = .next (
     if n < 1028 ∨ 16777216 < n ∨ n % 4 ≠ 0 then s.respond (failR 0x11) else if s.upd.session ≠ .none ∨ s.boot.trial = true then s.respond (failR 0x31)
     else ({ s with upd.session := .opened, upd.owner := r.src, upd.total := n, upd.blocks := [], upd.package := [],
                    upd.mode := s.upd.cfg.secondSlot && !s.upd.goldenRun, upd.otherSlot := false } : State).respond (okR []))) ∧
  (∀ (s : State) (r : Waiting) (i : Instr) (o : Nat), (i, o) ∈ [(Instr.updBlock, 0x7811), (.updAbort, 0x7813)] → s.runningOp o = some r →
     s.upd.session = .none ∨ s.upd.owner ≠ r.src → exec i s = .next (s.respond (failR (if s.upd.session = .none then 0x40 else 0x31)))) ∧
  (∀ (s : State) (r : Waiting), s.runningOp 0x7811 = some r → s.upd.session ≠ .none → s.upd.owner = r.src →
     let k : Nat := (r.w 0).toNat / 4
     let bs : List (Nat × Word) := putWords s.upd.blocks k (r.data.drop 1)
     exec .updBlock s = .next (if (r.w 0).toNat % 4 ≠ 0 ∨ s.upd.total < (r.w 0).toNat + 4 * (r.data.drop 1).length then s.respond (failR 0x10 0x20)
       else if clash s.upd.blocks k (r.data.drop 1) = true then s.respond (failR 0x10 0x21) else { s with upd.blocks := bs }.respond (okR [wd (4 * bs.length)]))) ∧
  (∀ (s : State) (r : Waiting) (a b c : Bool) (v : Byte), s.runningOp 0x7812 = some r → s.vault.locked = true ∨ s.upd.session = .none ∨ s.upd.owner ≠ r.src →
     exec (.updCommit a b c v) s = .next (s.respond (failR (if s.vault.locked = true then 0x70 else if s.upd.session = .none then 0x40 else 0x31)))) ∧
  (∀ (s t : State) (r : Waiting) (a b c : Bool) (v : Byte), s.runningOp 0x7812 = some r → s.vault.locked = false → s.upd.session ≠ .none → s.upd.owner = r.src →
     t = s.checkSlot 2 → t.commitCode a b c v.toNat ≠ 0 →
     exec (.updCommit a b c v) s = .next ({ t with upd.lastCode := t.commitCode a b c v.toNat }.respond (failR 0x10 (t.commitCode a b c v.toNat)))) ∧
  (∀ (s t : State) (r : Waiting) (a b c : Bool) (v : Byte), s.runningOp 0x7812 = some r → s.vault.locked = false → s.upd.session ≠ .none → s.upd.owner = r.src →
     t = s.checkSlot 2 → t.commitCode a b c v.toNat = 0 →
     let u : State := { t with upd.session := .committed, upd.package := t.pkgComps, upd.slots := modAt t.upd.slots t.boot.other fun _ => t.stagedSlot }
     exec (.updCommit a b c v) s = .next (((u.putBoot id).raise 248 [(2, 4), (1, 8)]).respond (okR []))) ∧
  (∀ (s : State) (r : Waiting), s.runningOp 0x7813 = some r → s.upd.session ≠ .none → s.upd.owner = r.src →
     exec .updAbort s = .next ((s.endSession 0).respond (okR []))) ∧
  (∀ (s : State), exec .updIdleTimeout s = .next (if s.upd.session = .none then s else
     { s with upd.session := .none, upd.blocks := [], upd.total := 0, upd.package := [], upd.leaseWait := false }.raise 248 [(0, 4), (2, 8)])) ∧
  (∀ (s : State) (r : Waiting), s.runningOp 0x7801 = some r →
     let ver := fun (k : Nat) => if k = 5 then s.goldenComp.version else ((compOf s.upd.running k 0).map (fun (c : Component) => c.version)).getD 0
     exec .updStatus s = .next (s.respond (okR ([pack [(if s.upd.session = .none then 0 else if s.upd.session = .opened then 1 else 2, 4), (b2n s.boot.trial, 1),
         (b2n (if s.upd.session = .none then s.upd.cfg.secondSlot && !s.upd.goldenRun else s.upd.mode), 1), (s.boot.active, 1), (b2n s.upd.goldenRun, 1),
         (s.upd.lastCode, 8), (s.upd.lastFallback, 8), (s.version, 8)], wd (4 * s.upd.blocks.length), wd s.upd.total,
         pack [(if s.boot.trial = true then s.upd.health.getD 0 else 0, 16), (s.boot.tries, 8), (0, 8)]] ++ (List.range 6).map fun k => wd (ver (k + 1))))))

/-- UPD.ACTIVATE, LEASE, LEASE_END, CONFIRM and the health timer. Of the command that runs. UPD.ACTIVATE that waits for the ROOT's answer goes on waiting.
Without COMMITTED session it is NO_RESOURCE (0x40), from another mailbox BUSY_UPDATING (0x31); a ROOT whose tree's lease another hub holds gets
BUSY_UPDATING with that hub as DETAIL, else it takes the lease and activates; a joined hub asks the ROOT; another hub activates. UPD.LEASE at the ROOT
grants the lease with EV252, unless another hub holds it, which the answer then names; the answer lets a hub that waits activate or gives
BUSY_UPDATING with the holder, and changes nothing at a hub that does not wait. UPD.LEASE_END of the holder and the time-out end it with EV252.
UPD.CONFIRM is BUSY (0x30) when its conditions do not hold, else it ends the trial, as AUTO_CONFIRM does when the record asks for it and the hub runs.
A low health timer raises EV253 once in a trial; its expiry in a trial falls back with cause 0 and resets the hub, else changes nothing. Each
completes with its own effect: UPD_ACTIVATE, UPD_LEASE, UPD_LEASE_END, LEASE_TIMEOUT, UPD_CONFIRM, AUTO_CONFIRM, HEALTH_LOW, HEALTH_TIMER_EXPIRY.
(spec/16_update.md: Activation, spec/16_update.md: Trial and fall-back) -/
def Obligations.ActivationsHoldTheLeaseAndAreConfirmed : Prop :=
  (∀ (s : State) (r : Waiting), s.runningOp 0x7814 = some r → s.upd.leaseWait = true → exec .updActivate s = .next s) ∧
  (∀ (s : State) (r : Waiting), s.runningOp 0x7814 = some r → s.upd.leaseWait = false → s.upd.session ≠ .committed ∨ s.upd.owner ≠ r.src →
     exec .updActivate s = .next (s.respond (failR (if s.upd.session = .none ∨ s.upd.owner = r.src then 0x40 else 0x31)))) ∧
  (∀ (s : State) (r : Waiting), s.runningOp 0x7814 = some r → s.upd.leaseWait = false → s.upd.session = .committed → s.upd.owner = r.src → s.headsTree = true →
     exec .updActivate s = .next (if s.upd.lease.any (fun n => n != s.sys.hubId) = true then s.respond (failR 0x31 (s.upd.lease.getD 0))
       else (({ s with upd.lease := some s.sys.hubId, upd.leaseHealth := s.upd.cfg.healthS }.raise 252 [(s.sys.hubId, 16), (1, 1)]).proceed).respond (okR []))) ∧
  (∀ (s : State) (r : Waiting), s.runningOp 0x7814 = some r → s.upd.leaseWait = false → s.upd.session = .committed → s.upd.owner = r.src →
     s.headsTree = false → s.joined = true →
     exec .updActivate s = .next ({ s with upd.leaseWait := true }.sendRoot 0x7840 [pack [(s.sys.hubId, 16), (s.upd.cfg.healthS, 16)]])) ∧
  (∀ (s : State) (r : Waiting), s.runningOp 0x7814 = some r → s.upd.leaseWait = false → s.upd.session = .committed → s.upd.owner = r.src →
     s.headsTree = false → s.joined = false →
     exec .updActivate s = .next ({ s with upd.leaseWait := false, upd.wasJoined := s.joined, sys.resetDue := some 3 }.respond (okR []))) ∧
  (∀ (s : State) (r : Waiting), s.runningOp 0x7840 = some r → exec (.updLease none) s = .next (if s.upd.lease.any (fun n => n != r.f 0 31 16) = true then
       s.respond (okR [pack [(1, 8), (0, 8), (s.upd.lease.getD 0, 16)]])
     else ({ s with upd.lease := some (r.f 0 31 16), upd.leaseHealth := r.f 0 15 0 }.raise 252 [(r.f 0 31 16, 16), (1, 1)]).respond (okR [pack [(0, 16), (r.f 0 31 16, 16)]]))) ∧
  (∀ (s : State) (ws : List Word), exec (.updLease (some ws)) s = .next (if s.upd.leaseWait = false ∨ s.runningOp 0x7814 = none then s
       else if fld (wordAt ws 0) 31 24 = 0 then s.proceed.respond (okR []) else { s with upd.leaseWait := false }.respond (failR 0x31 (fld (wordAt ws 0) 15 0)))) ∧
  (∀ (s : State) (r : Waiting), s.runningOp 0x7841 = some r → exec .updLeaseEnd s = .next ((if s.upd.lease = some (r.f 0 31 16)
     then { s with upd.lease := none }.raise 252 [(r.f 0 31 16, 16), (0, 1)] else s).respond (okR []))) ∧
  (∀ (s : State), exec .leaseTimeout s = .next ((s.upd.lease.map fun (n : Nat) => { s with upd.lease := none }.raise 252 [(n, 16), (0, 1)]).getD s)) ∧
  (∀ (s : State) (r : Waiting), s.runningOp 0x7820 = some r → exec .updConfirm s =
     .next (if s.mayConfirm = true then s.confirm.respond (okR []) else s.respond (failR 0x30))) ∧
  (∀ (s : State), exec .autoConfirm s = .next (if s.upd.cfg.autoConfirm = true ∧ s.mayConfirm = true ∧ s.sys.stage = .running ∧ s.mbx.restart = false then s.confirm else s)) ∧
  (∀ (s : State), exec .healthLow s = .next (if s.upd.health ≠ none ∧ s.boot.trial = true ∧ s.upd.lowRaised = false
     then { s with upd.lowRaised := true }.raise 253 [(s.upd.health.getD 0, 16)] else s)) ∧
  (∀ (s : State) (i : StartInfo), exec (.healthTimerExpiry i) s = .next (if s.boot.trial = true ∧ s.upd.health ≠ none then (s.fallBack 0).coldReset 7 i else s))

/-- ROW_TEST_DONE, LANE_TEST_DONE, DIAG.TEST, RESTORE and CLEAR, DIAG.STATUS and ERRLOG. A test that does not run ends nothing. A row that fails its test,
or passes one that an error began less than 24 h after another, is spared or retired with EV065; another that passes is used again. A test of
DIAG.RESTORE that passes removes the repair, one that fails leaves it. A lane that passes is logged with outcome 1, one that fails is retired, with
outcome 3. DIAG.TEST in a dead-feed start is BUSY (0x30), and so is one of a unit under test, of a lane of a port that runs on one lane and of a
lighting port that is on; of KIND 5 and above NO_RESOURCE (0x40); a loopback ends at once; else the test begins. DIAG.RESTORE of another KIND than row
and lane is NO_RESOURCE, of a unit without repair OK, of one under test BUSY; else its test begins. DIAG.CLEAR of the persistent log is denied with
0x21 outside MANUFACTURE and RETURN; else the logs named are empty. DIAG.ERRLOG returns at most 127 entries from the sequence named, none of the error
log in a dead-feed start; DIAG.STATUS the retired lanes and rows, the spares used, the ports in lockout and the corrected errors. Each completes with
its own effect: ROW_TEST_DONE, LANE_TEST_DONE, DIAG_TEST, DIAG_RESTORE, DIAG_CLEAR, DIAG_ERRLOG, DIAG_STATUS. (spec/18_faults.md: Groundsheet row
test, spec/18_faults.md: Lane test, spec/18_faults.md: Commands) -/
def Obligations.TestsAndRepairsEnd : Prop :=
  (∀ (s : State) (b : Fin 64) (r : Fin 1024) (p : Bool), s.testOf 1 (rowUnit b.val r.val) = none → exec (.rowTestDone b r p) s = .next s) ∧
  (∀ (s : State) (b : Fin 64) (r : Fin 1024) (p : Bool) (t : UnitTest), s.testOf 1 (rowUnit b.val r.val) = some t → t.restore = false →
     let again : Bool := t.src.isNone && s.diag.passedRows.any fun (q : Nat × Nat) => q.1 == rowUnit b.val r.val && decide ((s.sys.aonS + 2 ^ 32 - q.2) % 2 ^ 32 < 86400)
     let v : State := s.rowBack (b.val, r.val)
     let u : State × Nat := v.rowLasting b.val r.val
     exec (.rowTestDone b r p) s = .next (if p = true ∧ again = false
       then ((({ v with diag.passedRows := (rowUnit b.val r.val, v.sys.aonS) :: v.diag.passedRows.filter (·.1 != rowUnit b.val r.val) } : State).raise 65
         [(b.val, 6), (r.val, 10), (0, 2)]).testEnds t 1 b.val 1 65 r.val)
       else ((u.1.raise 65 [(b.val, 6), (r.val, 10), (u.2, 2)]).testEnds t 1 b.val (u.2 + 1) 65 r.val))) ∧
  (∀ (s : State) (b : Fin 64) (r : Fin 1024) (p : Bool) (t : UnitTest), s.testOf 1 (rowUnit b.val r.val) = some t → t.restore = true →
     let v : State := (s.unrepair 1 (rowUnit b.val r.val)).rowBack (b.val, r.val)
     exec (.rowTestDone b r p) s = .next (if p = true
       then (((({ v with fwd.retiredRows := s.fwd.retiredRows.filter (· != (b.val, r.val)), fwd.sparedRows := s.fwd.sparedRows.filter (· != (b.val, r.val)) } :
         State).sharedCheck).raise 65 [(b.val, 6), (r.val, 10), (0, 2)]).testEnds t 1 b.val 1 65 r.val)
       else s.testEnds t 1 b.val (if (s.repairOf 1 (rowUnit b.val r.val)).any (·.spare.isSome) = true then 2 else 3) 255 r.val)) ∧
  (∀ (s : State) (p : Fin 4) (l : Fin 2) (b : Bool), s.testOf 2 (laneUnit p.val l) = none → exec (.laneTestDone p l b) s = .next s) ∧
  (∀ (s : State) (p : Fin 4) (l : Fin 2) (b : Bool) (t : UnitTest), s.testOf 2 (laneUnit p.val l) = some t →
     exec (.laneTestDone p l b) s = .next (if b = true
       then (if t.restore = true then (s.unrepair 2 (laneUnit p.val l)).modTp p.val (fun x => { x with retired := updAt x.retired l fun _ => false }) else s).testEnds
         t 2 (laneUnit p.val l) 1 255 0
       else (if t.restore = true then s else s.retireLane p.val l).testEnds t 2 (laneUnit p.val l) 3 34 0)) ∧
  (∀ (s : State) (r : Waiting) (n : BitVec 4) (k : Nat), s.runningOp 0x7E10 = some r → k = r.f 0 31 28 → s.sys.start = 1 ∨ (k = 1 ∧ s.testRuns 1 (r.f 0 15 0) = true) ∨
     (k = 2 ∧ (s.testRuns 2 (r.f 0 2 0) = true ∨ ((s.tp (r.f 0 2 0 / 2)).st = .active ∧ (s.tp (r.f 0 2 0 / 2)).twoLanes = false))) ∨
     (k = 3 ∧ (s.testRuns 3 (r.f 0 3 0) = true ∨ (s.lp (r.f 0 3 0)).st ∉ [LpState.off, .latched, .lockout, .damaged])) →
     exec (.diagTest n) s = .next (s.respond (failR 0x30))) ∧
  (∀ (s : State) (r : Waiting) (n : BitVec 4), s.runningOp 0x7E10 = some r → s.sys.start ≠ 1 → r.f 0 31 28 = 1 → s.testRuns 1 (r.f 0 15 0) = false →
     exec (.diagTest n) s = .next (({ s with diag.tests := s.diag.tests ++ [({ kind := 1, unit := r.f 0 15 0, src := some r.src } : UnitTest)] }.testRow
       (r.f 0 15 0 / 1024) (r.f 0 15 0 % 1024)).respond (okR []))) ∧
  (∀ (s t : State) (r : Waiting) (n : BitVec 4) (u : Nat), s.runningOp 0x7E10 = some r → s.sys.start ≠ 1 → r.f 0 31 28 = 2 → u = r.f 0 2 0 → s.testRuns 2 u = false →
     ((s.tp (u / 2)).st = .active → (s.tp (u / 2)).twoLanes = true) →
     t = { s with diag.tests := s.diag.tests ++ [({ kind := 2, unit := u, src := some r.src } : UnitTest)] } →
     exec (.diagTest n) s = .next (((List.finRange 2).foldl (fun (v : State) (l : Fin 2) => if l.val = u % 2 then v.dropLane (u / 2) l 2 else v) t).respond (okR []))) ∧
  (∀ (s t : State) (r : Waiting) (n : BitVec 4) (u : Fin 16), s.runningOp 0x7E10 = some r → s.sys.start ≠ 1 → r.f 0 31 28 = 3 → u.val = r.f 0 3 0 →
     s.testRuns 3 u.val = false → (s.lp u.val).st ∈ [LpState.off, .latched, .lockout, .damaged] →
     t = { s with diag.tests := s.diag.tests ++ [({ kind := 3, unit := u.val, src := some r.src } : UnitTest)] } →
     exec (.diagTest n) s = .next ((t.queueCal u true).respond (okR []))) ∧
  (∀ (s : State) (r : Waiting) (n : BitVec 4), s.runningOp 0x7E10 = some r → s.sys.start ≠ 1 → r.f 0 31 28 = 4 →
     exec (.diagTest n) s = .next ((s.raise 13 [(4, 4), (r.f 0 15 0, 16), (n.toNat, 4)] (.only r.src)).respond (okR []))) ∧
  (∀ (s : State) (r : Waiting) (n : BitVec 4), s.runningOp 0x7E10 = some r → s.sys.start ≠ 1 → r.f 0 31 28 = 0 ∨ 5 ≤ r.f 0 31 28 →
     exec (.diagTest n) s = .next (s.respond (failR 0x40))) ∧
  (∀ (s : State) (r : Waiting) (k u : Nat), s.runningOp 0x7E11 = some r → k = r.f 0 31 28 → u = (if k = 1 then r.f 0 15 0 else r.f 0 2 0) →
     exec .diagRestore s = .next (if k ≠ 1 ∧ k ≠ 2 then s.respond (failR 0x40) else if s.repairOf k u = none then s.respond (okR [])
       else if s.testRuns k u = true then s.respond (failR 0x30)
       else { s with diag.tests := s.diag.tests ++ [({ kind := k, unit := u, src := some r.src, restore := true } : UnitTest)] }.respond (okR []))) ∧
  (∀ (s : State) (r : Waiting), s.runningOp 0x7E12 = some r → exec .diagClear s = .next (
     if bitAt (r.w 0) 0 = true ∧ s.lifecycle ≠ .manufacture ∧ s.lifecycle ≠ .ret then s.respond (failR 0x21)
     else { s with diag.log := [], diag.plog := if bitAt (r.w 0) 0 = true then [] else s.diag.plog }.respond (okR []))) ∧
  (∀ (s : State) (r : Waiting), s.runningOp 0x7E02 = some r →
     let log : List LogEntry := if bitAt (r.w 0) 0 = true then s.diag.plog else if s.sys.start = 1 then [] else s.diag.log
     let es : List LogEntry := ((log.filter fun (e : LogEntry) => decide ((r.w 1).toNat ≤ e.seq)).reverse).take 127
     exec .diagErrlog s = .next (s.respond (okR (wd es.length :: (es.map fun (e : LogEntry) => e.words (bitAt (r.w 0) 0)).flatten)))) ∧
  (∀ (s : State) (r : Waiting), s.runningOp 0x7E01 = some r →
     let locked := (List.range 16).foldl (fun (a n : Nat) => a + b2n ((s.lp n).st == .lockout) * 2 ^ n) 0
     let lanes := (List.range 8).foldl (fun (a k : Nat) => a + b2n (((s.trunk.getD (k / 2) {}).retired).getD (k % 2) false) * 2 ^ k) 0
     exec .diagStatus s = .next (s.respond (okR [pack [(lanes, 8), (0, 8), (locked, 16)],
       pack [(s.fwd.spares.toList.foldl (· + ·) 0, 16), (s.fwd.retiredRows.length, 16)], wd s.diag.memCorr, wd ((s.diag.plog.head?.map (·.seq)).getD 0)])))

/-- LPDDR5X and engine memory errors, AER errors and persistent log writes. A corrected error of LPDDR5X is only counted. An uncorrectable one counts for
EV014 of its user and writes a CLASS 5 entry: of a frame buffer read the head also counts an underrun; of a capture buffer the spans it touches are
damaged; of a directory record the record, where it stands, is lost with EV136; of an export read by a bridge that the hub hears, DATA with status 7
goes back, and one it does not hear changes nothing; of an engine image no more; of the configuration store a cold reset follows with cause 6. A table
error of a tunnel that is not there changes nothing; of one that is there it writes a CLASS 7 entry, with a user code of EV014 that is free (log entry
136), and restores the entry from its copy, or removes it when the copy is bad too; of the key cache it closes the tunnel. A key slot whose tag fails
is BAD. An engine whose memory fails stops once, with EV015 and a CLASS 6 entry. An AER error is logged with CLASS 11. A persistent log write with
nothing waiting changes nothing; one that succeeds adds its entry, one that fails is tried once more and then lost with EV016. Each completes with its
own effect: LPDDR_ECC_ERROR, ENGINE_MEMORY_ERROR, PCIE_AER_ERROR, PERSISTENT_LOG_WRITE. (spec/18_faults.md: Error classes, spec/18_faults.md: Errors
without a self-test, spec/18_faults.md: Error logs) -/
def Obligations.MemoryErrorsAndEnginesAreReported : Prop :=
  (∀ (s : State) (a : Nat) (i : StartInfo), exec (.lpddrEccError .corrected a i) s = .next { s with diag.memCorr := bump s.diag.memCorr }) ∧
  (∀ (s : State) (h : Fin 2) (a : Nat) (i : StartInfo),
     exec (.lpddrEccError (.frame h) a i) s = .next (((s.cntH h.val 1).raiseCounted 14 0 1 [(0, 4)] 16).logErr 5 0 4 14 (a / 64))) ∧
  (∀ (s : State) (p : Fin 4) (c a : Nat) (i : StartInfo),
     exec (.lpddrEccError (.capture p c) a i) s = .next (((s.captureEcc p.val c).raiseCounted 14 1 1 [(1, 4)] 16).logErr 5 1 4 14 (a / 64))) ∧
  (∀ (s : State) (d : BitVec 24) (a : Nat) (i : StartInfo),
     let t : State := if s.dir.recs.any (·.id == d.toNat) = true then { s with dir.recs := s.dir.recs.filter (·.id != d.toNat) }.raise 136 [(d.toNat, 24), (2, 4)] else s
     exec (.lpddrEccError (.dirRec d) a i) s = .next ((t.raiseCounted 14 2 1 [(2, 4)] 16).logErr 5 2 4 14 (a / 64))) ∧
  (∀ (s : State) (b : BrFrom) (g : BitVec 16) (e : BitVec 4) (t : BitVec 64) (a : Nat) (i : StartInfo), exec (.lpddrEccError (.exportRead b g e t) a i) s =
     .next (if s.hears b = true then ((((s.cntB 7).sendPdu b.index 0x81 7 g.toNat 0 e.toNat 0 t.toNat 0 []).raiseCounted 14 3 1 [(3, 4)] 16).logErr 5 3 4 14 (a / 64))
       else s)) ∧
  (∀ (s : State) (a : Nat) (i : StartInfo), exec (.lpddrEccError .engineImage a i) s = .next ((s.raiseCounted 14 4 1 [(4, 4)] 16).logErr 5 4 4 14 (a / 64))) ∧
  (∀ (s : State) (a : Nat) (i : StartInfo), exec (.lpddrEccError .config a i) s =
     .next (((s.raiseCounted 14 5 1 [(5, 4)] 16).logErr 5 5 4 14 (a / 64)).coldReset 6 i)) ∧
  (∀ (s : State) (t : BitVec 20) (b : Bool) (a : Nat) (i : StartInfo), s.fwd.entries.any (fun e => e.tunnel == t.toNat && e.valid) = false →
     exec (.lpddrEccError (.table t b) a i) s = .next s) ∧
  (∀ (s : State) (t : BitVec 20) (e : FwdEntry) (b : Bool) (a : Nat) (i : StartInfo), s.fwd.entries.find? (fun e => e.tunnel == t.toNat && e.valid) = some e →
     let u : Nat := (Config.freeValue s.free).toNat % 16
     let v : State := ({ s with free := s.free + 1 }.raiseCounted 14 u 1 [(u, 4)] 16).logErr 7 0 4 14 t.toNat
     exec (.lpddrEccError (.table t b) a i) s = .next (if b = true then v.removeEntry e else { v with sys.tableRestore := bump v.sys.tableRestore })) ∧
  (∀ (s : State) (k : BitVec 14) (a : Nat) (i : StartInfo), s.tunAt k.toNat = none → exec (.lpddrEccError (.keyCache k) a i) s = .next s) ∧
  (∀ (s : State) (k : BitVec 14) (x : Tunnel) (a : Nat) (i : StartInfo), s.tunAt k.toNat = some x →
     let u : Nat := (Config.freeValue s.free).toNat % 16
     exec (.lpddrEccError (.keyCache k) a i) s = .next ((({ s with free := s.free + 1 }.raiseCounted 14 u 1 [(u, 4)] 16).logErr 7 1 4 14 k.toNat).closeTun x.idx 4)) ∧
  (∀ (s : State) (n : Fin 96) (a : Nat) (i : StartInfo), exec (.lpddrEccError (.keySlot n) a i) s =
     .next ((s.modSlot n.val fun k => { k with tagOk := k.tagOk && k.st != .valid }).checkSlot n.val)) ∧
  (∀ (s : State) (e : Fin 12), exec (.engineMemoryError e) s = .next (if s.diag.stopped.getD e.val false = true then s
     else ({ s with diag.stopped := modAt s.diag.stopped e.val fun _ => true }.raise 15 [(e.val, 4), (0, 8)]).logErr 6 e.val 5 15 0)) ∧
  (∀ (s : State) (p : Fin 2) (v : Word), exec (.pcieAerError p v) s = .next (s.logErr 11 p.val 4 255 v.toNat)) ∧
  (∀ (s : State) (b : Bool), s.diag.pwait = [] → exec (.persistentLogWrite b) s = .next s) ∧
  (∀ (s : State) (e : LogEntry) (l : List LogEntry), s.diag.pwait = e :: l →
     exec (.persistentLogWrite true) s = .next ({ s with diag.pwait := l, diag.pretry := false }.plogAdd e)) ∧
  (∀ (s : State) (e : LogEntry) (l : List LogEntry), s.diag.pwait = e :: l → exec (.persistentLogWrite false) s = .next (if s.diag.pretry = true
     then { s with diag.pwait := l, diag.pretry := false }.raise 16 [(e.seq, 16)] else { s with diag.pretry := true }))
end

