-- ==== Sys2Proof/Laws/Indexed.lean ====
section
/-!
SUPPORT. Reading an entry of a fixed number of like things after one of them has changed.
-/

namespace Sys2Proof.Machine

open Sys2Proof

/-- A change of one entry shows at its index only. -/
@[simp] theorem getD_modAt {α : Type} {n : Nat} (v : Vector α n) (i j : Nat) (f : α → α) (d : α) :
    (modAt v i f).getD j d = if i = j ∧ j < n then f (v.getD j d) else v.getD j d := by
  unfold modAt
  split
  · simp only [Vector.getD, Array.getD]
    by_cases h1 : j < n
    · by_cases h2 : i = j
      · subst h2; simp [h1]
      · simp [h1, h2]
    · simp [h1]
  · have : ¬ (i = j ∧ j < n) := by omega
    simp [this]

/-- A desk port after a change of one. -/
@[simp] theorem State.dk_modDk (s : State) (p q : Nat) (f : DeskPort → DeskPort) :
    (s.modDk p f).dk q = if p = q ∧ q < 4 then f (s.dk q) else s.dk q := getD_modAt ..

/-- A lighting segment after a change of one. -/
@[simp] theorem State.sg_modSeg (s : State) (g h : Nat) (f : Segment → Segment) :
    (s.modSeg g f).sg h = if g = h ∧ h < 16 then f (s.sg h) else s.sg h := getD_modAt ..

/-- A display head after a change of one. -/
@[simp] theorem State.hd_modHead (s : State) (h k : Nat) (f : Head → Head) :
    (s.modHead h f).hd k = if h = k ∧ k < 2 then f (s.hd k) else s.hd k := getD_modAt ..

end Sys2Proof.Machine
end

