-- ==== Sys2Proof/Laws/Memory.lean ====
section
/-!
SUPPORT. The local memory LPDDR5X: every operation keeps its canonical form, a read after a write gives what was written, and every
other address reads as before.
-/

namespace Sys2Proof.Machine

open Sys2Proof

/-- A list whose addresses are at or above `lo` also is so above every lower bound. -/
theorem dramWfFrom_mono {lo lo' : Nat} (h : lo' ≤ lo) : ∀ {m : List Host.Cell}, dramWfFrom lo m = true → dramWfFrom lo' m = true
  | [], _ => rfl
  | (a, v) :: m, w => by
    simp only [dramWfFrom, Bool.and_eq_true, decide_eq_true_eq] at w ⊢
    exact ⟨⟨Nat.le_trans h w.1.1, w.1.2⟩, w.2⟩

/-- A write keeps the canonical form above every bound at or below its address. -/
theorem dramWrite_wfFrom (x : Nat) (v : Byte) :
    ∀ {m : List Host.Cell} {lo : Nat}, lo ≤ x → dramWfFrom lo m = true → dramWfFrom lo (dramWrite m x v) = true
  | [], lo, h, _ => by
    unfold dramWrite; split
    · rfl
    · simp_all [dramWfFrom]
  | (a, u) :: m, lo, h, w => by
    simp only [dramWfFrom, Bool.and_eq_true, decide_eq_true_eq] at w
    obtain ⟨⟨h1, h2⟩, h3⟩ := w
    unfold dramWrite
    split
    · subst_vars
      split
      · exact dramWfFrom_mono (by omega) h3
      · simp_all [dramWfFrom]
    · split
      · split
        · simp_all [dramWfFrom]
        · rename_i n1 n2 n3
          simp only [dramWfFrom, Bool.and_eq_true, decide_eq_true_eq]
          exact ⟨⟨h, n3⟩, ⟨by omega, h2⟩, h3⟩
      · simp only [dramWfFrom, Bool.and_eq_true, decide_eq_true_eq]
        exact ⟨⟨h1, h2⟩, dramWrite_wfFrom x v (by omega) h3⟩

/-- A write keeps the canonical form. -/
theorem dramWrite_wf {m : List Host.Cell} (x : Nat) (v : Byte) (h : Memory.wf m = true) : Memory.wf (dramWrite m x v) = true :=
  dramWrite_wfFrom x v (Nat.zero_le x) h

/-- A write of many bytes keeps the canonical form. -/
theorem dramWriteBytes_wf : ∀ (vs : List Byte) {m : List Host.Cell} (x : Nat),
    Memory.wf m = true → Memory.wf (dramWriteBytes m x vs) = true
  | [], _, _, h => h
  | v :: vs, _, x, h => dramWriteBytes_wf vs (x + 1) (dramWrite_wf x v h)

/-- The hub's one write operation keeps the canonical form. -/
theorem State.memWrite_wf {s : State} (a : Nat) (bs : List Byte) (h : Memory.wf s.dram = true) :
    Memory.wf (s.memWrite a bs).dram = true := dramWriteBytes_wf bs a h

/-- At reset the memory has the canonical form. -/
theorem State.reset_dram_wf : Memory.wf State.reset.dram = true := rfl

/-- An address below every listed one reads as an unlisted one does. -/
theorem dramRead_below : ∀ {m : List Host.Cell} {lo x : Nat}, dramWfFrom lo m = true → x < lo → dramRead m x = dramDefault
  | [], _, _, _, _ => rfl
  | (a, v) :: m, lo, x, w, h => by
    simp only [dramWfFrom, Bool.and_eq_true, decide_eq_true_eq] at w
    unfold dramRead
    rw [if_neg (by omega), if_pos (by omega)]

/-- A read after a write: the byte written at its address, what was there at every other. -/
theorem dramRead_dramWrite (x y : Nat) (v : Byte) :
    ∀ {m : List Host.Cell} {lo : Nat}, dramWfFrom lo m = true → dramRead (dramWrite m x v) y = if y = x then v else dramRead m y
  | [], lo, _ => by
    unfold dramWrite
    split <;> simp [dramRead]
    · intro; simp_all
  | (a, u) :: m, lo, w => by
    simp only [dramWfFrom, Bool.and_eq_true, decide_eq_true_eq] at w
    obtain ⟨⟨h1, h2⟩, h3⟩ := w
    have hb : ∀ z, z < a + 1 → dramRead m z = dramDefault := fun z hz => dramRead_below h3 hz
    unfold dramWrite
    split
    · rename_i e0
      subst e0
      split
      · by_cases e : y = x
        · simp_all
        · by_cases l : y < x
          · simp [dramRead, e, l, hb y (by omega)]
          · simp [dramRead, e, l]
      · by_cases e : y = x <;> simp [dramRead, e]
    · split
      · split
        · by_cases e : y = x
          · subst e; simp_all [dramRead]
          · simp [e]
        · by_cases e : y = x
          · simp [dramRead, e]
          · by_cases l : y < x
            · have : y ≠ a := by omega
              have l2 : y < a := by omega
              simp [dramRead, e, l, this, l2]
            · simp [dramRead, e, l]
      · by_cases e : y = x
        · subst e
          simp_all [dramRead, dramRead_dramWrite y y v h3] <;> omega
        · by_cases e2 : y = a
          · simp [dramRead, e2]; omega
          · by_cases l : y < a <;> simp [dramRead, e, e2, l, dramRead_dramWrite x y v h3]

/-- A write of many bytes leaves every address outside them alone. -/
theorem dramRead_dramWriteBytes_other (y : Nat) : ∀ (vs : List Byte) {m : List Host.Cell} (x : Nat), Memory.wf m = true →
    (y < x ∨ x + vs.length ≤ y) → dramRead (dramWriteBytes m x vs) y = dramRead m y
  | [], _, _, _, _ => rfl
  | v :: vs, m, x, h, o => by
    simp only [List.length_cons] at o
    rw [dramWriteBytes, dramRead_dramWriteBytes_other y vs (x + 1) (dramWrite_wf x v h) (by omega), dramRead_dramWrite x y v h,
      if_neg (by omega)]

/-- A write of many bytes puts each at its address. -/
theorem dramRead_dramWriteBytes : ∀ (vs : List Byte) {m : List Host.Cell} (x k : Nat) (h : k < vs.length), Memory.wf m = true →
    dramRead (dramWriteBytes m x vs) (x + k) = vs[k]
  | v :: vs, m, x, 0, _, w => by
    rw [dramWriteBytes, dramRead_dramWriteBytes_other _ vs (x + 1) (dramWrite_wf x v w) (by omega), dramRead_dramWrite x _ v w]; simp
  | v :: vs, m, x, k + 1, h, w => by
    have := dramRead_dramWriteBytes vs (x + 1) k (by simpa using h) (dramWrite_wf x v w)
    rw [dramWriteBytes, show x + (k + 1) = x + 1 + k by omega, this]; rfl

end Sys2Proof.Machine
end

