-- ==== Sys2Proof/Laws/State.lean ====
section
/-!
SUPPORT. One lemma per field of State for each of the operations that every family shares: what the operation leaves alone.
-/

namespace Sys2Proof.Machine

/-! ### `State.send` -/

@[simp] theorem State.send_pending (s : State) (o : Sent) : (s.send o).pending = s.pending := rfl
@[simp] theorem State.send_sys (s : State) (o : Sent) : (s.send o).sys = s.sys := rfl
@[simp] theorem State.send_topo (s : State) (o : Sent) : (s.send o).topo = s.topo := rfl
@[simp] theorem State.send_mbx (s : State) (o : Sent) : (s.send o).mbx = s.mbx := rfl
@[simp] theorem State.send_phase (s : State) (o : Sent) : (s.send o).phase = s.phase := rfl
@[simp] theorem State.send_time (s : State) (o : Sent) : (s.send o).time = s.time := rfl
@[simp] theorem State.send_sched (s : State) (o : Sent) : (s.send o).sched = s.sched := rfl
@[simp] theorem State.send_trig (s : State) (o : Sent) : (s.send o).trig = s.trig := rfl
@[simp] theorem State.send_trunk (s : State) (o : Sent) : (s.send o).trunk = s.trunk := rfl
@[simp] theorem State.send_ring (s : State) (o : Sent) : (s.send o).ring = s.ring := rfl
@[simp] theorem State.send_tun (s : State) (o : Sent) : (s.send o).tun = s.tun := rfl
@[simp] theorem State.send_fwd (s : State) (o : Sent) : (s.send o).fwd = s.fwd := rfl
@[simp] theorem State.send_allot (s : State) (o : Sent) : (s.send o).allot = s.allot := rfl
@[simp] theorem State.send_light (s : State) (o : Sent) : (s.send o).light = s.light := rfl
@[simp] theorem State.send_dir (s : State) (o : Sent) : (s.send o).dir = s.dir := rfl
@[simp] theorem State.send_bridge (s : State) (o : Sent) : (s.send o).bridge = s.bridge := rfl
@[simp] theorem State.send_disp (s : State) (o : Sent) : (s.send o).disp = s.disp := rfl
@[simp] theorem State.send_desk (s : State) (o : Sent) : (s.send o).desk = s.desk := rfl
@[simp] theorem State.send_stor (s : State) (o : Sent) : (s.send o).stor = s.stor := rfl
@[simp] theorem State.send_eth (s : State) (o : Sent) : (s.send o).eth = s.eth := rfl
@[simp] theorem State.send_pwr (s : State) (o : Sent) : (s.send o).pwr = s.pwr := rfl
@[simp] theorem State.send_vault (s : State) (o : Sent) : (s.send o).vault = s.vault := rfl
@[simp] theorem State.send_upd (s : State) (o : Sent) : (s.send o).upd = s.upd := rfl
@[simp] theorem State.send_diag (s : State) (o : Sent) : (s.send o).diag = s.diag := rfl
@[simp] theorem State.send_dram (s : State) (o : Sent) : (s.send o).dram = s.dram := rfl
@[simp] theorem State.send_free (s : State) (o : Sent) : (s.send o).free = s.free := rfl

/-! ### `State.sendAll` -/

@[simp] theorem State.sendAll_pending (s : State) (os : List Sent) : (s.sendAll os).pending = s.pending := rfl
@[simp] theorem State.sendAll_sys (s : State) (os : List Sent) : (s.sendAll os).sys = s.sys := rfl
@[simp] theorem State.sendAll_topo (s : State) (os : List Sent) : (s.sendAll os).topo = s.topo := rfl
@[simp] theorem State.sendAll_mbx (s : State) (os : List Sent) : (s.sendAll os).mbx = s.mbx := rfl
@[simp] theorem State.sendAll_phase (s : State) (os : List Sent) : (s.sendAll os).phase = s.phase := rfl
@[simp] theorem State.sendAll_time (s : State) (os : List Sent) : (s.sendAll os).time = s.time := rfl
@[simp] theorem State.sendAll_sched (s : State) (os : List Sent) : (s.sendAll os).sched = s.sched := rfl
@[simp] theorem State.sendAll_trig (s : State) (os : List Sent) : (s.sendAll os).trig = s.trig := rfl
@[simp] theorem State.sendAll_trunk (s : State) (os : List Sent) : (s.sendAll os).trunk = s.trunk := rfl
@[simp] theorem State.sendAll_ring (s : State) (os : List Sent) : (s.sendAll os).ring = s.ring := rfl
@[simp] theorem State.sendAll_tun (s : State) (os : List Sent) : (s.sendAll os).tun = s.tun := rfl
@[simp] theorem State.sendAll_fwd (s : State) (os : List Sent) : (s.sendAll os).fwd = s.fwd := rfl
@[simp] theorem State.sendAll_allot (s : State) (os : List Sent) : (s.sendAll os).allot = s.allot := rfl
@[simp] theorem State.sendAll_light (s : State) (os : List Sent) : (s.sendAll os).light = s.light := rfl
@[simp] theorem State.sendAll_dir (s : State) (os : List Sent) : (s.sendAll os).dir = s.dir := rfl
@[simp] theorem State.sendAll_bridge (s : State) (os : List Sent) : (s.sendAll os).bridge = s.bridge := rfl
@[simp] theorem State.sendAll_disp (s : State) (os : List Sent) : (s.sendAll os).disp = s.disp := rfl
@[simp] theorem State.sendAll_desk (s : State) (os : List Sent) : (s.sendAll os).desk = s.desk := rfl
@[simp] theorem State.sendAll_stor (s : State) (os : List Sent) : (s.sendAll os).stor = s.stor := rfl
@[simp] theorem State.sendAll_eth (s : State) (os : List Sent) : (s.sendAll os).eth = s.eth := rfl
@[simp] theorem State.sendAll_pwr (s : State) (os : List Sent) : (s.sendAll os).pwr = s.pwr := rfl
@[simp] theorem State.sendAll_vault (s : State) (os : List Sent) : (s.sendAll os).vault = s.vault := rfl
@[simp] theorem State.sendAll_upd (s : State) (os : List Sent) : (s.sendAll os).upd = s.upd := rfl
@[simp] theorem State.sendAll_diag (s : State) (os : List Sent) : (s.sendAll os).diag = s.diag := rfl
@[simp] theorem State.sendAll_dram (s : State) (os : List Sent) : (s.sendAll os).dram = s.dram := rfl
@[simp] theorem State.sendAll_free (s : State) (os : List Sent) : (s.sendAll os).free = s.free := rfl

/-! ### `State.memWrite` -/

@[simp] theorem State.memWrite_pending (s : State) (a : Nat) (bs : List Byte) : (s.memWrite a bs).pending = s.pending := rfl
@[simp] theorem State.memWrite_sys (s : State) (a : Nat) (bs : List Byte) : (s.memWrite a bs).sys = s.sys := rfl
@[simp] theorem State.memWrite_topo (s : State) (a : Nat) (bs : List Byte) : (s.memWrite a bs).topo = s.topo := rfl
@[simp] theorem State.memWrite_mbx (s : State) (a : Nat) (bs : List Byte) : (s.memWrite a bs).mbx = s.mbx := rfl
@[simp] theorem State.memWrite_phase (s : State) (a : Nat) (bs : List Byte) : (s.memWrite a bs).phase = s.phase := rfl
@[simp] theorem State.memWrite_time (s : State) (a : Nat) (bs : List Byte) : (s.memWrite a bs).time = s.time := rfl
@[simp] theorem State.memWrite_sched (s : State) (a : Nat) (bs : List Byte) : (s.memWrite a bs).sched = s.sched := rfl
@[simp] theorem State.memWrite_trig (s : State) (a : Nat) (bs : List Byte) : (s.memWrite a bs).trig = s.trig := rfl
@[simp] theorem State.memWrite_trunk (s : State) (a : Nat) (bs : List Byte) : (s.memWrite a bs).trunk = s.trunk := rfl
@[simp] theorem State.memWrite_ring (s : State) (a : Nat) (bs : List Byte) : (s.memWrite a bs).ring = s.ring := rfl
@[simp] theorem State.memWrite_tun (s : State) (a : Nat) (bs : List Byte) : (s.memWrite a bs).tun = s.tun := rfl
@[simp] theorem State.memWrite_fwd (s : State) (a : Nat) (bs : List Byte) : (s.memWrite a bs).fwd = s.fwd := rfl
@[simp] theorem State.memWrite_allot (s : State) (a : Nat) (bs : List Byte) : (s.memWrite a bs).allot = s.allot := rfl
@[simp] theorem State.memWrite_light (s : State) (a : Nat) (bs : List Byte) : (s.memWrite a bs).light = s.light := rfl
@[simp] theorem State.memWrite_dir (s : State) (a : Nat) (bs : List Byte) : (s.memWrite a bs).dir = s.dir := rfl
@[simp] theorem State.memWrite_bridge (s : State) (a : Nat) (bs : List Byte) : (s.memWrite a bs).bridge = s.bridge := rfl
@[simp] theorem State.memWrite_disp (s : State) (a : Nat) (bs : List Byte) : (s.memWrite a bs).disp = s.disp := rfl
@[simp] theorem State.memWrite_desk (s : State) (a : Nat) (bs : List Byte) : (s.memWrite a bs).desk = s.desk := rfl
@[simp] theorem State.memWrite_stor (s : State) (a : Nat) (bs : List Byte) : (s.memWrite a bs).stor = s.stor := rfl
@[simp] theorem State.memWrite_eth (s : State) (a : Nat) (bs : List Byte) : (s.memWrite a bs).eth = s.eth := rfl
@[simp] theorem State.memWrite_pwr (s : State) (a : Nat) (bs : List Byte) : (s.memWrite a bs).pwr = s.pwr := rfl
@[simp] theorem State.memWrite_vault (s : State) (a : Nat) (bs : List Byte) : (s.memWrite a bs).vault = s.vault := rfl
@[simp] theorem State.memWrite_upd (s : State) (a : Nat) (bs : List Byte) : (s.memWrite a bs).upd = s.upd := rfl
@[simp] theorem State.memWrite_diag (s : State) (a : Nat) (bs : List Byte) : (s.memWrite a bs).diag = s.diag := rfl
@[simp] theorem State.memWrite_outbox (s : State) (a : Nat) (bs : List Byte) : (s.memWrite a bs).outbox = s.outbox := rfl
@[simp] theorem State.memWrite_free (s : State) (a : Nat) (bs : List Byte) : (s.memWrite a bs).free = s.free := rfl

/-! ### `State.modBox` -/

@[simp] theorem State.modBox_pending (s : State) (i : Fin 38) (f : Mailbox → Mailbox) : (s.modBox i f).pending = s.pending := by simp only [State.modBox]
@[simp] theorem State.modBox_sys (s : State) (i : Fin 38) (f : Mailbox → Mailbox) : (s.modBox i f).sys = s.sys := by simp only [State.modBox]
@[simp] theorem State.modBox_topo (s : State) (i : Fin 38) (f : Mailbox → Mailbox) : (s.modBox i f).topo = s.topo := by simp only [State.modBox]
@[simp] theorem State.modBox_phase (s : State) (i : Fin 38) (f : Mailbox → Mailbox) : (s.modBox i f).phase = s.phase := by simp only [State.modBox]
@[simp] theorem State.modBox_time (s : State) (i : Fin 38) (f : Mailbox → Mailbox) : (s.modBox i f).time = s.time := by simp only [State.modBox]
@[simp] theorem State.modBox_sched (s : State) (i : Fin 38) (f : Mailbox → Mailbox) : (s.modBox i f).sched = s.sched := by simp only [State.modBox]
@[simp] theorem State.modBox_trig (s : State) (i : Fin 38) (f : Mailbox → Mailbox) : (s.modBox i f).trig = s.trig := by simp only [State.modBox]
@[simp] theorem State.modBox_trunk (s : State) (i : Fin 38) (f : Mailbox → Mailbox) : (s.modBox i f).trunk = s.trunk := by simp only [State.modBox]
@[simp] theorem State.modBox_ring (s : State) (i : Fin 38) (f : Mailbox → Mailbox) : (s.modBox i f).ring = s.ring := by simp only [State.modBox]
@[simp] theorem State.modBox_tun (s : State) (i : Fin 38) (f : Mailbox → Mailbox) : (s.modBox i f).tun = s.tun := by simp only [State.modBox]
@[simp] theorem State.modBox_fwd (s : State) (i : Fin 38) (f : Mailbox → Mailbox) : (s.modBox i f).fwd = s.fwd := by simp only [State.modBox]
@[simp] theorem State.modBox_allot (s : State) (i : Fin 38) (f : Mailbox → Mailbox) : (s.modBox i f).allot = s.allot := by simp only [State.modBox]
@[simp] theorem State.modBox_light (s : State) (i : Fin 38) (f : Mailbox → Mailbox) : (s.modBox i f).light = s.light := by simp only [State.modBox]
@[simp] theorem State.modBox_dir (s : State) (i : Fin 38) (f : Mailbox → Mailbox) : (s.modBox i f).dir = s.dir := by simp only [State.modBox]
@[simp] theorem State.modBox_bridge (s : State) (i : Fin 38) (f : Mailbox → Mailbox) : (s.modBox i f).bridge = s.bridge := by simp only [State.modBox]
@[simp] theorem State.modBox_disp (s : State) (i : Fin 38) (f : Mailbox → Mailbox) : (s.modBox i f).disp = s.disp := by simp only [State.modBox]
@[simp] theorem State.modBox_desk (s : State) (i : Fin 38) (f : Mailbox → Mailbox) : (s.modBox i f).desk = s.desk := by simp only [State.modBox]
@[simp] theorem State.modBox_stor (s : State) (i : Fin 38) (f : Mailbox → Mailbox) : (s.modBox i f).stor = s.stor := by simp only [State.modBox]
@[simp] theorem State.modBox_eth (s : State) (i : Fin 38) (f : Mailbox → Mailbox) : (s.modBox i f).eth = s.eth := by simp only [State.modBox]
@[simp] theorem State.modBox_pwr (s : State) (i : Fin 38) (f : Mailbox → Mailbox) : (s.modBox i f).pwr = s.pwr := by simp only [State.modBox]
@[simp] theorem State.modBox_vault (s : State) (i : Fin 38) (f : Mailbox → Mailbox) : (s.modBox i f).vault = s.vault := by simp only [State.modBox]
@[simp] theorem State.modBox_upd (s : State) (i : Fin 38) (f : Mailbox → Mailbox) : (s.modBox i f).upd = s.upd := by simp only [State.modBox]
@[simp] theorem State.modBox_diag (s : State) (i : Fin 38) (f : Mailbox → Mailbox) : (s.modBox i f).diag = s.diag := by simp only [State.modBox]
@[simp] theorem State.modBox_dram (s : State) (i : Fin 38) (f : Mailbox → Mailbox) : (s.modBox i f).dram = s.dram := by simp only [State.modBox]
@[simp] theorem State.modBox_free (s : State) (i : Fin 38) (f : Mailbox → Mailbox) : (s.modBox i f).free = s.free := by simp only [State.modBox]

/-! ### `State.respond` -/

@[simp] theorem State.respond_pending (s : State) (r : Response) : (s.respond r).pending = s.pending := by simp only [State.respond]
@[simp] theorem State.respond_sys (s : State) (r : Response) : (s.respond r).sys = s.sys := by simp only [State.respond]
@[simp] theorem State.respond_topo (s : State) (r : Response) : (s.respond r).topo = s.topo := by simp only [State.respond]
@[simp] theorem State.respond_phase (s : State) (r : Response) : (s.respond r).phase = s.phase := by simp only [State.respond]
@[simp] theorem State.respond_time (s : State) (r : Response) : (s.respond r).time = s.time := by simp only [State.respond]
@[simp] theorem State.respond_sched (s : State) (r : Response) : (s.respond r).sched = s.sched := by simp only [State.respond]
@[simp] theorem State.respond_trig (s : State) (r : Response) : (s.respond r).trig = s.trig := by simp only [State.respond]
@[simp] theorem State.respond_trunk (s : State) (r : Response) : (s.respond r).trunk = s.trunk := by simp only [State.respond]
@[simp] theorem State.respond_ring (s : State) (r : Response) : (s.respond r).ring = s.ring := by simp only [State.respond]
@[simp] theorem State.respond_tun (s : State) (r : Response) : (s.respond r).tun = s.tun := by simp only [State.respond]
@[simp] theorem State.respond_fwd (s : State) (r : Response) : (s.respond r).fwd = s.fwd := by simp only [State.respond]
@[simp] theorem State.respond_allot (s : State) (r : Response) : (s.respond r).allot = s.allot := by simp only [State.respond]
@[simp] theorem State.respond_light (s : State) (r : Response) : (s.respond r).light = s.light := by simp only [State.respond]
@[simp] theorem State.respond_dir (s : State) (r : Response) : (s.respond r).dir = s.dir := by simp only [State.respond]
@[simp] theorem State.respond_bridge (s : State) (r : Response) : (s.respond r).bridge = s.bridge := by simp only [State.respond]
@[simp] theorem State.respond_disp (s : State) (r : Response) : (s.respond r).disp = s.disp := by simp only [State.respond]
@[simp] theorem State.respond_desk (s : State) (r : Response) : (s.respond r).desk = s.desk := by simp only [State.respond]
@[simp] theorem State.respond_stor (s : State) (r : Response) : (s.respond r).stor = s.stor := by simp only [State.respond]
@[simp] theorem State.respond_eth (s : State) (r : Response) : (s.respond r).eth = s.eth := by simp only [State.respond]
@[simp] theorem State.respond_pwr (s : State) (r : Response) : (s.respond r).pwr = s.pwr := by simp only [State.respond]
@[simp] theorem State.respond_vault (s : State) (r : Response) : (s.respond r).vault = s.vault := by simp only [State.respond]
@[simp] theorem State.respond_upd (s : State) (r : Response) : (s.respond r).upd = s.upd := by simp only [State.respond]
@[simp] theorem State.respond_diag (s : State) (r : Response) : (s.respond r).diag = s.diag := by simp only [State.respond]
@[simp] theorem State.respond_dram (s : State) (r : Response) : (s.respond r).dram = s.dram := by simp only [State.respond]
@[simp] theorem State.respond_outbox (s : State) (r : Response) : (s.respond r).outbox = s.outbox := by simp only [State.respond]
@[simp] theorem State.respond_free (s : State) (r : Response) : (s.respond r).free = s.free := by simp only [State.respond]

/-! ### `State.refreshAuth` -/

@[simp] theorem State.refreshAuth_pending (s : State) : (s.refreshAuth).pending = s.pending := by simp only [State.refreshAuth]
@[simp] theorem State.refreshAuth_sys (s : State) : (s.refreshAuth).sys = s.sys := by simp only [State.refreshAuth]
@[simp] theorem State.refreshAuth_topo (s : State) : (s.refreshAuth).topo = s.topo := by simp only [State.refreshAuth]
@[simp] theorem State.refreshAuth_phase (s : State) : (s.refreshAuth).phase = s.phase := by simp only [State.refreshAuth]
@[simp] theorem State.refreshAuth_time (s : State) : (s.refreshAuth).time = s.time := by simp only [State.refreshAuth]
@[simp] theorem State.refreshAuth_sched (s : State) : (s.refreshAuth).sched = s.sched := by simp only [State.refreshAuth]
@[simp] theorem State.refreshAuth_trig (s : State) : (s.refreshAuth).trig = s.trig := by simp only [State.refreshAuth]
@[simp] theorem State.refreshAuth_trunk (s : State) : (s.refreshAuth).trunk = s.trunk := by simp only [State.refreshAuth]
@[simp] theorem State.refreshAuth_ring (s : State) : (s.refreshAuth).ring = s.ring := by simp only [State.refreshAuth]
@[simp] theorem State.refreshAuth_tun (s : State) : (s.refreshAuth).tun = s.tun := by simp only [State.refreshAuth]
@[simp] theorem State.refreshAuth_fwd (s : State) : (s.refreshAuth).fwd = s.fwd := by simp only [State.refreshAuth]
@[simp] theorem State.refreshAuth_allot (s : State) : (s.refreshAuth).allot = s.allot := by simp only [State.refreshAuth]
@[simp] theorem State.refreshAuth_light (s : State) : (s.refreshAuth).light = s.light := by simp only [State.refreshAuth]
@[simp] theorem State.refreshAuth_dir (s : State) : (s.refreshAuth).dir = s.dir := by simp only [State.refreshAuth]
@[simp] theorem State.refreshAuth_bridge (s : State) : (s.refreshAuth).bridge = s.bridge := by simp only [State.refreshAuth]
@[simp] theorem State.refreshAuth_disp (s : State) : (s.refreshAuth).disp = s.disp := by simp only [State.refreshAuth]
@[simp] theorem State.refreshAuth_desk (s : State) : (s.refreshAuth).desk = s.desk := by simp only [State.refreshAuth]
@[simp] theorem State.refreshAuth_stor (s : State) : (s.refreshAuth).stor = s.stor := by simp only [State.refreshAuth]
@[simp] theorem State.refreshAuth_eth (s : State) : (s.refreshAuth).eth = s.eth := by simp only [State.refreshAuth]
@[simp] theorem State.refreshAuth_pwr (s : State) : (s.refreshAuth).pwr = s.pwr := by simp only [State.refreshAuth]
@[simp] theorem State.refreshAuth_vault (s : State) : (s.refreshAuth).vault = s.vault := by simp only [State.refreshAuth]
@[simp] theorem State.refreshAuth_upd (s : State) : (s.refreshAuth).upd = s.upd := by simp only [State.refreshAuth]
@[simp] theorem State.refreshAuth_diag (s : State) : (s.refreshAuth).diag = s.diag := by simp only [State.refreshAuth]
@[simp] theorem State.refreshAuth_dram (s : State) : (s.refreshAuth).dram = s.dram := by simp only [State.refreshAuth]
@[simp] theorem State.refreshAuth_outbox (s : State) : (s.refreshAuth).outbox = s.outbox := by simp only [State.refreshAuth]
@[simp] theorem State.refreshAuth_free (s : State) : (s.refreshAuth).free = s.free := by simp only [State.refreshAuth]

/-- What is sent comes first in the record. -/
@[simp] theorem State.send_outbox (s : State) (o : Sent) : (s.send o).outbox = o :: s.outbox := rfl

/-- Several things sent stand in the record newest first. -/
@[simp] theorem State.sendAll_outbox (s : State) (os : List Sent) : (s.sendAll os).outbox = os.reverse ++ s.outbox := rfl

/-- Bytes written to LPDDR5X. -/
@[simp] theorem State.memWrite_dram (s : State) (a : Nat) (bs : List Byte) : (s.memWrite a bs).dram = dramWriteBytes s.dram a bs := rfl

@[simp] theorem State.draw_pending (s : State) : s.draw.2.pending = s.pending := rfl
@[simp] theorem State.draw_sys (s : State) : s.draw.2.sys = s.sys := rfl
@[simp] theorem State.draw_topo (s : State) : s.draw.2.topo = s.topo := rfl
@[simp] theorem State.draw_mbx (s : State) : s.draw.2.mbx = s.mbx := rfl
@[simp] theorem State.draw_phase (s : State) : s.draw.2.phase = s.phase := rfl
@[simp] theorem State.draw_time (s : State) : s.draw.2.time = s.time := rfl
@[simp] theorem State.draw_sched (s : State) : s.draw.2.sched = s.sched := rfl
@[simp] theorem State.draw_trig (s : State) : s.draw.2.trig = s.trig := rfl
@[simp] theorem State.draw_trunk (s : State) : s.draw.2.trunk = s.trunk := rfl
@[simp] theorem State.draw_ring (s : State) : s.draw.2.ring = s.ring := rfl
@[simp] theorem State.draw_tun (s : State) : s.draw.2.tun = s.tun := rfl
@[simp] theorem State.draw_fwd (s : State) : s.draw.2.fwd = s.fwd := rfl
@[simp] theorem State.draw_allot (s : State) : s.draw.2.allot = s.allot := rfl
@[simp] theorem State.draw_light (s : State) : s.draw.2.light = s.light := rfl
@[simp] theorem State.draw_dir (s : State) : s.draw.2.dir = s.dir := rfl
@[simp] theorem State.draw_bridge (s : State) : s.draw.2.bridge = s.bridge := rfl
@[simp] theorem State.draw_disp (s : State) : s.draw.2.disp = s.disp := rfl
@[simp] theorem State.draw_desk (s : State) : s.draw.2.desk = s.desk := rfl
@[simp] theorem State.draw_stor (s : State) : s.draw.2.stor = s.stor := rfl
@[simp] theorem State.draw_eth (s : State) : s.draw.2.eth = s.eth := rfl
@[simp] theorem State.draw_pwr (s : State) : s.draw.2.pwr = s.pwr := rfl
@[simp] theorem State.draw_vault (s : State) : s.draw.2.vault = s.vault := rfl
@[simp] theorem State.draw_upd (s : State) : s.draw.2.upd = s.upd := rfl
@[simp] theorem State.draw_diag (s : State) : s.draw.2.diag = s.diag := rfl
@[simp] theorem State.draw_dram (s : State) : s.draw.2.dram = s.dram := rfl
@[simp] theorem State.draw_outbox (s : State) : s.draw.2.outbox = s.outbox := rfl

/-- A draw passes one free value. -/
@[simp] theorem State.draw_free (s : State) : s.draw.2.free = s.free + 1 := rfl

end Sys2Proof.Machine
end

