-- ==== Sys2Proof/Laws/Send.lean ====
section
/-!
SUPPORT. What raising an event, taking a request and sending a message leave alone: everything but the mailboxes and the record of what
was sent. Proofs cite these and never unfold the operations.
-/

namespace Sys2Proof.Machine

/-- A fold of changes that keep a part of the hub keeps it. -/
theorem foldl_keeps {α β : Type} (p : State → β) (f : State → α → State) (h : ∀ s a, p (f s a) = p s) :
    ∀ (xs : List α) (s : State), p (xs.foldl f s) = p s
  | [], _ => rfl
  | x :: xs, s => by rw [List.foldl_cons, foldl_keeps p f h xs, h]

/-! ### `State.deliver` -/

@[simp] theorem State.deliver_pending (s : State) (ev : Nat) (data : Word) (st : Stamp) (d : EvDest) : (s.deliver ev data st d).pending = s.pending := foldl_keeps (fun s => s.pending) _ (fun s i => by split <;> simp) _ s
@[simp] theorem State.deliver_sys (s : State) (ev : Nat) (data : Word) (st : Stamp) (d : EvDest) : (s.deliver ev data st d).sys = s.sys := foldl_keeps (fun s => s.sys) _ (fun s i => by split <;> simp) _ s
@[simp] theorem State.deliver_topo (s : State) (ev : Nat) (data : Word) (st : Stamp) (d : EvDest) : (s.deliver ev data st d).topo = s.topo := foldl_keeps (fun s => s.topo) _ (fun s i => by split <;> simp) _ s
@[simp] theorem State.deliver_phase (s : State) (ev : Nat) (data : Word) (st : Stamp) (d : EvDest) : (s.deliver ev data st d).phase = s.phase := foldl_keeps (fun s => s.phase) _ (fun s i => by split <;> simp) _ s
@[simp] theorem State.deliver_time (s : State) (ev : Nat) (data : Word) (st : Stamp) (d : EvDest) : (s.deliver ev data st d).time = s.time := foldl_keeps (fun s => s.time) _ (fun s i => by split <;> simp) _ s
@[simp] theorem State.deliver_sched (s : State) (ev : Nat) (data : Word) (st : Stamp) (d : EvDest) : (s.deliver ev data st d).sched = s.sched := foldl_keeps (fun s => s.sched) _ (fun s i => by split <;> simp) _ s
@[simp] theorem State.deliver_trig (s : State) (ev : Nat) (data : Word) (st : Stamp) (d : EvDest) : (s.deliver ev data st d).trig = s.trig := foldl_keeps (fun s => s.trig) _ (fun s i => by split <;> simp) _ s
@[simp] theorem State.deliver_trunk (s : State) (ev : Nat) (data : Word) (st : Stamp) (d : EvDest) : (s.deliver ev data st d).trunk = s.trunk := foldl_keeps (fun s => s.trunk) _ (fun s i => by split <;> simp) _ s
@[simp] theorem State.deliver_ring (s : State) (ev : Nat) (data : Word) (st : Stamp) (d : EvDest) : (s.deliver ev data st d).ring = s.ring := foldl_keeps (fun s => s.ring) _ (fun s i => by split <;> simp) _ s
@[simp] theorem State.deliver_tun (s : State) (ev : Nat) (data : Word) (st : Stamp) (d : EvDest) : (s.deliver ev data st d).tun = s.tun := foldl_keeps (fun s => s.tun) _ (fun s i => by split <;> simp) _ s
@[simp] theorem State.deliver_fwd (s : State) (ev : Nat) (data : Word) (st : Stamp) (d : EvDest) : (s.deliver ev data st d).fwd = s.fwd := foldl_keeps (fun s => s.fwd) _ (fun s i => by split <;> simp) _ s
@[simp] theorem State.deliver_allot (s : State) (ev : Nat) (data : Word) (st : Stamp) (d : EvDest) : (s.deliver ev data st d).allot = s.allot := foldl_keeps (fun s => s.allot) _ (fun s i => by split <;> simp) _ s
@[simp] theorem State.deliver_light (s : State) (ev : Nat) (data : Word) (st : Stamp) (d : EvDest) : (s.deliver ev data st d).light = s.light := foldl_keeps (fun s => s.light) _ (fun s i => by split <;> simp) _ s
@[simp] theorem State.deliver_dir (s : State) (ev : Nat) (data : Word) (st : Stamp) (d : EvDest) : (s.deliver ev data st d).dir = s.dir := foldl_keeps (fun s => s.dir) _ (fun s i => by split <;> simp) _ s
@[simp] theorem State.deliver_bridge (s : State) (ev : Nat) (data : Word) (st : Stamp) (d : EvDest) : (s.deliver ev data st d).bridge = s.bridge := foldl_keeps (fun s => s.bridge) _ (fun s i => by split <;> simp) _ s
@[simp] theorem State.deliver_disp (s : State) (ev : Nat) (data : Word) (st : Stamp) (d : EvDest) : (s.deliver ev data st d).disp = s.disp := foldl_keeps (fun s => s.disp) _ (fun s i => by split <;> simp) _ s
@[simp] theorem State.deliver_desk (s : State) (ev : Nat) (data : Word) (st : Stamp) (d : EvDest) : (s.deliver ev data st d).desk = s.desk := foldl_keeps (fun s => s.desk) _ (fun s i => by split <;> simp) _ s
@[simp] theorem State.deliver_stor (s : State) (ev : Nat) (data : Word) (st : Stamp) (d : EvDest) : (s.deliver ev data st d).stor = s.stor := foldl_keeps (fun s => s.stor) _ (fun s i => by split <;> simp) _ s
@[simp] theorem State.deliver_eth (s : State) (ev : Nat) (data : Word) (st : Stamp) (d : EvDest) : (s.deliver ev data st d).eth = s.eth := foldl_keeps (fun s => s.eth) _ (fun s i => by split <;> simp) _ s
@[simp] theorem State.deliver_pwr (s : State) (ev : Nat) (data : Word) (st : Stamp) (d : EvDest) : (s.deliver ev data st d).pwr = s.pwr := foldl_keeps (fun s => s.pwr) _ (fun s i => by split <;> simp) _ s
@[simp] theorem State.deliver_vault (s : State) (ev : Nat) (data : Word) (st : Stamp) (d : EvDest) : (s.deliver ev data st d).vault = s.vault := foldl_keeps (fun s => s.vault) _ (fun s i => by split <;> simp) _ s
@[simp] theorem State.deliver_upd (s : State) (ev : Nat) (data : Word) (st : Stamp) (d : EvDest) : (s.deliver ev data st d).upd = s.upd := foldl_keeps (fun s => s.upd) _ (fun s i => by split <;> simp) _ s
@[simp] theorem State.deliver_diag (s : State) (ev : Nat) (data : Word) (st : Stamp) (d : EvDest) : (s.deliver ev data st d).diag = s.diag := foldl_keeps (fun s => s.diag) _ (fun s i => by split <;> simp) _ s
@[simp] theorem State.deliver_dram (s : State) (ev : Nat) (data : Word) (st : Stamp) (d : EvDest) : (s.deliver ev data st d).dram = s.dram := foldl_keeps (fun s => s.dram) _ (fun s i => by split <;> simp) _ s
@[simp] theorem State.deliver_free (s : State) (ev : Nat) (data : Word) (st : Stamp) (d : EvDest) : (s.deliver ev data st d).free = s.free := foldl_keeps (fun s => s.free) _ (fun s i => by split <;> simp) _ s

/-! ### `State.loseEvent` -/

@[simp] theorem State.loseEvent_pending (s : State) (ev : Nat) (d : EvDest) : (s.loseEvent ev d).pending = s.pending := foldl_keeps (fun s => s.pending) _ (fun s i => by split <;> simp) _ s
@[simp] theorem State.loseEvent_sys (s : State) (ev : Nat) (d : EvDest) : (s.loseEvent ev d).sys = s.sys := foldl_keeps (fun s => s.sys) _ (fun s i => by split <;> simp) _ s
@[simp] theorem State.loseEvent_topo (s : State) (ev : Nat) (d : EvDest) : (s.loseEvent ev d).topo = s.topo := foldl_keeps (fun s => s.topo) _ (fun s i => by split <;> simp) _ s
@[simp] theorem State.loseEvent_phase (s : State) (ev : Nat) (d : EvDest) : (s.loseEvent ev d).phase = s.phase := foldl_keeps (fun s => s.phase) _ (fun s i => by split <;> simp) _ s
@[simp] theorem State.loseEvent_time (s : State) (ev : Nat) (d : EvDest) : (s.loseEvent ev d).time = s.time := foldl_keeps (fun s => s.time) _ (fun s i => by split <;> simp) _ s
@[simp] theorem State.loseEvent_sched (s : State) (ev : Nat) (d : EvDest) : (s.loseEvent ev d).sched = s.sched := foldl_keeps (fun s => s.sched) _ (fun s i => by split <;> simp) _ s
@[simp] theorem State.loseEvent_trig (s : State) (ev : Nat) (d : EvDest) : (s.loseEvent ev d).trig = s.trig := foldl_keeps (fun s => s.trig) _ (fun s i => by split <;> simp) _ s
@[simp] theorem State.loseEvent_trunk (s : State) (ev : Nat) (d : EvDest) : (s.loseEvent ev d).trunk = s.trunk := foldl_keeps (fun s => s.trunk) _ (fun s i => by split <;> simp) _ s
@[simp] theorem State.loseEvent_ring (s : State) (ev : Nat) (d : EvDest) : (s.loseEvent ev d).ring = s.ring := foldl_keeps (fun s => s.ring) _ (fun s i => by split <;> simp) _ s
@[simp] theorem State.loseEvent_tun (s : State) (ev : Nat) (d : EvDest) : (s.loseEvent ev d).tun = s.tun := foldl_keeps (fun s => s.tun) _ (fun s i => by split <;> simp) _ s
@[simp] theorem State.loseEvent_fwd (s : State) (ev : Nat) (d : EvDest) : (s.loseEvent ev d).fwd = s.fwd := foldl_keeps (fun s => s.fwd) _ (fun s i => by split <;> simp) _ s
@[simp] theorem State.loseEvent_allot (s : State) (ev : Nat) (d : EvDest) : (s.loseEvent ev d).allot = s.allot := foldl_keeps (fun s => s.allot) _ (fun s i => by split <;> simp) _ s
@[simp] theorem State.loseEvent_light (s : State) (ev : Nat) (d : EvDest) : (s.loseEvent ev d).light = s.light := foldl_keeps (fun s => s.light) _ (fun s i => by split <;> simp) _ s
@[simp] theorem State.loseEvent_dir (s : State) (ev : Nat) (d : EvDest) : (s.loseEvent ev d).dir = s.dir := foldl_keeps (fun s => s.dir) _ (fun s i => by split <;> simp) _ s
@[simp] theorem State.loseEvent_bridge (s : State) (ev : Nat) (d : EvDest) : (s.loseEvent ev d).bridge = s.bridge := foldl_keeps (fun s => s.bridge) _ (fun s i => by split <;> simp) _ s
@[simp] theorem State.loseEvent_disp (s : State) (ev : Nat) (d : EvDest) : (s.loseEvent ev d).disp = s.disp := foldl_keeps (fun s => s.disp) _ (fun s i => by split <;> simp) _ s
@[simp] theorem State.loseEvent_desk (s : State) (ev : Nat) (d : EvDest) : (s.loseEvent ev d).desk = s.desk := foldl_keeps (fun s => s.desk) _ (fun s i => by split <;> simp) _ s
@[simp] theorem State.loseEvent_stor (s : State) (ev : Nat) (d : EvDest) : (s.loseEvent ev d).stor = s.stor := foldl_keeps (fun s => s.stor) _ (fun s i => by split <;> simp) _ s
@[simp] theorem State.loseEvent_eth (s : State) (ev : Nat) (d : EvDest) : (s.loseEvent ev d).eth = s.eth := foldl_keeps (fun s => s.eth) _ (fun s i => by split <;> simp) _ s
@[simp] theorem State.loseEvent_pwr (s : State) (ev : Nat) (d : EvDest) : (s.loseEvent ev d).pwr = s.pwr := foldl_keeps (fun s => s.pwr) _ (fun s i => by split <;> simp) _ s
@[simp] theorem State.loseEvent_vault (s : State) (ev : Nat) (d : EvDest) : (s.loseEvent ev d).vault = s.vault := foldl_keeps (fun s => s.vault) _ (fun s i => by split <;> simp) _ s
@[simp] theorem State.loseEvent_upd (s : State) (ev : Nat) (d : EvDest) : (s.loseEvent ev d).upd = s.upd := foldl_keeps (fun s => s.upd) _ (fun s i => by split <;> simp) _ s
@[simp] theorem State.loseEvent_diag (s : State) (ev : Nat) (d : EvDest) : (s.loseEvent ev d).diag = s.diag := foldl_keeps (fun s => s.diag) _ (fun s i => by split <;> simp) _ s
@[simp] theorem State.loseEvent_dram (s : State) (ev : Nat) (d : EvDest) : (s.loseEvent ev d).dram = s.dram := foldl_keeps (fun s => s.dram) _ (fun s i => by split <;> simp) _ s
@[simp] theorem State.loseEvent_free (s : State) (ev : Nat) (d : EvDest) : (s.loseEvent ev d).free = s.free := foldl_keeps (fun s => s.free) _ (fun s i => by split <;> simp) _ s

/-! ### `State.raiseAt` -/

@[simp] theorem State.raiseAt_pending (s : State) (ev : Nat) (data : Word) (st : Stamp) (d : EvDest) : (s.raiseAt ev data st d).pending = s.pending := by unfold State.raiseAt; dsimp only; split <;> (try split) <;> simp
@[simp] theorem State.raiseAt_sys (s : State) (ev : Nat) (data : Word) (st : Stamp) (d : EvDest) : (s.raiseAt ev data st d).sys = s.sys := by unfold State.raiseAt; dsimp only; split <;> (try split) <;> simp
@[simp] theorem State.raiseAt_topo (s : State) (ev : Nat) (data : Word) (st : Stamp) (d : EvDest) : (s.raiseAt ev data st d).topo = s.topo := by unfold State.raiseAt; dsimp only; split <;> (try split) <;> simp
@[simp] theorem State.raiseAt_phase (s : State) (ev : Nat) (data : Word) (st : Stamp) (d : EvDest) : (s.raiseAt ev data st d).phase = s.phase := by unfold State.raiseAt; dsimp only; split <;> (try split) <;> simp
@[simp] theorem State.raiseAt_time (s : State) (ev : Nat) (data : Word) (st : Stamp) (d : EvDest) : (s.raiseAt ev data st d).time = s.time := by unfold State.raiseAt; dsimp only; split <;> (try split) <;> simp
@[simp] theorem State.raiseAt_sched (s : State) (ev : Nat) (data : Word) (st : Stamp) (d : EvDest) : (s.raiseAt ev data st d).sched = s.sched := by unfold State.raiseAt; dsimp only; split <;> (try split) <;> simp
@[simp] theorem State.raiseAt_trig (s : State) (ev : Nat) (data : Word) (st : Stamp) (d : EvDest) : (s.raiseAt ev data st d).trig = s.trig := by unfold State.raiseAt; dsimp only; split <;> (try split) <;> simp
@[simp] theorem State.raiseAt_trunk (s : State) (ev : Nat) (data : Word) (st : Stamp) (d : EvDest) : (s.raiseAt ev data st d).trunk = s.trunk := by unfold State.raiseAt; dsimp only; split <;> (try split) <;> simp
@[simp] theorem State.raiseAt_ring (s : State) (ev : Nat) (data : Word) (st : Stamp) (d : EvDest) : (s.raiseAt ev data st d).ring = s.ring := by unfold State.raiseAt; dsimp only; split <;> (try split) <;> simp
@[simp] theorem State.raiseAt_tun (s : State) (ev : Nat) (data : Word) (st : Stamp) (d : EvDest) : (s.raiseAt ev data st d).tun = s.tun := by unfold State.raiseAt; dsimp only; split <;> (try split) <;> simp
@[simp] theorem State.raiseAt_fwd (s : State) (ev : Nat) (data : Word) (st : Stamp) (d : EvDest) : (s.raiseAt ev data st d).fwd = s.fwd := by unfold State.raiseAt; dsimp only; split <;> (try split) <;> simp
@[simp] theorem State.raiseAt_allot (s : State) (ev : Nat) (data : Word) (st : Stamp) (d : EvDest) : (s.raiseAt ev data st d).allot = s.allot := by unfold State.raiseAt; dsimp only; split <;> (try split) <;> simp
@[simp] theorem State.raiseAt_light (s : State) (ev : Nat) (data : Word) (st : Stamp) (d : EvDest) : (s.raiseAt ev data st d).light = s.light := by unfold State.raiseAt; dsimp only; split <;> (try split) <;> simp
@[simp] theorem State.raiseAt_dir (s : State) (ev : Nat) (data : Word) (st : Stamp) (d : EvDest) : (s.raiseAt ev data st d).dir = s.dir := by unfold State.raiseAt; dsimp only; split <;> (try split) <;> simp
@[simp] theorem State.raiseAt_bridge (s : State) (ev : Nat) (data : Word) (st : Stamp) (d : EvDest) : (s.raiseAt ev data st d).bridge = s.bridge := by unfold State.raiseAt; dsimp only; split <;> (try split) <;> simp
@[simp] theorem State.raiseAt_disp (s : State) (ev : Nat) (data : Word) (st : Stamp) (d : EvDest) : (s.raiseAt ev data st d).disp = s.disp := by unfold State.raiseAt; dsimp only; split <;> (try split) <;> simp
@[simp] theorem State.raiseAt_desk (s : State) (ev : Nat) (data : Word) (st : Stamp) (d : EvDest) : (s.raiseAt ev data st d).desk = s.desk := by unfold State.raiseAt; dsimp only; split <;> (try split) <;> simp
@[simp] theorem State.raiseAt_stor (s : State) (ev : Nat) (data : Word) (st : Stamp) (d : EvDest) : (s.raiseAt ev data st d).stor = s.stor := by unfold State.raiseAt; dsimp only; split <;> (try split) <;> simp
@[simp] theorem State.raiseAt_eth (s : State) (ev : Nat) (data : Word) (st : Stamp) (d : EvDest) : (s.raiseAt ev data st d).eth = s.eth := by unfold State.raiseAt; dsimp only; split <;> (try split) <;> simp
@[simp] theorem State.raiseAt_pwr (s : State) (ev : Nat) (data : Word) (st : Stamp) (d : EvDest) : (s.raiseAt ev data st d).pwr = s.pwr := by unfold State.raiseAt; dsimp only; split <;> (try split) <;> simp
@[simp] theorem State.raiseAt_vault (s : State) (ev : Nat) (data : Word) (st : Stamp) (d : EvDest) : (s.raiseAt ev data st d).vault = s.vault := by unfold State.raiseAt; dsimp only; split <;> (try split) <;> simp
@[simp] theorem State.raiseAt_upd (s : State) (ev : Nat) (data : Word) (st : Stamp) (d : EvDest) : (s.raiseAt ev data st d).upd = s.upd := by unfold State.raiseAt; dsimp only; split <;> (try split) <;> simp
@[simp] theorem State.raiseAt_diag (s : State) (ev : Nat) (data : Word) (st : Stamp) (d : EvDest) : (s.raiseAt ev data st d).diag = s.diag := by unfold State.raiseAt; dsimp only; split <;> (try split) <;> simp
@[simp] theorem State.raiseAt_dram (s : State) (ev : Nat) (data : Word) (st : Stamp) (d : EvDest) : (s.raiseAt ev data st d).dram = s.dram := by unfold State.raiseAt; dsimp only; split <;> (try split) <;> simp
@[simp] theorem State.raiseAt_free (s : State) (ev : Nat) (data : Word) (st : Stamp) (d : EvDest) : (s.raiseAt ev data st d).free = s.free := by unfold State.raiseAt; dsimp only; split <;> (try split) <;> simp

/-! ### `State.raiseW` -/

@[simp] theorem State.raiseW_pending (s : State) (ev : Nat) (data : Word) (d : EvDest) : (s.raiseW ev data d).pending = s.pending := by unfold State.raiseW; simp
@[simp] theorem State.raiseW_sys (s : State) (ev : Nat) (data : Word) (d : EvDest) : (s.raiseW ev data d).sys = s.sys := by unfold State.raiseW; simp
@[simp] theorem State.raiseW_topo (s : State) (ev : Nat) (data : Word) (d : EvDest) : (s.raiseW ev data d).topo = s.topo := by unfold State.raiseW; simp
@[simp] theorem State.raiseW_phase (s : State) (ev : Nat) (data : Word) (d : EvDest) : (s.raiseW ev data d).phase = s.phase := by unfold State.raiseW; simp
@[simp] theorem State.raiseW_time (s : State) (ev : Nat) (data : Word) (d : EvDest) : (s.raiseW ev data d).time = s.time := by unfold State.raiseW; simp
@[simp] theorem State.raiseW_sched (s : State) (ev : Nat) (data : Word) (d : EvDest) : (s.raiseW ev data d).sched = s.sched := by unfold State.raiseW; simp
@[simp] theorem State.raiseW_trig (s : State) (ev : Nat) (data : Word) (d : EvDest) : (s.raiseW ev data d).trig = s.trig := by unfold State.raiseW; simp
@[simp] theorem State.raiseW_trunk (s : State) (ev : Nat) (data : Word) (d : EvDest) : (s.raiseW ev data d).trunk = s.trunk := by unfold State.raiseW; simp
@[simp] theorem State.raiseW_ring (s : State) (ev : Nat) (data : Word) (d : EvDest) : (s.raiseW ev data d).ring = s.ring := by unfold State.raiseW; simp
@[simp] theorem State.raiseW_tun (s : State) (ev : Nat) (data : Word) (d : EvDest) : (s.raiseW ev data d).tun = s.tun := by unfold State.raiseW; simp
@[simp] theorem State.raiseW_fwd (s : State) (ev : Nat) (data : Word) (d : EvDest) : (s.raiseW ev data d).fwd = s.fwd := by unfold State.raiseW; simp
@[simp] theorem State.raiseW_allot (s : State) (ev : Nat) (data : Word) (d : EvDest) : (s.raiseW ev data d).allot = s.allot := by unfold State.raiseW; simp
@[simp] theorem State.raiseW_light (s : State) (ev : Nat) (data : Word) (d : EvDest) : (s.raiseW ev data d).light = s.light := by unfold State.raiseW; simp
@[simp] theorem State.raiseW_dir (s : State) (ev : Nat) (data : Word) (d : EvDest) : (s.raiseW ev data d).dir = s.dir := by unfold State.raiseW; simp
@[simp] theorem State.raiseW_bridge (s : State) (ev : Nat) (data : Word) (d : EvDest) : (s.raiseW ev data d).bridge = s.bridge := by unfold State.raiseW; simp
@[simp] theorem State.raiseW_disp (s : State) (ev : Nat) (data : Word) (d : EvDest) : (s.raiseW ev data d).disp = s.disp := by unfold State.raiseW; simp
@[simp] theorem State.raiseW_desk (s : State) (ev : Nat) (data : Word) (d : EvDest) : (s.raiseW ev data d).desk = s.desk := by unfold State.raiseW; simp
@[simp] theorem State.raiseW_stor (s : State) (ev : Nat) (data : Word) (d : EvDest) : (s.raiseW ev data d).stor = s.stor := by unfold State.raiseW; simp
@[simp] theorem State.raiseW_eth (s : State) (ev : Nat) (data : Word) (d : EvDest) : (s.raiseW ev data d).eth = s.eth := by unfold State.raiseW; simp
@[simp] theorem State.raiseW_pwr (s : State) (ev : Nat) (data : Word) (d : EvDest) : (s.raiseW ev data d).pwr = s.pwr := by unfold State.raiseW; simp
@[simp] theorem State.raiseW_vault (s : State) (ev : Nat) (data : Word) (d : EvDest) : (s.raiseW ev data d).vault = s.vault := by unfold State.raiseW; simp
@[simp] theorem State.raiseW_upd (s : State) (ev : Nat) (data : Word) (d : EvDest) : (s.raiseW ev data d).upd = s.upd := by unfold State.raiseW; simp
@[simp] theorem State.raiseW_diag (s : State) (ev : Nat) (data : Word) (d : EvDest) : (s.raiseW ev data d).diag = s.diag := by unfold State.raiseW; simp
@[simp] theorem State.raiseW_dram (s : State) (ev : Nat) (data : Word) (d : EvDest) : (s.raiseW ev data d).dram = s.dram := by unfold State.raiseW; simp
@[simp] theorem State.raiseW_free (s : State) (ev : Nat) (data : Word) (d : EvDest) : (s.raiseW ev data d).free = s.free := by unfold State.raiseW; simp

/-! ### `State.raise` -/

@[simp] theorem State.raise_pending (s : State) (ev : Nat) (fs : List (Nat × Nat)) (d : EvDest) : (s.raise ev fs d).pending = s.pending := by unfold State.raise; simp
@[simp] theorem State.raise_sys (s : State) (ev : Nat) (fs : List (Nat × Nat)) (d : EvDest) : (s.raise ev fs d).sys = s.sys := by unfold State.raise; simp
@[simp] theorem State.raise_topo (s : State) (ev : Nat) (fs : List (Nat × Nat)) (d : EvDest) : (s.raise ev fs d).topo = s.topo := by unfold State.raise; simp
@[simp] theorem State.raise_phase (s : State) (ev : Nat) (fs : List (Nat × Nat)) (d : EvDest) : (s.raise ev fs d).phase = s.phase := by unfold State.raise; simp
@[simp] theorem State.raise_time (s : State) (ev : Nat) (fs : List (Nat × Nat)) (d : EvDest) : (s.raise ev fs d).time = s.time := by unfold State.raise; simp
@[simp] theorem State.raise_sched (s : State) (ev : Nat) (fs : List (Nat × Nat)) (d : EvDest) : (s.raise ev fs d).sched = s.sched := by unfold State.raise; simp
@[simp] theorem State.raise_trig (s : State) (ev : Nat) (fs : List (Nat × Nat)) (d : EvDest) : (s.raise ev fs d).trig = s.trig := by unfold State.raise; simp
@[simp] theorem State.raise_trunk (s : State) (ev : Nat) (fs : List (Nat × Nat)) (d : EvDest) : (s.raise ev fs d).trunk = s.trunk := by unfold State.raise; simp
@[simp] theorem State.raise_ring (s : State) (ev : Nat) (fs : List (Nat × Nat)) (d : EvDest) : (s.raise ev fs d).ring = s.ring := by unfold State.raise; simp
@[simp] theorem State.raise_tun (s : State) (ev : Nat) (fs : List (Nat × Nat)) (d : EvDest) : (s.raise ev fs d).tun = s.tun := by unfold State.raise; simp
@[simp] theorem State.raise_fwd (s : State) (ev : Nat) (fs : List (Nat × Nat)) (d : EvDest) : (s.raise ev fs d).fwd = s.fwd := by unfold State.raise; simp
@[simp] theorem State.raise_allot (s : State) (ev : Nat) (fs : List (Nat × Nat)) (d : EvDest) : (s.raise ev fs d).allot = s.allot := by unfold State.raise; simp
@[simp] theorem State.raise_light (s : State) (ev : Nat) (fs : List (Nat × Nat)) (d : EvDest) : (s.raise ev fs d).light = s.light := by unfold State.raise; simp
@[simp] theorem State.raise_dir (s : State) (ev : Nat) (fs : List (Nat × Nat)) (d : EvDest) : (s.raise ev fs d).dir = s.dir := by unfold State.raise; simp
@[simp] theorem State.raise_bridge (s : State) (ev : Nat) (fs : List (Nat × Nat)) (d : EvDest) : (s.raise ev fs d).bridge = s.bridge := by unfold State.raise; simp
@[simp] theorem State.raise_disp (s : State) (ev : Nat) (fs : List (Nat × Nat)) (d : EvDest) : (s.raise ev fs d).disp = s.disp := by unfold State.raise; simp
@[simp] theorem State.raise_desk (s : State) (ev : Nat) (fs : List (Nat × Nat)) (d : EvDest) : (s.raise ev fs d).desk = s.desk := by unfold State.raise; simp
@[simp] theorem State.raise_stor (s : State) (ev : Nat) (fs : List (Nat × Nat)) (d : EvDest) : (s.raise ev fs d).stor = s.stor := by unfold State.raise; simp
@[simp] theorem State.raise_eth (s : State) (ev : Nat) (fs : List (Nat × Nat)) (d : EvDest) : (s.raise ev fs d).eth = s.eth := by unfold State.raise; simp
@[simp] theorem State.raise_pwr (s : State) (ev : Nat) (fs : List (Nat × Nat)) (d : EvDest) : (s.raise ev fs d).pwr = s.pwr := by unfold State.raise; simp
@[simp] theorem State.raise_vault (s : State) (ev : Nat) (fs : List (Nat × Nat)) (d : EvDest) : (s.raise ev fs d).vault = s.vault := by unfold State.raise; simp
@[simp] theorem State.raise_upd (s : State) (ev : Nat) (fs : List (Nat × Nat)) (d : EvDest) : (s.raise ev fs d).upd = s.upd := by unfold State.raise; simp
@[simp] theorem State.raise_diag (s : State) (ev : Nat) (fs : List (Nat × Nat)) (d : EvDest) : (s.raise ev fs d).diag = s.diag := by unfold State.raise; simp
@[simp] theorem State.raise_dram (s : State) (ev : Nat) (fs : List (Nat × Nat)) (d : EvDest) : (s.raise ev fs d).dram = s.dram := by unfold State.raise; simp
@[simp] theorem State.raise_free (s : State) (ev : Nat) (fs : List (Nat × Nat)) (d : EvDest) : (s.raise ev fs d).free = s.free := by unfold State.raise; simp

/-! ### `State.raiseRated` -/

@[simp] theorem State.raiseRated_pending (s : State) (ev obj n : Nat) (fs : List (Nat × Nat)) (d : EvDest) (hold ms : Bool) : (s.raiseRated ev obj n fs d hold ms).pending = s.pending := by unfold State.raiseRated; dsimp only; split <;> simp
@[simp] theorem State.raiseRated_sys (s : State) (ev obj n : Nat) (fs : List (Nat × Nat)) (d : EvDest) (hold ms : Bool) : (s.raiseRated ev obj n fs d hold ms).sys = s.sys := by unfold State.raiseRated; dsimp only; split <;> simp
@[simp] theorem State.raiseRated_topo (s : State) (ev obj n : Nat) (fs : List (Nat × Nat)) (d : EvDest) (hold ms : Bool) : (s.raiseRated ev obj n fs d hold ms).topo = s.topo := by unfold State.raiseRated; dsimp only; split <;> simp
@[simp] theorem State.raiseRated_phase (s : State) (ev obj n : Nat) (fs : List (Nat × Nat)) (d : EvDest) (hold ms : Bool) : (s.raiseRated ev obj n fs d hold ms).phase = s.phase := by unfold State.raiseRated; dsimp only; split <;> simp
@[simp] theorem State.raiseRated_time (s : State) (ev obj n : Nat) (fs : List (Nat × Nat)) (d : EvDest) (hold ms : Bool) : (s.raiseRated ev obj n fs d hold ms).time = s.time := by unfold State.raiseRated; dsimp only; split <;> simp
@[simp] theorem State.raiseRated_sched (s : State) (ev obj n : Nat) (fs : List (Nat × Nat)) (d : EvDest) (hold ms : Bool) : (s.raiseRated ev obj n fs d hold ms).sched = s.sched := by unfold State.raiseRated; dsimp only; split <;> simp
@[simp] theorem State.raiseRated_trig (s : State) (ev obj n : Nat) (fs : List (Nat × Nat)) (d : EvDest) (hold ms : Bool) : (s.raiseRated ev obj n fs d hold ms).trig = s.trig := by unfold State.raiseRated; dsimp only; split <;> simp
@[simp] theorem State.raiseRated_trunk (s : State) (ev obj n : Nat) (fs : List (Nat × Nat)) (d : EvDest) (hold ms : Bool) : (s.raiseRated ev obj n fs d hold ms).trunk = s.trunk := by unfold State.raiseRated; dsimp only; split <;> simp
@[simp] theorem State.raiseRated_ring (s : State) (ev obj n : Nat) (fs : List (Nat × Nat)) (d : EvDest) (hold ms : Bool) : (s.raiseRated ev obj n fs d hold ms).ring = s.ring := by unfold State.raiseRated; dsimp only; split <;> simp
@[simp] theorem State.raiseRated_tun (s : State) (ev obj n : Nat) (fs : List (Nat × Nat)) (d : EvDest) (hold ms : Bool) : (s.raiseRated ev obj n fs d hold ms).tun = s.tun := by unfold State.raiseRated; dsimp only; split <;> simp
@[simp] theorem State.raiseRated_fwd (s : State) (ev obj n : Nat) (fs : List (Nat × Nat)) (d : EvDest) (hold ms : Bool) : (s.raiseRated ev obj n fs d hold ms).fwd = s.fwd := by unfold State.raiseRated; dsimp only; split <;> simp
@[simp] theorem State.raiseRated_allot (s : State) (ev obj n : Nat) (fs : List (Nat × Nat)) (d : EvDest) (hold ms : Bool) : (s.raiseRated ev obj n fs d hold ms).allot = s.allot := by unfold State.raiseRated; dsimp only; split <;> simp
@[simp] theorem State.raiseRated_light (s : State) (ev obj n : Nat) (fs : List (Nat × Nat)) (d : EvDest) (hold ms : Bool) : (s.raiseRated ev obj n fs d hold ms).light = s.light := by unfold State.raiseRated; dsimp only; split <;> simp
@[simp] theorem State.raiseRated_dir (s : State) (ev obj n : Nat) (fs : List (Nat × Nat)) (d : EvDest) (hold ms : Bool) : (s.raiseRated ev obj n fs d hold ms).dir = s.dir := by unfold State.raiseRated; dsimp only; split <;> simp
@[simp] theorem State.raiseRated_bridge (s : State) (ev obj n : Nat) (fs : List (Nat × Nat)) (d : EvDest) (hold ms : Bool) : (s.raiseRated ev obj n fs d hold ms).bridge = s.bridge := by unfold State.raiseRated; dsimp only; split <;> simp
@[simp] theorem State.raiseRated_disp (s : State) (ev obj n : Nat) (fs : List (Nat × Nat)) (d : EvDest) (hold ms : Bool) : (s.raiseRated ev obj n fs d hold ms).disp = s.disp := by unfold State.raiseRated; dsimp only; split <;> simp
@[simp] theorem State.raiseRated_desk (s : State) (ev obj n : Nat) (fs : List (Nat × Nat)) (d : EvDest) (hold ms : Bool) : (s.raiseRated ev obj n fs d hold ms).desk = s.desk := by unfold State.raiseRated; dsimp only; split <;> simp
@[simp] theorem State.raiseRated_stor (s : State) (ev obj n : Nat) (fs : List (Nat × Nat)) (d : EvDest) (hold ms : Bool) : (s.raiseRated ev obj n fs d hold ms).stor = s.stor := by unfold State.raiseRated; dsimp only; split <;> simp
@[simp] theorem State.raiseRated_eth (s : State) (ev obj n : Nat) (fs : List (Nat × Nat)) (d : EvDest) (hold ms : Bool) : (s.raiseRated ev obj n fs d hold ms).eth = s.eth := by unfold State.raiseRated; dsimp only; split <;> simp
@[simp] theorem State.raiseRated_pwr (s : State) (ev obj n : Nat) (fs : List (Nat × Nat)) (d : EvDest) (hold ms : Bool) : (s.raiseRated ev obj n fs d hold ms).pwr = s.pwr := by unfold State.raiseRated; dsimp only; split <;> simp
@[simp] theorem State.raiseRated_vault (s : State) (ev obj n : Nat) (fs : List (Nat × Nat)) (d : EvDest) (hold ms : Bool) : (s.raiseRated ev obj n fs d hold ms).vault = s.vault := by unfold State.raiseRated; dsimp only; split <;> simp
@[simp] theorem State.raiseRated_upd (s : State) (ev obj n : Nat) (fs : List (Nat × Nat)) (d : EvDest) (hold ms : Bool) : (s.raiseRated ev obj n fs d hold ms).upd = s.upd := by unfold State.raiseRated; dsimp only; split <;> simp
@[simp] theorem State.raiseRated_diag (s : State) (ev obj n : Nat) (fs : List (Nat × Nat)) (d : EvDest) (hold ms : Bool) : (s.raiseRated ev obj n fs d hold ms).diag = s.diag := by unfold State.raiseRated; dsimp only; split <;> simp
@[simp] theorem State.raiseRated_dram (s : State) (ev obj n : Nat) (fs : List (Nat × Nat)) (d : EvDest) (hold ms : Bool) : (s.raiseRated ev obj n fs d hold ms).dram = s.dram := by unfold State.raiseRated; dsimp only; split <;> simp
@[simp] theorem State.raiseRated_free (s : State) (ev obj n : Nat) (fs : List (Nat × Nat)) (d : EvDest) (hold ms : Bool) : (s.raiseRated ev obj n fs d hold ms).free = s.free := by unfold State.raiseRated; dsimp only; split <;> simp

/-! ### `State.startNext` -/

@[simp] theorem State.startNext_pending (s : State) : (s.startNext).pending = s.pending := by unfold State.startNext; split <;> (try rfl); dsimp only; split <;> (try rfl); split <;> simp
@[simp] theorem State.startNext_sys (s : State) : (s.startNext).sys = s.sys := by unfold State.startNext; split <;> (try rfl); dsimp only; split <;> (try rfl); split <;> simp
@[simp] theorem State.startNext_topo (s : State) : (s.startNext).topo = s.topo := by unfold State.startNext; split <;> (try rfl); dsimp only; split <;> (try rfl); split <;> simp
@[simp] theorem State.startNext_phase (s : State) : (s.startNext).phase = s.phase := by unfold State.startNext; split <;> (try rfl); dsimp only; split <;> (try rfl); split <;> simp
@[simp] theorem State.startNext_time (s : State) : (s.startNext).time = s.time := by unfold State.startNext; split <;> (try rfl); dsimp only; split <;> (try rfl); split <;> simp
@[simp] theorem State.startNext_sched (s : State) : (s.startNext).sched = s.sched := by unfold State.startNext; split <;> (try rfl); dsimp only; split <;> (try rfl); split <;> simp
@[simp] theorem State.startNext_trig (s : State) : (s.startNext).trig = s.trig := by unfold State.startNext; split <;> (try rfl); dsimp only; split <;> (try rfl); split <;> simp
@[simp] theorem State.startNext_trunk (s : State) : (s.startNext).trunk = s.trunk := by unfold State.startNext; split <;> (try rfl); dsimp only; split <;> (try rfl); split <;> simp
@[simp] theorem State.startNext_ring (s : State) : (s.startNext).ring = s.ring := by unfold State.startNext; split <;> (try rfl); dsimp only; split <;> (try rfl); split <;> simp
@[simp] theorem State.startNext_tun (s : State) : (s.startNext).tun = s.tun := by unfold State.startNext; split <;> (try rfl); dsimp only; split <;> (try rfl); split <;> simp
@[simp] theorem State.startNext_fwd (s : State) : (s.startNext).fwd = s.fwd := by unfold State.startNext; split <;> (try rfl); dsimp only; split <;> (try rfl); split <;> simp
@[simp] theorem State.startNext_allot (s : State) : (s.startNext).allot = s.allot := by unfold State.startNext; split <;> (try rfl); dsimp only; split <;> (try rfl); split <;> simp
@[simp] theorem State.startNext_light (s : State) : (s.startNext).light = s.light := by unfold State.startNext; split <;> (try rfl); dsimp only; split <;> (try rfl); split <;> simp
@[simp] theorem State.startNext_dir (s : State) : (s.startNext).dir = s.dir := by unfold State.startNext; split <;> (try rfl); dsimp only; split <;> (try rfl); split <;> simp
@[simp] theorem State.startNext_bridge (s : State) : (s.startNext).bridge = s.bridge := by unfold State.startNext; split <;> (try rfl); dsimp only; split <;> (try rfl); split <;> simp
@[simp] theorem State.startNext_disp (s : State) : (s.startNext).disp = s.disp := by unfold State.startNext; split <;> (try rfl); dsimp only; split <;> (try rfl); split <;> simp
@[simp] theorem State.startNext_desk (s : State) : (s.startNext).desk = s.desk := by unfold State.startNext; split <;> (try rfl); dsimp only; split <;> (try rfl); split <;> simp
@[simp] theorem State.startNext_stor (s : State) : (s.startNext).stor = s.stor := by unfold State.startNext; split <;> (try rfl); dsimp only; split <;> (try rfl); split <;> simp
@[simp] theorem State.startNext_eth (s : State) : (s.startNext).eth = s.eth := by unfold State.startNext; split <;> (try rfl); dsimp only; split <;> (try rfl); split <;> simp
@[simp] theorem State.startNext_pwr (s : State) : (s.startNext).pwr = s.pwr := by unfold State.startNext; split <;> (try rfl); dsimp only; split <;> (try rfl); split <;> simp
@[simp] theorem State.startNext_vault (s : State) : (s.startNext).vault = s.vault := by unfold State.startNext; split <;> (try rfl); dsimp only; split <;> (try rfl); split <;> simp
@[simp] theorem State.startNext_upd (s : State) : (s.startNext).upd = s.upd := by unfold State.startNext; split <;> (try rfl); dsimp only; split <;> (try rfl); split <;> simp
@[simp] theorem State.startNext_diag (s : State) : (s.startNext).diag = s.diag := by unfold State.startNext; split <;> (try rfl); dsimp only; split <;> (try rfl); split <;> simp
@[simp] theorem State.startNext_dram (s : State) : (s.startNext).dram = s.dram := by unfold State.startNext; split <;> (try rfl); dsimp only; split <;> (try rfl); split <;> simp
@[simp] theorem State.startNext_free (s : State) : (s.startNext).free = s.free := by unfold State.startNext; split <;> (try rfl); dsimp only; split <;> (try rfl); split <;> simp

/-! ### `State.submit` -/

@[simp] theorem State.submit_pending (s : State) (r : Waiting) : (s.submit r).pending = s.pending := by unfold State.submit; simp
@[simp] theorem State.submit_sys (s : State) (r : Waiting) : (s.submit r).sys = s.sys := by unfold State.submit; simp
@[simp] theorem State.submit_topo (s : State) (r : Waiting) : (s.submit r).topo = s.topo := by unfold State.submit; simp
@[simp] theorem State.submit_phase (s : State) (r : Waiting) : (s.submit r).phase = s.phase := by unfold State.submit; simp
@[simp] theorem State.submit_time (s : State) (r : Waiting) : (s.submit r).time = s.time := by unfold State.submit; simp
@[simp] theorem State.submit_sched (s : State) (r : Waiting) : (s.submit r).sched = s.sched := by unfold State.submit; simp
@[simp] theorem State.submit_trig (s : State) (r : Waiting) : (s.submit r).trig = s.trig := by unfold State.submit; simp
@[simp] theorem State.submit_trunk (s : State) (r : Waiting) : (s.submit r).trunk = s.trunk := by unfold State.submit; simp
@[simp] theorem State.submit_ring (s : State) (r : Waiting) : (s.submit r).ring = s.ring := by unfold State.submit; simp
@[simp] theorem State.submit_tun (s : State) (r : Waiting) : (s.submit r).tun = s.tun := by unfold State.submit; simp
@[simp] theorem State.submit_fwd (s : State) (r : Waiting) : (s.submit r).fwd = s.fwd := by unfold State.submit; simp
@[simp] theorem State.submit_allot (s : State) (r : Waiting) : (s.submit r).allot = s.allot := by unfold State.submit; simp
@[simp] theorem State.submit_light (s : State) (r : Waiting) : (s.submit r).light = s.light := by unfold State.submit; simp
@[simp] theorem State.submit_dir (s : State) (r : Waiting) : (s.submit r).dir = s.dir := by unfold State.submit; simp
@[simp] theorem State.submit_bridge (s : State) (r : Waiting) : (s.submit r).bridge = s.bridge := by unfold State.submit; simp
@[simp] theorem State.submit_disp (s : State) (r : Waiting) : (s.submit r).disp = s.disp := by unfold State.submit; simp
@[simp] theorem State.submit_desk (s : State) (r : Waiting) : (s.submit r).desk = s.desk := by unfold State.submit; simp
@[simp] theorem State.submit_stor (s : State) (r : Waiting) : (s.submit r).stor = s.stor := by unfold State.submit; simp
@[simp] theorem State.submit_eth (s : State) (r : Waiting) : (s.submit r).eth = s.eth := by unfold State.submit; simp
@[simp] theorem State.submit_pwr (s : State) (r : Waiting) : (s.submit r).pwr = s.pwr := by unfold State.submit; simp
@[simp] theorem State.submit_vault (s : State) (r : Waiting) : (s.submit r).vault = s.vault := by unfold State.submit; simp
@[simp] theorem State.submit_upd (s : State) (r : Waiting) : (s.submit r).upd = s.upd := by unfold State.submit; simp
@[simp] theorem State.submit_diag (s : State) (r : Waiting) : (s.submit r).diag = s.diag := by unfold State.submit; simp
@[simp] theorem State.submit_dram (s : State) (r : Waiting) : (s.submit r).dram = s.dram := by unfold State.submit; simp
@[simp] theorem State.submit_free (s : State) (r : Waiting) : (s.submit r).free = s.free := by unfold State.submit; simp

/-! ### `State.submitSelf` -/

@[simp] theorem State.submitSelf_pending (s : State) (op : Nat) (data : List Word) : (s.submitSelf op data).pending = s.pending := by unfold State.submitSelf; simp
@[simp] theorem State.submitSelf_sys (s : State) (op : Nat) (data : List Word) : (s.submitSelf op data).sys = s.sys := by unfold State.submitSelf; simp
@[simp] theorem State.submitSelf_topo (s : State) (op : Nat) (data : List Word) : (s.submitSelf op data).topo = s.topo := by unfold State.submitSelf; simp
@[simp] theorem State.submitSelf_phase (s : State) (op : Nat) (data : List Word) : (s.submitSelf op data).phase = s.phase := by unfold State.submitSelf; simp
@[simp] theorem State.submitSelf_time (s : State) (op : Nat) (data : List Word) : (s.submitSelf op data).time = s.time := by unfold State.submitSelf; simp
@[simp] theorem State.submitSelf_sched (s : State) (op : Nat) (data : List Word) : (s.submitSelf op data).sched = s.sched := by unfold State.submitSelf; simp
@[simp] theorem State.submitSelf_trig (s : State) (op : Nat) (data : List Word) : (s.submitSelf op data).trig = s.trig := by unfold State.submitSelf; simp
@[simp] theorem State.submitSelf_trunk (s : State) (op : Nat) (data : List Word) : (s.submitSelf op data).trunk = s.trunk := by unfold State.submitSelf; simp
@[simp] theorem State.submitSelf_ring (s : State) (op : Nat) (data : List Word) : (s.submitSelf op data).ring = s.ring := by unfold State.submitSelf; simp
@[simp] theorem State.submitSelf_tun (s : State) (op : Nat) (data : List Word) : (s.submitSelf op data).tun = s.tun := by unfold State.submitSelf; simp
@[simp] theorem State.submitSelf_fwd (s : State) (op : Nat) (data : List Word) : (s.submitSelf op data).fwd = s.fwd := by unfold State.submitSelf; simp
@[simp] theorem State.submitSelf_allot (s : State) (op : Nat) (data : List Word) : (s.submitSelf op data).allot = s.allot := by unfold State.submitSelf; simp
@[simp] theorem State.submitSelf_light (s : State) (op : Nat) (data : List Word) : (s.submitSelf op data).light = s.light := by unfold State.submitSelf; simp
@[simp] theorem State.submitSelf_dir (s : State) (op : Nat) (data : List Word) : (s.submitSelf op data).dir = s.dir := by unfold State.submitSelf; simp
@[simp] theorem State.submitSelf_bridge (s : State) (op : Nat) (data : List Word) : (s.submitSelf op data).bridge = s.bridge := by unfold State.submitSelf; simp
@[simp] theorem State.submitSelf_disp (s : State) (op : Nat) (data : List Word) : (s.submitSelf op data).disp = s.disp := by unfold State.submitSelf; simp
@[simp] theorem State.submitSelf_desk (s : State) (op : Nat) (data : List Word) : (s.submitSelf op data).desk = s.desk := by unfold State.submitSelf; simp
@[simp] theorem State.submitSelf_stor (s : State) (op : Nat) (data : List Word) : (s.submitSelf op data).stor = s.stor := by unfold State.submitSelf; simp
@[simp] theorem State.submitSelf_eth (s : State) (op : Nat) (data : List Word) : (s.submitSelf op data).eth = s.eth := by unfold State.submitSelf; simp
@[simp] theorem State.submitSelf_pwr (s : State) (op : Nat) (data : List Word) : (s.submitSelf op data).pwr = s.pwr := by unfold State.submitSelf; simp
@[simp] theorem State.submitSelf_vault (s : State) (op : Nat) (data : List Word) : (s.submitSelf op data).vault = s.vault := by unfold State.submitSelf; simp
@[simp] theorem State.submitSelf_upd (s : State) (op : Nat) (data : List Word) : (s.submitSelf op data).upd = s.upd := by unfold State.submitSelf; simp
@[simp] theorem State.submitSelf_diag (s : State) (op : Nat) (data : List Word) : (s.submitSelf op data).diag = s.diag := by unfold State.submitSelf; simp
@[simp] theorem State.submitSelf_dram (s : State) (op : Nat) (data : List Word) : (s.submitSelf op data).dram = s.dram := by unfold State.submitSelf; simp
@[simp] theorem State.submitSelf_free (s : State) (op : Nat) (data : List Word) : (s.submitSelf op data).free = s.free := by unfold State.submitSelf; simp

/-! ### `State.sendRoot` -/

@[simp] theorem State.sendRoot_pending (s : State) (op : Nat) (data : List Word) : (s.sendRoot op data).pending = s.pending := by unfold State.sendRoot; (repeat' split) <;> simp
@[simp] theorem State.sendRoot_sys (s : State) (op : Nat) (data : List Word) : (s.sendRoot op data).sys = s.sys := by unfold State.sendRoot; (repeat' split) <;> simp
@[simp] theorem State.sendRoot_topo (s : State) (op : Nat) (data : List Word) : (s.sendRoot op data).topo = s.topo := by unfold State.sendRoot; (repeat' split) <;> simp
@[simp] theorem State.sendRoot_phase (s : State) (op : Nat) (data : List Word) : (s.sendRoot op data).phase = s.phase := by unfold State.sendRoot; (repeat' split) <;> simp
@[simp] theorem State.sendRoot_time (s : State) (op : Nat) (data : List Word) : (s.sendRoot op data).time = s.time := by unfold State.sendRoot; (repeat' split) <;> simp
@[simp] theorem State.sendRoot_sched (s : State) (op : Nat) (data : List Word) : (s.sendRoot op data).sched = s.sched := by unfold State.sendRoot; (repeat' split) <;> simp
@[simp] theorem State.sendRoot_trig (s : State) (op : Nat) (data : List Word) : (s.sendRoot op data).trig = s.trig := by unfold State.sendRoot; (repeat' split) <;> simp
@[simp] theorem State.sendRoot_trunk (s : State) (op : Nat) (data : List Word) : (s.sendRoot op data).trunk = s.trunk := by unfold State.sendRoot; (repeat' split) <;> simp
@[simp] theorem State.sendRoot_ring (s : State) (op : Nat) (data : List Word) : (s.sendRoot op data).ring = s.ring := by unfold State.sendRoot; (repeat' split) <;> simp
@[simp] theorem State.sendRoot_tun (s : State) (op : Nat) (data : List Word) : (s.sendRoot op data).tun = s.tun := by unfold State.sendRoot; (repeat' split) <;> simp
@[simp] theorem State.sendRoot_fwd (s : State) (op : Nat) (data : List Word) : (s.sendRoot op data).fwd = s.fwd := by unfold State.sendRoot; (repeat' split) <;> simp
@[simp] theorem State.sendRoot_allot (s : State) (op : Nat) (data : List Word) : (s.sendRoot op data).allot = s.allot := by unfold State.sendRoot; (repeat' split) <;> simp
@[simp] theorem State.sendRoot_light (s : State) (op : Nat) (data : List Word) : (s.sendRoot op data).light = s.light := by unfold State.sendRoot; (repeat' split) <;> simp
@[simp] theorem State.sendRoot_dir (s : State) (op : Nat) (data : List Word) : (s.sendRoot op data).dir = s.dir := by unfold State.sendRoot; (repeat' split) <;> simp
@[simp] theorem State.sendRoot_bridge (s : State) (op : Nat) (data : List Word) : (s.sendRoot op data).bridge = s.bridge := by unfold State.sendRoot; (repeat' split) <;> simp
@[simp] theorem State.sendRoot_disp (s : State) (op : Nat) (data : List Word) : (s.sendRoot op data).disp = s.disp := by unfold State.sendRoot; (repeat' split) <;> simp
@[simp] theorem State.sendRoot_desk (s : State) (op : Nat) (data : List Word) : (s.sendRoot op data).desk = s.desk := by unfold State.sendRoot; (repeat' split) <;> simp
@[simp] theorem State.sendRoot_stor (s : State) (op : Nat) (data : List Word) : (s.sendRoot op data).stor = s.stor := by unfold State.sendRoot; (repeat' split) <;> simp
@[simp] theorem State.sendRoot_eth (s : State) (op : Nat) (data : List Word) : (s.sendRoot op data).eth = s.eth := by unfold State.sendRoot; (repeat' split) <;> simp
@[simp] theorem State.sendRoot_pwr (s : State) (op : Nat) (data : List Word) : (s.sendRoot op data).pwr = s.pwr := by unfold State.sendRoot; (repeat' split) <;> simp
@[simp] theorem State.sendRoot_vault (s : State) (op : Nat) (data : List Word) : (s.sendRoot op data).vault = s.vault := by unfold State.sendRoot; (repeat' split) <;> simp
@[simp] theorem State.sendRoot_upd (s : State) (op : Nat) (data : List Word) : (s.sendRoot op data).upd = s.upd := by unfold State.sendRoot; (repeat' split) <;> simp
@[simp] theorem State.sendRoot_diag (s : State) (op : Nat) (data : List Word) : (s.sendRoot op data).diag = s.diag := by unfold State.sendRoot; (repeat' split) <;> simp
@[simp] theorem State.sendRoot_dram (s : State) (op : Nat) (data : List Word) : (s.sendRoot op data).dram = s.dram := by unfold State.sendRoot; (repeat' split) <;> simp
@[simp] theorem State.sendRoot_free (s : State) (op : Nat) (data : List Word) : (s.sendRoot op data).free = s.free := by unfold State.sendRoot; (repeat' split) <;> simp

/-! ### `State.sendHub` -/

@[simp] theorem State.sendHub_pending (s : State) (hub op : Nat) (data : List Word) : (s.sendHub hub op data).pending = s.pending := by unfold State.sendHub; split <;> simp
@[simp] theorem State.sendHub_sys (s : State) (hub op : Nat) (data : List Word) : (s.sendHub hub op data).sys = s.sys := by unfold State.sendHub; split <;> simp
@[simp] theorem State.sendHub_topo (s : State) (hub op : Nat) (data : List Word) : (s.sendHub hub op data).topo = s.topo := by unfold State.sendHub; split <;> simp
@[simp] theorem State.sendHub_phase (s : State) (hub op : Nat) (data : List Word) : (s.sendHub hub op data).phase = s.phase := by unfold State.sendHub; split <;> simp
@[simp] theorem State.sendHub_time (s : State) (hub op : Nat) (data : List Word) : (s.sendHub hub op data).time = s.time := by unfold State.sendHub; split <;> simp
@[simp] theorem State.sendHub_sched (s : State) (hub op : Nat) (data : List Word) : (s.sendHub hub op data).sched = s.sched := by unfold State.sendHub; split <;> simp
@[simp] theorem State.sendHub_trig (s : State) (hub op : Nat) (data : List Word) : (s.sendHub hub op data).trig = s.trig := by unfold State.sendHub; split <;> simp
@[simp] theorem State.sendHub_trunk (s : State) (hub op : Nat) (data : List Word) : (s.sendHub hub op data).trunk = s.trunk := by unfold State.sendHub; split <;> simp
@[simp] theorem State.sendHub_ring (s : State) (hub op : Nat) (data : List Word) : (s.sendHub hub op data).ring = s.ring := by unfold State.sendHub; split <;> simp
@[simp] theorem State.sendHub_tun (s : State) (hub op : Nat) (data : List Word) : (s.sendHub hub op data).tun = s.tun := by unfold State.sendHub; split <;> simp
@[simp] theorem State.sendHub_fwd (s : State) (hub op : Nat) (data : List Word) : (s.sendHub hub op data).fwd = s.fwd := by unfold State.sendHub; split <;> simp
@[simp] theorem State.sendHub_allot (s : State) (hub op : Nat) (data : List Word) : (s.sendHub hub op data).allot = s.allot := by unfold State.sendHub; split <;> simp
@[simp] theorem State.sendHub_light (s : State) (hub op : Nat) (data : List Word) : (s.sendHub hub op data).light = s.light := by unfold State.sendHub; split <;> simp
@[simp] theorem State.sendHub_dir (s : State) (hub op : Nat) (data : List Word) : (s.sendHub hub op data).dir = s.dir := by unfold State.sendHub; split <;> simp
@[simp] theorem State.sendHub_bridge (s : State) (hub op : Nat) (data : List Word) : (s.sendHub hub op data).bridge = s.bridge := by unfold State.sendHub; split <;> simp
@[simp] theorem State.sendHub_disp (s : State) (hub op : Nat) (data : List Word) : (s.sendHub hub op data).disp = s.disp := by unfold State.sendHub; split <;> simp
@[simp] theorem State.sendHub_desk (s : State) (hub op : Nat) (data : List Word) : (s.sendHub hub op data).desk = s.desk := by unfold State.sendHub; split <;> simp
@[simp] theorem State.sendHub_stor (s : State) (hub op : Nat) (data : List Word) : (s.sendHub hub op data).stor = s.stor := by unfold State.sendHub; split <;> simp
@[simp] theorem State.sendHub_eth (s : State) (hub op : Nat) (data : List Word) : (s.sendHub hub op data).eth = s.eth := by unfold State.sendHub; split <;> simp
@[simp] theorem State.sendHub_pwr (s : State) (hub op : Nat) (data : List Word) : (s.sendHub hub op data).pwr = s.pwr := by unfold State.sendHub; split <;> simp
@[simp] theorem State.sendHub_vault (s : State) (hub op : Nat) (data : List Word) : (s.sendHub hub op data).vault = s.vault := by unfold State.sendHub; split <;> simp
@[simp] theorem State.sendHub_upd (s : State) (hub op : Nat) (data : List Word) : (s.sendHub hub op data).upd = s.upd := by unfold State.sendHub; split <;> simp
@[simp] theorem State.sendHub_diag (s : State) (hub op : Nat) (data : List Word) : (s.sendHub hub op data).diag = s.diag := by unfold State.sendHub; split <;> simp
@[simp] theorem State.sendHub_dram (s : State) (hub op : Nat) (data : List Word) : (s.sendHub hub op data).dram = s.dram := by unfold State.sendHub; split <;> simp
@[simp] theorem State.sendHub_free (s : State) (hub op : Nat) (data : List Word) : (s.sendHub hub op data).free = s.free := by unfold State.sendHub; split <;> simp

end Sys2Proof.Machine
end

