-- ==== Sys2Proof/Laws/Keeps.lean ====
section
/-!
SUPPORT. `Keeps s t`: the hub goes from `s` to `t` with its queue as it was and without leaving the safe states. It is reflexive and
goes through every change that touches neither the mailboxes nor LPDDR5X nor the held events nor the error log; the operations that do
touch them have their lemmas here.
-/

namespace Sys2Proof.Machine

open Sys2Proof

/-- `t` has the queue of `s`, and is safe when `s` is. -/
structure Keeps (s t : State) : Prop where
  pending : t.pending = s.pending
  inv : s.Inv → t.Inv

theorem Keeps.refl (s : State) : Keeps s s := ⟨rfl, id⟩

theorem Keeps.trans {s t u : State} (h : Keeps s t) (k : Keeps t u) : Keeps s u := ⟨k.pending.trans h.pending, fun i => k.inv (h.inv i)⟩

/-- A change of other parts keeps the queue and the safe states. -/
theorem Keeps.mk' {s₀ s t : State} (h : Keeps s₀ s) (p : t.pending = s.pending) (d : t.dram = s.dram) (b : t.mbx.boxes = s.mbx.boxes)
    (e : t.mbx.heldEvents = s.mbx.heldEvents) (l : t.diag.log = s.diag.log) : Keeps s₀ t := by
  refine h.trans ⟨p, fun i => ⟨d ▸ i.dram, fun k => ?_, e ▸ i.held, l ▸ i.log⟩⟩
  have := i.boxes k
  simp only [State.box, b] at this ⊢
  exact this

/-- The same, for a record written out. -/
theorem Keeps.upd {s₀ : State} (s : State) (h : Keeps s₀ s) {sys : Sys} {topo : Topo} {mbx : Mbx} {phase : Phase} {time : PtpTime} {sched : Sched} {trig : Vector Trig 8} {trunk : Vector TrunkPort 4} {ring : Vector Ring 2} {tun : Tun} {fwd : Fwd} {allot : Allot} {light : Light} {dir : Dir} {bridge : Bridge} {disp : Disp} {desk : Desk} {stor : Stor} {eth : Eth} {pwr : Power} {vault : Vault} {upd : Upd} {diag : Diag} {outbox : List Sent} {free : Nat}
    (b : mbx.boxes = s.mbx.boxes) (e : mbx.heldEvents = s.mbx.heldEvents) (l : diag.log = s.diag.log) :
    Keeps s₀ ({ pending := s.pending, sys := sys, topo := topo, mbx := mbx, phase := phase, time := time, sched := sched, trig := trig, trunk := trunk, ring := ring, tun := tun, fwd := fwd, allot := allot, light := light, dir := dir, bridge := bridge, disp := disp, desk := desk, stor := stor, eth := eth, pwr := pwr, vault := vault, upd := upd, diag := diag, dram := s.dram, outbox := outbox, free := free }) := h.mk' rfl rfl b e l

theorem Keeps.ite {s₀ t u : State} {c : Prop} [Decidable c] (h : Keeps s₀ t) (k : Keeps s₀ u) : Keeps s₀ (if c then t else u) := by
  split <;> assumption

theorem Keeps.foldl {s₀ : State} {α : Type} {f : State → α → State} (hf : ∀ s a, Keeps s₀ s → Keeps s₀ (f s a)) :
    ∀ (xs : List α) (s : State), Keeps s₀ s → Keeps s₀ (xs.foldl f s)
  | [], _, h => h
  | _ :: xs, s, h => Keeps.foldl hf xs _ (hf s _ h)

theorem Keeps.foldlFst {s₀ : State} {α β : Type} {f : State × β → α → State × β} (hf : ∀ p a, Keeps s₀ p.1 → Keeps s₀ (f p a).1) :
    ∀ (xs : List α) (p : State × β), Keeps s₀ p.1 → Keeps s₀ (xs.foldl f p).1
  | [], _, h => h
  | _ :: xs, p, h => Keeps.foldlFst hf xs _ (hf p _ h)

theorem Keeps.iteFst {s₀ : State} {α : Type} {p q : State × α} {c : Prop} [Decidable c] (h : Keeps s₀ p.1) (k : Keeps s₀ q.1) :
    Keeps s₀ (if c then p else q).1 := by split <;> assumption

theorem Keeps.iteSnd {s₀ : State} {α : Type} {p q : α × State} {c : Prop} [Decidable c] (h : Keeps s₀ p.2) (k : Keeps s₀ q.2) :
    Keeps s₀ (if c then p else q).2 := by split <;> assumption

theorem Keeps.fst {s₀ t : State} {α : Type} {x : α} {p : State × α} (e : p = (t, x)) (h : Keeps s₀ p.1) : Keeps s₀ t := by subst e; exact h

theorem Keeps.snd {s₀ t : State} {α : Type} {x : α} {p : α × State} (e : p = (x, t)) (h : Keeps s₀ p.2) : Keeps s₀ t := by subst e; exact h

/-- Changes of mailboxes that keep their bounds. -/
theorem Keeps.boxes {s₀ s t : State} (h : Keeps s₀ s) (p : t.pending = s.pending) (d : t.dram = s.dram)
    (b : ∀ i, (s.box i).Ok → (t.box i).Ok) (e : t.mbx.heldEvents = s.mbx.heldEvents) (l : t.diag.log = s.diag.log) : Keeps s₀ t :=
  h.trans ⟨p, fun i => ⟨d ▸ i.dram, fun k => b k (i.boxes k), e ▸ i.held, l ▸ i.log⟩⟩

theorem Mailbox.reset_ok : ({} : Mailbox).Ok := by constructor <;> decide

theorem State.reset_inv : State.reset.Inv := by
  refine ⟨rfl, fun i => ?_, by decide, by decide⟩
  have h : State.reset.mbx.boxes = Vector.replicate 38 {} := rfl
  simp only [State.box, h, Vector.getElem_replicate]
  exact Mailbox.reset_ok

/-- A change that leaves no more events held and no longer a log. -/
theorem Keeps.less {s₀ s t : State} (h : Keeps s₀ s) (p : t.pending = s.pending) (d : t.dram = s.dram) (b : t.mbx.boxes = s.mbx.boxes)
    (e : t.mbx.heldEvents.length ≤ s.mbx.heldEvents.length) (l : t.diag.log.length ≤ s.diag.log.length) : Keeps s₀ t :=
  h.trans ⟨p, fun i => ⟨d ▸ i.dram, fun k => by have := i.boxes k; simp only [State.box, b] at this ⊢; exact this, Nat.le_trans e i.held, Nat.le_trans l i.log⟩⟩

/-- A hub that starts afresh, with its queue as it was. -/
theorem Keeps.afresh {s₀ s t : State} (h : Keeps s₀ s) (p : t.pending = s.pending) (d : t.dram = State.reset.dram)
    (b : t.mbx = State.reset.mbx) (l : t.diag.log = []) : Keeps s₀ t := by
  have r := State.reset_inv
  refine h.trans ⟨p, fun _ => ⟨d ▸ r.dram, fun k => ?_, b ▸ r.held, by simp [l]⟩⟩
  have := r.boxes k
  simp only [State.box, b] at this ⊢
  exact this

theorem Keeps.modBox {s₀ s : State} {i : Fin 38} {f : Mailbox → Mailbox} (hf : ∀ m, m.Ok → (f m).Ok) (h : Keeps s₀ s) :
    Keeps s₀ (s.modBox i f) := by
  refine h.boxes rfl rfl (fun k hk => ?_) rfl rfl
  simp only [State.box, State.modBox, updAt] at *
  by_cases e : i.val = k.val
  · simp [e]; exact hf _ hk
  · simp [e]; exact hk

/-- A change of a mailbox's other fields keeps its bounds. -/
theorem Mailbox.Ok.same {m n : Mailbox} (h : m.Ok) (p : n.prod = m.prod) (c : n.cons = m.cons) (q : n.seqNext = m.seqNext)
    (k : n.mask = m.mask) : n.Ok := by
  refine ⟨p ▸ h.prod, c ▸ h.cons, q ▸ h.seq, ?_, k ▸ h.unmasked⟩
  have := h.room
  simp only [Mailbox.used, p, c] at *
  exact this

theorem Mailbox.entry_ok {m : Mailbox} (h : m.Ok) (f : m.full = false) (ev : Nat) (data : Word) (st : Stamp) : (m.entry ev data st).Ok := by
  obtain ⟨h1, h2, h3, h4, h5⟩ := h
  have f := of_decide_eq_false f
  simp only [Mailbox.used] at f h4
  refine ⟨?_, h2, ?_, ?_, h5⟩ <;> simp only [Mailbox.entry, Mailbox.used] <;> omega

theorem Mailbox.flushLost_ok {m : Mailbox} (h : m.Ok) (st : Stamp) : (m.flushLost st).Ok := by
  unfold Mailbox.flushLost
  split
  · exact h
  · rename_i n
    simp only [Bool.not_eq_true, Bool.or_eq_false_iff] at n
    exact (Mailbox.entry_ok h n.2 1 (wd m.lost) st).same rfl rfl rfl rfl

theorem Mailbox.lose_ok {m : Mailbox} (h : m.Ok) : m.lose.Ok := by
  obtain ⟨h1, h2, h3, h4, h5⟩ := h
  exact ⟨h1, h2, Nat.mod_lt _ (by decide), h4, h5⟩

theorem Mailbox.push_ok {m : Mailbox} (h : m.Ok) (ev : Nat) (data : Word) (st : Stamp) : (m.push ev data st).Ok := by
  have g := Mailbox.flushLost_ok h st
  unfold Mailbox.push
  simp only
  split
  · exact Mailbox.lose_ok g
  · rename_i n
    exact Mailbox.entry_ok g (by simpa using n) ev data st

theorem Mailbox.swap_ok {m : Mailbox} (h : m.Ok) (j k : Nat) (a b : EvEntry) : (m.swap j k a b).Ok := h.same rfl rfl rfl rfl

theorem Mailbox.settleN_ok : ∀ (n : Nat) {m : Mailbox} (p : Nat), m.Ok → (m.settleN n p).Ok
  | 0, _, _, h => h
  | n + 1, m, p, h => by
    unfold Mailbox.settleN
    dsimp only
    split
    · split
      · exact Mailbox.settleN_ok n _ (Mailbox.swap_ok h ..)
      · exact h
    · exact h

theorem Mailbox.settle_ok {m : Mailbox} (h : m.Ok) : m.settle.Ok := Mailbox.settleN_ok _ _ h

theorem Keeps.deliver {s₀ s : State} (h : Keeps s₀ s) (ev : Nat) (data : Word) (st : Stamp) (d : EvDest) : Keeps s₀ (s.deliver ev data st d) :=
  Keeps.foldl (fun _ _ h => Keeps.ite (Keeps.modBox (fun _ k => Mailbox.settle_ok (Mailbox.push_ok k ev data st)) h) h) _ _ h

theorem Keeps.loseEvent {s₀ s : State} (h : Keeps s₀ s) (ev : Nat) (d : EvDest) : Keeps s₀ (s.loseEvent ev d) :=
  Keeps.foldl (fun _ _ h => Keeps.ite (Keeps.modBox (fun _ k => Mailbox.lose_ok k) h) h) _ _ h

theorem Keeps.raiseAt {s₀ s : State} (h : Keeps s₀ s) (ev : Nat) (data : Word) (st : Stamp) (d : EvDest) : Keeps s₀ (s.raiseAt ev data st d) := by
  unfold State.raiseAt
  split
  · split
    · rename_i n
      refine h.trans ⟨rfl, fun i => ⟨i.dram, i.boxes, ?_, i.log⟩⟩
      simp only [List.length_append, List.length_cons, List.length_nil]
      omega
    · exact h.mk' rfl rfl rfl rfl rfl
  · exact h.deliver ..

theorem Keeps.raiseW {s₀ s : State} (h : Keeps s₀ s) (ev : Nat) (data : Word) (d : EvDest) : Keeps s₀ (s.raiseW ev data d) := h.raiseAt ..

theorem Keeps.logErr {s₀ s : State} (h : Keeps s₀ s) (cls unit outcome event detail : Nat) :
    Keeps s₀ (s.logErr cls unit outcome event detail) := by
  unfold State.logErr
  simp only
  split
  · refine h.trans ⟨rfl, fun i => ⟨i.dram, i.boxes, i.held, ?_⟩⟩
    have : ∀ (p : LogEntry → Bool) (f : LogEntry → LogEntry) (xs : List LogEntry), (modFirst p f xs).length = xs.length := by
      intro p f xs
      induction xs with
      | nil => rfl
      | cons x xs ih => unfold modFirst; split <;> simp [ih]
    simpa only [this] using i.log
  · refine h.trans ⟨rfl, fun i => ⟨i.dram, i.boxes, i.held, ?_⟩⟩
    simp only [List.length_take]
    exact Nat.min_le_left ..

theorem Keeps.memWrite {s₀ s : State} (h : Keeps s₀ s) (a : Nat) (bs : List Byte) : Keeps s₀ (s.memWrite a bs) :=
  h.trans ⟨rfl, fun i => ⟨State.memWrite_wf a bs i.dram, i.boxes, i.held, i.log⟩⟩

theorem Keeps.refreshAuth {s₀ s : State} (h : Keeps s₀ s) : Keeps s₀ s.refreshAuth := by
  refine h.boxes (by simp only [State.refreshAuth]) (by simp only [State.refreshAuth]) (fun i k => ?_) (by simp only [State.refreshAuth]) (by simp only [State.refreshAuth])
  simp only [State.box, State.refreshAuth, Vector.getElem_ofFn] at *
  exact k.same rfl rfl rfl rfl

/-- A value read from a record body first. -/
theorem Keeps.bind {s₀ : State} {α : Type} {m : RdM α} {f : α → RdM State} (h : ∀ a r, Keeps s₀ (f a r).1) (r : Rd) :
    Keeps s₀ ((m >>= f) r).1 := h _ _

theorem Keeps.pure {s₀ t : State} (h : Keeps s₀ t) (r : Rd) : Keeps s₀ ((pure t : RdM State) r).1 := h

/-- A command's outcome is a next state that keeps the queue and the safe states. -/
def OutKeeps (s : State) (o : Host.Outcome State Fault Refusal) : Prop := ∃ t, o = .next t ∧ Keeps s t

theorem OutKeeps.next {s t : State} (h : Keeps s t) : OutKeeps s (.next t) := ⟨t, rfl, h⟩

theorem OutKeeps.ite {s : State} {a b : Host.Outcome State Fault Refusal} {c : Prop} [Decidable c] (h : OutKeeps s a) (k : OutKeeps s b) :
    OutKeeps s (if c then a else b) := by split <;> assumption

theorem Keeps.respond {s₀ s : State} (h : Keeps s₀ s) (r : Response) : Keeps s₀ (s.respond r) := h.mk' rfl rfl rfl rfl rfl

theorem OutKeeps.runCmd {s : State} {op : Nat} {f : Waiting → State → State × Response} (h : ∀ r, Keeps s (f r s).1) :
    OutKeeps s (runCmd op s f) := by
  unfold Sys2Proof.Machine.runCmd
  split
  · exact .next ((h _).respond _)
  · exact .next (.refl s)

theorem OutKeeps.runRead {s : State} {op : Nat} {f : Waiting → State → Response} : OutKeeps s (runRead op s f) :=
  .runCmd fun _ => .refl s

end Sys2Proof.Machine
end

