-- ==== Sys2Proof/Laws/KeepsCells.lean ====
section
/-!
SUPPORT. Every operation keeps the queue and the safe states (`Keeps`, Laws/Keeps.lean): the mailboxes, the phase base, the crossbar, the
lighting, the bridges, the desk ports, storage and the tunnels at their base. One lemma per operation.
-/

set_option linter.unusedVariables false

namespace Sys2Proof.Machine

open Sys2Proof

/-! ### Ops -/

theorem State.send_keeps {s₀ : State} {s : State} (o : Sent) (hK : Keeps s₀ s) : Keeps s₀ (State.send s o) :=
  Keeps.upd _ hK rfl rfl rfl

theorem State.sendAll_keeps {s₀ : State} {s : State} (os : List Sent) (hK : Keeps s₀ s) : Keeps s₀ (State.sendAll s os) :=
  Keeps.upd _ hK rfl rfl rfl

theorem State.draw_keeps {s₀ : State} {s : State} (hK : Keeps s₀ s) : Keeps s₀ (State.draw s).2 := by
  unfold State.draw
  with_reducible repeat' ((try (fail_if_success fail_if_success conv => enter [2, 25]); refine Keeps.upd _ ?_ rfl rfl rfl); first
      | assumption | dsimp only)

theorem State.raise_keeps {s₀ : State} {s : State} (ev : Nat) (fs : List (Nat × Nat)) (d : EvDest) (hK : Keeps s₀ s) : Keeps s₀ (State.raise s ev fs
    d) := by
  unfold State.raise
  with_reducible repeat' (first | assumption | apply Keeps.raiseW)

theorem State.holdStart_keeps {s₀ : State} {s : State} (ev : Nat) (fs : List (Nat × Nat)) (hK : Keeps s₀ s) : Keeps s₀ (State.holdStart s ev fs) :=
  Keeps.upd _ hK rfl rfl rfl

theorem State.raiseOrHold_keeps {s₀ : State} {s : State} (ev : Nat) (fs : List (Nat × Nat)) (hK : Keeps s₀ s) : Keeps s₀ (State.raiseOrHold s ev fs)
    := by
  unfold State.raiseOrHold
  with_reducible repeat' (first | assumption | apply State.raise_keeps | apply State.holdStart_keeps | apply Keeps.ite)

theorem State.raiseRated_keeps {s₀ : State} {s : State} (ev : Nat) (obj : Nat) (n : Nat) (fs : List (Nat × Nat)) (d : EvDest) (hold : Bool) (ms :
    Bool) (hK : Keeps s₀ s) : Keeps s₀ (State.raiseRated s ev obj n fs d hold ms) := by
  unfold State.raiseRated
  with_reducible repeat' ((try (fail_if_success fail_if_success conv => enter [2, 25]); refine Keeps.upd _ ?_ rfl rfl rfl); first
      | assumption | apply State.raise_keeps | apply Keeps.ite)

theorem State.raiseCounted_keeps {s₀ : State} {s : State} (ev : Nat) (obj : Nat) (k : Nat) (fs : List (Nat × Nat)) (w : Nat) (d : EvDest) (hK :
    Keeps s₀ s) : Keeps s₀ (State.raiseCounted s ev obj k fs w d) := by
  unfold State.raiseCounted
  with_reducible repeat' ((try (fail_if_success fail_if_success conv => enter [2, 25]); refine Keeps.upd _ ?_ rfl rfl rfl); first
      | assumption | dsimp only)

theorem State.startNext_keeps {s₀ : State} {s : State} (hK : Keeps s₀ s) : Keeps s₀ (State.startNext s) := by
  unfold State.startNext
  with_reducible repeat' ((try (fail_if_success fail_if_success conv => enter [2, 25]); refine Keeps.upd _ ?_ rfl rfl rfl); first
      | assumption | apply State.raiseRated_keeps | apply Keeps.ite | split | dsimp only)

theorem State.submit_keeps {s₀ : State} {s : State} (r : Waiting) (hK : Keeps s₀ s) : Keeps s₀ (State.submit s r) := by
  unfold State.submit
  with_reducible repeat' ((try (fail_if_success fail_if_success conv => enter [2, 25]); refine Keeps.upd _ ?_ rfl rfl rfl); first
      | assumption | apply State.startNext_keeps)

theorem State.submitSelf_keeps {s₀ : State} {s : State} (op : Nat) (data : List Word) (hK : Keeps s₀ s) : Keeps s₀ (State.submitSelf s op data) := by
  unfold State.submitSelf
  with_reducible repeat' (first | assumption | apply State.submit_keeps)

theorem State.sendRoot_keeps {s₀ : State} {s : State} (op : Nat) (data : List Word) (hK : Keeps s₀ s) : Keeps s₀ (State.sendRoot s op data) := by
  unfold State.sendRoot
  with_reducible repeat' (first | assumption | apply State.submitSelf_keeps | apply State.send_keeps | apply Keeps.ite)

theorem State.sendHub_keeps {s₀ : State} {s : State} (hub : Nat) (op : Nat) (data : List Word) (hK : Keeps s₀ s) : Keeps s₀ (State.sendHub s hub op
    data) := by
  unfold State.sendHub
  with_reducible repeat' (first | assumption | apply State.submitSelf_keeps | apply State.send_keeps | apply Keeps.ite)

/-! ### Mailbox -/

theorem State.doorbell_keeps {s₀ : State} {s : State} (i : Fin 38) (r : Waiting) (hK : Keeps s₀ s) : Keeps s₀ (State.doorbell s i r) := by
  unfold State.doorbell
  with_reducible repeat' (first
      | assumption | apply Keeps.modBox | apply State.submit_keeps | apply Keeps.ite | (apply Mailbox.Ok.same <;> first | assumption | rfl)
      | intro _)

theorem State.spiHeard_keeps {s₀ : State} {s : State} (i : Fin 38) (hK : Keeps s₀ s) : Keeps s₀ (State.spiHeard s i) := by
  unfold State.spiHeard
  with_reducible repeat' ((try (fail_if_success fail_if_success conv => enter [2, 25]); refine Keeps.upd _ ?_ rfl rfl rfl); first
      | assumption | apply Keeps.ite)

theorem State.ringOne_keeps {s₀ : State} {s : State} (i : Fin 38) (hK : Keeps s₀ s) : Keeps s₀ (State.ringOne s i) := by
  unfold State.ringOne
  with_reducible repeat' (first | assumption | apply State.spiHeard_keeps | apply State.doorbell_keeps | apply Keeps.ite)

theorem State.consWrite_keeps {s₀ : State} {s : State} (i : Fin 38) (cons : Nat) (hc : cons < 65536) (hK : Keeps s₀ s) :
    Keeps s₀ (State.consWrite s i cons) := by
  unfold State.consWrite
  split
  · rename_i n
    have n := of_decide_eq_true n
    refine hK.boxes rfl rfl (fun k hk => ?_) rfl rfl
    simp only [State.box, State.modBox, updAt] at *
    by_cases e : i.val = k.val
    · simp only [e] at n
      simp only [e, Vector.getElem_set_self]
      refine Mailbox.flushLost_ok (m := { s.mbx.boxes[k.val] with cons := cons }) ⟨hk.prod, hc, hk.seq, ?_, hk.unmasked⟩ _
      simpa only [Mailbox.used] using n
    · simp [e]; exact hk
  · exact hK

/-- A window write other than DOORBELL and EVQ_CONS keeps a mailbox's bounds. -/
theorem Mailbox.write_ok {m : Mailbox} (offset : Nat) (value : Word) (h : m.Ok) : (m.write offset value).Ok := by
  unfold Mailbox.write
  repeat' split
  all_goals first | exact h | exact h.same rfl rfl rfl rfl

theorem State.windowWrite_keeps {s₀ : State} {s : State} (i : Fin 38) (offset : Nat) (value : Word) (hK : Keeps s₀ s) :
    Keeps s₀ (State.windowWrite s i offset value) := by
  unfold State.windowWrite
  split
  · exact Keeps.ite (State.doorbell_keeps _ _ hK) hK
  · split
    · exact State.consWrite_keeps _ _ (Nat.mod_lt _ (by decide)) hK
    · exact Keeps.modBox (fun m h => Mailbox.write_ok _ _ h) hK

theorem State.spiWrites_keeps {s₀ : State} {s : State} (address : Nat) (ws : List Word) (hK : Keeps s₀ s) : Keeps s₀ (State.spiWrites s address ws)
    := by
  unfold State.spiWrites
  with_reducible repeat' (first | assumption | apply State.windowWrite_keeps | (refine Keeps.foldl (fun _ _ _ => ?_) _ _ ?_))

theorem State.endWindow_keeps {s₀ : State} {s : State} (ms : Bool) (hK : Keeps s₀ s) : Keeps s₀ (State.endWindow s ms) := by
  unfold State.endWindow
  with_reducible repeat' ((try (fail_if_success fail_if_success conv => enter [2, 25]); refine Keeps.upd _ ?_ rfl rfl rfl); first
      | assumption | apply Keeps.raiseW | apply Keeps.ite | (refine Keeps.foldl (fun _ _ _ => ?_) _ _ ?_) | split)

theorem State.aonSecond_keeps {s₀ : State} {s : State} (hK : Keeps s₀ s) : Keeps s₀ (State.aonSecond s) :=
  Keeps.upd _ hK rfl rfl rfl

theorem State.msWindow_keeps {s₀ : State} {s : State} (hK : Keeps s₀ s) : Keeps s₀ (State.msWindow s) :=
  Keeps.upd _ hK rfl rfl rfl

/-! ### PhaseBase -/

theorem State.setPhase_keeps {s₀ : State} {s : State} (n : PhState) (hK : Keeps s₀ s) : Keeps s₀ (State.setPhase s n) := by
  unfold State.setPhase
  with_reducible repeat' ((try (fail_if_success fail_if_success conv => enter [2, 25]); refine Keeps.upd _ ?_ rfl rfl rfl); first
      | assumption | apply State.raise_keeps | apply Keeps.ite)

theorem State.timeFirstLock_keeps {s₀ : State} {s : State} (source : Nat) (hK : Keeps s₀ s) : Keeps s₀ (State.timeFirstLock s source) := by
  unfold State.timeFirstLock
  with_reducible repeat' ((try (fail_if_success fail_if_success conv => enter [2, 25]); refine Keeps.upd _ ?_ rfl rfl rfl); first
      | assumption | apply State.raise_keeps | apply Keeps.ite)

theorem State.mainsLost_keeps {s₀ : State} {s : State} (zx : Nat) (hK : Keeps s₀ s) : Keeps s₀ (State.mainsLost s zx) := by
  unfold State.mainsLost
  with_reducible repeat' ((try (fail_if_success fail_if_success conv => enter [2, 25]); refine Keeps.upd _ ?_ rfl rfl rfl); first
      | assumption | apply State.setPhase_keeps | apply Keeps.ite | split | dsimp only)

theorem State.synthOffset_keeps {s₀ : State} {s : State} (hK : Keeps s₀ s) : Keeps s₀ (State.synthOffset s) := by
  unfold State.synthOffset
  with_reducible repeat' ((try (fail_if_success fail_if_success conv => enter [2, 25]); refine Keeps.upd _ ?_ rfl rfl rfl); first
      | assumption | apply Keeps.ite)

theorem State.applyOffset_keeps {s₀ : State} {s : State} (m : Nat) (hK : Keeps s₀ s) : Keeps s₀ (State.applyOffset s m) := by
  unfold State.applyOffset
  with_reducible repeat' ((try (fail_if_success fail_if_success conv => enter [2, 25]); refine Keeps.upd _ ?_ rfl rfl rfl); first
      | assumption | apply State.raise_keeps | apply Keeps.ite | dsimp only)

theorem State.measureOffset_keeps {s₀ : State} {s : State} (hK : Keeps s₀ s) : Keeps s₀ (State.measureOffset s) := by
  unfold State.measureOffset
  with_reducible repeat' ((try (fail_if_success fail_if_success conv => enter [2, 25]); refine Keeps.upd _ ?_ rfl rfl rfl); first
      | assumption | apply State.synthOffset_keeps | apply State.applyOffset_keeps | apply Keeps.ite)

theorem State.realignLantern_keeps {s₀ : State} {s : State} (hK : Keeps s₀ s) : Keeps s₀ (State.realignLantern s) :=
  Keeps.upd _ hK rfl rfl rfl

theorem State.realignKept_keeps {s₀ : State} {s : State} (hK : Keeps s₀ s) : Keeps s₀ (State.realignKept s) := by
  unfold State.realignKept
  with_reducible repeat' ((try (fail_if_success fail_if_success conv => enter [2, 25]); refine Keeps.upd _ ?_ rfl rfl rfl); first
      | assumption | apply State.realignLantern_keeps)

theorem State.realignCounts_keeps {s₀ : State} {s : State} (hK : Keeps s₀ s) : Keeps s₀ (State.realignCounts s) := by
  unfold State.realignCounts
  with_reducible repeat' ((try (fail_if_success fail_if_success conv => enter [2, 25]); refine Keeps.upd _ ?_ rfl rfl rfl); first
      | assumption | dsimp only)

theorem State.startWindows_keeps {s₀ : State} {s : State} (hK : Keeps s₀ s) : Keeps s₀ (State.startWindows s) := by
  unfold State.startWindows
  with_reducible repeat' ((try (fail_if_success fail_if_success conv => enter [2, 25]); refine Keeps.upd _ ?_ rfl rfl rfl); first
      | assumption | apply State.realignCounts_keeps | dsimp only)

theorem State.fixNominal_keeps {s₀ : State} {s : State} (f : Nat) (hK : Keeps s₀ s) : Keeps s₀ (State.fixNominal s f) := by
  unfold State.fixNominal
  with_reducible repeat' ((try (fail_if_success fail_if_success conv => enter [2, 25]); refine Keeps.upd _ ?_ rfl rfl rfl); first
      | assumption | apply Keeps.ite)

theorem State.acceptMains_keeps {s₀ : State} {s : State} (freq : Option Nat) (hK : Keeps s₀ s) : Keeps s₀ (State.acceptMains s freq) := by
  unfold State.acceptMains
  with_reducible repeat' ((try (fail_if_success fail_if_success conv => enter [2, 25]); refine Keeps.upd _ ?_ rfl rfl rfl); first
      | assumption | apply State.fixNominal_keeps | apply State.setPhase_keeps | apply State.realignKept_keeps | apply State.startWindows_keeps
      | apply State.timeFirstLock_keeps | apply Keeps.ite | split | dsimp only)

theorem State.acceptEdge_keeps {s₀ : State} {s : State} (hK : Keeps s₀ s) : Keeps s₀ (State.acceptEdge s) := by
  unfold State.acceptEdge
  with_reducible repeat' ((try (fail_if_success fail_if_success conv => enter [2, 25]); refine Keeps.upd _ ?_ rfl rfl rfl); first
      | assumption | apply State.mainsLost_keeps | apply State.raise_keeps | apply State.acceptMains_keeps | apply State.measureOffset_keeps
      | apply Keeps.ite | split)

theorem State.enterSynth_keeps {s₀ : State} {s : State} (hK : Keeps s₀ s) : Keeps s₀ (State.enterSynth s) := by
  unfold State.enterSynth
  with_reducible repeat' ((try (fail_if_success fail_if_success conv => enter [2, 25]); refine Keeps.upd _ ?_ rfl rfl rfl); first
      | assumption | apply State.setPhase_keeps | apply State.realignKept_keeps | apply State.startWindows_keeps | apply State.timeFirstLock_keeps
      | apply Keeps.ite)

theorem State.guyQueue_keeps {s₀ : State} {s : State} (p : Fin 4) (msg : Nat) (rx : Nat) (hK : Keeps s₀ s) : Keeps s₀ (State.guyQueue s p msg rx) :=
  Keeps.upd _ hK rfl rfl rfl

theorem State.guyDelayReq_keeps {s₀ : State} {s : State} (port : Fin 4) (hK : Keeps s₀ s) : Keeps s₀ (State.guyDelayReq s port) := by
  unfold State.guyDelayReq
  with_reducible repeat' (first | assumption | apply State.guyQueue_keeps | apply Keeps.ite)

theorem State.guyDelayResp_keeps {s₀ : State} {s : State} (port : Fin 4) (rxTime : Nat) (hK : Keeps s₀ s) : Keeps s₀ (State.guyDelayResp s port
    rxTime) := by
  unfold State.guyDelayResp
  with_reducible repeat' ((try (fail_if_success fail_if_success conv => enter [2, 25]); refine Keeps.upd _ ?_ rfl rfl rfl); first
      | assumption | apply Keeps.ite)

theorem State.dropGuyline_keeps {s₀ : State} {s : State} (hK : Keeps s₀ s) : Keeps s₀ (State.dropGuyline s) := by
  unfold State.dropGuyline
  with_reducible repeat' ((try (fail_if_success fail_if_success conv => enter [2, 25]); refine Keeps.upd _ ?_ rfl rfl rfl); first
      | assumption | apply State.setPhase_keeps)

theorem State.loseGuyline_keeps {s₀ : State} {s : State} (hK : Keeps s₀ s) : Keeps s₀ (State.loseGuyline s) := by
  unfold State.loseGuyline
  with_reducible repeat' ((try (fail_if_success fail_if_success conv => enter [2, 25]); refine Keeps.upd _ ?_ rfl rfl rfl); first
      | assumption | apply State.raise_keeps | apply State.dropGuyline_keeps | apply Keeps.ite)

theorem State.armEntry_keeps {s₀ t₀ : State} {x₀} {s : State} {e : SchedEntry} (eq : State.armEntry s e = some (t₀, x₀)) (hK : Keeps s₀ s) : Keeps
    s₀ t₀ := by
  unfold State.armEntry at eq
  split at eq
  · contradiction
  · simp only [Option.some.injEq, Prod.mk.injEq] at eq
    obtain ⟨rfl, _⟩ := eq
    exact Keeps.upd _ hK rfl rfl rfl

theorem State.keepEntry_keeps {s₀ : State} {s : State} (e : SchedEntry) (hK : Keeps s₀ s) : Keeps s₀ (State.keepEntry s e) :=
  Keeps.upd _ hK rfl rfl rfl

theorem State.armLantern_keeps {s₀ : State} {s : State} (hK : Keeps s₀ s) : Keeps s₀ (State.armLantern s) := by
  unfold State.armLantern
  with_reducible repeat' (first | assumption | apply State.keepEntry_keeps | (refine Keeps.foldl (fun _ _ _ => ?_) _ _ ?_))

theorem State.dropEntry_keeps {s₀ : State} {s : State} (idx : Nat) (hK : Keeps s₀ s) : Keeps s₀ (State.dropEntry s idx) :=
  Keeps.upd _ hK rfl rfl rfl

theorem State.countEdge_keeps {s₀ : State} {s : State} (pin : Fin 8) (hK : Keeps s₀ s) : Keeps s₀ (State.countEdge s pin).1 := by
  unfold State.countEdge
  with_reducible repeat' ((try (fail_if_success fail_if_success conv => enter [2, 25]); refine Keeps.upd _ ?_ rfl rfl rfl); first
      | assumption | dsimp only)

theorem recPhase_keeps {s₀ : State} {s : State} (rd : Rd) (hK : Keeps s₀ s) : Keeps s₀ ((recPhase s) rd).1 := by
  unfold recPhase
  with_reducible repeat' (first | (refine Keeps.bind (fun _ _ => ?_) _) | refine Keeps.pure ?_ _)
  with_reducible repeat' ((try (fail_if_success fail_if_success conv => enter [2, 25]); refine Keeps.upd _ ?_ rfl rfl rfl); first
      | assumption | apply State.realignCounts_keeps | apply State.enterSynth_keeps | apply State.setPhase_keeps | apply Keeps.ite)

theorem recTime_keeps {s₀ : State} {s : State} (rd : Rd) (hK : Keeps s₀ s) : Keeps s₀ ((recTime s) rd).1 := by
  unfold recTime
  with_reducible repeat' (first | (refine Keeps.bind (fun _ _ => ?_) _) | refine Keeps.pure ?_ _)
  with_reducible repeat' ((try (fail_if_success fail_if_success conv => enter [2, 25]); refine Keeps.upd _ ?_ rfl rfl rfl); first | assumption)

theorem recTrig_keeps {s₀ : State} {s : State} (rd : Rd) (hK : Keeps s₀ s) : Keeps s₀ ((recTrig s) rd).1 := by
  unfold recTrig
  with_reducible repeat' (first | (refine Keeps.bind (fun _ _ => ?_) _) | refine Keeps.pure ?_ _)
  with_reducible repeat' ((try (fail_if_success fail_if_success conv => enter [2, 25]); refine Keeps.upd _ ?_ rfl rfl rfl); first | assumption)

/-! ### Log -/

theorem State.plogAdd_keeps {s₀ : State} {s : State} (e : LogEntry) (hK : Keeps s₀ s) : Keeps s₀ (State.plogAdd s e) :=
  Keeps.upd _ hK rfl rfl rfl

theorem State.startTest_keeps {s₀ : State} {s : State} (t : UnitTest) (hK : Keeps s₀ s) : Keeps s₀ (State.startTest s t) := by
  unfold State.startTest
  with_reducible repeat' ((try (fail_if_success fail_if_success conv => enter [2, 25]); refine Keeps.upd _ ?_ rfl rfl rfl); first
      | assumption | apply Keeps.ite)

/-! ### Ridge -/

theorem State.modTp_keeps {s₀ : State} {s : State} (p : Nat) (f : TrunkPort → TrunkPort) (hK : Keeps s₀ s) : Keeps s₀ (State.modTp s p f) :=
  Keeps.upd _ hK rfl rfl rfl

theorem State.cntF_keeps {s₀ : State} {s : State} (i : Nat) (n : Nat) (hK : Keeps s₀ s) : Keeps s₀ (State.cntF s i n) :=
  Keeps.upd _ hK rfl rfl rfl

theorem State.cntL_keeps {s₀ : State} {s : State} (p : Nat) (i : Nat) (n : Nat) (hK : Keeps s₀ s) : Keeps s₀ (State.cntL s p i n) := by
  unfold State.cntL
  with_reducible repeat' (first | assumption | apply State.modTp_keeps)

theorem State.sharedCheck_keeps {s₀ : State} {s : State} (hK : Keeps s₀ s) : Keeps s₀ (State.sharedCheck s) := by
  unfold State.sharedCheck
  with_reducible repeat' ((try (fail_if_success fail_if_success conv => enter [2, 25]); refine Keeps.upd _ ?_ rfl rfl rfl); first
      | assumption | apply State.raise_keeps | apply Keeps.ite)

theorem State.freeCell_keeps {s₀ : State} {s : State} (c : QCell) (hK : Keeps s₀ s) : Keeps s₀ (State.freeCell s c) := by
  unfold State.freeCell
  with_reducible repeat' ((try (fail_if_success fail_if_success conv => enter [2, 25]); refine Keeps.upd _ ?_ rfl rfl rfl); first
      | assumption | apply State.modTp_keeps | apply State.sharedCheck_keeps | apply Keeps.ite)

theorem State.putQueue_keeps {s₀ : State} {s : State} (q : Queue) (hK : Keeps s₀ s) : Keeps s₀ (State.putQueue s q) :=
  Keeps.upd _ hK rfl rfl rfl

theorem State.modEgress_keeps {s₀ : State} {s : State} (e : Nat) (f : Egress → Egress) (hK : Keeps s₀ s) : Keeps s₀ (State.modEgress s e f) :=
  Keeps.upd _ hK rfl rfl rfl

theorem State.wake_keeps {s₀ : State} {s : State} (k : QKey) (hK : Keeps s₀ s) : Keeps s₀ (State.wake s k) :=
  Keeps.upd _ hK rfl rfl rfl

theorem State.rest_keeps {s₀ : State} {s : State} (k : QKey) (hK : Keeps s₀ s) : Keeps s₀ (State.rest s k) := by
  unfold State.rest
  with_reducible repeat' ((try (fail_if_success fail_if_success conv => enter [2, 25]); refine Keeps.upd _ ?_ rfl rfl rfl); first
      | assumption | apply State.putQueue_keeps | apply Keeps.ite | dsimp only)

theorem State.append_keeps {s₀ : State} {s : State} (k : QKey) (c : QCell) (hK : Keeps s₀ s) : Keeps s₀ (State.append s k c) := by
  unfold State.append
  with_reducible repeat' (first | assumption | apply State.cntF_keeps | apply State.putQueue_keeps | apply State.wake_keeps | apply Keeps.ite)

theorem State.nextSerial_keeps {s₀ : State} {s : State} (hK : Keeps s₀ s) : Keeps s₀ (State.nextSerial s) :=
  Keeps.upd _ hK rfl rfl rfl

theorem State.enqueue_keeps {s₀ : State} {s : State} (k : QKey) (c : QCell) (hK : Keeps s₀ s) : Keeps s₀ (State.enqueue s k c) := by
  unfold State.enqueue
  with_reducible repeat' (first | assumption | apply State.nextSerial_keeps | apply State.append_keeps)

theorem State.leave_keeps {s₀ : State} {s : State} (c : QCell) (hK : Keeps s₀ s) : Keeps s₀ (State.leave s c) := by
  unfold State.leave
  with_reducible repeat' (first | assumption | apply State.freeCell_keeps)

theorem State.reportBarrier_keeps {s₀ : State} {s : State} (b : Barrier) (outcome : Nat) (remaining : Nat) (hK : Keeps s₀ s) : Keeps s₀
    (State.reportBarrier s b outcome remaining) := by
  unfold State.reportBarrier
  with_reducible repeat' ((try (fail_if_success fail_if_success conv => enter [2, 25]); refine Keeps.upd _ ?_ rfl rfl rfl); first
      | assumption | apply State.raise_keeps | apply State.sendRoot_keeps | apply Keeps.ite)

theorem State.endBarriersN_keeps {s₀ : State} (n : Nat) {s : State} (hK : Keeps s₀ s) : Keeps s₀ (State.endBarriersN n s) := by
  induction n generalizing s with
  | zero => exact hK
  | succ n ih =>
    unfold State.endBarriersN
    with_reducible repeat' ((try (fail_if_success fail_if_success conv => enter [2, 25]); refine Keeps.upd _ ?_ rfl rfl rfl); first
        | assumption | apply ih | apply State.reportBarrier_keeps | apply Keeps.ite | split)

theorem State.endBarriers_keeps {s₀ : State} {s : State} (hK : Keeps s₀ s) : Keeps s₀ (State.endBarriers s) := by
  unfold State.endBarriers
  with_reducible repeat' (first | assumption | apply State.endBarriersN_keeps)

theorem State.turn_keeps {s₀ : State} {s : State} (e : Nat) (k : QKey) (committed : Bool) (hK : Keeps s₀ s) : Keeps s₀ (State.turn s e k committed)
    := by
  unfold State.turn
  with_reducible repeat' (first | assumption | apply State.modEgress_keeps | apply Keeps.ite | split)

theorem State.takeHead_keeps {s₀ : State} {s : State} (e : Nat) (k : QKey) (committed : Bool) (hK : Keeps s₀ s) : Keeps s₀ (State.takeHead s e k
    committed) := by
  unfold State.takeHead
  with_reducible repeat' (first
      | assumption | apply State.rest_keeps | apply State.putQueue_keeps | apply State.cntF_keeps | apply State.leave_keeps
      | apply State.turn_keeps | apply State.modEgress_keeps | apply Keeps.ite | split | dsimp only)

theorem State.decide1_keeps {s₀ : State} {s : State} (e : Nat) (hK : Keeps s₀ s) : Keeps s₀ (State.decide1 s e) := by
  unfold State.decide1
  with_reducible repeat' (first | assumption | apply State.takeHead_keeps | split)

theorem State.movePointers_keeps {s₀ : State} {s : State} (first : List (Nat × Nat)) (hK : Keeps s₀ s) : Keeps s₀ (State.movePointers s first) := by
  unfold State.movePointers
  with_reducible repeat' ((try (fail_if_success fail_if_success conv => enter [2, 25]); refine Keeps.upd _ ?_ rfl rfl rfl); first
      | assumption | apply State.modEgress_keeps | (refine Keeps.foldl (fun _ _ _ => ?_) _ _ ?_))

theorem State.cross_keeps {s₀ : State} {s : State} (i : Nat) (j : Nat) (hK : Keeps s₀ s) : Keeps s₀ (State.cross s i j) := by
  unfold State.cross
  with_reducible repeat' (first | assumption | apply State.modEgress_keeps)

theorem State.handOver_keeps {s₀ : State} {s : State} (j : Nat) (c : QCell) (hK : Keeps s₀ s) : Keeps s₀ (State.handOver s j c) := by
  unfold State.handOver
  with_reducible repeat' ((try (fail_if_success fail_if_success conv => enter [2, 25]); refine Keeps.upd _ ?_ rfl rfl rfl); first
      | assumption | apply State.send_keeps | apply Keeps.ite)

theorem State.drainInternalN_keeps {s₀ : State} (n : Nat) {s : State} (j : Nat) (hK : Keeps s₀ s) : Keeps s₀ (State.drainInternalN n s j) := by
  induction n generalizing s with
  | zero => exact hK
  | succ n ih =>
    unfold State.drainInternalN
    with_reducible repeat' (first
        | assumption | apply ih | apply State.modEgress_keeps | apply State.cntF_keeps | apply State.leave_keeps | apply State.handOver_keeps
        | apply Keeps.ite | split)

theorem State.ethResume_keeps {s₀ : State} {s : State} (p : Fin 4) (hK : Keeps s₀ s) : Keeps s₀ (State.ethResume s p) := by
  unfold State.ethResume
  with_reducible repeat' ((try (fail_if_success fail_if_success conv => enter [2, 25]); refine Keeps.upd _ ?_ rfl rfl rfl); first
      | assumption | apply State.send_keeps | apply Keeps.ite | (refine Keeps.foldl (fun _ _ _ => ?_) _ _ ?_))

theorem State.drainInternal_keeps {s₀ : State} {s : State} (hK : Keeps s₀ s) : Keeps s₀ (State.drainInternal s) := by
  unfold State.drainInternal
  with_reducible repeat' (first | assumption | apply State.drainInternalN_keeps | (refine Keeps.foldl (fun _ _ _ => ?_) _ _ ?_))

theorem State.startCut_keeps {s₀ : State} {s : State} (ingress : Nat) (pool : Nat) (c : Cell) (d : Dest) (hK : Keeps s₀ s) : Keeps s₀
    (State.startCut s ingress pool c d) := by
  unfold State.startCut
  with_reducible repeat' ((try (fail_if_success fail_if_success conv => enter [2, 25]); refine Keeps.upd _ ?_ rfl rfl rfl); first
      | assumption | apply State.nextSerial_keeps | apply State.putQueue_keeps | apply State.wake_keeps | apply State.cntF_keeps
      | apply State.decide1_keeps | apply Keeps.ite)

theorem State.place_keeps {s₀ : State} {s : State} (ingress : Nat) (pool : Nat) (c : Cell) (d : Dest) (hK : Keeps s₀ s) : Keeps s₀ (State.place s
    ingress pool c d) := by
  unfold State.place
  with_reducible repeat' (first | assumption | apply State.startCut_keeps | apply State.cntF_keeps | apply State.enqueue_keeps | apply Keeps.ite)

theorem State.charge_keeps {s₀ : State} {s : State} (ingress : Nat) (pool : Nat) (hK : Keeps s₀ s) : Keeps s₀ (State.charge s ingress pool) := by
  unfold State.charge
  with_reducible repeat' ((try (fail_if_success fail_if_success conv => enter [2, 25]); refine Keeps.upd _ ?_ rfl rfl rfl); first
      | assumption | apply State.sharedCheck_keeps | apply Keeps.ite)

theorem State.holdForRevert_keeps {s₀ : State} {s : State} (c : QCell) (d : Dest) (hK : Keeps s₀ s) : Keeps s₀ (State.holdForRevert s c d) :=
  Keeps.upd _ hK rfl rfl rfl

theorem State.placeOrHold_keeps {s₀ : State} {s : State} (ingress : Nat) (pool : Nat) (c : Cell) (d : Dest) (hK : Keeps s₀ s) : Keeps s₀
    (State.placeOrHold s ingress pool c d) := by
  unfold State.placeOrHold
  with_reducible repeat' (first | assumption | apply State.holdForRevert_keeps | apply State.place_keeps | apply Keeps.ite)

theorem State.modEntry_keeps {s₀ : State} {s : State} (tunnel : Nat) (f : FwdEntry → FwdEntry) (hK : Keeps s₀ s) : Keeps s₀ (State.modEntry s tunnel
    f) :=
  Keeps.upd _ hK rfl rfl rfl

theorem State.passCells_keeps {s₀ : State} {s : State} (cs : List QCell) (hK : Keeps s₀ s) : Keeps s₀ (State.passCells s cs) := by
  unfold State.passCells
  with_reducible repeat' (first
      | assumption | apply State.holdForRevert_keeps | apply State.cntF_keeps | apply State.enqueue_keeps | apply State.place_keeps
      | apply State.raiseRated_keeps | apply State.leave_keeps | apply State.cntL_keeps | apply Keeps.ite
      | (refine Keeps.foldl (fun _ _ _ => ?_) _ _ ?_) | split)

theorem State.noteVl_keeps {s₀ : State} {s : State} (c : Cell) (hK : Keeps s₀ s) : Keeps s₀ (State.noteVl s c) := by
  unfold State.noteVl
  with_reducible repeat' (first | assumption | apply State.modEntry_keeps)

theorem State.passOn_keeps {s₀ : State} {s : State} (ingress : Nat) (pool : Nat) (c : Cell) (d : Dest) (hK : Keeps s₀ s) : Keeps s₀ (State.passOn s
    ingress pool c d) := by
  unfold State.passOn
  with_reducible repeat' (first | assumption | apply State.modEntry_keeps | apply State.placeOrHold_keeps | apply State.passCells_keeps | split)

theorem State.offerNow_keeps {s₀ : State} {s : State} (ingress : Nat) (c : Cell) (hK : Keeps s₀ s) : Keeps s₀ (State.offerNow s ingress c).1 := by
  unfold State.offerNow
  with_reducible repeat' (first
      | assumption | apply State.cntF_keeps | apply State.raiseRated_keeps | apply State.cntL_keeps | apply State.charge_keeps
      | apply State.passOn_keeps | split)

theorem State.offer_keeps {s₀ : State} {s : State} (ingress : Nat) (c : Cell) (hK : Keeps s₀ s) : Keeps s₀ (State.offer s ingress c) := by
  unfold State.offer
  with_reducible repeat' ((try (fail_if_success fail_if_success conv => enter [2, 25]); refine Keeps.upd _ ?_ rfl rfl rfl); first
      | assumption | apply State.offerNow_keeps | apply Keeps.ite)

theorem State.admitFrame_keeps {s₀ : State} {s t : State} (i : Nat) (cs : List Cell) (e : State.admitFrame s i cs = some t)
    (h : Keeps s₀ s) : Keeps s₀ t := by
  induction cs generalizing s with
  | nil => simp only [State.admitFrame, Option.some.injEq] at e; exact e ▸ h
  | cons c cs ih =>
    unfold State.admitFrame at e
    dsimp only at e
    split at e
    · exact ih e (State.offerNow_keeps _ _ h)
    · contradiction

theorem State.noteSkips_keeps {s₀ : State} {s : State} (tunnel : Nat) (status : Bool) (k : Nat) (hK : Keeps s₀ s) : Keeps s₀ (State.noteSkips s
    tunnel status k) := by
  unfold State.noteSkips
  with_reducible repeat' (first | assumption | apply State.cntF_keeps | apply State.raiseCounted_keeps | apply Keeps.ite)

theorem State.arriveClassified_keeps {s₀ : State} {s : State} (port : Nat) (c : Cell) (d : Dest) (hK : Keeps s₀ s) : Keeps s₀
    (State.arriveClassified s port c d) := by
  unfold State.arriveClassified
  with_reducible repeat' (first
      | assumption | apply State.noteVl_keeps | apply State.passOn_keeps | apply State.modEntry_keeps | apply State.noteSkips_keeps
      | apply State.cntF_keeps | apply State.passCells_keeps | apply State.leave_keeps | apply Keeps.ite | split)

theorem State.arrive_keeps {s₀ : State} {s : State} (port : Nat) (c : Cell) (hK : Keeps s₀ s) : Keeps s₀ (State.arrive s port c) := by
  unfold State.arrive
  with_reducible repeat' (first
      | assumption | apply State.freeCell_keeps | apply State.cntF_keeps | apply State.raiseRated_keeps | apply State.cntL_keeps
      | apply State.arriveClassified_keeps | split)

theorem State.steerQueue_keeps {s₀ : State} {s : State} (w : Nat) (q : Queue) (hK : Keeps s₀ s) : Keeps s₀ (State.steerQueue s w q) := by
  unfold State.steerQueue
  with_reducible repeat' (first
      | assumption | apply State.putQueue_keeps | apply State.append_keeps | apply State.rest_keeps | apply Keeps.ite
      | (refine Keeps.foldl (fun _ _ _ => ?_) _ _ ?_))

theorem State.steer_keeps {s₀ : State} {s : State} (w : Nat) (hK : Keeps s₀ s) : Keeps s₀ (State.steer s w) := by
  unfold State.steer
  with_reducible repeat' (first | assumption | apply State.steerQueue_keeps | (refine Keeps.foldl (fun _ _ _ => ?_) _ _ ?_))

theorem State.discardSegmented_keeps {s₀ : State} {s : State} (w : Nat) (f2 : Nat) (hK : Keeps s₀ s) : Keeps s₀ (State.discardSegmented s w f2) := by
  unfold State.discardSegmented
  with_reducible repeat' (first
      | assumption | apply State.putQueue_keeps | apply State.cntL_keeps | apply State.leave_keeps | apply State.rest_keeps
      | (refine Keeps.foldl (fun _ _ _ => ?_) _ _ ?_))

theorem State.testRow_keeps {s₀ : State} {s : State} (bank : Nat) (row : Nat) (hK : Keeps s₀ s) : Keeps s₀ (State.testRow s bank row) := by
  unfold State.testRow
  with_reducible repeat' ((try (fail_if_success fail_if_success conv => enter [2, 25]); refine Keeps.upd _ ?_ rfl rfl rfl); first
      | assumption | apply State.startTest_keeps)

theorem State.stompCut_keeps {s₀ : State} {s : State} (ingress : Nat) (egress : Nat) (ecc : Bool) (hK : Keeps s₀ s) : Keeps s₀ (State.stompCut s
    ingress egress ecc) := by
  unfold State.stompCut
  with_reducible repeat' ((try (fail_if_success fail_if_success conv => enter [2, 25]); refine Keeps.upd _ ?_ rfl rfl rfl); first
      | assumption | apply State.modEgress_keeps | apply State.cntL_keeps | apply State.send_keeps | apply State.cntF_keeps
      | apply State.leave_keeps | apply Keeps.ite | split)

/-! ### Fabric -/

theorem State.releaseQueue_keeps {s₀ : State} {s : State} (k : QKey) (hK : Keeps s₀ s) : Keeps s₀ (State.releaseQueue s k) := by
  unfold State.releaseQueue
  with_reducible repeat' (first | assumption | apply State.putQueue_keeps | apply State.rest_keeps)

theorem State.openQueue_keeps {s₀ : State} {s : State} (k : QKey) (hK : Keeps s₀ s) : Keeps s₀ (State.openQueue s k) := by
  unfold State.openQueue
  with_reducible repeat' (first | assumption | apply State.putQueue_keeps | apply Keeps.ite)

theorem State.removeEntry_keeps {s₀ : State} {s : State} (e : FwdEntry) (hK : Keeps s₀ s) : Keeps s₀ (State.removeEntry s e) := by
  unfold State.removeEntry
  with_reducible repeat' (first
      | assumption | apply State.modEntry_keeps | apply State.leave_keeps | apply State.cntF_keeps | apply State.releaseQueue_keeps
      | apply Keeps.ite | (refine Keeps.foldl (fun _ _ _ => ?_) _ _ ?_))

theorem State.takeQueue_keeps {s₀ : State} {s : State} (e : FwdEntry) (ordered : Bool) (old : List QKey) (hK : Keeps s₀ s) : Keeps s₀
    (State.takeQueue s e ordered old) := by
  unfold State.takeQueue
  with_reducible repeat' (first | assumption | apply State.putQueue_keeps | apply Keeps.ite)

theorem State.installEntry_keeps {s₀ : State} {s : State} (p : SetPlan) (hK : Keeps s₀ s) : Keeps s₀ (State.installEntry s p) := by
  unfold State.installEntry
  with_reducible repeat' ((try (fail_if_success fail_if_success conv => enter [2, 25]); refine Keeps.upd _ ?_ rfl rfl rfl); first
      | assumption | apply State.takeQueue_keeps | apply State.modEntry_keeps | apply State.openQueue_keeps | apply State.releaseQueue_keeps
      | apply Keeps.ite | split)

theorem State.fwdSet_keeps {s₀ : State} {s : State} (w0 : Word) (w1 : Word) (w2 : Word) (hK : Keeps s₀ s) : Keeps s₀ (State.fwdSet s w0 w1 w2).1 := by
  unfold State.fwdSet
  with_reducible repeat' (first
      | assumption | apply State.removeEntry_keeps | apply State.raise_keeps | apply State.installEntry_keeps | apply Keeps.iteFst | split)

theorem State.openAndWake_keeps {s₀ : State} {s : State} (k : QKey) (hK : Keeps s₀ s) : Keeps s₀ (State.openAndWake s k) := by
  unfold State.openAndWake
  with_reducible repeat' (first | assumption | apply State.openQueue_keeps | apply State.wake_keeps | apply Keeps.ite)

theorem State.flushCells_keeps {s₀ : State} {s : State} (b : Barrier) (hK : Keeps s₀ s) : Keeps s₀ (State.flushCells s b) := by
  unfold State.flushCells
  with_reducible repeat' ((try (fail_if_success fail_if_success conv => enter [2, 25]); refine Keeps.upd _ ?_ rfl rfl rfl); first
      | assumption | dsimp only)

theorem recFabric_keeps {s₀ : State} {s : State} (rd : Rd) (hK : Keeps s₀ s) : Keeps s₀ ((recFabric s) rd).1 := by
  unfold recFabric
  with_reducible repeat' (first | (refine Keeps.bind (fun _ _ => ?_) _) | refine Keeps.pure ?_ _)
  with_reducible repeat' ((try (fail_if_success fail_if_success conv => enter [2, 25]); refine Keeps.upd _ ?_ rfl rfl rfl); first | assumption)

theorem recVlProfile_keeps {s₀ : State} {s : State} (rd : Rd) (hK : Keeps s₀ s) : Keeps s₀ ((recVlProfile s) rd).1 := by
  unfold recVlProfile
  with_reducible repeat' (first | (refine Keeps.bind (fun _ _ => ?_) _) | refine Keeps.pure ?_ _)
  with_reducible repeat' ((try (fail_if_success fail_if_success conv => enter [2, 25]); refine Keeps.upd _ ?_ rfl rfl rfl); first | assumption)

/-! ### LightBase -/

theorem State.cntB_keeps {s₀ : State} {s : State} (i : Nat) (hK : Keeps s₀ s) : Keeps s₀ (State.cntB s i) :=
  Keeps.upd _ hK rfl rfl rfl

theorem State.logBridge_keeps {s₀ : State} {s : State} (src : Source) (cause : Nat) (exp : Nat) (win : Nat) (slots : Nat) (target : Nat) (confirmed
    : Bool) (hub : Nat) (hK : Keeps s₀ s) : Keeps s₀ (State.logBridge s src cause exp win slots target confirmed hub) := by
  unfold State.logBridge
  with_reducible repeat' ((try (fail_if_success fail_if_success conv => enter [2, 25]); refine Keeps.upd _ ?_ rfl rfl rfl); first
      | assumption | apply State.cntB_keeps | apply State.raiseRated_keeps | apply Keeps.ite)

theorem State.sendPdu_keeps {s₀ : State} {s : State} (tun : Option Nat) (op : Nat) (status : Nat) (tag : Nat) (lsid : Nat) (exp : Nat) (slots : Nat)
    (target : Nat) (bytes : Nat) (data : List Word) (hK : Keeps s₀ s) : Keeps s₀ (State.sendPdu s tun op status tag lsid exp slots target bytes data) :=
    by
  unfold State.sendPdu
  with_reducible repeat' (first | assumption | apply State.send_keeps)

theorem State.modSeg_keeps {s₀ : State} {s : State} (g : Nat) (f : Segment → Segment) (hK : Keeps s₀ s) : Keeps s₀ (State.modSeg s g f) :=
  Keeps.upd _ hK rfl rfl rfl

theorem State.cntS_keeps {s₀ : State} {s : State} (g : Nat) (i : Nat) (hK : Keeps s₀ s) : Keeps s₀ (State.cntS s g i) := by
  unfold State.cntS
  with_reducible repeat' (first | assumption | apply State.modSeg_keeps)

theorem State.modNode_keeps {s₀ : State} {s : State} (g : Nat) (n : Nat) (f : Node → Node) (hK : Keeps s₀ s) : Keeps s₀ (State.modNode s g n f) := by
  unfold State.modNode
  with_reducible repeat' (first | assumption | apply State.modSeg_keeps)

theorem State.setNode_keeps {s₀ : State} {s : State} (g : Nat) (n : Nat) (st : NodeState) (hK : Keeps s₀ s) : Keeps s₀ (State.setNode s g n st) := by
  unfold State.setNode
  with_reducible repeat' (first | assumption | apply State.modNode_keeps | apply State.raise_keeps | apply Keeps.ite)

theorem State.rmQueue_keeps {s₀ : State} {s : State} (g : Nat) (cs : List RmCmd) (hK : Keeps s₀ s) : Keeps s₀ (State.rmQueue s g cs) := by
  unfold State.rmQueue
  with_reducible repeat' (first | assumption | apply State.modSeg_keeps)

theorem State.readEp_keeps {s₀ : State} {s : State} (g : Nat) (n : Nat) (ep : Nat) (hK : Keeps s₀ s) : Keeps s₀ (State.readEp s g n ep) := by
  unfold State.readEp
  with_reducible repeat' (first | assumption | apply State.rmQueue_keeps)

theorem State.readNode_keeps {s₀ : State} {s : State} (g : Nat) (n : Nat) (hK : Keeps s₀ s) : Keeps s₀ (State.readNode s g n) := by
  unfold State.readNode
  with_reducible repeat' (first | assumption | apply State.modNode_keeps | apply State.readEp_keeps)

theorem State.reportNode_keeps {s₀ : State} {s : State} (g : Nat) (n : Nat) (hK : Keeps s₀ s) : Keeps s₀ (State.reportNode s g n) := by
  unfold State.reportNode
  with_reducible repeat' (first | assumption | apply State.modNode_keeps | apply State.sendRoot_keeps | apply Keeps.ite)

theorem State.hubCmdDone_keeps {s₀ : State} {s : State} (g : Nat) (c : RmCmd) (cause : Nat) (words : List Nat) (hK : Keeps s₀ s) : Keeps s₀
    (State.hubCmdDone s g c cause words) := by
  unfold State.hubCmdDone
  with_reducible repeat' (first
      | assumption | apply State.modNode_keeps | apply State.readEp_keeps | apply State.reportNode_keeps | apply State.setNode_keeps
      | apply State.raise_keeps | apply Keeps.ite | split)

theorem State.epFinish_keeps {s₀ : State} {s : State} (src : Source) (a : FarAccess) (hK : Keeps s₀ s) : Keeps s₀ (State.epFinish s src a) := by
  unfold State.epFinish
  with_reducible repeat' (first | assumption | apply State.logBridge_keeps | apply Keeps.respond | apply Keeps.ite)

theorem State.farFinish_keeps {s₀ : State} {s : State} (a : FarAccess) (hK : Keeps s₀ s) : Keeps s₀ (State.farFinish s a) := by
  unfold State.farFinish
  with_reducible repeat' ((try (fail_if_success fail_if_success conv => enter [2, 25]); refine Keeps.upd _ ?_ rfl rfl rfl); first
      | assumption | apply State.epFinish_keeps | apply State.cntB_keeps | apply State.sendPdu_keeps | apply Keeps.ite | split)

theorem State.farPart_keeps {s₀ : State} {s : State} (seq : Nat) (cause : Nat) (words : List Nat) (hK : Keeps s₀ s) : Keeps s₀ (State.farPart s seq
    cause words) := by
  unfold State.farPart
  with_reducible repeat' ((try (fail_if_success fail_if_success conv => enter [2, 25]); refine Keeps.upd _ ?_ rfl rfl rfl); first
      | assumption | apply State.farFinish_keeps | apply Keeps.ite | split)

theorem State.sendIntr_keeps {s₀ : State} {s : State} (g : Nat) (n : Nat) (hK : Keeps s₀ s) : Keeps s₀ (State.sendIntr s g n) := by
  unfold State.sendIntr
  with_reducible repeat' (first | assumption | apply State.sendPdu_keeps | (refine Keeps.foldl (fun _ _ _ => ?_) _ _ ?_) | split | dsimp only)

theorem State.alarmChanged_keeps {s₀ : State} {s : State} (g : Nat) (n : Nat) (alarm : Nat) (hK : Keeps s₀ s) : Keeps s₀ (State.alarmChanged s g n
    alarm) := by
  unfold State.alarmChanged
  with_reducible repeat' (first
      | assumption | apply State.modNode_keeps | apply State.raiseRated_keeps | apply State.sendIntr_keeps | apply Keeps.ite)

theorem State.rmFinish_keeps {s₀ : State} {s : State} (g : Nat) (c : RmCmd) (cause : Nat) (words : List Nat) (hK : Keeps s₀ s) : Keeps s₀
    (State.rmFinish s g c cause words) := by
  unfold State.rmFinish
  with_reducible repeat' (first | assumption | apply State.hubCmdDone_keeps | apply State.farPart_keeps | split)

theorem State.queuePart_keeps {s₀ : State} {s : State} (a : FarAccess) (lsid : Nat) (tenant : Nat) (posted : Bool) (words : List Word) (p : Nat ×
    Nat) (hK : Keeps s₀ s) : Keeps s₀ (State.queuePart s a lsid tenant posted words p) := by
  unfold State.queuePart
  with_reducible repeat' (first | assumption | apply State.farPart_keeps | apply State.rmQueue_keeps | split)

theorem State.farBegin_keeps {s₀ : State} {s : State} (w : FarWait) (hK : Keeps s₀ s) : Keeps s₀ (State.farBegin s w) := by
  unfold State.farBegin
  with_reducible repeat' ((try (fail_if_success fail_if_success conv => enter [2, 25]); refine Keeps.upd _ ?_ rfl rfl rfl); first
      | assumption | apply State.queuePart_keeps | apply Keeps.respond | apply Keeps.ite | (refine Keeps.foldl (fun _ _ _ => ?_) _ _ ?_) | split)

theorem State.farTry_keeps {s₀ : State} {s : State} (w : FarWait) (hK : Keeps s₀ s) : Keeps s₀ (State.farTry s w) := by
  unfold State.farTry
  with_reducible repeat' ((try (fail_if_success fail_if_success conv => enter [2, 25]); refine Keeps.upd _ ?_ rfl rfl rfl); first
      | assumption | apply State.farBegin_keeps | apply Keeps.ite)

theorem State.farDrain_keeps {s₀ : State} {s : State} (hK : Keeps s₀ s) : Keeps s₀ (State.farDrain s) := by
  unfold State.farDrain
  with_reducible repeat' ((try (fail_if_success fail_if_success conv => enter [2, 25]); refine Keeps.upd _ ?_ rfl rfl rfl); first
      | assumption | apply State.farTry_keeps | (refine Keeps.foldl (fun _ _ _ => ?_) _ _ ?_))

theorem State.farStart_keeps {s₀ : State} {s : State} (tun : Option Nat) (src : Option Source) (tag : Nat) (lsid : Nat) (op : Nat) (target : Nat) (n
    : Nat) (tenant : Nat) (words : List Word) (hK : Keeps s₀ s) : Keeps s₀ (State.farStart s tun src tag lsid op target n tenant words) := by
  unfold State.farStart
  with_reducible repeat' (first | assumption | apply State.farTry_keeps)

theorem State.grantLock_keeps {s₀ : State} {s : State} (g : Nat) (l : Lock) (hK : Keeps s₀ s) : Keeps s₀ (State.grantLock s g l) := by
  unfold State.grantLock
  with_reducible repeat' (first | assumption | apply State.modSeg_keeps | apply State.sendPdu_keeps)

theorem State.releaseLock_keeps {s₀ : State} {s : State} (g : Nat) (outcome : Nat) (hK : Keeps s₀ s) : Keeps s₀ (State.releaseLock s g outcome) := by
  unfold State.releaseLock
  with_reducible repeat' (first
      | assumption | apply State.modSeg_keeps | apply State.sendPdu_keeps | apply State.farDrain_keeps | apply State.grantLock_keeps | split
      | dsimp only)

theorem State.forgetReports_keeps {s₀ : State} {s : State} (hK : Keeps s₀ s) : Keeps s₀ (State.forgetReports s) :=
  Keeps.upd _ hK rfl rfl rfl

theorem State.dirTouch_keeps {s₀ : State} {s : State} (id : Nat) (hK : Keeps s₀ s) : Keeps s₀ (State.dirTouch s id) := by
  unfold State.dirTouch
  with_reducible repeat' ((try (fail_if_success fail_if_success conv => enter [2, 25]); refine Keeps.upd _ ?_ rfl rfl rfl); first
      | assumption | apply Keeps.ite)

theorem State.modGo_keeps {s₀ : State} {s : State} (h : Nat) (f : Go → Go) (hK : Keeps s₀ s) : Keeps s₀ (State.modGo s h f) :=
  Keeps.upd _ hK rfl rfl rfl

theorem State.dropGo_keeps {s₀ : State} {s : State} (h : Nat) (hK : Keeps s₀ s) : Keeps s₀ (State.dropGo s h) :=
  Keeps.upd _ hK rfl rfl rfl

theorem State.sceneDone_keeps {s₀ : State} {s : State} (g : Go) (worst : Nat) (bad : Nat) (hK : Keeps s₀ s) : Keeps s₀ (State.sceneDone s g worst
    bad) := by
  unfold State.sceneDone
  with_reducible repeat' (first | assumption | apply State.dropGo_keeps | apply State.raise_keeps | split)

theorem State.hubOutcome_keeps {s₀ : State} {s : State} (h : Nat) (hub : Nat) (outcome : Nat) (hK : Keeps s₀ s) : Keeps s₀ (State.hubOutcome s h hub
    outcome) := by
  unfold State.hubOutcome
  with_reducible repeat' (first
      | assumption | apply State.modGo_keeps | apply State.raise_keeps | apply State.sceneDone_keeps | apply Keeps.ite | split)

theorem State.settleGo_keeps {s₀ : State} {s : State} (g : Go) (outcome : Nat) (hK : Keeps s₀ s) : Keeps s₀ (State.settleGo s g outcome) := by
  unfold State.settleGo
  with_reducible repeat' ((try (fail_if_success fail_if_success conv => enter [2, 25]); refine Keeps.upd _ ?_ rfl rfl rfl); first
      | assumption | apply State.modGo_keeps | apply State.hubOutcome_keeps | apply State.dropGo_keeps | apply State.sendRoot_keeps
      | apply State.sceneDone_keeps | apply Keeps.ite)

theorem State.trySettle_keeps {s₀ : State} {s : State} (h : Nat) (hK : Keeps s₀ s) : Keeps s₀ (State.trySettle s h) := by
  unfold State.trySettle
  with_reducible repeat' (first | assumption | apply State.settleGo_keeps | apply Keeps.ite | split)

theorem State.goLeave_keeps {s₀ : State} {s : State} (g : Nat) (hK : Keeps s₀ s) : Keeps s₀ (State.goLeave s g) := by
  unfold State.goLeave
  with_reducible repeat' (first | assumption | apply State.modGo_keeps | apply State.trySettle_keeps | (refine Keeps.foldl (fun _ _ _ => ?_) _ _ ?_))

theorem State.startGo_keeps {s₀ : State} {s : State} (h : Nat) (hK : Keeps s₀ s) : Keeps s₀ (State.startGo s h) := by
  unfold State.startGo
  with_reducible repeat' (first | assumption | apply State.modGo_keeps | apply State.trySettle_keeps | apply Keeps.ite | split)

theorem State.goBeacon_keeps {s₀ : State} {s : State} (g : Nat) (late : Bool) (hK : Keeps s₀ s) : Keeps s₀ (State.goBeacon s g late) := by
  unfold State.goBeacon
  with_reducible repeat' (first
      | assumption | apply State.startGo_keeps | apply State.modGo_keeps | apply State.trySettle_keeps
      | (refine Keeps.foldl (fun _ _ _ => ?_) _ _ ?_))

theorem State.reportAll_keeps {s₀ : State} {s : State} (hK : Keeps s₀ s) : Keeps s₀ (State.reportAll s) := by
  unfold State.reportAll
  with_reducible repeat' (first | assumption | apply State.reportNode_keeps | (refine Keeps.foldl (fun _ _ _ => ?_) _ _ ?_))

theorem State.failSegment_keeps {s₀ : State} {s : State} (g : Nat) (hK : Keeps s₀ s) : Keeps s₀ (State.failSegment s g) := by
  unfold State.failSegment
  with_reducible repeat' (first
      | assumption | apply State.modSeg_keeps | apply State.rmFinish_keeps | apply State.sendPdu_keeps | apply State.releaseLock_keeps
      | apply State.farDrain_keeps | (refine Keeps.foldl (fun _ _ _ => ?_) _ _ ?_))

theorem State.setSeg_keeps {s₀ : State} {s : State} (g : Nat) (st : SegState) (cause : Nat) (hK : Keeps s₀ s) : Keeps s₀ (State.setSeg s g st cause)
    := by
  unfold State.setSeg
  with_reducible repeat' (first
      | assumption | apply State.modSeg_keeps | apply State.raise_keeps | apply State.failSegment_keeps | apply State.goLeave_keeps
      | apply Keeps.ite)

theorem State.refreshSegment_keeps {s₀ : State} {s : State} (g : Nat) (cause : Nat) (hK : Keeps s₀ s) : Keeps s₀ (State.refreshSegment s g cause) :=
    by
  unfold State.refreshSegment
  with_reducible repeat' (first | assumption | apply State.setSeg_keeps | apply Keeps.ite)

/-! ### BridgeBase -/

theorem State.complete_keeps {s₀ : State} {s : State} (fn : Nat) (ws : List Word) (hK : Keeps s₀ s) : Keeps s₀ (State.complete s fn ws) := by
  unfold State.complete
  with_reducible repeat' (first | assumption | apply State.send_keeps)

theorem State.dropDr_keeps {s₀ : State} {s : State} (tag : Nat) (hK : Keeps s₀ s) : Keeps s₀ (State.dropDr s tag) :=
  Keeps.upd _ hK rfl rfl rfl

theorem State.modDr_keeps {s₀ : State} {s : State} (tag : Nat) (f : DelayedRead → DelayedRead) (hK : Keeps s₀ s) : Keeps s₀ (State.modDr s tag f) :=
  Keeps.upd _ hK rfl rfl rfl

theorem State.collect_keeps {s₀ : State} {s : State} (d : DelayedRead) (cause : Nat) (data : List Word) (hub : Nat) (hK : Keeps s₀ s) : Keeps s₀
    (State.collect s d cause data hub) := by
  unfold State.collect
  with_reducible repeat' (first | assumption | apply State.dropDr_keeps | apply State.complete_keeps | apply State.logBridge_keeps | apply Keeps.ite)

theorem State.drAnswer_keeps {s₀ : State} {s : State} (d : DelayedRead) (cause : Nat) (data : List Word) (hub : Nat) (hK : Keeps s₀ s) : Keeps s₀
    (State.drAnswer s d cause data hub) := by
  unfold State.drAnswer
  with_reducible repeat' (first | assumption | apply State.collect_keeps | apply State.modDr_keeps | apply Keeps.ite)

theorem State.dropOut_keeps {s₀ : State} {s : State} (tag : Nat) (hK : Keeps s₀ s) : Keeps s₀ (State.dropOut s tag) :=
  Keeps.upd _ hK rfl rfl rfl

theorem State.modSeq_keeps {s₀ : State} {s : State} (lsid : Nat) (f : LockSeq → LockSeq) (hK : Keeps s₀ s) : Keeps s₀ (State.modSeq s lsid f) :=
  Keeps.upd _ hK rfl rfl rfl

theorem State.lockEnded_keeps {s₀ : State} {s : State} (q : LockSeq) (outcome : Nat) (hK : Keeps s₀ s) : Keeps s₀ (State.lockEnded s q outcome) := by
  unfold State.lockEnded
  with_reducible repeat' (first | assumption | apply State.modSeq_keeps | apply State.raise_keeps)

theorem State.locksDown_keeps {s₀ : State} {s : State} (idx : Nat) (hK : Keeps s₀ s) : Keeps s₀ (State.locksDown s idx) := by
  unfold State.locksDown
  with_reducible repeat' (first
      | assumption | apply State.modSeg_keeps | apply State.releaseLock_keeps | apply State.lockEnded_keeps | apply Keeps.ite
      | (refine Keeps.foldl (fun _ _ _ => ?_) _ _ ?_))

theorem State.bridgeGone_keeps {s₀ : State} {s : State} (idx : Nat) (hub : Nat) (hK : Keeps s₀ s) : Keeps s₀ (State.bridgeGone s idx hub) := by
  unfold State.bridgeGone
  with_reducible repeat' ((try (fail_if_success fail_if_success conv => enter [2, 25]); refine Keeps.upd _ ?_ rfl rfl rfl); first
      | assumption | apply State.drAnswer_keeps | apply State.dropOut_keeps | apply State.logBridge_keeps | apply State.send_keeps
      | apply State.farDrain_keeps | apply Keeps.ite | (refine Keeps.foldl (fun _ _ _ => ?_) _ _ ?_))

theorem State.subscribe_keeps {s₀ : State} {s : State} (tun : Option Nat) (w : Window) (hK : Keeps s₀ s) : Keeps s₀ (State.subscribe s tun w) := by
  unfold State.subscribe
  with_reducible repeat' (first | assumption | apply State.sendPdu_keeps | apply Keeps.ite)

theorem State.resubscribe_keeps {s₀ : State} {s : State} (idx : Nat) (handle : Nat) (hK : Keeps s₀ s) : Keeps s₀ (State.resubscribe s idx handle) :=
    by
  unfold State.resubscribe
  with_reducible repeat' (first | assumption | apply State.subscribe_keeps | apply Keeps.ite | (refine Keeps.foldl (fun _ _ _ => ?_) _ _ ?_))

/-! ### DeskBase -/

theorem State.modDk_keeps {s₀ : State} {s : State} (p : Nat) (f : DeskPort → DeskPort) (hK : Keeps s₀ s) : Keeps s₀ (State.modDk s p f) :=
  Keeps.upd _ hK rfl rfl rfl

theorem State.cntK_keeps {s₀ : State} {s : State} (p : Nat) (i : Nat) (n : Nat) (hK : Keeps s₀ s) : Keeps s₀ (State.cntK s p i n) := by
  unfold State.cntK
  with_reducible repeat' (first | assumption | apply State.modDk_keeps)

theorem State.modMp_keeps {s₀ : State} {s : State} (p : Nat) (k : Nat) (f : Mapped → Mapped) (hK : Keeps s₀ s) : Keeps s₀ (State.modMp s p k f) := by
  unfold State.modMp
  with_reducible repeat' (first | assumption | apply State.modDk_keeps)

theorem State.setMp_keeps {s₀ : State} {s : State} (p : Nat) (k : Nat) (st : Nat) (status : Nat) (hK : Keeps s₀ s) : Keeps s₀ (State.setMp s p k st
    status) := by
  unfold State.setMp
  with_reducible repeat' (first | assumption | apply State.modMp_keeps | apply State.raise_keeps | apply Keeps.ite)

theorem State.modDev_keeps {s₀ : State} {s : State} (p : Nat) (status : Nat) (f : Exported → Exported) (hK : Keeps s₀ s) : Keeps s₀ (State.modDev s
    p status f) := by
  unfold State.modDev
  with_reducible repeat' (first | assumption | apply State.modDk_keeps | apply State.raise_keeps | apply Keeps.ite)

theorem State.setSink_keeps {s₀ : State} {s : State} (p : Nat) (st : Nat) (cause : Nat) (hK : Keeps s₀ s) : Keeps s₀ (State.setSink s p st cause) :=
    by
  unfold State.setSink
  with_reducible repeat' (first | assumption | apply State.modDk_keeps | apply State.raise_keeps | apply Keeps.ite)

theorem State.refreshSink_keeps {s₀ : State} {s : State} (p : Nat) (hK : Keeps s₀ s) : Keeps s₀ (State.refreshSink s p) := by
  unfold State.refreshSink
  with_reducible repeat' (first | assumption | apply State.setSink_keeps | apply Keeps.ite)

theorem State.attention_keeps {s₀ : State} {s : State} (p : Nat) (irq : Bool) (hK : Keeps s₀ s) : Keeps s₀ (State.attention s p irq) := by
  unfold State.attention
  with_reducible repeat' (first | assumption | apply State.send_keeps | apply Keeps.ite | split)

theorem State.refreshHpd_keeps {s₀ : State} {s : State} (p : Nat) (hK : Keeps s₀ s) : Keeps s₀ (State.refreshHpd s p) := by
  unfold State.refreshHpd
  with_reducible repeat' (first
      | assumption | apply State.modDk_keeps | apply State.attention_keeps | apply State.refreshSink_keeps | apply Keeps.ite)

theorem State.usbPdu_keeps {s₀ : State} {s : State} (idx : Nat) (uop : Nat) (port : Nat) (status : Nat) (speed : Nat) (data : List Byte) (hK : Keeps
    s₀ s) : Keeps s₀ (State.usbPdu s idx uop port status speed data) := by
  unfold State.usbPdu
  with_reducible repeat' (first | assumption | apply State.send_keeps)

theorem State.deskTunDown_keeps {s₀ : State} {s : State} (idx : Nat) (hK : Keeps s₀ s) : Keeps s₀ (State.deskTunDown s idx) := by
  unfold State.deskTunDown
  with_reducible repeat' (first
      | assumption | apply State.setMp_keeps | apply State.raise_keeps | apply State.refreshHpd_keeps | apply Keeps.ite
      | (refine Keeps.foldl (fun _ _ _ => ?_) _ _ ?_))

theorem State.deskTunUp_keeps {s₀ : State} {s : State} (idx : Nat) (hK : Keeps s₀ s) : Keeps s₀ (State.deskTunUp s idx) := by
  unfold State.deskTunUp
  with_reducible repeat' (first
      | assumption | apply State.usbPdu_keeps | apply State.raise_keeps | apply State.refreshHpd_keeps | apply Keeps.ite
      | (refine Keeps.foldl (fun _ _ _ => ?_) _ _ ?_))

theorem State.deskTunGone_keeps {s₀ : State} {s : State} (idx : Nat) (hK : Keeps s₀ s) : Keeps s₀ (State.deskTunGone s idx) := by
  unfold State.deskTunGone
  with_reducible repeat' (first
      | assumption | apply State.modMp_keeps | apply State.modDk_keeps | apply State.refreshHpd_keeps | apply State.modDev_keeps | apply Keeps.ite
      | (refine Keeps.foldl (fun _ _ _ => ?_) _ _ ?_))

theorem State.deskTunRefused_keeps {s₀ : State} {s : State} (idx : Nat) (reason : Nat) (hK : Keeps s₀ s) : Keeps s₀ (State.deskTunRefused s idx
    reason) := by
  unfold State.deskTunRefused
  with_reducible repeat' (first
      | assumption | apply State.modMp_keeps | apply State.setMp_keeps | apply State.modDk_keeps | (refine Keeps.foldl (fun _ _ _ => ?_) _ _ ?_))

/-! ### StorBase -/

theorem State.modFn_keeps {s₀ : State} {s : State} (f : Nat) (g : StorFn → StorFn) (hK : Keeps s₀ s) : Keeps s₀ (State.modFn s f g) :=
  Keeps.upd _ hK rfl rfl rfl

theorem State.modNs_keeps {s₀ : State} {s : State} (f : Nat) (k : Nat) (g : NsMap → NsMap) (hK : Keeps s₀ s) : Keeps s₀ (State.modNs s f k g) := by
  unfold State.modNs
  with_reducible repeat' (first | assumption | apply State.modFn_keeps)

theorem State.cqInterrupt_keeps {s₀ : State} {s : State} (f : Nat) (q : Nat) (hK : Keeps s₀ s) : Keeps s₀ (State.cqInterrupt s f q) := by
  unfold State.cqInterrupt
  with_reducible repeat' (first | assumption | apply State.send_keeps | apply Keeps.ite | split)

theorem State.post_keeps {s₀ : State} {s : State} (f : Nat) (q : Nat) (cid : Nat) (status : Nat) (hK : Keeps s₀ s) : Keeps s₀ (State.post s f q cid
    status) := by
  unfold State.post
  with_reducible repeat' (first | assumption | apply State.modFn_keeps | apply State.cqInterrupt_keeps)

theorem State.finishCmd_keeps {s₀ : State} {s : State} (c : StorCmd) (status : Nat) (hK : Keeps s₀ s) : Keeps s₀ (State.finishCmd s c status) := by
  unfold State.finishCmd
  with_reducible repeat' ((try (fail_if_success fail_if_success conv => enter [2, 25]); refine Keeps.upd _ ?_ rfl rfl rfl); first
      | assumption | apply State.post_keeps | apply Keeps.ite)

theorem State.notices_keeps {s₀ : State} {s : State} (f : Nat) (hK : Keeps s₀ s) : Keeps s₀ (State.notices s f) := by
  unfold State.notices
  with_reducible repeat' (first | assumption | apply State.modFn_keeps | apply State.post_keeps | split)

theorem State.setNs_keeps {s₀ : State} {s : State} (f : Nat) (k : Nat) (ready : Bool) (hK : Keeps s₀ s) : Keeps s₀ (State.setNs s f k ready) := by
  unfold State.setNs
  with_reducible repeat' (first
      | assumption | apply State.modNs_keeps | apply State.raise_keeps | apply State.modFn_keeps | apply State.notices_keeps | apply Keeps.ite)

theorem State.nsDown_keeps {s₀ : State} {s : State} (f : Nat) (k : Nat) (hK : Keeps s₀ s) : Keeps s₀ (State.nsDown s f k) := by
  unfold State.nsDown
  with_reducible repeat' (first | assumption | apply State.finishCmd_keeps | apply State.setNs_keeps | (refine Keeps.foldl (fun _ _ _ => ?_) _ _ ?_))

theorem State.storPdu_keeps {s₀ : State} {s : State} (idx : Nat) (op : Nat) (vol : Nat) (tag : Nat) (status : Nat) (nlb : Nat) (lba : Nat) (info :
    List Nat) (data : List Word) (hK : Keeps s₀ s) : Keeps s₀ (State.storPdu s idx op vol tag status nlb lba info data) := by
  unfold State.storPdu
  with_reducible repeat' (first | assumption | apply State.send_keeps)

theorem State.storTunUp_keeps {s₀ : State} {s : State} (idx : Nat) (hK : Keeps s₀ s) : Keeps s₀ (State.storTunUp s idx) := by
  unfold State.storTunUp
  with_reducible repeat' (first | assumption | apply State.storPdu_keeps | (refine Keeps.foldl (fun _ _ _ => ?_) _ _ ?_))

theorem State.storTunDown_keeps {s₀ : State} {s : State} (idx : Nat) (hK : Keeps s₀ s) : Keeps s₀ (State.storTunDown s idx) := by
  unfold State.storTunDown
  with_reducible repeat' (first | assumption | apply State.nsDown_keeps | (refine Keeps.foldl (fun _ _ _ => ?_) _ _ ?_))

theorem State.storTunGone_keeps {s₀ : State} {s : State} (idx : Nat) (hK : Keeps s₀ s) : Keeps s₀ (State.storTunGone s idx) := by
  unfold State.storTunGone
  with_reducible repeat' ((try (fail_if_success fail_if_success conv => enter [2, 25]); refine Keeps.upd _ ?_ rfl rfl rfl); first
      | assumption | apply State.modNs_keeps | (refine Keeps.foldl (fun _ _ _ => ?_) _ _ ?_) | dsimp only)

theorem State.storTunRefused_keeps {s₀ : State} {s : State} (idx : Nat) (reason : Nat) (hK : Keeps s₀ s) : Keeps s₀ (State.storTunRefused s idx
    reason) := by
  unfold State.storTunRefused
  with_reducible repeat' (first | assumption | apply State.modNs_keeps | (refine Keeps.foldl (fun _ _ _ => ?_) _ _ ?_))

theorem State.learnRoom_keeps {s₀ : State} {s : State} (hK : Keeps s₀ s) : Keeps s₀ (State.learnRoom s) := by
  unfold State.learnRoom
  with_reducible repeat' ((try (fail_if_success fail_if_success conv => enter [2, 25]); refine Keeps.upd _ ?_ rfl rfl rfl); first
      | assumption | apply State.raise_keeps | apply Keeps.ite)

theorem State.ethTunGone_keeps {s₀ : State} {s : State} (idx : Nat) (hK : Keeps s₀ s) : Keeps s₀ (State.ethTunGone s idx) := by
  unfold State.ethTunGone
  with_reducible repeat' ((try (fail_if_success fail_if_success conv => enter [2, 25]); refine Keeps.upd _ ?_ rfl rfl rfl); first
      | assumption | apply State.learnRoom_keeps)

/-! ### TunGone -/

theorem State.tunDown_keeps {s₀ : State} {s : State} (t : Tunnel) (hK : Keeps s₀ s) : Keeps s₀ (State.tunDown s t) := by
  unfold State.tunDown
  with_reducible repeat' (first | assumption | apply State.locksDown_keeps | apply State.deskTunDown_keeps | apply State.storTunDown_keeps)

theorem State.tunUp_keeps {s₀ : State} {s : State} (t : Tunnel) (hK : Keeps s₀ s) : Keeps s₀ (State.tunUp s t) := by
  unfold State.tunUp
  with_reducible repeat' (first | assumption | apply State.resubscribe_keeps | apply State.deskTunUp_keeps | apply State.storTunUp_keeps)

theorem State.targetsGone_keeps {s₀ : State} {s : State} (idx : Nat) (hK : Keeps s₀ s) : Keeps s₀ (State.targetsGone s idx) := by
  unfold State.targetsGone
  with_reducible repeat' ((try (fail_if_success fail_if_success conv => enter [2, 25]); refine Keeps.upd _ ?_ rfl rfl rfl); first
      | assumption | apply State.raise_keeps | (refine Keeps.foldl (fun _ _ _ => ?_) _ _ ?_) | split | dsimp only)

theorem State.tunGone_keeps {s₀ : State} {s : State} (t : Tunnel) (hK : Keeps s₀ s) : Keeps s₀ (State.tunGone s t) := by
  unfold State.tunGone
  with_reducible repeat' ((try (fail_if_success fail_if_success conv => enter [2, 25]); refine Keeps.upd _ ?_ rfl rfl rfl); first
      | assumption | apply State.bridgeGone_keeps | apply State.targetsGone_keeps | apply State.deskTunGone_keeps | apply State.storTunGone_keeps
      | apply State.ethTunGone_keeps | apply State.forgetReports_keeps | apply Keeps.ite)

theorem State.tunRefused_keeps {s₀ : State} {s : State} (t : Tunnel) (reason : Nat) (hK : Keeps s₀ s) : Keeps s₀ (State.tunRefused s t reason) := by
  unfold State.tunRefused
  with_reducible repeat' (first | assumption | apply State.deskTunRefused_keeps | apply State.storTunRefused_keeps)

/-! ### TunBase -/

theorem State.checkCert_keeps {s₀ : State} {s : State} (c : Cert) (hub : Nat) (hK : Keeps s₀ s) : Keeps s₀ (State.checkCert s c hub).1 := by
  unfold State.checkCert
  with_reducible repeat' ((try (fail_if_success fail_if_success conv => enter [2, 25]); refine Keeps.upd _ ?_ rfl rfl rfl); first
      | assumption | apply State.raise_keeps | apply Keeps.ite)

theorem State.drawEph_keeps {s₀ : State} {s : State} (hK : Keeps s₀ s) : Keeps s₀ (State.drawEph s).2 := by
  unfold State.drawEph
  with_reducible repeat' (first | assumption | apply State.draw_keeps)

theorem State.makeShare_keeps {s₀ : State} {s : State} (k : List Word) (p : OpenParams) (pubA : List Byte) (hK : Keeps s₀ s) : Keeps s₀
    (State.makeShare s k p pubA).2 := by
  unfold State.makeShare
  with_reducible repeat' (first | assumption | apply State.draw_keeps)

theorem State.modTun_keeps {s₀ : State} {s : State} (idx : Nat) (f : Tunnel → Tunnel) (hK : Keeps s₀ s) : Keeps s₀ (State.modTun s idx f) :=
  Keeps.upd _ hK rfl rfl rfl

theorem State.setTun_keeps {s₀ : State} {s : State} (idx : Nat) (st : TunState) (cause : Nat) (hK : Keeps s₀ s) : Keeps s₀ (State.setTun s idx st
    cause) := by
  unfold State.setTun
  with_reducible repeat' (first
      | assumption | apply State.modTun_keeps | apply State.raise_keeps | apply State.tunUp_keeps | apply State.tunDown_keeps | apply Keeps.ite
      | split)

theorem State.takeEph_keeps {s₀ : State} {s : State} (idx : Nat) (hK : Keeps s₀ s) : Keeps s₀ (State.takeEph s idx) := by
  unfold State.takeEph
  with_reducible repeat' ((try (fail_if_success fail_if_success conv => enter [2, 25]); refine Keeps.upd _ ?_ rfl rfl rfl); first
      | assumption | apply State.drawEph_keeps | apply State.modTun_keeps | split)

theorem State.ownKeyshare_keeps {s₀ : State} {s : State} (t : Tunnel) (hK : Keeps s₀ s) : Keeps s₀ (State.ownKeyshare s t).2 := by
  unfold State.ownKeyshare
  with_reducible repeat' (first | assumption | apply State.makeShare_keeps)

theorem State.dropEph_keeps {s₀ : State} {s : State} (idx : Nat) (hK : Keeps s₀ s) : Keeps s₀ (State.dropEph s idx) := by
  unfold State.dropEph
  with_reducible repeat' ((try (fail_if_success fail_if_success conv => enter [2, 25]); refine Keeps.upd _ ?_ rfl rfl rfl); first
      | assumption | apply State.modTun_keeps | apply State.takeEph_keeps | split | dsimp only)

theorem State.takeTun_keeps {s₀ t₀ : State} {x₀} {s : State} {t : Tunnel} (eq : State.takeTun s t = some (t₀, x₀)) (hK : Keeps s₀ s) : Keeps s₀ t₀
    := by
  unfold State.takeTun at eq
  split at eq
  · contradiction
  · simp only [Option.some.injEq, Prod.mk.injEq] at eq
    obtain ⟨rfl, _⟩ := eq
    exact Keeps.upd _ hK rfl rfl rfl

theorem State.openTun_keeps {s₀ t₀ : State} {x₀} {s : State} {p : OpenParams} {owner : Option Source} (eq : State.openTun s p owner = some (t₀, x₀))
    (hK : Keeps s₀ s) : Keeps s₀ t₀ := by
  unfold State.openTun at eq
  split at eq
  · contradiction
  · simp only [Option.some.injEq, Prod.mk.injEq] at eq
    obtain ⟨rfl, _⟩ := eq
    exact State.takeEph_keeps _ (State.setTun_keeps _ _ _ (State.takeTun_keeps (by assumption) hK))

theorem State.openOwn_keeps {s₀ : State} {s : State} (p : OpenParams) (hK : Keeps s₀ s) : Keeps s₀ (State.openOwn s p).1 := by
  unfold State.openOwn
  with_reducible repeat' (first | assumption | (refine State.openTun_keeps (by assumption) ?_) | apply Keeps.iteFst | split)

theorem State.removeTun_keeps {s₀ : State} {s : State} (idx : Nat) (hK : Keeps s₀ s) : Keeps s₀ (State.removeTun s idx) := by
  unfold State.removeTun
  with_reducible repeat' ((try (fail_if_success fail_if_success conv => enter [2, 25]); refine Keeps.upd _ ?_ rfl rfl rfl); first
      | assumption | apply State.dropEph_keeps | apply State.modTun_keeps | apply State.tunDown_keeps | apply State.tunGone_keeps | apply Keeps.ite
      | split)

theorem State.closeTun_keeps {s₀ : State} {s : State} (idx : Nat) (cause : Nat) (hK : Keeps s₀ s) : Keeps s₀ (State.closeTun s idx cause) := by
  unfold State.closeTun
  with_reducible repeat' (first | assumption | apply State.setTun_keeps | apply State.removeTun_keeps)

theorem State.closeAll_keeps {s₀ : State} {s : State} (cause : Nat) (hK : Keeps s₀ s) : Keeps s₀ (State.closeAll s cause) := by
  unfold State.closeAll
  with_reducible repeat' (first | assumption | apply State.removeTun_keeps | apply State.raise_keeps | (refine Keeps.foldl (fun _ _ _ => ?_) _ _ ?_))

theorem State.sendRelease_keeps {s₀ : State} {s : State} (idx : Nat) (cause : Nat) (hK : Keeps s₀ s) : Keeps s₀ (State.sendRelease s idx cause) := by
  unfold State.sendRelease
  with_reducible repeat' (first | assumption | apply State.modTun_keeps | apply State.sendRoot_keeps | apply Keeps.ite | split)

theorem State.emit_keeps {s₀ : State} {s : State} (idx : Nat) (c : Cell) (ingress : Nat) (hK : Keeps s₀ s) : Keeps s₀ (State.emit s idx c ingress)
    := by
  unfold State.emit
  with_reducible repeat' (first | assumption | apply State.modTun_keeps | apply State.offer_keeps)

theorem State.emitSeq_keeps {s₀ : State} {s : State} (idx : Nat) (ctype : Nat) (dest : Nat) (sop : Bool) (eop : Bool) (excess : Bool) (payload :
    List Byte) (ingress : Option Nat) (hK : Keeps s₀ s) : Keeps s₀ (State.emitSeq s idx ctype dest sop eop excess payload ingress) := by
  unfold State.emitSeq
  with_reducible repeat' (first | assumption | apply State.modTun_keeps | apply State.emit_keeps | split)

theorem State.emitControl_keeps {s₀ : State} {s : State} (idx : Nat) (payload : List Byte) (hK : Keeps s₀ s) : Keeps s₀ (State.emitControl s idx
    payload) := by
  unfold State.emitControl
  with_reducible repeat' (first | assumption | apply State.modTun_keeps | apply State.emitSeq_keeps | apply Keeps.ite | split)

theorem State.sendOffer_keeps {s₀ : State} {s : State} (idx : Nat) (k : Nat) (hK : Keeps s₀ s) : Keeps s₀ (State.sendOffer s idx k) := by
  unfold State.sendOffer
  with_reducible repeat' (first
      | assumption | apply State.ownKeyshare_keeps | apply State.modTun_keeps | apply State.emitControl_keeps | apply Keeps.ite | split)

theorem State.offerRekey_keeps {s₀ : State} {s : State} (idx : Nat) (hK : Keeps s₀ s) : Keeps s₀ (State.offerRekey s idx) := by
  unfold State.offerRekey
  with_reducible repeat' (first
      | assumption | apply State.modTun_keeps | apply State.takeEph_keeps | apply State.sendOffer_keeps | apply Keeps.ite | split)

theorem State.noteSent_keeps {s₀ : State} {s : State} (idx : Nat) (hK : Keeps s₀ s) : Keeps s₀ (State.noteSent s idx) := by
  unfold State.noteSent
  with_reducible repeat' (first
      | assumption | apply State.modTun_keeps | apply State.setTun_keeps | apply State.offerRekey_keeps | apply Keeps.ite | split)

theorem State.sendSeq_keeps {s₀ : State} {s : State} (idx : Nat) (ctype : Nat) (dest : Nat) (sop : Bool) (eop : Bool) (excess : Bool) (payload :
    List Byte) (ingress : Option Nat) (hK : Keeps s₀ s) : Keeps s₀ (State.sendSeq s idx ctype dest sop eop excess payload ingress) := by
  unfold State.sendSeq
  with_reducible repeat' (first | assumption | apply State.emitSeq_keeps | apply State.noteSent_keeps)

theorem State.sendControl_keeps {s₀ : State} {s : State} (idx : Nat) (cmsg : Nat) (cause : Nat) (kgen : Nat) (eseq : Nat) (share : List Word) (hK :
    Keeps s₀ s) : Keeps s₀ (State.sendControl s idx cmsg cause kgen eseq share) := by
  unfold State.sendControl
  with_reducible repeat' (first | assumption | apply State.emitControl_keeps | apply State.noteSent_keeps)

theorem State.sendStatus_keeps {s₀ : State} {s : State} (idx : Nat) (cmsg : Nat) (eseq : Nat) (hK : Keeps s₀ s) : Keeps s₀ (State.sendStatus s idx
    cmsg eseq) := by
  unfold State.sendStatus
  with_reducible repeat' (first | assumption | apply State.modTun_keeps | apply State.emit_keeps | apply State.noteSent_keeps | split)

theorem State.sendAck_keeps {s₀ : State} {s : State} (idx : Nat) (hK : Keeps s₀ s) : Keeps s₀ (State.sendAck s idx) := by
  unfold State.sendAck
  with_reducible repeat' (first | assumption | apply State.modTun_keeps | apply State.sendStatus_keeps | apply Keeps.ite | split)

theorem State.dropOffer_keeps {s₀ : State} {s : State} (idx : Nat) (retry : Bool) (hK : Keeps s₀ s) : Keeps s₀ (State.dropOffer s idx retry) := by
  unfold State.dropOffer
  with_reducible repeat' (first | assumption | apply State.modTun_keeps | apply State.dropEph_keeps)

theorem State.newKey_keeps {s₀ : State} {s : State} (idx : Nat) (kgen : Nat) (hK : Keeps s₀ s) : Keeps s₀ (State.newKey s idx kgen) := by
  unfold State.newKey
  with_reducible repeat' (first | assumption | apply State.modTun_keeps | split)

theorem State.startKey_keeps {s₀ : State} {s : State} (idx : Nat) (hK : Keeps s₀ s) : Keeps s₀ (State.startKey s idx) := by
  unfold State.startKey
  with_reducible repeat' (first | assumption | apply State.modTun_keeps)

theorem State.rekeyed_keeps {s₀ : State} {s : State} (idx : Nat) (kgen : Nat) (hK : Keeps s₀ s) : Keeps s₀ (State.rekeyed s idx kgen) := by
  unfold State.rekeyed
  with_reducible repeat' (first
      | assumption | apply State.raise_keeps | apply State.modTun_keeps | apply State.setTun_keeps | apply Keeps.ite | split)

theorem State.sendClose_keeps {s₀ : State} {s : State} (idx : Nat) (cause : Nat) (hK : Keeps s₀ s) : Keeps s₀ (State.sendClose s idx cause) := by
  unfold State.sendClose
  with_reducible repeat' (first | assumption | apply State.sendControl_keeps | apply State.draw_keeps | split)

theorem State.maybeRelease_keeps {s₀ : State} {s : State} (idx : Nat) (hK : Keeps s₀ s) : Keeps s₀ (State.maybeRelease s idx) := by
  unfold State.maybeRelease
  with_reducible repeat' (first | assumption | apply State.sendRelease_keeps | apply Keeps.ite | split)

theorem State.beginClose_keeps {s₀ : State} {s : State} (idx : Nat) (cause : Nat) (hK : Keeps s₀ s) : Keeps s₀ (State.beginClose s idx cause) := by
  unfold State.beginClose
  with_reducible repeat' (first
      | assumption | apply State.modTun_keeps | apply State.setTun_keeps | apply State.maybeRelease_keeps | apply State.sendClose_keeps
      | apply Keeps.ite | split)

theorem State.sendCtlN_keeps {s₀ : State} (n : Nat) {s : State} (i : Nat) (hK : Keeps s₀ s) : Keeps s₀ (State.sendCtlN n s i) := by
  induction n generalizing s with
  | zero => exact hK
  | succ n ih =>
    unfold State.sendCtlN
    with_reducible repeat' (first | assumption | apply ih | apply State.modTun_keeps | apply State.sendSeq_keeps | apply Keeps.ite | split)

theorem State.sendDataN_keeps {s₀ : State} (n : Nat) {s : State} (i : Nat) (hK : Keeps s₀ s) : Keeps s₀ (State.sendDataN n s i) := by
  induction n generalizing s with
  | zero => exact hK
  | succ n ih =>
    unfold State.sendDataN
    with_reducible repeat' (first | assumption | apply ih | apply State.modTun_keeps | apply State.sendSeq_keeps | apply Keeps.ite | split)

theorem State.sendWaiting_keeps {s₀ : State} {s : State} (idx : Nat) (hK : Keeps s₀ s) : Keeps s₀ (State.sendWaiting s idx) := by
  unfold State.sendWaiting
  with_reducible repeat' (first | assumption | apply State.sendCtlN_keeps | apply State.sendDataN_keeps)

theorem State.enterUp_keeps {s₀ : State} {s : State} (idx : Nat) (hK : Keeps s₀ s) : Keeps s₀ (State.enterUp s idx) := by
  unfold State.enterUp
  with_reducible repeat' (first | assumption | apply State.modTun_keeps | apply State.setTun_keeps | split)

end Sys2Proof.Machine
end

