-- ==== Sys2Proof/Laws/KeepsUnits.lean ====
section
/-!
SUPPORT. Every operation keeps the queue and the safe states (`Keeps`, Laws/Keeps.lean): the allotment, the tree, tunnels, storage,
Ethernet, the vault, power, lighting and the displays. One lemma per operation.
-/

set_option linter.unusedVariables false

namespace Sys2Proof.Machine

open Sys2Proof

/-! ### Allotment -/

theorem State.unstage_keeps {s₀ : State} {s : State} (hK : Keeps s₀ s) : Keeps s₀ (State.unstage s) := by
  unfold State.unstage
  with_reducible repeat' ((try (fail_if_success fail_if_success conv => enter [2, 25]); refine Keeps.upd _ ?_ rfl rfl rfl); first
      | assumption | apply Keeps.ite | split | dsimp only)

theorem State.stage_keeps {s₀ : State} {s : State} (data : List Word) (hK : Keeps s₀ s) : Keeps s₀ (State.stage s data).1 := by
  unfold State.stage
  with_reducible repeat' ((try (fail_if_success fail_if_success conv => enter [2, 25]); refine Keeps.upd _ ?_ rfl rfl rfl); first
      | assumption | apply State.keepEntry_keeps | apply Keeps.ite | apply Keeps.iteFst | split | dsimp only)

theorem State.reportEpoch_keeps {s₀ : State} {s : State} (no : Nat) (outcome : Nat) (orphans : Nat) (hK : Keeps s₀ s) : Keeps s₀ (State.reportEpoch
    s no outcome orphans) := by
  unfold State.reportEpoch
  with_reducible repeat' ((try (fail_if_success fail_if_success conv => enter [2, 25]); refine Keeps.upd _ ?_ rfl rfl rfl); first
      | assumption | apply State.raise_keeps | apply State.sendRoot_keeps | apply Keeps.ite)

theorem State.applyEntry_keeps {s₀ : State} {s : State} (e : AllotEntry) (hK : Keeps s₀ s) : Keeps s₀ (State.applyEntry s e).1 := by
  unfold State.applyEntry
  with_reducible repeat' (first
      | assumption | apply State.putQueue_keeps | apply State.modTun_keeps | apply State.raise_keeps | apply Keeps.ite | apply Keeps.iteFst
      | split)

theorem State.applyEpoch_keeps {s₀ : State} {s : State} (e : Epoch) (hK : Keeps s₀ s) : Keeps s₀ (State.applyEpoch s e) := by
  unfold State.applyEpoch
  with_reducible repeat' ((try (fail_if_success fail_if_success conv => enter [2, 25]); refine Keeps.upd _ ?_ rfl rfl rfl); first
      | assumption | apply State.applyEntry_keeps | apply State.reportEpoch_keeps | apply State.enterUp_keeps | apply Keeps.ite
      | (refine Keeps.foldl (fun _ _ _ => ?_) _ _ ?_) | (refine Keeps.foldlFst (fun _ _ _ => ?_) _ _ ?_) | split)

theorem State.discardEpoch_keeps {s₀ : State} {s : State} (e : Epoch) (hK : Keeps s₀ s) : Keeps s₀ (State.discardEpoch s e) := by
  unfold State.discardEpoch
  with_reducible repeat' ((try (fail_if_success fail_if_success conv => enter [2, 25]); refine Keeps.upd _ ?_ rfl rfl rfl); first
      | assumption | apply State.reportEpoch_keeps)

theorem State.epochFires_keeps {s₀ : State} {s : State} (no : Nat) (hK : Keeps s₀ s) : Keeps s₀ (State.epochFires s no) := by
  unfold State.epochFires
  with_reducible repeat' ((try (fail_if_success fail_if_success conv => enter [2, 25]); refine Keeps.upd _ ?_ rfl rfl rfl); first
      | assumption | apply State.discardEpoch_keeps | apply Keeps.ite | split)

theorem State.dropEpochEntries_keeps {s₀ : State} {s : State} (hK : Keeps s₀ s) : Keeps s₀ (State.dropEpochEntries s) :=
  Keeps.upd _ hK rfl rfl rfl

theorem State.invalidateEpochs_keeps {s₀ : State} {s : State} (hK : Keeps s₀ s) : Keeps s₀ (State.invalidateEpochs s) := by
  unfold State.invalidateEpochs
  with_reducible repeat' ((try (fail_if_success fail_if_success conv => enter [2, 25]); refine Keeps.upd _ ?_ rfl rfl rfl); first
      | assumption | apply State.dropEpochEntries_keeps | apply State.reportEpoch_keeps | (refine Keeps.foldl (fun _ _ _ => ?_) _ _ ?_))

theorem State.forgetEpochs_keeps {s₀ : State} {s : State} (hK : Keeps s₀ s) : Keeps s₀ (State.forgetEpochs s) := by
  unfold State.forgetEpochs
  with_reducible repeat' ((try (fail_if_success fail_if_success conv => enter [2, 25]); refine Keeps.upd _ ?_ rfl rfl rfl); first
      | assumption | apply State.dropEpochEntries_keeps)

theorem State.rescale_keeps {s₀ : State} {s : State} (e : Nat) (hK : Keeps s₀ s) : Keeps s₀ (State.rescale s e) := by
  unfold State.rescale
  with_reducible repeat' (first | assumption | apply State.modEgress_keeps | apply State.raise_keeps | apply Keeps.ite)

theorem State.listVl1_keeps {s₀ : State} {s : State} (hK : Keeps s₀ s) : Keeps s₀ (State.listVl1 s) := by
  unfold State.listVl1
  with_reducible repeat' (first | assumption | apply State.putQueue_keeps | apply Keeps.ite | (refine Keeps.foldl (fun _ _ _ => ?_) _ _ ?_))

theorem State.stageTo_keeps {s₀ : State} {s : State} (hub : Nat) (data : List Word) (hK : Keeps s₀ s) : Keeps s₀ (State.stageTo s hub data) := by
  unfold State.stageTo
  with_reducible repeat' (first | assumption | apply State.stage_keeps | apply State.send_keeps | apply Keeps.ite)

theorem State.nameEpoch_keeps {s₀ : State} {s : State} (entries : List (Nat × List Word)) (hK : Keeps s₀ s) : Keeps s₀ (State.nameEpoch s entries).1
    := by
  unfold State.nameEpoch
  with_reducible repeat' ((try (fail_if_success fail_if_success conv => enter [2, 25]); refine Keeps.upd _ ?_ rfl rfl rfl); first
      | assumption | apply State.stageTo_keeps | apply Keeps.iteFst | (refine Keeps.foldl (fun _ _ _ => ?_) _ _ ?_) | dsimp only)

theorem State.nameHeld_keeps {s₀ : State} {s : State} (hK : Keeps s₀ s) : Keeps s₀ (State.nameHeld s) := by
  unfold State.nameHeld
  with_reducible repeat' ((try (fail_if_success fail_if_success conv => enter [2, 25]); refine Keeps.upd _ ?_ rfl rfl rfl); first
      | assumption | apply State.nameEpoch_keeps | apply Keeps.ite)

theorem State.fwdSetAt_keeps {s₀ : State} {s : State} (hub : Nat) (ws : List Word) (hK : Keeps s₀ s) : Keeps s₀ (State.fwdSetAt s hub ws) := by
  unfold State.fwdSetAt
  with_reducible repeat' (first | assumption | apply State.fwdSet_keeps | apply State.send_keeps | apply Keeps.ite)

theorem State.installLegs_keeps {s₀ : State} {s : State} (number : Nat) (legs : List Leg) (hK : Keeps s₀ s) : Keeps s₀ (State.installLegs s number
    legs) := by
  unfold State.installLegs
  with_reducible repeat' (first | assumption | apply State.fwdSetAt_keeps | (refine Keeps.foldl (fun _ _ _ => ?_) _ _ ?_))

theorem State.removeLegs_keeps {s₀ : State} {s : State} (number : Nat) (legs : List Leg) (hK : Keeps s₀ s) : Keeps s₀ (State.removeLegs s number
    legs) := by
  unfold State.removeLegs
  with_reducible repeat' (first | assumption | apply State.fwdSetAt_keeps | apply State.send_keeps | (refine Keeps.foldl (fun _ _ _ => ?_) _ _ ?_))

theorem State.checkOver_keeps {s₀ : State} {s : State} (hK : Keeps s₀ s) : Keeps s₀ (State.checkOver s) := by
  unfold State.checkOver
  with_reducible repeat' ((try (fail_if_success fail_if_success conv => enter [2, 25]); refine Keeps.upd _ ?_ rfl rfl rfl); first
      | assumption | apply State.raise_keeps | apply Keeps.ite | (refine Keeps.foldl (fun _ _ _ => ?_) _ _ ?_) | split)

theorem State.setRate_keeps {s₀ : State} {s : State} (hub : Nat) (port : Nat) (kbps : Nat) (bundled : Bool) (hK : Keeps s₀ s) : Keeps s₀
    (State.setRate s hub port kbps bundled) := by
  unfold State.setRate
  with_reducible repeat' ((try (fail_if_success fail_if_success conv => enter [2, 25]); refine Keeps.upd _ ?_ rfl rfl rfl); first
      | assumption | apply State.checkOver_keeps)

theorem State.reportRate_keeps {s₀ : State} {s : State} (p : Nat) (hK : Keeps s₀ s) : Keeps s₀ (State.reportRate s p) := by
  unfold State.reportRate
  with_reducible repeat' (first | assumption | apply State.setRate_keeps | apply State.send_keeps | apply Keeps.ite)

theorem State.askRates_keeps {s₀ : State} {s : State} (t : Tunnel) (c : OpenParams) (hK : Keeps s₀ s) : Keeps s₀ (State.askRates s t c) := by
  unfold State.askRates
  with_reducible repeat' ((try (fail_if_success fail_if_success conv => enter [2, 25]); refine Keeps.upd _ ?_ rfl rfl rfl); first
      | assumption | apply State.modTun_keeps | apply State.sendRoot_keeps)

theorem State.changeAnswered_keeps {s₀ : State} {s : State} (tunnel : Nat) (reason : Nat) (hK : Keeps s₀ s) : Keeps s₀ (State.changeAnswered s
    tunnel reason) := by
  unfold State.changeAnswered
  with_reducible repeat' ((try (fail_if_success fail_if_success conv => enter [2, 25]); refine Keeps.upd _ ?_ rfl rfl rfl); first
      | assumption | apply State.modTun_keeps | apply State.raise_keeps | apply Keeps.ite | split | dsimp only)

theorem State.decideChange_keeps {s₀ : State} {s : State} (hub : Nat) (tunnel : Nat) (cir : Nat) (pir : Nat) (cbs : Nat) (pbs : Nat) (hK : Keeps s₀
    s) : Keeps s₀ (State.decideChange s hub tunnel cir pir cbs pbs).1 := by
  unfold State.decideChange
  with_reducible repeat' ((try (fail_if_success fail_if_success conv => enter [2, 25]); refine Keeps.upd _ ?_ rfl rfl rfl); first
      | assumption | apply State.nameEpoch_keeps | apply State.checkOver_keeps | apply Keeps.iteFst | split)

/-! ### Bridge -/

theorem State.logWindow_keeps {s₀ : State} {s : State} (fn : Nat) (win : Nat) (cause : Nat) (slots : Nat) (target : Nat) (hK : Keeps s₀ s) : Keeps
    s₀ (State.logWindow s fn win cause slots target) := by
  unfold State.logWindow
  with_reducible repeat' (first | assumption | apply State.logBridge_keeps)

theorem State.freeWritten_keeps {s₀ : State} {s : State} (fn : Nat) (win : Nat) (offset : Nat) (slots : Nat) (hK : Keeps s₀ s) : Keeps s₀
    (State.freeWritten s fn win offset slots) :=
  Keeps.upd _ hK rfl rfl rfl

theorem State.dropOverlap_keeps {s₀ : State} {s : State} (exp : Nat) (hub : Nat) (start : Nat) (n : Nat) (hK : Keeps s₀ s) : Keeps s₀
    (State.dropOverlap s exp hub start n) := by
  unfold State.dropOverlap
  with_reducible repeat' ((try (fail_if_success fail_if_success conv => enter [2, 25]); refine Keeps.upd _ ?_ rfl rfl rfl); first
      | assumption | apply State.cntB_keeps | (refine Keeps.foldl (fun _ _ _ => ?_) _ _ ?_))

theorem State.sendRun_keeps {s₀ : State} {s : State} (fn : Nat) (win : Nat) (tun : Option Nat) (target : Nat) (ws : List Word) (hK : Keeps s₀ s) :
    Keeps s₀ (State.sendRun s fn win tun target ws) := by
  unfold State.sendRun
  with_reducible repeat' ((try (fail_if_success fail_if_success conv => enter [2, 25]); refine Keeps.upd _ ?_ rfl rfl rfl); first
      | assumption | apply State.sendPdu_keeps | apply Keeps.ite | split)

theorem State.remundWindow_keeps {s₀ : State} {s : State} (fn : Nat) (win : Nat) (off : Nat) (slots : List (BitVec 4 × Word)) (tun : Option Nat) (hK
    : Keeps s₀ s) : Keeps s₀ (State.remundWindow s fn win off slots tun) := by
  unfold State.remundWindow
  with_reducible repeat' ((try (fail_if_success fail_if_success conv => enter [2, 25]); refine Keeps.upd _ ?_ rfl rfl rfl); first
      | assumption | apply State.logWindow_keeps | apply State.freeWritten_keeps | apply State.dropOverlap_keeps | apply State.sendRun_keeps
      | apply Keeps.ite | (refine Keeps.foldl (fun _ _ _ => ?_) _ _ ?_))

theorem State.bar2Write_keeps {s₀ : State} {s : State} (fn : Nat) (off : Nat) (slots : List (BitVec 4 × Word)) (hK : Keeps s₀ s) : Keeps s₀
    (State.bar2Write s fn off slots) := by
  unfold State.bar2Write
  with_reducible repeat' (first
      | assumption | apply State.send_keeps | apply State.logWindow_keeps | apply State.remundWindow_keeps | apply Keeps.ite | split)

theorem State.portDrain_keeps {s₀ : State} {s : State} (hK : Keeps s₀ s) : Keeps s₀ (State.portDrain s) := by
  unfold State.portDrain
  with_reducible repeat' ((try (fail_if_success fail_if_success conv => enter [2, 25]); refine Keeps.upd _ ?_ rfl rfl rfl); first
      | assumption | apply State.bar2Write_keeps | apply Keeps.ite | (refine Keeps.foldl (fun _ _ _ => ?_) _ _ ?_))

theorem State.epRead_keeps {s₀ : State} {s : State} (fn : Nat) (win : Nat) (offset : Nat) (len : Nat) (tun : Option Nat) (hK : Keeps s₀ s) : Keeps
    s₀ (State.epRead s fn win offset len tun) := by
  unfold State.epRead
  with_reducible repeat' ((try (fail_if_success fail_if_success conv => enter [2, 25]); refine Keeps.upd _ ?_ rfl rfl rfl); first
      | assumption | apply State.complete_keeps | apply State.collect_keeps | apply State.portDrain_keeps | apply State.modDr_keeps
      | apply State.cntB_keeps | apply State.sendPdu_keeps | apply Keeps.ite | split)

theorem State.memRead_keeps {s₀ : State} {s : State} (fn : Nat) (win : Nat) (offset : Nat) (len : Nat) (tun : Option Nat) (hK : Keeps s₀ s) : Keeps
    s₀ (State.memRead s fn win offset len tun) := by
  unfold State.memRead
  with_reducible repeat' ((try (fail_if_success fail_if_success conv => enter [2, 25]); refine Keeps.upd _ ?_ rfl rfl rfl); first
      | assumption | apply State.cntB_keeps | apply State.complete_keeps | apply State.sendPdu_keeps | apply Keeps.ite | split | dsimp only)

theorem State.exportWrite_keeps {s₀ : State} {s : State} (tenant : Nat) (exp : Nat) (target : Nat) (ws : List Word) (dev : Bool) (hK : Keeps s₀ s) :
    Keeps s₀ (State.exportWrite s tenant exp target ws dev).1 := by
  unfold State.exportWrite
  with_reducible repeat' (first | assumption | apply Keeps.memWrite | apply Keeps.iteFst | split)

theorem State.sendLockPdu_keeps {s₀ : State} {s : State} (q : LockSeq) (op : Nat) (ep : Nat) (hK : Keeps s₀ s) : Keeps s₀ (State.sendLockPdu s q op
    ep) := by
  unfold State.sendLockPdu
  with_reducible repeat' ((try (fail_if_success fail_if_success conv => enter [2, 25]); refine Keeps.upd _ ?_ rfl rfl rfl); first
      | assumption | apply State.send_keeps | split)

theorem State.releaseSeq_keeps {s₀ : State} {s : State} (q : LockSeq) (hK : Keeps s₀ s) : Keeps s₀ (State.releaseSeq s q) := by
  unfold State.releaseSeq
  with_reducible repeat' (first | assumption | apply State.sendLockPdu_keeps | (refine Keeps.foldl (fun _ _ _ => ?_) _ _ ?_))

theorem State.dropSeq_keeps {s₀ : State} {s : State} (lsid : Nat) (hK : Keeps s₀ s) : Keeps s₀ (State.dropSeq s lsid) :=
  Keeps.upd _ hK rfl rfl rfl

theorem State.answerLock_keeps {s₀ : State} {s : State} (q : LockSeq) (r : Response) (hK : Keeps s₀ s) : Keeps s₀ (State.answerLock s q r) := by
  unfold State.answerLock
  with_reducible repeat' (first | assumption | apply Keeps.respond | apply Keeps.ite | split)

theorem State.lockAck_keeps {s₀ : State} {s : State} (q : LockSeq) (status : Nat) (hK : Keeps s₀ s) : Keeps s₀ (State.lockAck s q status) := by
  unfold State.lockAck
  with_reducible repeat' (first
      | assumption | apply State.modSeq_keeps | apply State.sendLockPdu_keeps | apply State.answerLock_keeps | apply State.cntB_keeps
      | apply State.releaseSeq_keeps | apply State.dropSeq_keeps | apply State.raise_keeps | apply Keeps.ite | split | dsimp only)

theorem State.memAnswer_keeps {s₀ : State} {s : State} (o : BrWrite) (status : Nat) (data : List Word) (hub : Nat) (hK : Keeps s₀ s) : Keeps s₀
    (State.memAnswer s o status data hub) := by
  unfold State.memAnswer
  with_reducible repeat' ((try (fail_if_success fail_if_success conv => enter [2, 25]); refine Keeps.upd _ ?_ rfl rfl rfl); first
      | assumption | apply State.dropOut_keeps | apply State.logBridge_keeps | apply State.send_keeps | apply State.complete_keeps
      | apply Keeps.ite)

theorem State.sendHeldReads_keeps {s₀ : State} {s : State} (fn : Nat) (win : Nat) (hK : Keeps s₀ s) : Keeps s₀ (State.sendHeldReads s fn win) := by
  unfold State.sendHeldReads
  with_reducible repeat' ((try (fail_if_success fail_if_success conv => enter [2, 25]); refine Keeps.upd _ ?_ rfl rfl rfl); first
      | assumption | apply State.sendPdu_keeps | apply Keeps.ite | (refine Keeps.foldl (fun _ _ _ => ?_) _ _ ?_))

theorem State.wack_keeps {s₀ : State} {s : State} (o : BrWrite) (status : Nat) (hub : Nat) (hK : Keeps s₀ s) : Keeps s₀ (State.wack s o status hub)
    := by
  unfold State.wack
  with_reducible repeat' (first
      | assumption | apply State.dropOut_keeps | apply State.logBridge_keeps | apply State.sendHeldReads_keeps | apply Keeps.ite)

theorem State.bridgeAnswer_keeps {s₀ : State} {s : State} (tun : Option (BitVec 14)) (op : Byte) (status : Byte) (tag : BitVec 16) (lsid : BitVec
    16) (target : BitVec 64) (data : List Word) (hK : Keeps s₀ s) : Keeps s₀ (State.bridgeAnswer s tun op status tag lsid target data) := by
  unfold State.bridgeAnswer
  with_reducible repeat' (first
      | assumption | apply State.drAnswer_keeps | apply State.memAnswer_keeps | apply State.logBridge_keeps | apply State.wack_keeps
      | apply State.dropOut_keeps | apply State.lockAck_keeps | apply State.lockEnded_keeps | apply State.cntB_keeps | apply Keeps.ite | split)

theorem State.abortEp_keeps {s₀ : State} {s : State} (hK : Keeps s₀ s) : Keeps s₀ (State.abortEp s) := by
  unfold State.abortEp
  with_reducible repeat' ((try (fail_if_success fail_if_success conv => enter [2, 25]); refine Keeps.upd _ ?_ rfl rfl rfl); first
      | assumption | apply State.farDrain_keeps | apply State.releaseSeq_keeps | apply State.dropSeq_keeps | apply Keeps.ite
      | (refine Keeps.foldl (fun _ _ _ => ?_) _ _ ?_) | split)

theorem recExport_keeps {s₀ : State} {s : State} (rd : Rd) (hK : Keeps s₀ s) : Keeps s₀ ((recExport s) rd).1 := by
  unfold recExport
  with_reducible repeat' (first | (refine Keeps.bind (fun _ _ => ?_) _) | refine Keeps.pure ?_ _)
  with_reducible repeat' ((try (fail_if_success fail_if_success conv => enter [2, 25]); refine Keeps.upd _ ?_ rfl rfl rfl); first | assumption)

theorem recBridge_keeps {s₀ : State} {s : State} (rd : Rd) (hK : Keeps s₀ s) : Keeps s₀ ((recBridge s) rd).1 := by
  unfold recBridge
  with_reducible repeat' (first | (refine Keeps.bind (fun _ _ => ?_) _) | refine Keeps.pure ?_ _)
  with_reducible repeat' ((try (fail_if_success fail_if_success conv => enter [2, 25]); refine Keeps.upd _ ?_ rfl rfl rfl); first | assumption)

/-! ### TimeServo -/

theorem State.stepTime_keeps {s₀ : State} {s : State} (by_ : Int) (hK : Keeps s₀ s) : Keeps s₀ (State.stepTime s by_) :=
  Keeps.upd _ hK rfl rfl rfl

theorem State.diverged_keeps {s₀ : State} {s : State} (flag : Bool) (off : Int) (hK : Keeps s₀ s) : Keeps s₀ (State.diverged s flag off) := by
  unfold State.diverged
  with_reducible repeat' (first | assumption | apply State.raise_keeps)

theorem State.judgeOffset_keeps {s₀ : State} {s : State} (off : Int) (hK : Keeps s₀ s) : Keeps s₀ (State.judgeOffset s off) := by
  unfold State.judgeOffset
  with_reducible repeat' ((try (fail_if_success fail_if_success conv => enter [2, 25]); refine Keeps.upd _ ?_ rfl rfl rfl); first
      | assumption | apply State.diverged_keeps | apply Keeps.ite)

theorem State.servo_keeps {s₀ : State} {s : State} (off : Int) (source : Nat) (hK : Keeps s₀ s) : Keeps s₀ (State.servo s off source) := by
  unfold State.servo
  with_reducible repeat' ((try (fail_if_success fail_if_success conv => enter [2, 25]); refine Keeps.upd _ ?_ rfl rfl rfl); first
      | assumption | apply State.stepTime_keeps | apply State.timeFirstLock_keeps | apply State.draw_keeps | apply State.judgeOffset_keeps
      | apply Keeps.ite)

/-! ### Topology -/

theorem State.noteBelow_keeps {s₀ : State} {s : State} (p : Fin 4) (was : Nat) (hK : Keeps s₀ s) : Keeps s₀ (State.noteBelow s p was) := by
  unfold State.noteBelow
  with_reducible repeat' ((try (fail_if_success fail_if_success conv => enter [2, 25]); refine Keeps.upd _ ?_ rfl rfl rfl); first
      | assumption | dsimp only)

theorem State.sendJoin_keeps {s₀ : State} {s : State} (hK : Keeps s₀ s) : Keeps s₀ (State.sendJoin s) := by
  unfold State.sendJoin
  with_reducible repeat' ((try (fail_if_success fail_if_success conv => enter [2, 25]); refine Keeps.upd _ ?_ rfl rfl rfl); first
      | assumption | apply State.drawEph_keeps | apply State.makeShare_keeps | apply State.send_keeps | apply Keeps.ite | split)

theorem State.leaveTree_keeps {s₀ : State} {s : State} (hK : Keeps s₀ s) : Keeps s₀ (State.leaveTree s) := by
  unfold State.leaveTree
  with_reducible repeat' ((try (fail_if_success fail_if_success conv => enter [2, 25]); refine Keeps.upd _ ?_ rfl rfl rfl); first
      | assumption | apply State.closeAll_keeps | apply State.forgetEpochs_keeps | apply State.forgetReports_keeps | apply State.raise_keeps
      | apply State.sendJoin_keeps)

theorem State.moveUpstream_keeps {s₀ : State} {s : State} (p : Fin 4) (hK : Keeps s₀ s) : Keeps s₀ (State.moveUpstream s p) := by
  unfold State.moveUpstream
  with_reducible repeat' ((try (fail_if_success fail_if_success conv => enter [2, 25]); refine Keeps.upd _ ?_ rfl rfl rfl); first
      | assumption | apply State.raise_keeps | apply State.dropGuyline_keeps | apply Keeps.ite)

theorem State.retree_keeps {s₀ : State} {s : State} (hK : Keeps s₀ s) : Keeps s₀ (State.retree s) := by
  unfold State.retree
  with_reducible repeat' ((try (fail_if_success fail_if_success conv => enter [2, 25]); refine Keeps.upd _ ?_ rfl rfl rfl); first
      | assumption | apply State.leaveTree_keeps | apply State.moveUpstream_keeps | apply State.sendJoin_keeps | apply Keeps.ite | split)

theorem State.openRootChan_keeps {s₀ : State} {s : State} (far : Nat) (number : Nat) (hops : Nat) (endA : Bool) (cert : Cert) (share : List Word)
    (key : Nat) (hK : Keeps s₀ s) : Keeps s₀ (State.openRootChan s far number hops endA cert share key).1 := by
  unfold State.openRootChan
  with_reducible repeat' (first
      | assumption | (refine State.takeTun_keeps (by assumption) ?_) | apply State.setTun_keeps | apply State.enterUp_keeps | split)

theorem State.answerJoin_keeps {s₀ : State} {s : State} (via : Option (Fin 4)) (carrier : Nat) (hub : Nat) (reason : Nat) (number : Nat) (hops :
    Nat) (share : List Word) (hK : Keeps s₀ s) : Keeps s₀ (State.answerJoin s via carrier hub reason number hops share) := by
  unfold State.answerJoin
  with_reducible repeat' (first | assumption | apply State.send_keeps | split)

theorem State.admitHub_keeps {s₀ : State} {s : State} (via : Option (Fin 4)) (carrier : Nat) (r : HubRec) (share : List Word) (hK : Keeps s₀ s) :
    Keeps s₀ (State.admitHub s via carrier r share) := by
  unfold State.admitHub
  with_reducible repeat' ((try (fail_if_success fail_if_success conv => enter [2, 25]); refine Keeps.upd _ ?_ rfl rfl rfl); first
      | assumption | apply State.answerJoin_keeps | apply State.drawEph_keeps | apply State.makeShare_keeps | apply State.openRootChan_keeps
      | apply State.installLegs_keeps | apply State.nameEpoch_keeps | split | dsimp only)

theorem State.joinRefused_keeps {s₀ : State} {s : State} (reason : Nat) (hK : Keeps s₀ s) : Keeps s₀ (State.joinRefused s reason) := by
  unfold State.joinRefused
  with_reducible repeat' ((try (fail_if_success fail_if_success conv => enter [2, 25]); refine Keeps.upd _ ?_ rfl rfl rfl); first
      | assumption | apply State.raise_keeps)

theorem State.joinAdmitted_keeps {s₀ : State} {s : State} (p : Fin 4) (rootId : Nat) (number : Nat) (hops : Nat) (cert : Cert) (share : List Word)
    (hK : Keeps s₀ s) : Keeps s₀ (State.joinAdmitted s p rootId number hops cert share) := by
  unfold State.joinAdmitted
  with_reducible repeat' ((try (fail_if_success fail_if_success conv => enter [2, 25]); refine Keeps.upd _ ?_ rfl rfl rfl); first
      | assumption | apply State.openRootChan_keeps | apply State.raise_keeps | apply State.sendRoot_keeps | apply State.reportRate_keeps
      | apply State.reportAll_keeps | apply Keeps.ite | (refine Keeps.foldl (fun _ _ _ => ?_) _ _ ?_))

theorem State.dismantle_keeps {s₀ : State} {s : State} (t : RootTun) (cause : Nat) (hK : Keeps s₀ s) : Keeps s₀ (State.dismantle s t cause) := by
  unfold State.dismantle
  with_reducible repeat' ((try (fail_if_success fail_if_success conv => enter [2, 25]); refine Keeps.upd _ ?_ rfl rfl rfl); first
      | assumption | apply State.removeLegs_keeps | apply State.nameEpoch_keeps | apply State.sendHub_keeps | apply State.checkOver_keeps)

theorem State.hubDeparted_keeps {s₀ : State} {s : State} (hub : Nat) (hK : Keeps s₀ s) : Keeps s₀ (State.hubDeparted s hub) := by
  unfold State.hubDeparted
  with_reducible repeat' ((try (fail_if_success fail_if_success conv => enter [2, 25]); refine Keeps.upd _ ?_ rfl rfl rfl); first
      | assumption | apply State.dismantle_keeps | (refine Keeps.foldl (fun _ _ _ => ?_) _ _ ?_))

/-! ### EthBase -/

theorem State.laptopFrame_keeps {s₀ : State} {s : State} (idx : Nat) (f : List Byte) (hK : Keeps s₀ s) : Keeps s₀ (State.laptopFrame s idx f) := by
  unfold State.laptopFrame
  with_reducible repeat' (first | assumption | apply State.modTun_keeps | apply State.sendWaiting_keeps)

theorem State.frameUp_keeps {s₀ : State} {s : State} (idx : Nat) (cm : Bool) (f : List Byte) (hK : Keeps s₀ s) : Keeps s₀ (State.frameUp s idx cm f)
    := by
  unfold State.frameUp
  with_reducible repeat' (first
      | assumption | apply State.cntF_keeps | apply State.send_keeps | apply Keeps.iteFst | (refine Keeps.fst (by assumption) ?_) | split)

/-! ### Tunnels -/

theorem State.answerOffer_keeps {s₀ : State} {s : State} (idx : Nat) (k : Nat) (hK : Keeps s₀ s) : Keeps s₀ (State.answerOffer s idx k) := by
  unfold State.answerOffer
  with_reducible repeat' (first
      | assumption | apply State.ownKeyshare_keeps | apply State.modTun_keeps | apply State.sendControl_keeps | apply State.newKey_keeps
      | apply State.dropEph_keeps | split)

theorem State.serveKey_keeps {s₀ : State} {s : State} (idx : Nat) (hK : Keeps s₀ s) : Keeps s₀ (State.serveKey s idx) := by
  unfold State.serveKey
  with_reducible repeat' (first | assumption | apply State.answerOffer_keeps | apply State.sendOffer_keeps | apply Keeps.ite | split)

theorem State.serveKeys_keeps {s₀ : State} {s : State} (hK : Keeps s₀ s) : Keeps s₀ (State.serveKeys s) := by
  unfold State.serveKeys
  with_reducible repeat' (first | assumption | apply State.serveKey_keeps | (refine Keeps.foldl (fun _ _ _ => ?_) _ _ ?_))

theorem State.refuseTun_keeps {s₀ : State} {s : State} (idx : Nat) (reason : Nat) (hK : Keeps s₀ s) : Keeps s₀ (State.refuseTun s idx reason) := by
  unfold State.refuseTun
  with_reducible repeat' (first
      | assumption | apply State.sendRelease_keeps | apply State.setTun_keeps | apply State.raise_keeps | apply State.tunRefused_keeps
      | apply State.removeTun_keeps | apply State.serveKeys_keeps | split)

theorem State.modRootTun_keeps {s₀ : State} {s : State} (n : Nat) (f : RootTun → RootTun) (hK : Keeps s₀ s) : Keeps s₀ (State.modRootTun s n f) :=
  Keeps.upd _ hK rfl rfl rfl

theorem State.refuseAdmission_keeps {s₀ : State} {s : State} (t : RootTun) (reason : Nat) (hK : Keeps s₀ s) : Keeps s₀ (State.refuseAdmission s t
    reason) := by
  unfold State.refuseAdmission
  with_reducible repeat' (first | assumption | apply State.modRootTun_keeps | apply State.sendHub_keeps)

theorem State.offerAnswered_keeps {s₀ : State} {s : State} (number : Nat) (reason : Nat) (handleB : Nat) (share : List Word) (hK : Keeps s₀ s) :
    Keeps s₀ (State.offerAnswered s number reason handleB share) := by
  unfold State.offerAnswered
  with_reducible repeat' (first
      | assumption | apply State.modRootTun_keeps | apply State.refuseAdmission_keeps | apply State.installLegs_keeps | apply State.nameEpoch_keeps
      | apply State.sendHub_keeps | apply State.checkOver_keeps | apply Keeps.ite | split)

theorem State.takeOffer_keeps {s₀ : State} {s : State} (r : Waiting) (cert : Cert) (sigOk : Bool) (hK : Keeps s₀ s) : Keeps s₀ (State.takeOffer s r
    cert sigOk).1 := by
  unfold State.takeOffer
  with_reducible repeat' (first
      | assumption | apply State.checkCert_keeps | apply State.drawEph_keeps | apply State.makeShare_keeps
      | (refine State.takeTun_keeps (by assumption) ?_) | apply State.setTun_keeps | apply Keeps.iteFst | (refine Keeps.snd (by assumption) ?_)
      | split | dsimp only)

theorem State.resultAtB_keeps {s₀ : State} {s : State} (idx : Nat) (reason : Nat) (inst : Nat) (hK : Keeps s₀ s) : Keeps s₀ (State.resultAtB s idx
    reason inst) := by
  unfold State.resultAtB
  with_reducible repeat' (first
      | assumption | apply State.closeTun_keeps | apply State.modTun_keeps | apply State.maybeRelease_keeps | apply Keeps.ite)

theorem State.resultAtA_keeps {s₀ : State} {s : State} (t : Tunnel) (reason : Nat) (number : Nat) (hops : Nat) (inst : Nat) (share : List Word)
    (cert : Cert) (sigOk : Bool) (hK : Keeps s₀ s) : Keeps s₀ (State.resultAtA s t reason number hops inst share cert sigOk) := by
  unfold State.resultAtA
  with_reducible repeat' (first
      | assumption | apply State.modTun_keeps | apply State.maybeRelease_keeps | apply State.refuseTun_keeps | apply State.checkCert_keeps
      | apply State.dropEph_keeps | apply State.serveKeys_keeps | apply Keeps.ite)

theorem State.markOpenings_keeps {s₀ : State} {s : State} (hK : Keeps s₀ s) : Keeps s₀ (State.markOpenings s) :=
  Keeps.upd _ hK rfl rfl rfl

theorem State.abortOpenings_keeps {s₀ : State} {s : State} (hK : Keeps s₀ s) : Keeps s₀ (State.abortOpenings s) := by
  unfold State.abortOpenings
  with_reducible repeat' (first
      | assumption | apply State.refuseTun_keeps | apply State.refuseAdmission_keeps | apply State.sendHub_keeps | apply Keeps.ite
      | (refine Keeps.foldl (fun _ _ _ => ?_) _ _ ?_))

theorem State.retransmit_keeps {s₀ : State} {s : State} (idx : Nat) (start : Nat) (hK : Keeps s₀ s) : Keeps s₀ (State.retransmit s idx start) := by
  unfold State.retransmit
  with_reducible repeat' (first
      | assumption | apply State.modTun_keeps | apply State.setTun_keeps | apply State.offer_keeps | apply Keeps.ite
      | (refine Keeps.foldl (fun _ _ _ => ?_) _ _ ?_) | split)

theorem State.ackReceived_keeps {s₀ : State} {s : State} (idx : Nat) (eseq : Nat) (hK : Keeps s₀ s) : Keeps s₀ (State.ackReceived s idx eseq) := by
  unfold State.ackReceived
  with_reducible repeat' (first
      | assumption | apply State.modTun_keeps | apply State.setTun_keeps | apply State.maybeRelease_keeps | apply State.sendWaiting_keeps
      | apply Keeps.ite | split)

theorem State.closeReceived_keeps {s₀ : State} {s : State} (idx : Nat) (cause : Nat) (eseq : Nat) (hK : Keeps s₀ s) : Keeps s₀ (State.closeReceived
    s idx cause eseq) := by
  unfold State.closeReceived
  with_reducible repeat' (first
      | assumption | apply State.modTun_keeps | apply State.maybeRelease_keeps | apply State.sendControl_keeps | apply State.setTun_keeps
      | apply Keeps.ite | split)

theorem State.closeAcked_keeps {s₀ : State} {s : State} (idx : Nat) (hK : Keeps s₀ s) : Keeps s₀ (State.closeAcked s idx) := by
  unfold State.closeAcked
  with_reducible repeat' (first | assumption | apply State.modTun_keeps | apply State.maybeRelease_keeps | apply Keeps.ite | split)

theorem State.takeRekeyOffer_keeps {s₀ : State} {s : State} (idx : Nat) (k : Nat) (share : List Word) (hK : Keeps s₀ s) : Keeps s₀
    (State.takeRekeyOffer s idx k share) := by
  unfold State.takeRekeyOffer
  with_reducible repeat' (first | assumption | apply State.modTun_keeps | apply State.takeEph_keeps | apply State.serveKey_keeps)

theorem State.offerReceived_keeps {s₀ : State} {s : State} (idx : Nat) (k : Nat) (share : List Word) (shareOk : Bool) (hK : Keeps s₀ s) : Keeps s₀
    (State.offerReceived s idx k share shareOk) := by
  unfold State.offerReceived
  with_reducible repeat' (first
      | assumption | apply State.sendControl_keeps | apply State.dropOffer_keeps | apply State.takeRekeyOffer_keeps | apply Keeps.ite | split)

theorem State.acceptReceived_keeps {s₀ : State} {s : State} (idx : Nat) (k : Nat) (share : List Word) (shareOk : Bool) (hK : Keeps s₀ s) : Keeps s₀
    (State.acceptReceived s idx k share shareOk) := by
  unfold State.acceptReceived
  with_reducible repeat' (first
      | assumption | apply State.modTun_keeps | apply State.newKey_keeps | apply State.startKey_keeps | apply State.dropEph_keeps
      | apply State.rekeyed_keeps | apply State.sendStatus_keeps | apply State.sendWaiting_keeps | apply State.serveKeys_keeps | apply Keeps.ite
      | split)

theorem State.control_keeps {s₀ : State} {s : State} (idx : Nat) (c : Cell) (shareOk : Bool) (hK : Keeps s₀ s) : Keeps s₀ (State.control s idx c
    shareOk) := by
  unfold State.control
  with_reducible repeat' ((try (fail_if_success fail_if_success conv => enter [2, 25]); refine Keeps.upd _ ?_ rfl rfl rfl); first
      | assumption | apply State.closeReceived_keeps | apply State.closeAcked_keeps | apply State.offerReceived_keeps
      | apply State.acceptReceived_keeps | split | dsimp only)

theorem State.status_keeps {s₀ : State} {s : State} (idx : Nat) (c : Cell) (hK : Keeps s₀ s) : Keeps s₀ (State.status s idx c) := by
  unfold State.status
  with_reducible repeat' ((try (fail_if_success fail_if_success conv => enter [2, 25]); refine Keeps.upd _ ?_ rfl rfl rfl); first
      | assumption | apply State.ackReceived_keeps | apply State.retransmit_keeps | split)

theorem State.takeHanded_keeps {s₀ : State} {s : State} (c : Cell) (hK : Keeps s₀ s) : Keeps s₀ (State.takeHanded s c).1 := by
  unfold State.takeHanded
  with_reducible repeat' ((try (fail_if_success fail_if_success conv => enter [2, 25]); refine Keeps.upd _ ?_ rfl rfl rfl); first
      | assumption | split | dsimp only)

theorem State.deliverCell_keeps {s₀ : State} {s : State} (t : Tunnel) (c : Cell) (shareOk : Bool) (hK : Keeps s₀ s) : Keeps s₀ (State.deliverCell s
    t c shareOk) := by
  unfold State.deliverCell
  with_reducible repeat' (first
      | assumption | apply State.control_keeps | apply State.takeHanded_keeps | apply State.modTun_keeps | apply State.send_keeps
      | apply State.frameUp_keeps | apply Keeps.ite | apply Keeps.iteFst)

theorem State.delivered_keeps {s₀ : State} {s : State} (idx : Nat) (hK : Keeps s₀ s) : Keeps s₀ (State.delivered s idx) := by
  unfold State.delivered
  with_reducible repeat' (first | assumption | apply State.sendAck_keeps | apply State.modTun_keeps | apply Keeps.ite | split)

theorem State.dataCell_keeps {s₀ : State} {s : State} (t : Tunnel) (c : Cell) (shareOk : Bool) (hK : Keeps s₀ s) : Keeps s₀ (State.dataCell s t c
    shareOk) := by
  unfold State.dataCell
  with_reducible repeat' ((try (fail_if_success fail_if_success conv => enter [2, 25]); refine Keeps.upd _ ?_ rfl rfl rfl); first
      | assumption | apply State.sendAck_keeps | apply State.modTun_keeps | apply State.deliverCell_keeps | apply State.delivered_keeps
      | apply State.sendStatus_keeps | apply Keeps.ite)

theorem State.noteNewKey_keeps {s₀ : State} {s : State} (t : Tunnel) (c : Cell) (newer : Bool) (hK : Keeps s₀ s) : Keeps s₀ (State.noteNewKey s t c
    newer) := by
  unfold State.noteNewKey
  with_reducible repeat' (first | assumption | apply State.modTun_keeps | apply State.startKey_keeps | apply State.rekeyed_keeps | apply Keeps.ite)

theorem State.tagFailed_keeps {s₀ : State} {s : State} (t : Tunnel) (hK : Keeps s₀ s) : Keeps s₀ (State.tagFailed s t) := by
  unfold State.tagFailed
  with_reducible repeat' (first | assumption | apply State.modTun_keeps | apply State.raiseCounted_keeps)

theorem recTunnel_keeps {s₀ : State} {s : State} (rd : Rd) (hK : Keeps s₀ s) : Keeps s₀ ((recTunnel s) rd).1 := by
  unfold recTunnel
  with_reducible repeat' (first | (refine Keeps.bind (fun _ _ => ?_) _) | refine Keeps.pure ?_ _)
  with_reducible repeat' ((try (fail_if_success fail_if_success conv => enter [2, 25]); refine Keeps.upd _ ?_ rfl rfl rfl); first
      | assumption | apply State.checkOver_keeps)

/-! ### Storage -/

theorem State.modPp_keeps {s₀ : State} {s : State} (p : Nat) (f : PciePort → PciePort) (hK : Keeps s₀ s) : Keeps s₀ (State.modPp s p f) :=
  Keeps.upd _ hK rfl rfl rfl

theorem State.modVol_keeps {s₀ : State} {s : State} (v : Nat) (f : Volume → Volume) (hK : Keeps s₀ s) : Keeps s₀ (State.modVol s v f) :=
  Keeps.upd _ hK rfl rfl rfl

theorem State.localNs_keeps {s₀ : State} {s : State} (v : Nat) (hK : Keeps s₀ s) : Keeps s₀ (State.localNs s v) := by
  unfold State.localNs
  with_reducible repeat' (first
      | assumption | apply State.modNs_keeps | apply State.setNs_keeps | apply Keeps.ite | (refine Keeps.foldl (fun _ _ _ => ?_) _ _ ?_))

theorem State.volChanged_keeps {s₀ : State} {s : State} (v : Nat) (hK : Keeps s₀ s) : Keeps s₀ (State.volChanged s v) := by
  unfold State.volChanged
  with_reducible repeat' (first
      | assumption | apply State.storPdu_keeps | apply State.localNs_keeps | apply Keeps.ite | (refine Keeps.foldl (fun _ _ _ => ?_) _ _ ?_))

theorem State.refreshVol_keeps {s₀ : State} {s : State} (v : Nat) (cause : Nat) (report : Bool) (hK : Keeps s₀ s) : Keeps s₀ (State.refreshVol s v
    cause report) := by
  unfold State.refreshVol
  with_reducible repeat' (first | assumption | apply State.raise_keeps | apply State.modVol_keeps | apply State.volChanged_keeps | apply Keeps.ite)

theorem State.refreshVols_keeps {s₀ : State} {s : State} (p : Nat) (report : Bool) (hK : Keeps s₀ s) : Keeps s₀ (State.refreshVols s p report) := by
  unfold State.refreshVols
  with_reducible repeat' (first | assumption | apply State.refreshVol_keeps | apply Keeps.ite | (refine Keeps.foldl (fun _ _ _ => ?_) _ _ ?_))

theorem State.volKeysChanged_keeps {s₀ : State} {s : State} (cause : Nat) (hK : Keeps s₀ s) : Keeps s₀ (State.volKeysChanged s cause) := by
  unfold State.volKeysChanged
  with_reducible repeat' (first | assumption | apply State.refreshVol_keeps | (refine Keeps.foldl (fun _ _ _ => ?_) _ _ ?_))

theorem State.storAnswer_keeps {s₀ : State} {s : State} (tun : Option Nat) (tag : Nat) (vol : Nat) (status : Nat) (nlb : Nat) (lba : Nat) (data :
    List Word) (hK : Keeps s₀ s) : Keeps s₀ (State.storAnswer s tun tag vol status nlb lba data) := by
  unfold State.storAnswer
  with_reducible repeat' (first
      | assumption | apply State.storPdu_keeps | apply State.send_keeps | apply State.finishCmd_keeps | apply Keeps.ite | split)

theorem State.storRequest_keeps {s₀ : State} {s : State} (tun : Option Nat) (tag : Nat) (vol : Nat) (op : Nat) (nlb : Nat) (lba : Nat) (data : List
    Word) (hK : Keeps s₀ s) : Keeps s₀ (State.storRequest s tun tag vol op nlb lba data) := by
  unfold State.storRequest
  with_reducible repeat' ((try (fail_if_success fail_if_success conv => enter [2, 25]); refine Keeps.upd _ ?_ rfl rfl rfl); first
      | assumption | apply State.storAnswer_keeps | apply State.send_keeps | apply Keeps.ite | (refine Keeps.foldl (fun _ _ _ => ?_) _ _ ?_))

theorem State.driveLost_keeps {s₀ : State} {s : State} (p : Nat) (hK : Keeps s₀ s) : Keeps s₀ (State.driveLost s p) := by
  unfold State.driveLost
  with_reducible repeat' ((try (fail_if_success fail_if_success conv => enter [2, 25]); refine Keeps.upd _ ?_ rfl rfl rfl); first
      | assumption | apply State.storAnswer_keeps | apply State.refreshVols_keeps | (refine Keeps.foldl (fun _ _ _ => ?_) _ _ ?_))

theorem State.setDrive_keeps {s₀ : State} {s : State} (p : Nat) (st : DriveState) (hK : Keeps s₀ s) : Keeps s₀ (State.setDrive s p st) := by
  unfold State.setDrive
  with_reducible repeat' (first | assumption | apply State.modPp_keeps | apply State.raise_keeps | apply Keeps.ite)

theorem State.driveGone_keeps {s₀ : State} {s : State} (p : Nat) (hK : Keeps s₀ s) : Keeps s₀ (State.driveGone s p) := by
  unfold State.driveGone
  with_reducible repeat' (first | assumption | apply State.setDrive_keeps | apply State.driveLost_keeps | apply State.modPp_keeps | apply Keeps.ite)

theorem State.openNs_keeps {s₀ : State} {s : State} (f : Nat) (k : Nat) (hK : Keeps s₀ s) : Keeps s₀ (State.openNs s f k) := by
  unfold State.openNs
  with_reducible repeat' (first | assumption | apply State.openOwn_keeps | apply State.modNs_keeps | apply Keeps.ite)

theorem State.endFlr_keeps {s₀ : State} {s : State} (f : Nat) (hK : Keeps s₀ s) : Keeps s₀ (State.endFlr s f) := by
  unfold State.endFlr
  with_reducible repeat' ((try (fail_if_success fail_if_success conv => enter [2, 25]); refine Keeps.upd _ ?_ rfl rfl rfl); first
      | assumption | apply State.modFn_keeps | apply State.raise_keeps | apply Keeps.ite)

theorem State.storFlr_keeps {s₀ : State} {s : State} (f : Nat) (hK : Keeps s₀ s) : Keeps s₀ (State.storFlr s f) := by
  unfold State.storFlr
  with_reducible repeat' (first | assumption | apply State.modFn_keeps | apply State.endFlr_keeps | apply Keeps.ite)

theorem State.adminCmd_keeps {s₀ : State} {s : State} (f : Nat) (opc : Nat) (nsid : Nat) (cdw10 : Nat) (cdw11 : Nat) (cid : Nat) (hK : Keeps s₀ s) :
    Keeps s₀ (State.adminCmd s f opc nsid cdw10 cdw11 cid).1 := by
  unfold State.adminCmd
  with_reducible repeat' (first | assumption | apply State.send_keeps | apply State.modFn_keeps | apply State.notices_keeps | apply Keeps.iteFst)

theorem recPcie_keeps {s₀ : State} {s : State} (rd : Rd) (hK : Keeps s₀ s) : Keeps s₀ ((recPcie s) rd).1 := by
  unfold recPcie
  with_reducible repeat' (first | (refine Keeps.bind (fun _ _ => ?_) _) | refine Keeps.pure ?_ _)
  with_reducible repeat' (first | assumption | apply State.modPp_keeps | apply Keeps.ite)

theorem recFunc_keeps {s₀ : State} {s : State} (rd : Rd) (hK : Keeps s₀ s) : Keeps s₀ ((recFunc s) rd).1 := by
  unfold recFunc
  with_reducible repeat' (first | (refine Keeps.bind (fun _ _ => ?_) _) | refine Keeps.pure ?_ _)
  with_reducible repeat' ((try (fail_if_success fail_if_success conv => enter [2, 25]); refine Keeps.upd _ ?_ rfl rfl rfl); first
      | assumption | apply Keeps.ite)

theorem State.putNs_keeps {s₀ : State} {s : State} (f : Nat) (k : Nat) (valid : Bool) (volume : Nat) (hub : Nat) (cir : Nat) (hK : Keeps s₀ s) :
    Keeps s₀ (State.putNs s f k valid volume hub cir) := by
  unfold State.putNs
  with_reducible repeat' (first
      | assumption | apply State.nsDown_keeps | apply State.beginClose_keeps | apply State.modNs_keeps | apply State.openNs_keeps
      | apply State.localNs_keeps | apply Keeps.ite | split)

theorem recNs_keeps {s₀ : State} {s : State} (rd : Rd) (hK : Keeps s₀ s) : Keeps s₀ ((recNs s) rd).1 := by
  unfold recNs
  with_reducible repeat' (first | (refine Keeps.bind (fun _ _ => ?_) _) | refine Keeps.pure ?_ _)
  with_reducible repeat' (first | assumption | apply State.putNs_keeps)

theorem State.newVolKey_keeps {s₀ : State} {s : State} (v : Nat) (hK : Keeps s₀ s) : Keeps s₀ (State.newVolKey s v) := by
  unfold State.newVolKey
  with_reducible repeat' ((try (fail_if_success fail_if_success conv => enter [2, 25]); refine Keeps.upd _ ?_ rfl rfl rfl); first
      | assumption | apply State.draw_keeps | apply Keeps.ite | (refine Keeps.snd (by assumption) ?_) | split | dsimp only)

theorem State.putVol_keeps {s₀ : State} {s : State} (v : Nat) (valid : Bool) (shared : Bool) (erase : Bool) (port : Fin 2) (tenant : Nat) (nsid :
    Nat) (start : Nat) (count : Nat) (hK : Keeps s₀ s) : Keeps s₀ (State.putVol s v valid shared erase port tenant nsid start count) := by
  unfold State.putVol
  with_reducible repeat' (first
      | assumption | apply State.newVolKey_keeps | apply State.modVol_keeps | apply State.raise_keeps | apply State.volChanged_keeps
      | apply State.refreshVol_keeps | apply Keeps.ite)

theorem recVolume_keeps {s₀ : State} {s : State} (rd : Rd) (hK : Keeps s₀ s) : Keeps s₀ ((recVolume s) rd).1 := by
  unfold recVolume
  with_reducible repeat' (first | (refine Keeps.bind (fun _ _ => ?_) _) | refine Keeps.pure ?_ _)
  with_reducible repeat' (first | assumption | apply State.putVol_keeps)

/-! ### Ethernet -/

theorem State.modEp_keeps {s₀ : State} {s : State} (p : Nat) (f : EthPort → EthPort) (hK : Keeps s₀ s) : Keeps s₀ (State.modEp s p f) :=
  Keeps.upd _ hK rfl rfl rfl

theorem State.refreshPtp_keeps {s₀ : State} {s : State} (p : Nat) (hK : Keeps s₀ s) : Keeps s₀ (State.refreshPtp s p) := by
  unfold State.refreshPtp
  with_reducible repeat' (first | assumption | apply State.modEp_keeps | apply State.raise_keeps | apply Keeps.ite)

theorem State.setEth_keeps {s₀ : State} {s : State} (p : Nat) (up : Bool) (speed : Nat) (cause : Nat) (hK : Keeps s₀ s) : Keeps s₀ (State.setEth s p
    up speed cause) := by
  unfold State.setEth
  with_reducible repeat' (first | assumption | apply State.modEp_keeps | apply State.raise_keeps | apply State.refreshPtp_keeps)

theorem State.sendFrameN_keeps {s₀ : State} (n : Nat) {s : State} (i : Nat) (f : List Byte) (b : Bool) (hK : Keeps s₀ s) : Keeps s₀
    (State.sendFrameN n s i f b) := by
  induction n generalizing s f b with
  | zero => exact hK
  | succ n ih =>
    unfold State.sendFrameN
    with_reducible repeat' (first | assumption | apply ih | apply State.modTun_keeps | apply State.sendSeq_keeps | split)

theorem State.frameInto_keeps {s₀ : State} {s : State} (idx : Nat) (f : List Byte) (hK : Keeps s₀ s) : Keeps s₀ (State.frameInto s idx f) := by
  unfold State.frameInto
  with_reducible repeat' ((try (fail_if_success fail_if_success conv => enter [2, 25]); refine Keeps.upd _ ?_ rfl rfl rfl); first
      | assumption | apply State.modTun_keeps | apply State.raiseCounted_keeps | apply State.sendFrameN_keeps | apply State.cntF_keeps
      | apply Keeps.ite | split)

theorem State.learn_keeps {s₀ : State} {s : State} (group : Nat) (mac : Nat) (tun : Nat) (hK : Keeps s₀ s) : Keeps s₀ (State.learn s group mac tun)
    := by
  unfold State.learn
  with_reducible repeat' ((try (fail_if_success fail_if_success conv => enter [2, 25]); refine Keeps.upd _ ?_ rfl rfl rfl); first
      | assumption | apply State.raise_keeps | apply Keeps.ite)

theorem State.forget_keeps {s₀ : State} {s : State} (p : Learnt → Bool) (hK : Keeps s₀ s) : Keeps s₀ (State.forget s p) := by
  unfold State.forget
  with_reducible repeat' ((try (fail_if_success fail_if_success conv => enter [2, 25]); refine Keeps.upd _ ?_ rfl rfl rfl); first
      | assumption | apply State.learnRoom_keeps)

theorem State.frameOut_keeps {s₀ : State} {s : State} (m : VlanMap) (f : List Byte) (hK : Keeps s₀ s) : Keeps s₀ (State.frameOut s m f) := by
  unfold State.frameOut
  with_reducible repeat' (first | assumption | apply State.modEp_keeps | apply State.send_keeps | apply Keeps.ite)

theorem State.bridgeUp_keeps {s₀ : State} {s : State} (t : Tunnel) (m : VlanMap) (f : List Byte) (hK : Keeps s₀ s) : Keeps s₀ (State.bridgeUp s t m
    f) := by
  unfold State.bridgeUp
  with_reducible repeat' (first
      | assumption | apply State.learn_keeps | apply State.frameInto_keeps | apply State.frameOut_keeps | split | dsimp only)

theorem State.bridgeDown_keeps {s₀ : State} {s : State} (m : VlanMap) (f : List Byte) (hK : Keeps s₀ s) : Keeps s₀ (State.bridgeDown s m f) := by
  unfold State.bridgeDown
  with_reducible repeat' (first
      | assumption | apply State.forget_keeps | apply State.frameInto_keeps | apply Keeps.ite | (refine Keeps.foldl (fun _ _ _ => ?_) _ _ ?_)
      | split | dsimp only)

theorem State.announced_keeps {s₀ : State} {s : State} (hK : Keeps s₀ s) : Keeps s₀ (State.announced s).1 := by
  unfold State.announced
  with_reducible repeat' (first | assumption | apply State.draw_keeps | apply Keeps.iteFst | split)

theorem State.sendPtp_keeps {s₀ : State} {s : State} (p : Fin 4) (kind : Nat) (ws : List Nat) (hK : Keeps s₀ s) : Keeps s₀ (State.sendPtp s p kind
    ws) := by
  unfold State.sendPtp
  with_reducible repeat' (first | assumption | apply State.send_keeps)

theorem State.askDelay_keeps {s₀ : State} {s : State} (p : Fin 4) (hK : Keeps s₀ s) : Keeps s₀ (State.askDelay s p) := by
  unfold State.askDelay
  with_reducible repeat' (first | assumption | apply State.modEp_keeps | apply State.sendPtp_keeps)

theorem State.takeSync_keeps {s₀ : State} {s : State} (p : Fin 4) (t2 : Int) (t1 : Nat) (corr : Int) (hK : Keeps s₀ s) : Keeps s₀ (State.takeSync s
    p t2 t1 corr) := by
  unfold State.takeSync
  with_reducible repeat' (first | assumption | apply State.servo_keeps | apply State.modEp_keeps | apply State.askDelay_keeps)

theorem State.setDelay_keeps {s₀ : State} {s : State} (p : Fin 4) (d : Int) (hK : Keeps s₀ s) : Keeps s₀ (State.setDelay s p d) := by
  unfold State.setDelay
  with_reducible repeat' (first | assumption | apply State.modEp_keeps)

theorem State.slaveTakes_keeps {s₀ : State} {s : State} (p : Fin 4) (m : PtpMsg) (hK : Keeps s₀ s) : Keeps s₀ (State.slaveTakes s p m) := by
  unfold State.slaveTakes
  with_reducible repeat' (first
      | assumption | apply State.modEp_keeps | apply State.takeSync_keeps | apply State.setDelay_keeps | apply Keeps.ite | split | dsimp only)

theorem State.masterAnswers_keeps {s₀ : State} {s : State} (p : Fin 4) (m : PtpMsg) (hK : Keeps s₀ s) : Keeps s₀ (State.masterAnswers s p m) := by
  unfold State.masterAnswers
  with_reducible repeat' (first | assumption | apply State.sendPtp_keeps | apply State.draw_keeps | apply Keeps.ite | split)

theorem State.putEth_keeps {s₀ : State} {s : State} (p : Nat) (c : EthCfg) (hK : Keeps s₀ s) : Keeps s₀ (State.putEth s p c) := by
  unfold State.putEth
  with_reducible repeat' (first | assumption | apply State.modEp_keeps | apply State.setEth_keeps | apply State.refreshPtp_keeps | apply Keeps.ite)

theorem recEth_keeps {s₀ : State} {s : State} (rd : Rd) (hK : Keeps s₀ s) : Keeps s₀ ((recEth s) rd).1 := by
  unfold recEth
  with_reducible repeat' (first | (refine Keeps.bind (fun _ _ => ?_) _) | refine Keeps.pure ?_ _)
  with_reducible repeat' (first | assumption | apply State.putEth_keeps)

theorem State.closeGroup_keeps {s₀ : State} {s : State} (group : Nat) (hK : Keeps s₀ s) : Keeps s₀ (State.closeGroup s group) := by
  unfold State.closeGroup
  with_reducible repeat' (first | assumption | apply State.beginClose_keeps | (refine Keeps.foldl (fun _ _ _ => ?_) _ _ ?_))

theorem recVlan_keeps {s₀ : State} {s : State} (rd : Rd) (hK : Keeps s₀ s) : Keeps s₀ ((recVlan s) rd).1 := by
  unfold recVlan
  with_reducible repeat' (first | (refine Keeps.bind (fun _ _ => ?_) _) | refine Keeps.pure ?_ _)
  with_reducible repeat' ((try (fail_if_success fail_if_success conv => enter [2, 25]); refine Keeps.upd _ ?_ rfl rfl rfl); first
      | assumption | apply State.closeGroup_keeps | apply Keeps.ite | split)

/-! ### VaultBase -/

theorem State.drawWord_keeps {s₀ : State} {s : State} (hK : Keeps s₀ s) : Keeps s₀ (State.drawWord s).2 := by
  unfold State.drawWord
  with_reducible repeat' (first | assumption | apply State.draw_keeps)

theorem State.drawKeyField_keeps {s₀ : State} {s : State} (hK : Keeps s₀ s) : Keeps s₀ (State.drawKeyField s).2 := by
  unfold State.drawKeyField
  with_reducible repeat' (first | assumption | apply State.draw_keeps)

theorem State.modSlot_keeps {s₀ : State} {s : State} (n : Nat) (f : KeySlot → KeySlot) (hK : Keeps s₀ s) : Keeps s₀ (State.modSlot s n f) :=
  Keeps.upd _ hK rfl rfl rfl

theorem State.slotBad_keeps {s₀ : State} {s : State} (n : Nat) (hK : Keeps s₀ s) : Keeps s₀ (State.slotBad s n) := by
  unfold State.slotBad
  with_reducible repeat' (first
      | assumption | apply State.modSlot_keeps | apply State.raiseOrHold_keeps | apply Keeps.logErr | apply State.volKeysChanged_keeps
      | apply State.refreshVol_keeps | apply Keeps.ite)

theorem State.checkSlot_keeps {s₀ : State} {s : State} (n : Nat) (hK : Keeps s₀ s) : Keeps s₀ (State.checkSlot s n) := by
  unfold State.checkSlot
  with_reducible repeat' (first | assumption | apply State.slotBad_keeps | apply Keeps.ite)

theorem State.extend_keeps {s₀ : State} {s : State} (i : Nat) (d : List Word) (hK : Keeps s₀ s) : Keeps s₀ (State.extend s i d) :=
  Keeps.upd _ hK rfl rfl rfl

theorem State.extendDigest_keeps {s₀ : State} {s : State} (i : Nat) (d : Nat) (hK : Keeps s₀ s) : Keeps s₀ (State.extendDigest s i d) := by
  unfold State.extendDigest
  with_reducible repeat' (first | assumption | apply State.extend_keeps)

theorem State.deriveOwn_keeps {s₀ : State} {s : State} (n : Nat) (kind : Nat) (usage : Nat) (label : String) (ctx : List Byte) (hK : Keeps s₀ s) :
    Keeps s₀ (State.deriveOwn s n kind usage label ctx) := by
  unfold State.deriveOwn
  with_reducible repeat' (first | assumption | apply State.modSlot_keeps)

theorem State.deriveBase_keeps {s₀ : State} {s : State} (hK : Keeps s₀ s) : Keeps s₀ (State.deriveBase s) := by
  unfold State.deriveBase
  with_reducible repeat' (first | assumption | apply State.deriveOwn_keeps)

theorem State.deriveAttest_keeps {s₀ : State} {s : State} (hK : Keeps s₀ s) : Keeps s₀ (State.deriveAttest s) := by
  unfold State.deriveAttest
  with_reducible repeat' ((try (fail_if_success fail_if_success conv => enter [2, 25]); refine Keeps.upd _ ?_ rfl rfl rfl); first
      | assumption | apply State.deriveOwn_keeps | apply State.draw_keeps | dsimp only)

theorem State.loadStore_keeps {s₀ : State} {s : State} (bad : List Nat) (hK : Keeps s₀ s) : Keeps s₀ (State.loadStore s bad) := by
  unfold State.loadStore
  with_reducible repeat' ((try (fail_if_success fail_if_success conv => enter [2, 25]); refine Keeps.upd _ ?_ rfl rfl rfl); first
      | assumption | apply State.slotBad_keeps | apply State.checkSlot_keeps | apply State.volKeysChanged_keeps | apply Keeps.ite
      | (refine Keeps.foldl (fun _ _ _ => ?_) _ _ ?_))

theorem State.clearVolatile_keeps {s₀ : State} {s : State} (hK : Keeps s₀ s) : Keeps s₀ (State.clearVolatile s) :=
  Keeps.upd _ hK rfl rfl rfl

theorem State.eraseStore_keeps {s₀ : State} {s : State} (hK : Keeps s₀ s) : Keeps s₀ (State.eraseStore s) := by
  unfold State.eraseStore
  with_reducible repeat' ((try (fail_if_success fail_if_success conv => enter [2, 25]); refine Keeps.upd _ ?_ rfl rfl rfl); first
      | assumption | apply State.volKeysChanged_keeps | dsimp only)

theorem State.closeForKeys_keeps {s₀ : State} {s : State} (hK : Keeps s₀ s) : Keeps s₀ (State.closeForKeys s) := by
  unfold State.closeForKeys
  with_reducible repeat' (first | assumption | apply State.closeAll_keeps)

theorem recSec_keeps {s₀ : State} {s : State} (rd : Rd) (hK : Keeps s₀ s) : Keeps s₀ ((recSec s) rd).1 := by
  unfold recSec
  with_reducible repeat' (first | (refine Keeps.bind (fun _ _ => ?_) _) | refine Keeps.pure ?_ _)
  with_reducible repeat' ((try (fail_if_success fail_if_success conv => enter [2, 25]); refine Keeps.upd _ ?_ rfl rfl rfl); first | assumption)

/-! ### UpdBase -/

theorem State.endSession_keeps {s₀ : State} {s : State} (cause : Nat) (hK : Keeps s₀ s) : Keeps s₀ (State.endSession s cause) := by
  unfold State.endSession
  with_reducible repeat' ((try (fail_if_success fail_if_success conv => enter [2, 25]); refine Keeps.upd _ ?_ rfl rfl rfl); first
      | assumption | apply State.raise_keeps | apply Keeps.ite)

theorem State.putBoot_keeps {s₀ : State} {s : State} (f : BootBlock → BootBlock) (hK : Keeps s₀ s) : Keeps s₀ (State.putBoot s f) := by
  unfold State.putBoot
  with_reducible repeat' ((try (fail_if_success fail_if_success conv => enter [2, 25]); refine Keeps.upd _ ?_ rfl rfl rfl); first
      | assumption | split | dsimp only)

theorem recUpd_keeps {s₀ : State} {s : State} (rd : Rd) (hK : Keeps s₀ s) : Keeps s₀ ((recUpd s) rd).1 := by
  unfold recUpd
  with_reducible repeat' (first | (refine Keeps.bind (fun _ _ => ?_) _) | refine Keeps.pure ?_ _)
  with_reducible repeat' ((try (fail_if_success fail_if_success conv => enter [2, 25]); refine Keeps.upd _ ?_ rfl rfl rfl); first
      | assumption | apply State.putBoot_keeps | apply Keeps.ite)

/-! ### PowerPath -/

theorem State.modFeed_keeps {s₀ : State} {s : State} (f : Fin 2) (g : Feed → Feed) (hK : Keeps s₀ s) : Keeps s₀ (State.modFeed s f g) :=
  Keeps.upd _ hK rfl rfl rfl

theorem State.setFeed_keeps {s₀ : State} {s : State} (f : Fin 2) (st : FeedState) (hK : Keeps s₀ s) : Keeps s₀ (State.setFeed s f st) := by
  unfold State.setFeed
  with_reducible repeat' ((try (fail_if_success fail_if_success conv => enter [2, 25]); refine Keeps.upd _ ?_ rfl rfl rfl); first
      | assumption | apply State.modFeed_keeps | apply State.raise_keeps | apply Keeps.ite)

theorem State.shutDrives_keeps {s₀ : State} {s : State} (hK : Keeps s₀ s) : Keeps s₀ (State.shutDrives s) := by
  unfold State.shutDrives
  with_reducible repeat' ((try (fail_if_success fail_if_success conv => enter [2, 25]); refine Keeps.upd _ ?_ rfl rfl rfl); first
      | assumption | apply State.send_keeps | apply Keeps.ite | (refine Keeps.foldl (fun _ _ _ => ?_) _ _ ?_))

theorem State.assertWarn_keeps {s₀ : State} {s : State} (hK : Keeps s₀ s) : Keeps s₀ (State.assertWarn s) := by
  unfold State.assertWarn
  with_reducible repeat' ((try (fail_if_success fail_if_success conv => enter [2, 25]); refine Keeps.upd _ ?_ rfl rfl rfl); first
      | assumption | apply State.raise_keeps | apply State.shutDrives_keeps | apply Keeps.ite)

theorem State.stepFeed_keeps {s₀ : State} {s : State} (f : Fin 2) (mv : Nat) (hK : Keeps s₀ s) : Keeps s₀ (State.stepFeed s f mv) := by
  unfold State.stepFeed
  with_reducible repeat' ((try (fail_if_success fail_if_success conv => enter [2, 25]); refine Keeps.upd _ ?_ rfl rfl rfl); first
      | assumption | apply State.modFeed_keeps | apply State.setFeed_keeps | apply State.assertWarn_keeps | apply Keeps.ite)

theorem State.reverseTurnOff_keeps {s₀ : State} {s : State} (bus : Nat) (hK : Keeps s₀ s) : Keeps s₀ (State.reverseTurnOff s bus) := by
  unfold State.reverseTurnOff
  with_reducible repeat' (first | assumption | apply State.modFeed_keeps | apply Keeps.ite | split)

theorem State.diodeCarry_keeps {s₀ : State} {s : State} (hK : Keeps s₀ s) : Keeps s₀ (State.diodeCarry s) := by
  unfold State.diodeCarry
  with_reducible repeat' (first
      | assumption | apply State.modFeed_keeps | apply State.setFeed_keeps | apply State.assertWarn_keeps | apply Keeps.ite | split)

theorem State.modLp_keeps {s₀ : State} {s : State} (n : Nat) (f : LightPower → LightPower) (hK : Keeps s₀ s) : Keeps s₀ (State.modLp s n f) :=
  Keeps.upd _ hK rfl rfl rfl

theorem State.setLpC_keeps {s₀ : State} {s : State} (n : Nat) (st : LpState) (cause : Nat) (hK : Keeps s₀ s) : Keeps s₀ (State.setLpC s n st cause)
    := by
  unfold State.setLpC
  with_reducible repeat' (first | assumption | apply State.modLp_keeps | apply State.raise_keeps | apply State.refreshSegment_keeps | apply Keeps.ite)

theorem State.setLp_keeps {s₀ : State} {s : State} (n : Nat) (st : LpState) (hK : Keeps s₀ s) : Keeps s₀ (State.setLp s n st) := by
  unfold State.setLp
  with_reducible repeat' (first | assumption | apply State.setLpC_keeps)

theorem State.startInrush_keeps {s₀ : State} {s : State} (n : Nat) (hK : Keeps s₀ s) : Keeps s₀ (State.startInrush s n) := by
  unfold State.startInrush
  with_reducible repeat' (first | assumption | apply State.modLp_keeps | apply State.setLp_keeps | apply Keeps.ite)

theorem State.lpGo_keeps {s₀ : State} {s : State} (n : Nat) (hK : Keeps s₀ s) : Keeps s₀ (State.lpGo s n) := by
  unfold State.lpGo
  with_reducible repeat' (first | assumption | apply State.startInrush_keeps | apply State.modLp_keeps | apply Keeps.ite)

theorem State.portsOnFeed_keeps {s₀ : State} {s : State} (hK : Keeps s₀ s) : Keeps s₀ (State.portsOnFeed s) := by
  unfold State.portsOnFeed
  with_reducible repeat' (first | assumption | apply State.lpGo_keeps | (refine Keeps.foldl (fun _ _ _ => ?_) _ _ ?_))

theorem State.selectFeed_keeps {s₀ : State} {s : State} (f : Fin 2) (cause : Nat) (hK : Keeps s₀ s) : Keeps s₀ (State.selectFeed s f cause) := by
  unfold State.selectFeed
  with_reducible repeat' ((try (fail_if_success fail_if_success conv => enter [2, 25]); refine Keeps.upd _ ?_ rfl rfl rfl); first
      | assumption | apply State.modFeed_keeps | apply State.raise_keeps)

theorem State.startSwitch_keeps {s₀ : State} {s : State} (src : Fin 2) (dst : Fin 2) (cause : Nat) (hK : Keeps s₀ s) : Keeps s₀ (State.startSwitch s
    src dst cause) := by
  unfold State.startSwitch
  with_reducible repeat' ((try (fail_if_success fail_if_success conv => enter [2, 25]); refine Keeps.upd _ ?_ rfl rfl rfl); first
      | assumption | apply State.modFeed_keeps | dsimp only)

theorem State.decideFeed_keeps {s₀ : State} {s : State} (hK : Keeps s₀ s) : Keeps s₀ (State.decideFeed s) := by
  unfold State.decideFeed
  with_reducible repeat' (first
      | assumption | apply State.selectFeed_keeps | apply State.portsOnFeed_keeps | apply State.startSwitch_keeps | apply State.assertWarn_keeps
      | apply Keeps.ite | split)

theorem State.fetFault_keeps {s₀ : State} {s : State} (f : Fin 2) (stuck : Bool) (hK : Keeps s₀ s) : Keeps s₀ (State.fetFault s f stuck) := by
  unfold State.fetFault
  with_reducible repeat' ((try (fail_if_success fail_if_success conv => enter [2, 25]); refine Keeps.upd _ ?_ rfl rfl rfl); first
      | assumption | apply State.setFeed_keeps | apply State.modFeed_keeps | dsimp only)

theorem State.queueCal_keeps {s₀ : State} {s : State} (n : Fin 16) (forTest : Bool) (hK : Keeps s₀ s) : Keeps s₀ (State.queueCal s n forTest) := by
  unfold State.queueCal
  with_reducible repeat' ((try (fail_if_success fail_if_success conv => enter [2, 25]); refine Keeps.upd _ ?_ rfl rfl rfl); first
      | assumption | apply State.modLp_keeps | dsimp only)

theorem State.tripPort_keeps {s₀ : State} {s : State} (n : Fin 16) (cause : Nat) (hK : Keeps s₀ s) : Keeps s₀ (State.tripPort s n cause) := by
  unfold State.tripPort
  with_reducible repeat' (first
      | assumption | apply State.modLp_keeps | apply State.queueCal_keeps | apply Keeps.logErr | apply State.setLp_keeps | apply State.raise_keeps
      | apply Keeps.ite)

theorem State.dropWaits_keeps {s₀ : State} {s : State} (n : Nat) (hK : Keeps s₀ s) : Keeps s₀ (State.dropWaits s n) := by
  unfold State.dropWaits
  with_reducible repeat' (first | assumption | apply State.modLp_keeps)

theorem State.damage_keeps {s₀ : State} {s : State} (n : Nat) (kind : Nat) (hK : Keeps s₀ s) : Keeps s₀ (State.damage s n kind) := by
  unfold State.damage
  with_reducible repeat' (first | assumption | apply State.dropWaits_keeps | apply State.setLp_keeps | apply State.raise_keeps)

theorem State.calDone_keeps {s₀ : State} {s : State} (n : Fin 16) (lasting : Bool) (hK : Keeps s₀ s) : Keeps s₀ (State.calDone s n lasting) := by
  unfold State.calDone
  with_reducible repeat' ((try (fail_if_success fail_if_success conv => enter [2, 25]); refine Keeps.upd _ ?_ rfl rfl rfl); first
      | assumption | apply State.modLp_keeps | apply State.dropWaits_keeps | apply State.setLp_keeps | apply State.lpGo_keeps | apply Keeps.ite)

theorem State.unseat_keeps {s₀ : State} {s : State} (n : Nat) (hK : Keeps s₀ s) : Keeps s₀ (State.unseat s n) := by
  unfold State.unseat
  with_reducible repeat' (first | assumption | apply State.modLp_keeps | apply State.setLp_keeps | apply State.raise_keeps | apply Keeps.ite)

theorem State.afresh_keeps {s₀ : State} {s : State} (n : Nat) (hK : Keeps s₀ s) : Keeps s₀ (State.afresh s n) := by
  unfold State.afresh
  with_reducible repeat' (first | assumption | apply State.modLp_keeps | apply State.setLp_keeps)

theorem State.inrushTick_keeps {s₀ : State} {s : State} (n : Fin 16) (hK : Keeps s₀ s) : Keeps s₀ (State.inrushTick s n) := by
  unfold State.inrushTick
  with_reducible repeat' (first | assumption | apply State.tripPort_keeps | apply State.modLp_keeps | apply State.setLp_keeps | apply Keeps.ite)

theorem State.samplePort_keeps {s₀ : State} {s : State} (n : Nat) (v : Nat) (i : Int) (hK : Keeps s₀ s) : Keeps s₀ (State.samplePort s n v i) := by
  unfold State.samplePort
  with_reducible repeat' (first | assumption | apply State.modLp_keeps)

theorem State.takeMeter_keeps {s₀ : State} {s : State} (hK : Keeps s₀ s) : Keeps s₀ (State.takeMeter s) := by
  unfold State.takeMeter
  with_reducible repeat' ((try (fail_if_success fail_if_success conv => enter [2, 25]); refine Keeps.upd _ ?_ rfl rfl rfl); first
      | assumption | apply Keeps.ite | split)

theorem State.sampleAll_keeps {s₀ : State} {s : State} (samples : List (Nat × Int)) (hK : Keeps s₀ s) : Keeps s₀ (State.sampleAll s samples) := by
  unfold State.sampleAll
  with_reducible repeat' (first
      | assumption | apply State.samplePort_keeps | apply State.takeMeter_keeps | (refine Keeps.foldl (fun _ _ _ => ?_) _ _ ?_))

theorem State.snapshot_keeps {s₀ : State} {s : State} (targets : List Nat) (samples : List (Nat × Int)) (hK : Keeps s₀ s) : Keeps s₀ (State.snapshot
    s targets samples) := by
  unfold State.snapshot
  with_reducible repeat' (first | assumption | apply State.samplePort_keeps | apply State.modLp_keeps | (refine Keeps.foldl (fun _ _ _ => ?_) _ _ ?_))

theorem State.closeEnergy_keeps {s₀ : State} {s : State} (stepped : Bool) (hK : Keeps s₀ s) : Keeps s₀ (State.closeEnergy s stepped) := by
  unfold State.closeEnergy
  with_reducible repeat' ((try (fail_if_success fail_if_success conv => enter [2, 25]); refine Keeps.upd _ ?_ rfl rfl rfl); first
      | assumption | apply State.raise_keeps)

theorem State.clearFet_keeps {s₀ : State} {s : State} (f : Fin 2) (hK : Keeps s₀ s) : Keeps s₀ (State.clearFet s f) := by
  unfold State.clearFet
  with_reducible repeat' (first | assumption | apply State.setFeed_keeps | apply State.modFeed_keeps | apply Keeps.ite)

theorem State.lpOff_keeps {s₀ : State} {s : State} (n : Nat) (hK : Keeps s₀ s) : Keeps s₀ (State.lpOff s n) := by
  unfold State.lpOff
  with_reducible repeat' (first | assumption | apply State.dropWaits_keeps | apply State.setLpC_keeps)

theorem recFeed_keeps {s₀ : State} {s : State} (rd : Rd) (hK : Keeps s₀ s) : Keeps s₀ ((recFeed s) rd).1 := by
  unfold recFeed
  with_reducible repeat' (first | (refine Keeps.bind (fun _ _ => ?_) _) | refine Keeps.pure ?_ _)
  with_reducible repeat' ((try (fail_if_success fail_if_success conv => enter [2, 25]); refine Keeps.upd _ ?_ rfl rfl rfl); first | assumption)

theorem recLpPower_keeps {s₀ : State} {s : State} (rd : Rd) (hK : Keeps s₀ s) : Keeps s₀ ((recLpPower s) rd).1 := by
  unfold recLpPower
  with_reducible repeat' (first | (refine Keeps.bind (fun _ _ => ?_) _) | refine Keeps.pure ?_ _)
  with_reducible repeat' (first | assumption | apply State.modLp_keeps | apply State.lpOff_keeps | apply State.afresh_keeps | apply Keeps.ite)

theorem recMeter_keeps {s₀ : State} {s : State} (rd : Rd) (hK : Keeps s₀ s) : Keeps s₀ ((recMeter s) rd).1 := by
  unfold recMeter
  with_reducible repeat' (first | (refine Keeps.bind (fun _ _ => ?_) _) | refine Keeps.pure ?_ _)
  with_reducible repeat' ((try (fail_if_success fail_if_success conv => enter [2, 25]); refine Keeps.upd _ ?_ rfl rfl rfl); first
      | assumption | apply State.keepEntry_keeps | apply Keeps.ite)

/-! ### Lighting -/

theorem State.closeCycle_keeps {s₀ : State} {s : State} (g : Nat) (hK : Keeps s₀ s) : Keeps s₀ (State.closeCycle s g) := by
  unfold State.closeCycle
  with_reducible repeat' (first
      | assumption | apply State.modNode_keeps | apply State.setNode_keeps | apply State.modSeg_keeps | apply State.cntS_keeps
      | apply State.rmFinish_keeps | apply Keeps.ite | split | dsimp only)

theorem State.beacon_keeps {s₀ : State} {s : State} (seg : Fin 16) (offGrid : Bool) (long : Bool) (late : Bool) (hK : Keeps s₀ s) : Keeps s₀
    (State.beacon s seg offGrid long late) := by
  unfold State.beacon
  with_reducible repeat' (first
      | assumption | apply State.closeCycle_keeps | apply State.goBeacon_keeps | apply State.modSeg_keeps | apply State.rmFinish_keeps
      | apply State.modGo_keeps | apply State.send_keeps | apply State.farDrain_keeps | apply Keeps.ite
      | (refine Keeps.foldl (fun _ _ _ => ?_) _ _ ?_))

theorem State.lanternCycle_keeps {s₀ : State} {s : State} (n : Nat) (hK : Keeps s₀ s) : Keeps s₀ (State.lanternCycle s n) := by
  unfold State.lanternCycle
  with_reducible repeat' (first | assumption | apply State.modSeg_keeps | (refine Keeps.foldl (fun _ _ _ => ?_) _ _ ?_))

theorem State.startBeacon_keeps {s₀ : State} {s : State} (seg : Fin 16) (offGrid : Bool) (late : Bool) (hK : Keeps s₀ s) : Keeps s₀
    (State.startBeacon s seg offGrid late) := by
  unfold State.startBeacon
  with_reducible repeat' (first | assumption | apply State.modSeg_keeps | apply State.beacon_keeps)

theorem State.statusFrame_keeps {s₀ : State} {s : State} (g : Nat) (n : Nat) (mac : Nat) (flags : Nat) (alarm : Nat) (tid : Nat) (result : Nat)
    (words : List Nat) (hK : Keeps s₀ s) : Keeps s₀ (State.statusFrame s g n mac flags alarm tid result words) := by
  unfold State.statusFrame
  with_reducible repeat' (first
      | assumption | apply State.modSeg_keeps | apply State.modNode_keeps | apply State.setNode_keeps | apply State.alarmChanged_keeps
      | apply State.rmFinish_keeps | apply State.farDrain_keeps | apply State.readNode_keeps | apply Keeps.ite | split)

theorem State.reportGone_keeps {s₀ : State} {s : State} (g : Nat) (n : Nat) (hK : Keeps s₀ s) : Keeps s₀ (State.reportGone s g n) := by
  unfold State.reportGone
  with_reducible repeat' (first | assumption | apply State.modNode_keeps | apply State.sendRoot_keeps | apply Keeps.ite)

theorem State.rmFirst_keeps {s₀ : State} {s : State} (g : Nat) (c : RmCmd) (hK : Keeps s₀ s) : Keeps s₀ (State.rmFirst s g c) := by
  unfold State.rmFirst
  with_reducible repeat' (first | assumption | apply State.modSeg_keeps | apply Keeps.ite)

theorem State.endBabble_keeps {s₀ : State} {s : State} (g : Nat) (n : Nat) (viol : Nat) (hK : Keeps s₀ s) : Keeps s₀ (State.endBabble s g n viol) :=
    by
  unfold State.endBabble
  with_reducible repeat' (first
      | assumption | apply State.setNode_keeps | apply State.modNode_keeps | apply State.raise_keeps | apply State.rmFirst_keeps | apply Keeps.ite)

theorem recLight_keeps {s₀ : State} {s : State} (rd : Rd) (hK : Keeps s₀ s) : Keeps s₀ ((recLight s) rd).1 := by
  unfold recLight
  with_reducible repeat' (first | (refine Keeps.bind (fun _ _ => ?_) _) | refine Keeps.pure ?_ _)
  with_reducible repeat' (first | assumption | apply State.modSeg_keeps | apply State.refreshSegment_keeps)

/-! ### Scenes -/

theorem State.armGo_keeps {s₀ t₀ : State} {x₀} {s : State} {g : Go} (eq : State.armGo s g = some (t₀, x₀)) (hK : Keeps s₀ s) : Keeps s₀ t₀ := by
  unfold State.armGo at eq
  split at eq
  · contradiction
  · split at eq
    · contradiction
    · simp only [Option.some.injEq, Prod.mk.injEq] at eq
      obtain ⟨rfl, _⟩ := eq
      exact Keeps.upd _ (State.armEntry_keeps (by assumption) hK) rfl rfl rfl

theorem State.armOwner_keeps {s₀ : State} {s : State} (r : Waiting) (hK : Keeps s₀ s) : Keeps s₀ (State.armOwner s r).1 := by
  unfold State.armOwner
  with_reducible repeat' (first
      | assumption | apply State.dirTouch_keeps | (refine State.armGo_keeps (by assumption) ?_) | apply State.sendHub_keeps | apply Keeps.ite
      | apply Keeps.iteFst | (refine Keeps.foldl (fun _ _ _ => ?_) _ _ ?_) | split | dsimp only)

theorem State.refuseGo_keeps {s₀ : State} {s : State} (g : Go) (hK : Keeps s₀ s) : Keeps s₀ (State.refuseGo s g).1 := by
  unfold State.refuseGo
  with_reducible repeat' (first | assumption | apply State.sendRoot_keeps | apply Keeps.ite)

theorem State.armRootAt_keeps {s₀ : State} {s : State} (g : Go) (asked : Nat) (a : Nat) (hK : Keeps s₀ s) : Keeps s₀ (State.armRootAt s g asked a).1
    := by
  unfold State.armRootAt
  with_reducible repeat' (first | assumption | (refine State.armGo_keeps (by assumption) ?_) | apply State.refuseGo_keeps | split)

/-- What a go of the ROOT leads to: it is refused or armed, on a hub that keeps what the first one kept. -/
theorem State.armRoot_cases {s₀ : State} {s : State} (r : Waiting) (hK : Keeps s₀ s) :
    ∃ (t : State) (g : Go) (o : Option Nat), State.armRoot s r = o.elim (t.refuseGo g) (t.armRootAt g (u64At r.data 1)) ∧ Keeps s₀ t := by
  generalize hp : State.armRoot s r = p
  unfold State.armRoot at hp
  extract_lets asked late base src t at hp
  have ht : Keeps s₀ t := Keeps.ite (Keeps.upd _ hK rfl rfl rfl) hK
  exact ⟨t, base, _, hp.symm, ht⟩

theorem State.armRoot_keeps {s₀ : State} {s : State} (r : Waiting) (hK : Keeps s₀ s) : Keeps s₀ (State.armRoot s r).1 := by
  obtain ⟨t, g, o, e, h⟩ := State.armRoot_cases r hK
  rw [e]
  cases o with
  | none => exact State.refuseGo_keeps _ h
  | some a => exact State.armRootAt_keeps _ _ _ h

theorem State.invalidateGos_keeps {s₀ : State} {s : State} (hK : Keeps s₀ s) : Keeps s₀ (State.invalidateGos s) := by
  unfold State.invalidateGos
  with_reducible repeat' ((try (fail_if_success fail_if_success conv => enter [2, 25]); refine Keeps.upd _ ?_ rfl rfl rfl); first
      | assumption | apply State.settleGo_keeps | (refine Keeps.foldl (fun _ _ _ => ?_) _ _ ?_))

/-! ### Display -/

theorem State.modHead_keeps {s₀ : State} {s : State} (h : Nat) (f : Head → Head) (hK : Keeps s₀ s) : Keeps s₀ (State.modHead s h f) :=
  Keeps.upd _ hK rfl rfl rfl

theorem State.cntH_keeps {s₀ : State} {s : State} (h : Nat) (i : Nat) (hK : Keeps s₀ s) : Keeps s₀ (State.cntH s h i) := by
  unfold State.cntH
  with_reducible repeat' (first | assumption | apply State.modHead_keeps)

theorem State.setHead_keeps {s₀ : State} {s : State} (h : Nat) (st : HeadState) (cause : Nat) (hK : Keeps s₀ s) : Keeps s₀ (State.setHead s h st
    cause) := by
  unfold State.setHead
  with_reducible repeat' (first | assumption | apply State.modHead_keeps | apply State.raise_keeps | apply Keeps.ite)

theorem State.setGl_keeps {s₀ : State} {s : State} (h : Nat) (g : GlState) (eNs : Int) (hK : Keeps s₀ s) : Keeps s₀ (State.setGl s h g eNs) := by
  unfold State.setGl
  with_reducible repeat' (first | assumption | apply State.modHead_keeps | apply State.raise_keeps | apply Keeps.ite)

theorem State.armFrame_keeps {s₀ : State} {s : State} (h : Nat) (k : Nat) (hK : Keeps s₀ s) : Keeps s₀ (State.armFrame s h k) := by
  unfold State.armFrame
  with_reducible repeat' (first | assumption | apply State.keepEntry_keeps | apply State.dropEntry_keeps | apply Keeps.ite)

theorem State.rearmFrame_keeps {s₀ : State} {s : State} (h : Nat) (hK : Keeps s₀ s) : Keeps s₀ (State.rearmFrame s h) := by
  unfold State.rearmFrame
  with_reducible repeat' (first | assumption | apply State.armFrame_keeps)

theorem State.hpdHigh_keeps {s₀ : State} {s : State} (h : Nat) (edid : List (List Word)) (hK : Keeps s₀ s) : Keeps s₀ (State.hpdHigh s h edid) := by
  unfold State.hpdHigh
  with_reducible repeat' (first | assumption | apply State.modHead_keeps | apply State.raise_keeps | apply State.setHead_keeps | apply Keeps.ite)

theorem State.hpdLow_keeps {s₀ : State} {s : State} (h : Nat) (hK : Keeps s₀ s) : Keeps s₀ (State.hpdLow s h) := by
  unfold State.hpdLow
  with_reducible repeat' (first | assumption | apply State.modHead_keeps | apply State.raise_keeps | apply State.setHead_keeps | apply Keeps.ite)

theorem State.irqHpd_keeps {s₀ : State} {s : State} (h : Nat) (lost : Bool) (hK : Keeps s₀ s) : Keeps s₀ (State.irqHpd s h lost) := by
  unfold State.irqHpd
  with_reducible repeat' (first | assumption | apply State.raise_keeps | apply State.modHead_keeps | apply State.setHead_keeps | apply Keeps.ite)

theorem State.trained_keeps {s₀ : State} {s : State} (h : Nat) (lost : Bool) (rate : Nat) (lanes : Nat) (hK : Keeps s₀ s) : Keeps s₀ (State.trained
    s h lost rate lanes) := by
  unfold State.trained
  with_reducible repeat' (first | assumption | apply State.modHead_keeps | apply State.setHead_keeps | apply Keeps.ite)

theorem State.hpdEvent_keeps {s₀ : State} {s : State} (h : Nat) (e : HpdEvent) (hK : Keeps s₀ s) : Keeps s₀ (State.hpdEvent s h e) := by
  unfold State.hpdEvent
  with_reducible repeat' (first
      | assumption | apply State.modHead_keeps | apply State.hpdLow_keeps | apply State.hpdHigh_keeps | apply State.irqHpd_keeps
      | apply State.trained_keeps | apply Keeps.ite)

theorem State.hpdResume_keeps {s₀ : State} {s : State} (hK : Keeps s₀ s) : Keeps s₀ (State.hpdResume s) := by
  unfold State.hpdResume
  with_reducible repeat' (first | assumption | apply State.hpdEvent_keeps | apply State.modHead_keeps | (refine Keeps.foldl (fun _ _ _ => ?_) _ _ ?_))

theorem State.sendRaster_keeps {s₀ : State} {s : State} (h : Nat) (t : Target) (hK : Keeps s₀ s) : Keeps s₀ (State.sendRaster s h t) := by
  unfold State.sendRaster
  with_reducible repeat' (first | assumption | apply State.modHead_keeps | apply State.send_keeps)

theorem State.refreshRasters_keeps {s₀ : State} {s : State} (h : Nat) (hK : Keeps s₀ s) : Keeps s₀ (State.refreshRasters s h) := by
  unfold State.refreshRasters
  with_reducible repeat' (first | assumption | apply State.sendRaster_keeps | apply Keeps.ite | (refine Keeps.foldl (fun _ _ _ => ?_) _ _ ?_))

theorem State.discardCommit_keeps {s₀ : State} {s : State} (h : Nat) (hK : Keeps s₀ s) : Keeps s₀ (State.discardCommit s h) := by
  unfold State.discardCommit
  with_reducible repeat' (first | assumption | apply State.modHead_keeps | apply State.raise_keeps | apply Keeps.ite | split)

theorem State.loadRecords_keeps {s₀ : State} {s : State} (h : Nat) (hK : Keeps s₀ s) : Keeps s₀ (State.loadRecords s h) := by
  unfold State.loadRecords
  with_reducible repeat' (first | assumption | apply State.modHead_keeps)

theorem State.applyCommit_keeps {s₀ : State} {s : State} (h : Nat) (hK : Keeps s₀ s) : Keeps s₀ (State.applyCommit s h) := by
  unfold State.applyCommit
  with_reducible repeat' (first | assumption | apply State.modHead_keeps | apply State.raise_keeps | apply Keeps.ite | split)

theorem State.genlock_keeps {s₀ : State} {s : State} (h : Nat) (hK : Keeps s₀ s) : Keeps s₀ (State.genlock s h) := by
  unfold State.genlock
  with_reducible repeat' (first | assumption | apply State.modHead_keeps | apply State.setGl_keeps | apply Keeps.ite | split)

theorem State.stopTiming_keeps {s₀ : State} {s : State} (h : Nat) (cause : Nat) (hK : Keeps s₀ s) : Keeps s₀ (State.stopTiming s h cause) := by
  unfold State.stopTiming
  with_reducible repeat' (first | assumption | apply State.setHead_keeps | apply State.modHead_keeps | (refine Keeps.foldl (fun _ _ _ => ?_) _ _ ?_))

theorem State.runFrame_keeps {s₀ : State} {s : State} (h : Nat) (hK : Keeps s₀ s) : Keeps s₀ (State.runFrame s h) := by
  unfold State.runFrame
  with_reducible repeat' (first
      | assumption | apply State.setHead_keeps | apply State.modHead_keeps | apply State.genlock_keeps | apply State.applyCommit_keeps
      | apply State.armFrame_keeps | apply State.refreshRasters_keeps | apply Keeps.ite | (refine Keeps.foldl (fun _ _ _ => ?_) _ _ ?_))

theorem State.dispDomain_keeps {s₀ : State} {s : State} (hK : Keeps s₀ s) : Keeps s₀ (State.dispDomain s) := by
  unfold State.dispDomain
  with_reducible repeat' ((try (fail_if_success fail_if_success conv => enter [2, 25]); refine Keeps.upd _ ?_ rfl rfl rfl); first
      | assumption | apply Keeps.ite)

theorem State.frameStart_keeps {s₀ : State} {s : State} (h : Nat) (hK : Keeps s₀ s) : Keeps s₀ (State.frameStart s h) := by
  unfold State.frameStart
  with_reducible repeat' (first
      | assumption | apply State.loadRecords_keeps | apply State.stopTiming_keeps | apply State.dropEntry_keeps | apply State.setHead_keeps
      | apply State.dispDomain_keeps | apply State.setGl_keeps | apply State.rearmFrame_keeps | apply State.refreshRasters_keeps
      | apply State.runFrame_keeps | apply Keeps.ite | (refine Keeps.foldl (fun _ _ _ => ?_) _ _ ?_))

theorem State.unbindTarget_keeps {s₀ : State} {s : State} (idx : Nat) (hK : Keeps s₀ s) : Keeps s₀ (State.unbindTarget s idx) := by
  unfold State.unbindTarget
  with_reducible repeat' (first
      | assumption | apply State.modHead_keeps | apply State.raise_keeps | (refine Keeps.foldl (fun _ _ _ => ?_) _ _ ?_) | split)

theorem State.presentEdid_keeps {s₀ : State} {s : State} (p : Nat) (hK : Keeps s₀ s) : Keeps s₀ (State.presentEdid s p) := by
  unfold State.presentEdid
  with_reducible repeat' (first | assumption | apply State.send_keeps | split)

theorem State.takeRaster_keeps {s₀ : State} {s : State} (idx : Nat) (r : Raster) (hK : Keeps s₀ s) : Keeps s₀ (State.takeRaster s idx r) := by
  unfold State.takeRaster
  with_reducible repeat' ((try (fail_if_success fail_if_success conv => enter [2, 25]); refine Keeps.upd _ ?_ rfl rfl rfl); first
      | assumption | apply State.presentEdid_keeps | apply State.attention_keeps | apply Keeps.ite | (refine Keeps.foldl (fun _ _ _ => ?_) _ _ ?_))

theorem State.writePixels_keeps {s₀ : State} {s : State} (t : Target) (y : Nat) (x : Nat) (n : Nat) (p : List Byte) (hK : Keeps s₀ s) : Keeps s₀
    (State.writePixels s t y x n p) := by
  unfold State.writePixels
  with_reducible repeat' (first | assumption | apply Keeps.memWrite | apply Keeps.ite)

theorem State.bindTarget_keeps {s₀ : State} {s : State} (h : Nat) (t : Target) (hK : Keeps s₀ s) : Keeps s₀ (State.bindTarget s h t) := by
  unfold State.bindTarget
  with_reducible repeat' (first | assumption | apply State.modHead_keeps | apply State.raise_keeps | apply State.sendRaster_keeps)

theorem State.retime_keeps {s₀ : State} {s : State} (h : Nat) (cause : Nat) (hK : Keeps s₀ s) : Keeps s₀ (State.retime s h cause) := by
  unfold State.retime
  with_reducible repeat' (first | assumption | apply State.modHead_keeps | apply Keeps.ite)

theorem State.pairChange_keeps {s₀ : State} {s : State} (hK : Keeps s₀ s) : Keeps s₀ (State.pairChange s) := by
  unfold State.pairChange
  with_reducible repeat' (first | assumption | apply State.retime_keeps | apply State.discardCommit_keeps)

theorem State.putHead_keeps {s₀ : State} {s : State} (h : Nat) (c : HeadCfg) (hK : Keeps s₀ s) : Keeps s₀ (State.putHead s h c) := by
  unfold State.putHead
  with_reducible repeat' (first
      | assumption | apply State.modHead_keeps | apply State.pairChange_keeps | apply State.retime_keeps | apply State.setGl_keeps
      | apply State.rearmFrame_keeps | apply State.refreshRasters_keeps | apply Keeps.ite)

theorem recHead_keeps {s₀ : State} {s : State} (rd : Rd) (hK : Keeps s₀ s) : Keeps s₀ ((recHead s) rd).1 := by
  unfold recHead
  with_reducible repeat' (first | (refine Keeps.bind (fun _ _ => ?_) _) | refine Keeps.pure ?_ _)
  with_reducible repeat' (first | assumption | apply State.putHead_keeps)

theorem State.putMode_keeps {s₀ : State} {s : State} (h : Nat) (m : ModeCfg) (hK : Keeps s₀ s) : Keeps s₀ (State.putMode s h m) := by
  unfold State.putMode
  with_reducible repeat' (first | assumption | apply State.modHead_keeps | apply State.retime_keeps | apply Keeps.ite)

theorem recMode_keeps {s₀ : State} {s : State} (rd : Rd) (hK : Keeps s₀ s) : Keeps s₀ ((recMode s) rd).1 := by
  unfold recMode
  with_reducible repeat' (first | (refine Keeps.bind (fun _ _ => ?_) _) | refine Keeps.pure ?_ _)
  with_reducible repeat' (first | assumption | apply State.putMode_keeps)

theorem State.displayDown_keeps {s₀ : State} {s : State} (hK : Keeps s₀ s) : Keeps s₀ (State.displayDown s) := by
  unfold State.displayDown
  with_reducible repeat' (first
      | assumption | apply State.setHead_keeps | apply State.modHead_keeps | apply State.dropEntry_keeps
      | (refine Keeps.foldl (fun _ _ _ => ?_) _ _ ?_))

theorem State.rearmFrames_keeps {s₀ : State} {s : State} (hK : Keeps s₀ s) : Keeps s₀ (State.rearmFrames s) := by
  unfold State.rearmFrames
  with_reducible repeat' (first | assumption | apply State.rearmFrame_keeps | apply Keeps.ite | (refine Keeps.foldl (fun _ _ _ => ?_) _ _ ?_))

end Sys2Proof.Machine
end

