-- ==== Sys2Proof/Laws/KeepsHub.lean ====
section
/-!
SUPPORT. Every operation keeps the queue and the safe states (`Keeps`, Laws/Keeps.lean): the scheduler, rings, trunk, cell path, directory,
desk, configuration, resets, security, update, faults and start-up. One lemma per operation.
-/

set_option linter.unusedVariables false

namespace Sys2Proof.Machine

open Sys2Proof

/-! ### Schedule -/

theorem idleCycle_keeps {s₀ : State} {s : State} (hK : Keeps s₀ s) : Keeps s₀ (idleCycle s) := by
  unfold idleCycle
  with_reducible repeat' ((try (fail_if_success fail_if_success conv => enter [2, 25]); refine Keeps.upd _ ?_ rfl rfl rfl); first
      | assumption | dsimp only)

theorem State.rearmMeter_keeps {s₀ : State} {s : State} (c : Nat) (hK : Keeps s₀ s) : Keeps s₀ (State.rearmMeter s c) := by
  unfold State.rearmMeter
  with_reducible repeat' (first | assumption | apply State.keepEntry_keeps | apply State.dropEntry_keeps | apply Keeps.ite)

theorem State.fireAction_keeps {s₀ : State} {s : State} (e : SchedEntry) (samples : List (Nat × Int)) (hK : Keeps s₀ s) : Keeps s₀ (State.fireAction
    s e samples) := by
  unfold State.fireAction
  with_reducible repeat' ((try (fail_if_success fail_if_success conv => enter [2, 25]); refine Keeps.upd _ ?_ rfl rfl rfl); first
      | assumption | apply State.takeMeter_keeps | apply State.sampleAll_keeps | apply State.rearmMeter_keeps | apply State.snapshot_keeps
      | apply State.lanternCycle_keeps | apply State.startGo_keeps | apply State.frameStart_keeps | apply State.epochFires_keeps | apply Keeps.ite)

theorem State.advanceEntry_keeps {s₀ : State} {s : State} (e : SchedEntry) (hK : Keeps s₀ s) : Keeps s₀ (State.advanceEntry s e) := by
  unfold State.advanceEntry
  with_reducible repeat' ((try (fail_if_success fail_if_success conv => enter [2, 25]); refine Keeps.upd _ ?_ rfl rfl rfl); first
      | assumption | apply Keeps.ite)

theorem State.skipEntry_keeps {s₀ : State} {s : State} (e : SchedEntry) (hK : Keeps s₀ s) : Keeps s₀ (State.skipEntry s e) := by
  unfold State.skipEntry
  with_reducible repeat' (first
      | assumption | apply State.rearmMeter_keeps | apply State.rearmFrames_keeps | apply State.advanceEntry_keeps | apply Keeps.ite)

theorem State.notifyFired_keeps {s₀ : State} {s : State} (e : SchedEntry) (hK : Keeps s₀ s) : Keeps s₀ (State.notifyFired s e) := by
  unfold State.notifyFired
  with_reducible repeat' (first | assumption | apply State.raise_keeps | apply Keeps.ite | split)

theorem State.noteFired_keeps {s₀ : State} {s : State} (e : SchedEntry) (hK : Keeps s₀ s) : Keeps s₀ (State.noteFired s e) := by
  unfold State.noteFired
  with_reducible repeat' ((try (fail_if_success fail_if_success conv => enter [2, 25]); refine Keeps.upd _ ?_ rfl rfl rfl); first
      | assumption | apply Keeps.ite)

theorem State.rearmKept_keeps {s₀ : State} {s : State} (hK : Keeps s₀ s) : Keeps s₀ (State.rearmKept s) := by
  unfold State.rearmKept
  with_reducible repeat' (first | assumption | apply State.rearmFrames_keeps | apply State.rearmMeter_keeps | apply State.realignLantern_keeps)

theorem State.invalidate_keeps {s₀ : State} {s : State} (cause : Nat) (hK : Keeps s₀ s) : Keeps s₀ (State.invalidate s cause) := by
  unfold State.invalidate
  with_reducible repeat' ((try (fail_if_success fail_if_success conv => enter [2, 25]); refine Keeps.upd _ ?_ rfl rfl rfl); first
      | assumption | apply State.raise_keeps | apply State.invalidateEpochs_keeps | apply State.invalidateGos_keeps | apply State.closeEnergy_keeps
      | apply State.realignCounts_keeps | apply State.rearmKept_keeps | (refine Keeps.foldl (fun _ _ _ => ?_) _ _ ?_))

theorem State.syncStep_keeps {s₀ : State} {s : State} (gen : BitVec 16) (ph : Nat × Nat) (ns : Nat) (sub : Nat) (hK : Keeps s₀ s) : Keeps s₀
    (State.syncStep s gen ph ns sub) :=
  Keeps.upd _ hK rfl rfl rfl

theorem State.followPhase_keeps {s₀ : State} {s : State} (want : Nat × Nat) (hK : Keeps s₀ s) : Keeps s₀ (State.followPhase s want) :=
  Keeps.upd _ hK rfl rfl rfl

theorem State.restoreGuyline_keeps {s₀ : State} {s : State} (hK : Keeps s₀ s) : Keeps s₀ (State.restoreGuyline s) := by
  unfold State.restoreGuyline
  with_reducible repeat' ((try (fail_if_success fail_if_success conv => enter [2, 25]); refine Keeps.upd _ ?_ rfl rfl rfl); first
      | assumption | apply State.raise_keeps | apply Keeps.ite | dsimp only)

theorem State.guySync_keeps {s₀ : State} {s : State} (port : Fin 4) (flags : BitVec 8) (gen : BitVec 16) (ref : Stamp) (arcFrac : BitVec 16) (origin
    : Nat) (originFrac : BitVec 16) (freq : Nat) (hK : Keeps s₀ s) : Keeps s₀ (State.guySync s port flags gen ref arcFrac origin originFrac freq) := by
  unfold State.guySync
  with_reducible repeat' ((try (fail_if_success fail_if_success conv => enter [2, 25]); refine Keeps.upd _ ?_ rfl rfl rfl); first
      | assumption | apply State.syncStep_keeps | apply State.timeFirstLock_keeps | apply State.setPhase_keeps | apply State.synthOffset_keeps
      | apply State.startWindows_keeps | apply State.rearmKept_keeps | apply State.judgeOffset_keeps | apply State.raise_keeps
      | apply State.invalidate_keeps | apply State.restoreGuyline_keeps | apply State.servo_keeps | apply State.followPhase_keeps | apply Keeps.ite
      | split)

theorem State.restepped_keeps {s₀ : State} {s : State} (hK : Keeps s₀ s) : Keeps s₀ (State.restepped s) := by
  unfold State.restepped
  with_reducible repeat' (first | assumption | apply State.judgeOffset_keeps | apply State.raise_keeps | apply State.invalidate_keeps)

theorem State.nextGenRoot_keeps {s₀ : State} {s : State} (hK : Keeps s₀ s) : Keeps s₀ (State.nextGenRoot s) := by
  unfold State.nextGenRoot
  with_reducible repeat' ((try (fail_if_success fail_if_success conv => enter [2, 25]); refine Keeps.upd _ ?_ rfl rfl rfl); first
      | assumption | apply State.putBoot_keeps)

/-! ### Rings -/

theorem State.modRing_keeps {s₀ : State} {s : State} (w : Nat) (f : Ring → Ring) (hK : Keeps s₀ s) : Keeps s₀ (State.modRing s w f) :=
  Keeps.upd _ hK rfl rfl rfl

theorem State.refreshRing_keeps {s₀ : State} {s : State} (w : Nat) (hK : Keeps s₀ s) : Keeps s₀ (State.refreshRing s w) := by
  unfold State.refreshRing
  with_reducible repeat' (first | assumption | apply State.modTp_keeps | apply Keeps.ite | (refine Keeps.foldl (fun _ _ _ => ?_) _ _ ?_))

theorem State.ringEpoch_keeps {s₀ : State} {s : State} (w : Nat) (hK : Keeps s₀ s) : Keeps s₀ (State.ringEpoch s w) := by
  unfold State.ringEpoch
  with_reducible repeat' (first | assumption | apply State.nameEpoch_keeps | apply Keeps.ite)

theorem State.setRing_keeps {s₀ : State} {s : State} (w : Nat) (st : RState) (hK : Keeps s₀ s) : Keeps s₀ (State.setRing s w st) := by
  unfold State.setRing
  with_reducible repeat' (first | assumption | apply State.modRing_keeps | apply State.raise_keeps | apply State.ringEpoch_keeps)

theorem State.sendLc_keeps {s₀ : State} {s : State} (p : Nat) (m : LinkMsg) (hK : Keeps s₀ s) : Keeps s₀ (State.sendLc s p m) := by
  unfold State.sendLc
  with_reducible repeat' (first | assumption | apply State.modTp_keeps | apply Keeps.ite)

theorem State.noteSeen_keeps {s₀ : State} {s : State} (w : Nat) (head : Nat) (nseq : Nat) (hK : Keeps s₀ s) : Keeps s₀ (State.noteSeen s w head
    nseq) := by
  unfold State.noteSeen
  with_reducible repeat' (first | assumption | apply State.modRing_keeps)

theorem State.notice_keeps {s₀ : State} {s : State} (w : Nat) (msg : Nat) (link : Nat) (ports : List Nat) (hold : Nat) (inst : Stamp) (hK : Keeps s₀
    s) : Keeps s₀ (State.notice s w msg link ports hold inst) := by
  unfold State.notice
  with_reducible repeat' (first | assumption | apply State.noteSeen_keeps | apply State.sendLc_keeps | (refine Keeps.foldl (fun _ _ _ => ?_) _ _ ?_))

theorem State.ringFail_keeps {s₀ : State} {s : State} (w : Nat) (link : Nat) (hK : Keeps s₀ s) : Keeps s₀ (State.ringFail s w link) := by
  unfold State.ringFail
  with_reducible repeat' (first
      | assumption | apply State.modRing_keeps | apply State.setRing_keeps | apply State.discardSegmented_keeps | apply State.refreshRing_keeps
      | apply State.steer_keeps | apply Keeps.ite | split | dsimp only)

theorem State.ringClear_keeps {s₀ : State} {s : State} (w : Nat) (link : Nat) (hK : Keeps s₀ s) : Keeps s₀ (State.ringClear s w link) := by
  unfold State.ringClear
  with_reducible repeat' (first
      | assumption | apply State.modRing_keeps | apply State.setRing_keeps | apply State.refreshRing_keeps | apply Keeps.ite | split | dsimp only)

theorem State.refreshExtra_keeps {s₀ : State} {s : State} (hK : Keeps s₀ s) : Keeps s₀ (State.refreshExtra s) := by
  unfold State.refreshExtra
  with_reducible repeat' ((try (fail_if_success fail_if_success conv => enter [2, 25]); refine Keeps.upd _ ?_ rfl rfl rfl); first
      | assumption | apply State.raise_keeps | apply Keeps.ite)

theorem State.settle_keeps {s₀ : State} {s : State} (hK : Keeps s₀ s) : Keeps s₀ (State.settle s) := by
  unfold State.settle
  with_reducible repeat' (first | assumption | apply State.retree_keeps | apply State.refreshExtra_keeps)

theorem State.checkBundle_keeps {s₀ : State} {s : State} (p : Nat) (hK : Keeps s₀ s) : Keeps s₀ (State.checkBundle s p) := by
  unfold State.checkBundle
  with_reducible repeat' (first
      | assumption | apply State.modTp_keeps | apply State.raise_keeps | apply Keeps.ite | (refine Keeps.foldl (fun _ _ _ => ?_) _ _ ?_) | split)

theorem State.checkBundles_keeps {s₀ : State} {s : State} (hK : Keeps s₀ s) : Keeps s₀ (State.checkBundles s) := by
  unfold State.checkBundles
  with_reducible repeat' (first | assumption | apply State.checkBundle_keeps)

theorem State.releaseHold_keeps {s₀ : State} {s : State} (w : Nat) (hK : Keeps s₀ s) : Keeps s₀ (State.releaseHold s w) := by
  unfold State.releaseHold
  with_reducible repeat' (first
      | assumption | apply State.modRing_keeps | apply State.cntF_keeps | apply State.enqueue_keeps
      | (refine Keeps.foldl (fun _ _ _ => ?_) _ _ ?_))

theorem State.endRing_keeps {s₀ : State} {s : State} (w : Nat) (hK : Keeps s₀ s) : Keeps s₀ (State.endRing s w) := by
  unfold State.endRing
  with_reducible repeat' (first
      | assumption | apply State.modTp_keeps | apply State.releaseHold_keeps | apply State.modRing_keeps | apply Keeps.ite
      | (refine Keeps.foldl (fun _ _ _ => ?_) _ _ ?_))

theorem State.surveyHome_keeps {s₀ : State} {s : State} (w : Nat) (pos : Nat) (hK : Keeps s₀ s) : Keeps s₀ (State.surveyHome s w pos) := by
  unfold State.surveyHome
  with_reducible repeat' (first
      | assumption | apply State.modRing_keeps | apply State.setRing_keeps | apply State.refreshRing_keeps | apply Keeps.ite)

theorem State.surveyPass_keeps {s₀ : State} {s : State} (port : Fin 4) (head : Nat) (pos : Nat) (link : Nat) (failed : Nat) (hK : Keeps s₀ s) :
    Keeps s₀ (State.surveyPass s port head pos link failed) := by
  unfold State.surveyPass
  with_reducible repeat' (first
      | assumption | apply State.modRing_keeps | apply State.setRing_keeps | apply State.steer_keeps | apply State.refreshRing_keeps
      | apply State.sendLc_keeps | apply Keeps.ite)

theorem State.survey_keeps {s₀ : State} {s : State} (port : Fin 4) (head : Nat) (pos : Nat) (link : Nat) (failed : Nat) (hK : Keeps s₀ s) : Keeps s₀
    (State.survey s port head pos link failed) := by
  unfold State.survey
  with_reducible repeat' (first
      | assumption | apply State.surveyPass_keeps | apply State.settle_keeps | apply State.surveyHome_keeps | apply Keeps.ite | split)

theorem State.takeNotice_keeps {s₀ : State} {s : State} (port : Fin 4) (head : Nat) (nseq : Nat) (m : LinkMsg) (f : Nat → State → State) (hf : ∀ w
    s, Keeps s₀ s → Keeps s₀ (f w s)) (hK : Keeps s₀ s) : Keeps s₀ (State.takeNotice s port head nseq m f) := by
  unfold State.takeNotice
  with_reducible repeat' (first
      | assumption | apply hf | apply State.noteSeen_keeps | apply State.sendLc_keeps | apply State.settle_keeps | apply Keeps.ite | split)

theorem State.ringFailIn_keeps {s₀ : State} {s : State} (port : Fin 4) (head : Nat) (link : Nat) (nseq : Nat) (hK : Keeps s₀ s) : Keeps s₀
    (State.ringFailIn s port head link nseq) := by
  unfold State.ringFailIn
  with_reducible repeat' (first | assumption | apply State.takeNotice_keeps | apply State.ringFail_keeps | intro _)

theorem State.ringClearIn_keeps {s₀ : State} {s : State} (port : Fin 4) (head : Nat) (link : Nat) (nseq : Nat) (hK : Keeps s₀ s) : Keeps s₀
    (State.ringClearIn s port head link nseq) := by
  unfold State.ringClearIn
  with_reducible repeat' (first | assumption | apply State.takeNotice_keeps | apply State.ringClear_keeps | intro _)

theorem State.armRevert_keeps {s₀ : State} {s : State} (w : Nat) (link : Nat) (hold : Nat) (inst : Nat) (hK : Keeps s₀ s) : Keeps s₀
    (State.armRevert s w link hold inst) := by
  unfold State.armRevert
  with_reducible repeat' (first | assumption | apply State.modRing_keeps)

theorem State.sendRevert_keeps {s₀ : State} {s : State} (w : Nat) (hK : Keeps s₀ s) : Keeps s₀ (State.sendRevert s w) := by
  unfold State.sendRevert
  with_reducible repeat' (first | assumption | apply State.modRing_keeps | apply State.armRevert_keeps | apply State.notice_keeps)

theorem State.ringRevertIn_keeps {s₀ : State} {s : State} (port : Fin 4) (head : Nat) (link : Nat) (nseq : Nat) (hold : Nat) (inst : Stamp) (hK :
    Keeps s₀ s) : Keeps s₀ (State.ringRevertIn s port head link nseq hold inst) := by
  unfold State.ringRevertIn
  with_reducible repeat' (first | assumption | apply State.takeNotice_keeps | apply State.armRevert_keeps | intro _)

/-! ### Trunk -/

theorem State.setPort_keeps {s₀ : State} {s : State} (p : Nat) (st : PortState) (cause : Nat) (hK : Keeps s₀ s) : Keeps s₀ (State.setPort s p st
    cause) := by
  unfold State.setPort
  with_reducible repeat' (first | assumption | apply State.modTp_keeps | apply State.raise_keeps)

theorem State.enterSearch_keeps {s₀ : State} {s : State} (p : Nat) (rate : Nat) (cause : Nat) (hK : Keeps s₀ s) : Keeps s₀ (State.enterSearch s p
    rate cause) := by
  unfold State.enterSearch
  with_reducible repeat' (first
      | assumption | apply State.modTp_keeps | apply State.setPort_keeps | apply State.startTest_keeps | apply Keeps.ite
      | (refine Keeps.foldl (fun _ _ _ => ?_) _ _ ?_))

theorem State.enterHello_keeps {s₀ : State} {s : State} (p : Nat) (hK : Keeps s₀ s) : Keeps s₀ (State.enterHello s p) := by
  unfold State.enterHello
  with_reducible repeat' (first | assumption | apply State.modTp_keeps | apply State.setPort_keeps | apply State.raise_keeps)

theorem State.takeCells_keeps {s₀ : State} {s : State} (p : Nat) (hK : Keeps s₀ s) : Keeps s₀ (State.takeCells s p).2 := by
  unfold State.takeCells
  with_reducible repeat' ((try (fail_if_success fail_if_success conv => enter [2, 25]); refine Keeps.upd _ ?_ rfl rfl rfl); first
      | assumption | apply State.modEgress_keeps | apply State.modTp_keeps | apply State.putQueue_keeps | apply State.rest_keeps
      | (refine Keeps.foldl (fun _ _ _ => ?_) _ _ ?_))

theorem State.takeTunCells_keeps {s₀ : State} {s : State} (p : Nat) (hK : Keeps s₀ s) : Keeps s₀ (State.takeTunCells s p).2 := by
  unfold State.takeTunCells
  with_reducible repeat' (first | assumption | apply State.putQueue_keeps | apply State.rest_keeps | (refine Keeps.foldl (fun _ _ _ => ?_) _ _ ?_))

theorem State.loseCells_keeps {s₀ : State} {s : State} (p : Nat) (hK : Keeps s₀ s) : Keeps s₀ (State.loseCells s p) := by
  unfold State.loseCells
  with_reducible repeat' (first
      | assumption | apply State.takeCells_keeps | apply State.takeTunCells_keeps | apply State.leave_keeps | apply State.cntL_keeps
      | apply State.modTp_keeps | apply State.endBarriers_keeps | (refine Keeps.foldl (fun _ _ _ => ?_) _ _ ?_))

theorem State.resendOnOther_keeps {s₀ : State} {s : State} (p : Nat) (o : Nat) (hK : Keeps s₀ s) : Keeps s₀ (State.resendOnOther s p o) := by
  unfold State.resendOnOther
  with_reducible repeat' (first | assumption | apply State.takeCells_keeps | apply State.modTp_keeps | apply State.raise_keeps)

theorem State.ringPortDown_keeps {s₀ : State} {s : State} (p : Nat) (hK : Keeps s₀ s) : Keeps s₀ (State.ringPortDown s p) := by
  unfold State.ringPortDown
  with_reducible repeat' (first | assumption | apply State.ringFail_keeps | apply State.notice_keeps | apply Keeps.ite | split)

theorem State.leaveActive_keeps {s₀ : State} {s : State} (p : Nat) (cause : Nat) (rate : Option Nat) (lseq : Nat) (hK : Keeps s₀ s) : Keeps s₀
    (State.leaveActive s p cause rate lseq) := by
  unfold State.leaveActive
  with_reducible repeat' ((try (fail_if_success fail_if_success conv => enter [2, 25]); refine Keeps.upd _ ?_ rfl rfl rfl); first
      | assumption | apply State.cntL_keeps | apply State.ringPortDown_keeps | apply State.resendOnOther_keeps | apply State.loseCells_keeps
      | apply State.modTp_keeps | apply State.enterSearch_keeps | apply State.setPort_keeps | apply Keeps.logErr | apply State.settle_keeps
      | apply State.reportRate_keeps | apply Keeps.ite | split)

theorem State.linkLost_keeps {s₀ : State} {s : State} (p : Nat) (cause : Nat) (lseq : Nat) (hK : Keeps s₀ s) : Keeps s₀ (State.linkLost s p cause
    lseq) := by
  unfold State.linkLost
  with_reducible repeat' (first | assumption | apply State.leaveActive_keeps | apply Keeps.ite)

theorem State.enterActive_keeps {s₀ : State} {s : State} (p : Nat) (hK : Keeps s₀ s) : Keeps s₀ (State.enterActive s p) := by
  unfold State.enterActive
  with_reducible repeat' (first
      | assumption | apply State.modTp_keeps | apply State.setPort_keeps | apply State.ringClear_keeps | apply State.notice_keeps
      | apply State.checkBundles_keeps | apply State.settle_keeps | apply State.reportRate_keeps | apply Keeps.ite | split)

theorem State.tryActive_keeps {s₀ : State} {s : State} (p : Nat) (hK : Keeps s₀ s) : Keeps s₀ (State.tryActive s p) := by
  unfold State.tryActive
  with_reducible repeat' (first | assumption | apply State.enterActive_keeps | apply Keeps.ite | split | dsimp only)

theorem State.hello_keeps {s₀ : State} {s : State} (p : Nat) (n : Neighbour) (hK : Keeps s₀ s) : Keeps s₀ (State.hello s p n) := by
  unfold State.hello
  with_reducible repeat' (first
      | assumption | apply State.modTp_keeps | apply State.noteBelow_keeps | apply State.tryActive_keeps | apply State.raise_keeps
      | apply State.checkBundles_keeps | apply State.settle_keeps | apply Keeps.ite | split)

theorem State.askReplay_keeps {s₀ : State} {s : State} (p : Nat) (hK : Keeps s₀ s) : Keeps s₀ (State.askReplay s p) := by
  unfold State.askReplay
  with_reducible repeat' (first | assumption | apply State.modTp_keeps)

theorem State.replayAsk_keeps {s₀ : State} {s : State} (p : Nat) (lseq : Nat) (hK : Keeps s₀ s) : Keeps s₀ (State.replayAsk s p lseq) := by
  unfold State.replayAsk
  with_reducible repeat' (first | assumption | apply State.cntL_keeps | apply State.modTp_keeps)

theorem State.dropLane_keeps {s₀ : State} {s : State} (p : Nat) (l : Fin 2) (cause : Nat) (hK : Keeps s₀ s) : Keeps s₀ (State.dropLane s p l cause)
    := by
  unfold State.dropLane
  with_reducible repeat' (first | assumption | apply State.modTp_keeps | apply Keeps.ite)

theorem State.laneOff_keeps {s₀ : State} {s : State} (p : Nat) (l : Fin 2) (hK : Keeps s₀ s) : Keeps s₀ (State.laneOff s p l) := by
  unfold State.laneOff
  with_reducible repeat' (first | assumption | apply State.modTp_keeps | apply State.reportRate_keeps)

theorem State.laneDrop_keeps {s₀ : State} {s : State} (p : Nat) (l : Fin 2) (echo : Bool) (hK : Keeps s₀ s) : Keeps s₀ (State.laneDrop s p l echo)
    := by
  unfold State.laneDrop
  with_reducible repeat' (first
      | assumption | apply State.modTp_keeps | apply State.laneOff_keeps | apply State.raise_keeps | apply State.startTest_keeps | apply Keeps.ite
      | split)

theorem State.laneOn_keeps {s₀ : State} {s : State} (p : Nat) (l : Fin 2) (hK : Keeps s₀ s) : Keeps s₀ (State.laneOn s p l) := by
  unfold State.laneOn
  with_reducible repeat' (first | assumption | apply State.modTp_keeps | apply State.raise_keeps | apply State.reportRate_keeps)

theorem State.laneAdd_keeps {s₀ : State} {s : State} (p : Nat) (l : Fin 2) (echo : Bool) (hK : Keeps s₀ s) : Keeps s₀ (State.laneAdd s p l echo) := by
  unfold State.laneAdd
  with_reducible repeat' (first | assumption | apply State.laneOn_keeps | apply State.modTp_keeps | apply Keeps.ite)

theorem State.retireLane_keeps {s₀ : State} {s : State} (p : Nat) (l : Fin 2) (hK : Keeps s₀ s) : Keeps s₀ (State.retireLane s p l) := by
  unfold State.retireLane
  with_reducible repeat' ((try (fail_if_success fail_if_success conv => enter [2, 25]); refine Keeps.upd _ ?_ rfl rfl rfl); first
      | assumption | apply State.modTp_keeps | apply State.raise_keeps | apply State.reportRate_keeps)

theorem State.noteBurst_keeps {s₀ : State} {s : State} (p : Nat) (l : Fin 2) (hK : Keeps s₀ s) : Keeps s₀ (State.noteBurst s p l).1 := by
  unfold State.noteBurst
  with_reducible repeat' ((try (fail_if_success fail_if_success conv => enter [2, 25]); refine Keeps.upd _ ?_ rfl rfl rfl); first
      | assumption | dsimp only)

theorem State.laneBurst_keeps {s₀ : State} {s : State} (p : Nat) (l : Fin 2) (n : Nat) (hK : Keeps s₀ s) : Keeps s₀ (State.laneBurst s p l n) := by
  unfold State.laneBurst
  with_reducible repeat' (first
      | assumption | apply State.raise_keeps | apply Keeps.logErr | apply State.noteBurst_keeps | apply State.dropLane_keeps
      | apply State.retireLane_keeps | apply State.modTp_keeps | apply Keeps.ite)

theorem State.badCodewords_keeps {s₀ : State} {s : State} (p : Nat) (l : Fin 2) (n : Nat) (hK : Keeps s₀ s) : Keeps s₀ (State.badCodewords s p l n)
    := by
  unfold State.badCodewords
  with_reducible repeat' (first | assumption | apply State.modTp_keeps | apply State.laneBurst_keeps | apply Keeps.ite)

theorem State.linkAction_keeps {s₀ : State} {s : State} (p : Nat) (action : Nat) (hK : Keeps s₀ s) : Keeps s₀ (State.linkAction s p action) := by
  unfold State.linkAction
  with_reducible repeat' (first
      | assumption | apply State.leaveActive_keeps | apply State.modTp_keeps | apply State.setPort_keeps | apply State.enterSearch_keeps
      | apply State.sharedCheck_keeps | apply State.dropLane_keeps | apply Keeps.ite | split)

theorem State.restartPort_keeps {s₀ : State} {s : State} (p : Nat) (hK : Keeps s₀ s) : Keeps s₀ (State.restartPort s p) := by
  unfold State.restartPort
  with_reducible repeat' (first
      | assumption | apply State.leaveActive_keeps | apply State.setPort_keeps | apply State.modTp_keeps | apply State.enterSearch_keeps
      | apply Keeps.ite)

theorem recLink_keeps {s₀ : State} {s : State} (rd : Rd) (hK : Keeps s₀ s) : Keeps s₀ ((recLink s) rd).1 := by
  unfold recLink
  with_reducible repeat' (first | (refine Keeps.bind (fun _ _ => ?_) _) | refine Keeps.pure ?_ _)
  with_reducible repeat' (first
      | assumption | apply State.modTp_keeps | apply State.endRing_keeps | apply State.restartPort_keeps | apply State.sharedCheck_keeps
      | apply Keeps.ite | (refine Keeps.foldl (fun _ _ _ => ?_) _ _ ?_))

theorem State.dropRing_keeps {s₀ : State} {s : State} (w : Nat) (hK : Keeps s₀ s) : Keeps s₀ (State.dropRing s w) := by
  unfold State.dropRing
  with_reducible repeat' (first | assumption | apply State.endRing_keeps | apply Keeps.ite)

theorem State.headRing_keeps {s₀ : State} {s : State} (w : Nat) (lo : Fin 4) (hi : Fin 4) (wtr : Nat) (hK : Keeps s₀ s) : Keeps s₀ (State.headRing s
    w lo hi wtr) := by
  unfold State.headRing
  with_reducible repeat' (first
      | assumption | apply State.modRing_keeps | apply State.dropRing_keeps | apply State.modTp_keeps | apply Keeps.ite
      | (refine Keeps.foldl (fun _ _ _ => ?_) _ _ ?_))

theorem State.headPorts_keeps {s₀ : State} {s : State} (lo : Fin 4) (hi : Fin 4) (wtr : Nat) (hK : Keeps s₀ s) : Keeps s₀ (State.headPorts s lo hi
    wtr) := by
  unfold State.headPorts
  with_reducible repeat' (first | assumption | apply State.headRing_keeps | apply State.dropRing_keeps | apply Keeps.ite)

theorem recRing_keeps {s₀ : State} {s : State} (rd : Rd) (hK : Keeps s₀ s) : Keeps s₀ ((recRing s) rd).1 := by
  unfold recRing
  with_reducible repeat' (first | (refine Keeps.bind (fun _ _ => ?_) _) | refine Keeps.pure ?_ _)
  with_reducible repeat' (first | assumption | apply State.headPorts_keeps)

/-! ### CellPath -/

theorem State.badTail_keeps {s₀ : State} {s : State} (port : Fin 4) (c : Cell) (hK : Keeps s₀ s) : Keeps s₀ (State.badTail s port c) := by
  unfold State.badTail
  with_reducible repeat' (first | assumption | apply State.startCut_keeps | apply State.stompCut_keeps | split)

theorem State.holdCredit_keeps {s₀ : State} {s : State} (p : Nat) (c : Cell) (hK : Keeps s₀ s) : Keeps s₀ (State.holdCredit s p c) := by
  unfold State.holdCredit
  with_reducible repeat' (first | assumption | apply State.modTp_keeps | apply Keeps.ite)

theorem State.dropCell_keeps {s₀ : State} {s : State} (p : Nat) (c : Cell) (hK : Keeps s₀ s) : Keeps s₀ (State.dropCell s p c) := by
  unfold State.dropCell
  with_reducible repeat' (first | assumption | apply State.freeCell_keeps | apply Keeps.ite)

theorem State.sequence_keeps {s₀ : State} {s : State} (p : Nat) (c : Cell) (hK : Keeps s₀ s) : Keeps s₀ (State.sequence s p c).1 := by
  unfold State.sequence
  with_reducible repeat' (first
      | assumption | apply State.modTp_keeps | apply State.cntL_keeps | apply State.holdCredit_keeps | apply State.askReplay_keeps
      | apply Keeps.iteFst)

theorem State.epochSkew_keeps {s₀ : State} {s : State} (p : Nat) (c : Cell) (hK : Keeps s₀ s) : Keeps s₀ (State.epochSkew s p c) := by
  unfold State.epochSkew
  with_reducible repeat' ((try (fail_if_success fail_if_success conv => enter [2, 25]); refine Keeps.upd _ ?_ rfl rfl rfl); first
      | assumption | apply State.raiseRated_keeps | apply Keeps.ite)

theorem State.joinCell_keeps {s₀ : State} {s : State} (p : Nat) (c : Cell) (hK : Keeps s₀ s) : Keeps s₀ (State.joinCell s p c) := by
  unfold State.joinCell
  with_reducible repeat' (first | assumption | apply State.cntL_keeps | apply Keeps.ite)

theorem State.takeSequenced_keeps {s₀ : State} {s : State} (port : Fin 4) (c : Cell) (hK : Keeps s₀ s) : Keeps s₀ (State.takeSequenced s port c) := by
  unfold State.takeSequenced
  with_reducible repeat' (first
      | assumption | apply State.cntL_keeps | apply State.sequence_keeps | apply State.epochSkew_keeps | apply State.dropCell_keeps
      | apply State.joinCell_keeps | apply State.arrive_keeps | apply Keeps.ite)

theorem State.creditBack_keeps {s₀ : State} {s : State} (p : Nat) (hK : Keeps s₀ s) : Keeps s₀ (State.creditBack s p) := by
  unfold State.creditBack
  with_reducible repeat' (first
      | assumption | apply State.modTp_keeps | apply State.raise_keeps | apply Keeps.ite | (refine Keeps.foldl (fun _ _ _ => ?_) _ _ ?_))

theorem State.takeCredit_keeps {s₀ : State} {s : State} (p : Nat) (c : Cell) (hK : Keeps s₀ s) : Keeps s₀ (State.takeCredit s p c) := by
  unfold State.takeCredit
  with_reducible repeat' (first | assumption | apply State.modTp_keeps | apply State.creditBack_keeps)

theorem State.takeGuyline_keeps {s₀ : State} {s : State} (port : Fin 4) (c : Cell) (hK : Keeps s₀ s) : Keeps s₀ (State.takeGuyline s port c) := by
  unfold State.takeGuyline
  with_reducible repeat' ((try (fail_if_success fail_if_success conv => enter [2, 25]); refine Keeps.upd _ ?_ rfl rfl rfl); first
      | assumption | apply State.guySync_keeps | apply State.guyDelayReq_keeps | apply State.guyDelayResp_keeps | split | dsimp only)

theorem State.takeControl_keeps {s₀ : State} {s : State} (port : Fin 4) (c : Cell) (hK : Keeps s₀ s) : Keeps s₀ (State.takeControl s port c) := by
  unfold State.takeControl
  with_reducible repeat' (first
      | assumption | apply State.hello_keeps | apply State.survey_keeps | apply State.ringFailIn_keeps | apply State.ringClearIn_keeps
      | apply State.ringRevertIn_keeps | apply State.laneDrop_keeps | apply State.laneAdd_keeps | apply State.cntL_keeps | split)

theorem State.takeLocal_keeps {s₀ : State} {s : State} (port : Fin 4) (c : Cell) (hK : Keeps s₀ s) : Keeps s₀ (State.takeLocal s port c) := by
  unfold State.takeLocal
  with_reducible repeat' (first
      | assumption | apply State.askReplay_keeps | apply State.takeCredit_keeps | apply State.replayAsk_keeps | apply State.takeGuyline_keeps
      | apply State.takeControl_keeps | apply Keeps.ite | split)

theorem State.fecCounts_keeps {s₀ : State} {s : State} (p : Nat) (corrected : Nat) (bad0 : Nat) (bad1 : Nat) (hK : Keeps s₀ s) : Keeps s₀
    (State.fecCounts s p corrected bad0 bad1) := by
  unfold State.fecCounts
  with_reducible repeat' (first | assumption | apply State.cntL_keeps | apply State.badCodewords_keeps)

theorem State.receiveCell_keeps {s₀ : State} {s : State} (port : Fin 4) (c : Cell) (overlaps : Bool) (hK : Keeps s₀ s) : Keeps s₀ (State.receiveCell
    s port c overlaps) := by
  unfold State.receiveCell
  with_reducible repeat' (first
      | assumption | apply State.cntL_keeps | apply State.badTail_keeps | apply State.askReplay_keeps | apply State.takeSequenced_keeps
      | apply State.takeLocal_keeps | apply Keeps.ite)

theorem State.sendLocal_keeps {s₀ : State} {s : State} (port : Fin 4) (ctype : BitVec 4) (payload : List Byte) (hK : Keeps s₀ s) : Keeps s₀
    (State.sendLocal s port ctype payload) := by
  unfold State.sendLocal
  with_reducible repeat' (first | assumption | apply State.send_keeps)

theorem State.sendCredit_keeps {s₀ : State} {s : State} (port : Fin 4) (ctype : BitVec 4) (hK : Keeps s₀ s) : Keeps s₀ (State.sendCredit s port
    ctype) := by
  unfold State.sendCredit
  with_reducible repeat' (first | assumption | apply State.sendLocal_keeps | apply State.modTp_keeps)

theorem State.sendGuyline_keeps {s₀ : State} {s : State} (port : Fin 4) (msg : Nat) (rx : Nat) (hK : Keeps s₀ s) : Keeps s₀ (State.sendGuyline s
    port msg rx) := by
  unfold State.sendGuyline
  with_reducible repeat' ((try (fail_if_success fail_if_success conv => enter [2, 25]); refine Keeps.upd _ ?_ rfl rfl rfl); first
      | assumption | apply State.sendLocal_keeps | split | dsimp only)

theorem State.sendAgain_keeps {s₀ : State} {s : State} (port : Fin 4) (c : Cell) (rest : List Cell) (bufErr : Bool) (hK : Keeps s₀ s) : Keeps s₀
    (State.sendAgain s port c rest bufErr) := by
  unfold State.sendAgain
  with_reducible repeat' (first | assumption | apply State.modTp_keeps | apply State.cntL_keeps | apply State.send_keeps)

theorem State.dropOldest_keeps {s₀ : State} {s : State} (p : Nat) (hK : Keeps s₀ s) : Keeps s₀ (State.dropOldest s p) := by
  unfold State.dropOldest
  with_reducible repeat' (first | assumption | apply State.modEgress_keeps | apply State.modTp_keeps | apply Keeps.ite)

theorem State.sendNew_keeps {s₀ : State} {s : State} (port : Fin 4) (c : QCell) (hK : Keeps s₀ s) : Keeps s₀ (State.sendNew s port c) := by
  unfold State.sendNew
  with_reducible repeat' (first
      | assumption | apply State.dropOldest_keeps | apply State.cntF_keeps | apply State.leave_keeps | apply State.sendCredit_keeps
      | apply State.modTp_keeps | apply State.cntL_keeps | apply State.send_keeps | apply Keeps.ite)

theorem State.activeSlot_keeps {s₀ : State} {s : State} (port : Fin 4) (bufErr : Bool) (hK : Keeps s₀ s) : Keeps s₀ (State.activeSlot s port bufErr)
    := by
  unfold State.activeSlot
  with_reducible repeat' (first
      | assumption | apply State.modTp_keeps | apply State.cntL_keeps | apply State.sendLocal_keeps | apply State.sendCredit_keeps
      | apply State.sendGuyline_keeps | apply State.sendAgain_keeps | apply State.sendNew_keeps | split | dsimp only)

/-! ### Directory -/

theorem State.modDir_keeps {s₀ : State} {s : State} (id : Nat) (f : DirRec → DirRec) (hK : Keeps s₀ s) : Keeps s₀ (State.modDir s id f) :=
  Keeps.upd _ hK rfl rfl rfl

theorem State.clearClaim_keeps {s₀ : State} {s : State} (id : Nat) (hub : Nat) (port : Nat) (node : Nat) (ep : Nat) (hK : Keeps s₀ s) : Keeps s₀
    (State.clearClaim s id hub port node ep) :=
  Keeps.upd _ hK rfl rfl rfl

theorem State.bindEp_keeps {s₀ : State} {s : State} (hub : Nat) (port : Nat) (node : Nat) (mac : Nat) (ep : Nat) (type : Nat) (hint : Nat) (hK :
    Keeps s₀ s) : Keeps s₀ (State.bindEp s hub port node mac ep type hint).1 := by
  unfold State.bindEp
  with_reducible repeat' ((try (fail_if_success fail_if_success conv => enter [2, 25]); refine Keeps.upd _ ?_ rfl rfl rfl); first
      | assumption | apply State.raise_keeps | apply State.modDir_keeps | apply State.clearClaim_keeps | apply Keeps.ite | apply Keeps.iteFst
      | split | dsimp only)

theorem State.bindAll_keeps {s₀ : State} {s : State} (r : Waiting) (hub : Nat) (hK : Keeps s₀ s) : Keeps s₀ (State.bindAll s r hub).1 := by
  unfold State.bindAll
  with_reducible repeat' (first | assumption | apply State.bindEp_keeps | (refine Keeps.foldlFst (fun _ _ _ => ?_) _ _ ?_))

theorem State.takeIds_keeps {s₀ : State} {s : State} (g : Nat) (n : Nat) (ws : List Word) (hK : Keeps s₀ s) : Keeps s₀ (State.takeIds s g n ws) := by
  unfold State.takeIds
  with_reducible repeat' (first
      | assumption | apply State.modNode_keeps | apply State.rmQueue_keeps | apply State.setNode_keeps | apply Keeps.ite
      | (refine Keeps.foldl (fun _ _ _ => ?_) _ _ ?_))

theorem recDir_keeps {s₀ : State} {s : State} (rd : Rd) (hK : Keeps s₀ s) : Keeps s₀ ((recDir s) rd).1 := by
  unfold recDir
  with_reducible repeat' (first | (refine Keeps.bind (fun _ _ => ?_) _) | refine Keeps.pure ?_ _)
  with_reducible repeat' ((try (fail_if_success fail_if_success conv => enter [2, 25]); refine Keeps.upd _ ?_ rfl rfl rfl); first
      | assumption | apply Keeps.ite)

/-! ### DeskOpen -/

theorem State.closeDesk1_keeps {s₀ : State} {s : State} (i : Option Nat) (hK : Keeps s₀ s) : Keeps s₀ (State.closeDesk1 s i) := by
  unfold State.closeDesk1
  with_reducible repeat' (first | assumption | apply State.beginClose_keeps | split)

theorem State.openNet_keeps {s₀ : State} {s : State} (p : Nat) (hK : Keeps s₀ s) : Keeps s₀ (State.openNet s p) := by
  unfold State.openNet
  with_reducible repeat' (first | assumption | apply State.openOwn_keeps | apply State.modDk_keeps | apply Keeps.ite | split | dsimp only)

theorem State.openVid_keeps {s₀ : State} {s : State} (p : Nat) (hK : Keeps s₀ s) : Keeps s₀ (State.openVid s p) := by
  unfold State.openVid
  with_reducible repeat' (first | assumption | apply State.openOwn_keeps | apply State.modDk_keeps | apply Keeps.ite | split | dsimp only)

theorem State.connectLocal_keeps {s₀ : State} {s : State} (p : Nat) (k : Nat) (hK : Keeps s₀ s) : Keeps s₀ (State.connectLocal s p k) := by
  unfold State.connectLocal
  with_reducible repeat' (first | assumption | apply State.modDev_keeps | apply State.modMp_keeps | apply State.setMp_keeps | apply Keeps.ite)

theorem State.connectMp_keeps {s₀ : State} {s : State} (p : Nat) (k : Nat) (hK : Keeps s₀ s) : Keeps s₀ (State.connectMp s p k) := by
  unfold State.connectMp
  with_reducible repeat' (first
      | assumption | apply State.setMp_keeps | apply State.connectLocal_keeps | apply State.usbPdu_keeps | apply State.openOwn_keeps
      | apply State.modMp_keeps | apply Keeps.ite | split)

theorem State.closeMp_keeps {s₀ : State} {s : State} (p : Nat) (k : Nat) (st : Nat) (hK : Keeps s₀ s) : Keeps s₀ (State.closeMp s p k st) := by
  unfold State.closeMp
  with_reducible repeat' (first
      | assumption | apply State.closeDesk1_keeps | apply State.modMp_keeps | apply State.setMp_keeps | apply State.modDev_keeps | apply Keeps.ite)

theorem State.openDesk_keeps {s₀ : State} {s : State} (p : Nat) (hK : Keeps s₀ s) : Keeps s₀ (State.openDesk s p) := by
  unfold State.openDesk
  with_reducible repeat' (first
      | assumption | apply State.connectMp_keeps | apply State.openNet_keeps | apply State.openVid_keeps
      | (refine Keeps.foldl (fun _ _ _ => ?_) _ _ ?_))

theorem State.closeSession_keeps {s₀ : State} {s : State} (p : Nat) (hK : Keeps s₀ s) : Keeps s₀ (State.closeSession s p) := by
  unfold State.closeSession
  with_reducible repeat' (first | assumption | apply State.closeDesk1_keeps | apply State.modDk_keeps | apply State.refreshHpd_keeps)

theorem State.closeDesk_keeps {s₀ : State} {s : State} (p : Nat) (st : Nat) (hK : Keeps s₀ s) : Keeps s₀ (State.closeDesk s p st) := by
  unfold State.closeDesk
  with_reducible repeat' (first
      | assumption | apply State.closeMp_keeps | apply State.closeSession_keeps | (refine Keeps.foldl (fun _ _ _ => ?_) _ _ ?_))

theorem State.setUsb_keeps {s₀ : State} {s : State} (p : Nat) (n : Nat) (hK : Keeps s₀ s) : Keeps s₀ (State.setUsb s p n) := by
  unfold State.setUsb
  with_reducible repeat' (first
      | assumption | apply State.modDk_keeps | apply State.raise_keeps | apply State.setMp_keeps | apply Keeps.ite
      | (refine Keeps.foldl (fun _ _ _ => ?_) _ _ ?_))

theorem State.altExit_keeps {s₀ : State} {s : State} (p : Nat) (hK : Keeps s₀ s) : Keeps s₀ (State.altExit s p) := by
  unfold State.altExit
  with_reducible repeat' (first | assumption | apply State.modDk_keeps | apply State.refreshSink_keeps | apply State.raise_keeps | apply Keeps.ite)

theorem State.gainRole_keeps {s₀ : State} {s : State} (p : Nat) (hK : Keeps s₀ s) : Keeps s₀ (State.gainRole s p) := by
  unfold State.gainRole
  with_reducible repeat' (first
      | assumption | apply State.modDk_keeps | apply State.raise_keeps | apply State.setUsb_keeps | apply State.openDesk_keeps | apply Keeps.ite)

theorem State.powerOnly_keeps {s₀ : State} {s : State} (p : Nat) (hK : Keeps s₀ s) : Keeps s₀ (State.powerOnly s p) := by
  unfold State.powerOnly
  with_reducible repeat' (first | assumption | apply State.raise_keeps)

theorem State.loseRole_keeps {s₀ : State} {s : State} (p : Nat) (hK : Keeps s₀ s) : Keeps s₀ (State.loseRole s p) := by
  unfold State.loseRole
  with_reducible repeat' (first
      | assumption | apply State.modDk_keeps | apply State.setMp_keeps | apply State.setUsb_keeps | (refine Keeps.foldl (fun _ _ _ => ?_) _ _ ?_))

theorem State.devGone_keeps {s₀ : State} {s : State} (p : Nat) (hK : Keeps s₀ s) : Keeps s₀ (State.devGone s p) := by
  unfold State.devGone
  with_reducible repeat' (first
      | assumption | apply State.usbPdu_keeps | apply State.setMp_keeps | apply State.modDev_keeps | apply Keeps.ite | split)

theorem State.endBinding_keeps {s₀ : State} {s : State} (p : Nat) (hK : Keeps s₀ s) : Keeps s₀ (State.endBinding s p) := by
  unfold State.endBinding
  with_reducible repeat' (first | assumption | apply State.modDk_keeps | apply State.raise_keeps | split)

theorem State.endData_keeps {s₀ : State} {s : State} (p : Nat) (hK : Keeps s₀ s) : Keeps s₀ (State.endData s p) := by
  unfold State.endData
  with_reducible repeat' (first
      | assumption | apply State.altExit_keeps | apply State.closeDesk_keeps | apply State.loseRole_keeps | apply State.devGone_keeps
      | apply State.endBinding_keeps | apply State.refreshHpd_keeps | apply Keeps.ite)

/-! ### DeskPower -/

theorem State.modPower_keeps {s₀ : State} {s : State} (p : Nat) (f : DeskPort → DeskPort) (hK : Keeps s₀ s) : Keeps s₀ (State.modPower s p f) := by
  unfold State.modPower
  with_reducible repeat' (first | assumption | apply State.modDk_keeps | apply State.raise_keeps | apply Keeps.ite)

theorem State.pd_keeps {s₀ : State} {s : State} (p : Nat) (msg : Nat) (ws : List Nat) (hK : Keeps s₀ s) : Keeps s₀ (State.pd s p msg ws) := by
  unfold State.pd
  with_reducible repeat' (first | assumption | apply State.send_keeps | split)

theorem State.markReoffers_keeps {s₀ : State} {s : State} (hK : Keeps s₀ s) : Keeps s₀ (State.markReoffers s) := by
  unfold State.markReoffers
  with_reducible repeat' (first | assumption | apply State.modDk_keeps | apply Keeps.ite | (refine Keeps.foldl (fun _ _ _ => ?_) _ _ ?_))

theorem State.eprExit_keeps {s₀ : State} {s : State} (p : Nat) (hK : Keeps s₀ s) : Keeps s₀ (State.eprExit s p) := by
  unfold State.eprExit
  with_reducible repeat' (first | assumption | apply State.modDk_keeps | apply Keeps.ite)

theorem State.sendCaps_keeps {s₀ : State} {s : State} (p : Nat) (w : Nat) (hK : Keeps s₀ s) : Keeps s₀ (State.sendCaps s p w) := by
  unfold State.sendCaps
  with_reducible repeat' (first
      | assumption | apply State.eprExit_keeps | apply State.pd_keeps | apply State.modDk_keeps | apply State.raise_keeps | apply Keeps.ite)

theorem State.endContract_keeps {s₀ : State} {s : State} (p : Nat) (hK : Keeps s₀ s) : Keeps s₀ (State.endContract s p) := by
  unfold State.endContract
  with_reducible repeat' (first | assumption | apply State.modDk_keeps | apply State.raise_keeps | apply Keeps.ite)

theorem State.setContract_keeps {s₀ : State} {s : State} (p : Nat) (c : Contract) (hK : Keeps s₀ s) : Keeps s₀ (State.setContract s p c) := by
  unfold State.setContract
  with_reducible repeat' (first | assumption | apply State.modDk_keeps | apply State.raise_keeps)

theorem State.ask_keeps {s₀ : State} {s : State} (p : Nat) (m : PdMsg) (hK : Keeps s₀ s) : Keeps s₀ (State.ask s p m) := by
  unfold State.ask
  with_reducible repeat' (first | assumption | apply State.modDk_keeps | apply State.pd_keeps | apply Keeps.ite)

theorem State.seekRole_keeps {s₀ : State} {s : State} (p : Nat) (hK : Keeps s₀ s) : Keeps s₀ (State.seekRole s p) := by
  unfold State.seekRole
  with_reducible repeat' (first | assumption | apply State.gainRole_keeps | apply State.ask_keeps | apply Keeps.ite)

theorem State.swapToSource_keeps {s₀ : State} {s : State} (p : Nat) (hK : Keeps s₀ s) : Keeps s₀ (State.swapToSource s p) := by
  unfold State.swapToSource
  with_reducible repeat' (first | assumption | apply State.endContract_keeps | apply State.modPower_keeps)

theorem State.enterSrc_keeps {s₀ : State} {s : State} (p : Nat) (vconn : Bool) (hK : Keeps s₀ s) : Keeps s₀ (State.enterSrc s p vconn) := by
  unfold State.enterSrc
  with_reducible repeat' (first | assumption | apply State.modPower_keeps)

theorem State.enterSnk_keeps {s₀ : State} {s : State} (p : Nat) (hK : Keeps s₀ s) : Keeps s₀ (State.enterSnk s p) := by
  unfold State.enterSnk
  with_reducible repeat' (first | assumption | apply State.modPower_keeps | apply State.gainRole_keeps | apply Keeps.ite)

theorem State.leaveAttach_keeps {s₀ : State} {s : State} (p : Nat) (st : AttachState) (hK : Keeps s₀ s) : Keeps s₀ (State.leaveAttach s p st) := by
  unfold State.leaveAttach
  with_reducible repeat' (first
      | assumption | apply State.endData_keeps | apply State.endContract_keeps | apply State.modPower_keeps | apply State.markReoffers_keeps)

theorem State.toUnattached_keeps {s₀ : State} {s : State} (p : Nat) (hK : Keeps s₀ s) : Keeps s₀ (State.toUnattached s p) := by
  unfold State.toUnattached
  with_reducible repeat' (first | assumption | apply State.modPower_keeps)

theorem State.tryAttach_keeps {s₀ : State} {s : State} (p : Nat) (hK : Keeps s₀ s) : Keeps s₀ (State.tryAttach s p) := by
  unfold State.tryAttach
  with_reducible repeat' (first | assumption | apply State.modPower_keeps | apply Keeps.ite)

theorem State.actOnCc_keeps {s₀ : State} {s : State} (p : Nat) (cc : Cc × Cc) (hK : Keeps s₀ s) : Keeps s₀ (State.actOnCc s p cc) := by
  unfold State.actOnCc
  with_reducible repeat' (first | assumption | apply State.enterSrc_keeps | apply State.modPower_keeps | apply State.toUnattached_keeps | split)

theorem State.protect_keeps {s₀ : State} {s : State} (p : Nat) (kind : Nat) (hK : Keeps s₀ s) : Keeps s₀ (State.protect s p kind) := by
  unfold State.protect
  with_reducible repeat' (first | assumption | apply State.modDk_keeps | apply State.raise_keeps)

theorem State.portAfresh_keeps {s₀ : State} {s : State} (p : Nat) (hK : Keeps s₀ s) : Keeps s₀ (State.portAfresh s p) := by
  unfold State.portAfresh
  with_reducible repeat' (first | assumption | apply State.toUnattached_keeps | apply State.modPower_keeps | apply Keeps.ite)

theorem State.hardReset_keeps {s₀ : State} {s : State} (p : Nat) (received : Bool) (hK : Keeps s₀ s) : Keeps s₀ (State.hardReset s p received) := by
  unfold State.hardReset
  with_reducible repeat' (first
      | assumption | apply State.pd_keeps | apply State.modDk_keeps | apply State.raise_keeps | apply State.leaveAttach_keeps
      | apply State.endContract_keeps | apply State.altExit_keeps | apply State.loseRole_keeps | apply State.markReoffers_keeps | apply Keeps.ite)

theorem State.partnerReady_keeps {s₀ : State} {s : State} (p : Nat) (msg : PdMsg) (hK : Keeps s₀ s) : Keeps s₀ (State.partnerReady s p msg) := by
  unfold State.partnerReady
  with_reducible repeat' ((try (fail_if_success fail_if_success conv => enter [2, 25]); refine Keeps.upd _ ?_ rfl rfl rfl); first
      | assumption | apply State.modDk_keeps | apply State.endContract_keeps | apply State.modPower_keeps | apply State.markReoffers_keeps
      | apply State.setContract_keeps | apply State.seekRole_keeps | apply Keeps.ite | split | dsimp only)

theorem State.partnerAnswer_keeps {s₀ : State} {s : State} (p : Nat) (msg : PdMsg) (answer : PdAnswer) (hK : Keeps s₀ s) : Keeps s₀
    (State.partnerAnswer s p msg answer) := by
  unfold State.partnerAnswer
  with_reducible repeat' (first
      | assumption | apply State.modDk_keeps | apply State.partnerReady_keeps | apply State.modPower_keeps | apply State.gainRole_keeps
      | apply State.powerOnly_keeps | apply Keeps.ite | split)

theorem State.reclaimN_keeps {s₀ : State} (n : Nat) {s : State} (ps : List Nat) (x : Nat) (hK : Keeps s₀ s) : Keeps s₀ (State.reclaimN n s ps x) := by
  induction n generalizing s ps x with
  | zero => exact hK
  | succ n ih =>
    unfold State.reclaimN
    with_reducible repeat' (first | assumption | apply ih | apply State.sendCaps_keeps | apply State.modDk_keeps | apply Keeps.ite | split)

theorem State.deskAction_keeps {s₀ : State} {s : State} (p : Nat) (a : Nat) (hK : Keeps s₀ s) : Keeps s₀ (State.deskAction s p a) := by
  unfold State.deskAction
  with_reducible repeat' (first
      | assumption | apply State.leaveAttach_keeps | apply State.toUnattached_keeps | apply State.hardReset_keeps | apply State.sendCaps_keeps
      | apply State.ask_keeps | apply Keeps.ite)

theorem recDesk_keeps {s₀ : State} {s : State} (rd : Rd) (hK : Keeps s₀ s) : Keeps s₀ ((recDesk s) rd).1 := by
  unfold recDesk
  with_reducible repeat' (first | (refine Keeps.bind (fun _ _ => ?_) _) | refine Keeps.pure ?_ _)
  with_reducible repeat' (first | assumption | apply State.modDk_keeps | apply State.leaveAttach_keeps | apply Keeps.ite)

theorem recBudget_keeps {s₀ : State} {s : State} (rd : Rd) (hK : Keeps s₀ s) : Keeps s₀ ((recBudget s) rd).1 := by
  unfold recBudget
  with_reducible repeat' (first | (refine Keeps.bind (fun _ _ => ?_) _) | refine Keeps.pure ?_ _)
  with_reducible repeat' ((try (fail_if_success fail_if_success conv => enter [2, 25]); refine Keeps.upd _ ?_ rfl rfl rfl); first
      | assumption | apply State.reclaimN_keeps | apply State.markReoffers_keeps | apply Keeps.ite)

/-! ### DeskData -/

theorem State.vdm_keeps {s₀ : State} {s : State} (p : Nat) (cmd : Nat) (ack : Bool) (ws : List Nat) (hK : Keeps s₀ s) : Keeps s₀ (State.vdm s p cmd
    ack ws) := by
  unfold State.vdm
  with_reducible repeat' (first | assumption | apply State.send_keeps | split)

theorem State.setMux_keeps {s₀ : State} {s : State} (p : Nat) (pin : Nat) (hK : Keeps s₀ s) : Keeps s₀ (State.setMux s p pin) := by
  unfold State.setMux
  with_reducible repeat' (first
      | assumption | apply State.setUsb_keeps | apply State.modDk_keeps | apply State.setSink_keeps | apply State.raise_keeps | apply Keeps.ite)

theorem State.refuseStream_keeps {s₀ : State} {s : State} (p : Nat) (cause : Nat) (hK : Keeps s₀ s) : Keeps s₀ (State.refuseStream s p cause) := by
  unfold State.refuseStream
  with_reducible repeat' (first | assumption | apply State.raise_keeps | apply State.setSink_keeps | apply Keeps.ite)

theorem State.captureLine_keeps {s₀ : State} {s : State} (p : Nat) (l : Nat × List Word) (hK : Keeps s₀ s) : Keeps s₀ (State.captureLine s p l) := by
  unfold State.captureLine
  with_reducible repeat' (first
      | assumption | apply Keeps.memWrite | apply State.modDk_keeps | apply Keeps.ite | (refine Keeps.foldl (fun _ _ _ => ?_) _ _ ?_))

theorem State.sendSpan_keeps {s₀ : State} {s : State} (p : Nat) (b : Binding) (d : Nat × Nat) (hK : Keeps s₀ s) : Keeps s₀ (State.sendSpan s p b d)
    := by
  unfold State.sendSpan
  with_reducible repeat' (first | assumption | apply Keeps.memWrite | apply State.send_keeps | apply Keeps.ite | split)

theorem State.usbOut_keeps {s₀ : State} {s : State} (p : Nat) (code : Nat) (data : List Byte) (hK : Keeps s₀ s) : Keeps s₀ (State.usbOut s p code
    data) := by
  unfold State.usbOut
  with_reducible repeat' (first | assumption | apply State.send_keeps | split)

theorem State.rebind_keeps {s₀ : State} {s : State} (p : Nat) (b : Option Binding) (hK : Keeps s₀ s) : Keeps s₀ (State.rebind s p b) := by
  unfold State.rebind
  with_reducible repeat' (first
      | assumption | apply State.closeDesk_keeps | apply State.modDk_keeps | apply State.openDesk_keeps | apply State.refreshHpd_keeps
      | apply State.attention_keeps | apply State.presentEdid_keeps | apply Keeps.ite)

theorem recDeskData_keeps {s₀ : State} {s : State} (rd : Rd) (hK : Keeps s₀ s) : Keeps s₀ ((recDeskData s) rd).1 := by
  unfold recDeskData
  with_reducible repeat' (first | (refine Keeps.bind (fun _ _ => ?_) _) | refine Keeps.pure ?_ _)
  with_reducible repeat' (first
      | assumption | apply State.leaveAttach_keeps | apply State.modDk_keeps | apply State.refreshHpd_keeps | apply Keeps.ite)

theorem recUsbMap_keeps {s₀ : State} {s : State} (rd : Rd) (hK : Keeps s₀ s) : Keeps s₀ ((recUsbMap s) rd).1 := by
  unfold recUsbMap
  with_reducible repeat' (first | (refine Keeps.bind (fun _ _ => ?_) _) | refine Keeps.pure ?_ _)
  with_reducible repeat' (first | assumption | apply State.closeMp_keeps | apply State.modMp_keeps | apply State.connectMp_keeps)

/-! ### CfgApply -/

theorem State.domainOn_keeps {s₀ : State} {s : State} (d : Nat) (hK : Keeps s₀ s) : Keeps s₀ (State.domainOn s d) := by
  unfold State.domainOn
  with_reducible repeat' ((try (fail_if_success fail_if_success conv => enter [2, 25]); refine Keeps.upd _ ?_ rfl rfl rfl); first
      | assumption | apply State.enterSearch_keeps | apply Keeps.refreshAuth | apply State.portAfresh_keeps | apply State.afresh_keeps
      | apply State.armLantern_keeps | apply Keeps.ite | (refine Keeps.foldl (fun _ _ _ => ?_) _ _ ?_))

theorem State.domainOff_keeps {s₀ : State} {s : State} (d : Nat) (hK : Keeps s₀ s) : Keeps s₀ (State.domainOff s d) := by
  unfold State.domainOff
  with_reducible repeat' ((try (fail_if_success fail_if_success conv => enter [2, 25]); refine Keeps.upd _ ?_ rfl rfl rfl); first
      | assumption | apply State.leaveActive_keeps | apply State.setPort_keeps | apply State.modTp_keeps | apply State.driveGone_keeps
      | apply State.modPp_keeps | apply Keeps.refreshAuth | apply State.leaveAttach_keeps | apply State.setEth_keeps
      | apply State.displayDown_keeps | apply State.lpOff_keeps | apply Keeps.ite | (refine Keeps.foldl (fun _ _ _ => ?_) _ _ ?_))

theorem State.syncDomains_keeps {s₀ : State} {s : State} (hK : Keeps s₀ s) : Keeps s₀ (State.syncDomains s) := by
  unfold State.syncDomains
  with_reducible repeat' (first
      | assumption | apply State.domainOn_keeps | apply State.domainOff_keeps | apply Keeps.ite | (refine Keeps.foldl (fun _ _ _ => ?_) _ _ ?_))

theorem recIdentity_keeps {s₀ : State} {s : State} (rd : Rd) (hK : Keeps s₀ s) : Keeps s₀ ((recIdentity s) rd).1 := by
  unfold recIdentity
  with_reducible repeat' (first | (refine Keeps.bind (fun _ _ => ?_) _) | refine Keeps.pure ?_ _)
  with_reducible repeat' (first | assumption)

theorem State.provision_keeps {s₀ : State} {s : State} (r : Rec) (hK : Keeps s₀ s) : Keeps s₀ (State.provision s r) := by
  unfold State.provision
  with_reducible repeat' ((try (fail_if_success fail_if_success conv => enter [2, 25]); refine Keeps.upd _ ?_ rfl rfl rfl); first
      | assumption | apply Keeps.ite)

theorem State.release_keeps {s₀ : State} {s : State} (r : Rec) (hK : Keeps s₀ s) : Keeps s₀ (State.release s r) := by
  unfold State.release
  with_reducible repeat' ((try (fail_if_success fail_if_success conv => enter [2, 25]); refine Keeps.upd _ ?_ rfl rfl rfl); first
      | assumption | split)

/-- Every record type's reading keeps the queue and the safe states. -/
theorem recTable_keeps {t : Nat × Nat × (State → RdM State)} (ht : t ∈ recTable) {s₀ s : State} (rd : Rd) (hK : Keeps s₀ s) :
    Keeps s₀ (t.2.2 s rd).1 := by
  simp only [recTable, List.mem_cons, List.not_mem_nil, or_false] at ht
  rcases ht with rfl | rfl | rfl | rfl | rfl | rfl | rfl | rfl | rfl | rfl | rfl | rfl | rfl | rfl | rfl | rfl | rfl | rfl | rfl | rfl | rfl | rfl |
      rfl | rfl | rfl | rfl | rfl | rfl | rfl | rfl
  · exact recIdentity_keeps rd hK
  · exact recPhase_keeps rd hK
  · exact recTime_keeps rd hK
  · exact recTrig_keeps rd hK
  · exact recLink_keeps rd hK
  · exact recRing_keeps rd hK
  · exact recTunnel_keeps rd hK
  · exact recFabric_keeps rd hK
  · exact recVlProfile_keeps rd hK
  · exact recLight_keeps rd hK
  · exact recDir_keeps rd hK
  · exact recExport_keeps rd hK
  · exact recBridge_keeps rd hK
  · exact recHead_keeps rd hK
  · exact recMode_keeps rd hK
  · exact recDesk_keeps rd hK
  · exact recBudget_keeps rd hK
  · exact recDeskData_keeps rd hK
  · exact recUsbMap_keeps rd hK
  · exact recPcie_keeps rd hK
  · exact recFunc_keeps rd hK
  · exact recNs_keeps rd hK
  · exact recVolume_keeps rd hK
  · exact recEth_keeps rd hK
  · exact recVlan_keeps rd hK
  · exact recFeed_keeps rd hK
  · exact recLpPower_keeps rd hK
  · exact recMeter_keeps rd hK
  · exact recSec_keeps rd hK
  · exact recUpd_keeps rd hK

theorem State.applyRec_keeps {s₀ : State} {s : State} (index : Nat) (r : Rec) (hK : Keeps s₀ s) : Keeps s₀ (State.applyRec s index r).1 := by
  unfold State.applyRec
  split
  · exact hK
  · exact recTable_keeps (List.mem_of_find?_eq_some (by assumption)) _ hK

theorem State.applyRecs_keeps {s₀ : State} (keep : Bool) : ∀ (rs : List Rec) {s : State} (i : Nat), Keeps s₀ s →
    Keeps s₀ (State.applyRecs s keep i rs).1
  | [], _, _, h => h
  | r :: rs, s, i, h => by
    have h1 := State.applyRec_keeps i r h
    unfold State.applyRecs
    dsimp only
    refine State.applyRecs_keeps keep rs _ ?_
    split
    · exact State.release_keeps _ (State.provision_keeps _ h1)
    · exact h1

theorem State.bootIdentity_keeps {s₀ : State} {s : State} (store : List Rec) (image : List Rec) (hK : Keeps s₀ s) : Keeps s₀ (State.bootIdentity s
    store image) := by
  unfold State.bootIdentity
  with_reducible repeat' ((try (fail_if_success fail_if_success conv => enter [2, 25]); refine Keeps.upd _ ?_ rfl rfl rfl); first
      | assumption | split | dsimp only)

theorem State.bootConfig_keeps {s₀ : State} {s : State} (image : Option (List Word)) (hK : Keeps s₀ s) : Keeps s₀ (State.bootConfig s image) := by
  unfold State.bootConfig
  with_reducible repeat' ((try (fail_if_success fail_if_success conv => enter [2, 25]); refine Keeps.upd _ ?_ rfl rfl rfl); first
      | assumption | apply State.bootIdentity_keeps | apply State.applyRecs_keeps | (refine Keeps.fst (by assumption) ?_) | split | dsimp only)

/-! ### Reset -/

theorem State.fallBack_keeps {s₀ : State} {s : State} (cause : Nat) (hK : Keeps s₀ s) : Keeps s₀ (State.fallBack s cause) := by
  unfold State.fallBack
  with_reducible repeat' ((try (fail_if_success fail_if_success conv => enter [2, 25]); refine Keeps.upd _ ?_ rfl rfl rfl); first
      | assumption | apply State.putBoot_keeps | split | dsimp only)

theorem State.copyAll_keeps {s₀ : State} {s : State} (hK : Keeps s₀ s) : Keeps s₀ (State.copyAll s) := by
  unfold State.copyAll
  with_reducible repeat' ((try (fail_if_success fail_if_success conv => enter [2, 25]); refine Keeps.upd _ ?_ rfl rfl rfl); first
      | assumption | apply State.putBoot_keeps | apply Keeps.ite | (refine Keeps.foldl (fun _ _ _ => ?_) _ _ ?_))

theorem State.takeGolden_keeps {s₀ : State} {s : State} (hK : Keeps s₀ s) : Keeps s₀ (State.takeGolden s) := by
  unfold State.takeGolden
  with_reducible repeat' ((try (fail_if_success fail_if_success conv => enter [2, 25]); refine Keeps.upd _ ?_ rfl rfl rfl); first
      | assumption | split | dsimp only)

theorem State.tryStart_keeps {s₀ : State} {s : State} (hK : Keeps s₀ s) : Keeps s₀ (State.tryStart s) := by
  unfold State.tryStart
  with_reducible repeat' ((try (fail_if_success fail_if_success conv => enter [2, 25]); refine Keeps.upd _ ?_ rfl rfl rfl); first
      | assumption | apply State.putBoot_keeps | apply State.fallBack_keeps | apply Keeps.ite)

theorem State.copyStart_keeps {s₀ : State} {s : State} (x : StartInfo) (hK : Keeps s₀ s) : Keeps s₀ (State.copyStart s x) := by
  unfold State.copyStart
  with_reducible repeat' (first
      | assumption | apply State.takeGolden_keeps | apply State.fallBack_keeps | apply State.copyAll_keeps | apply Keeps.ite)

theorem State.chooseImage_keeps {s₀ : State} {s : State} (x : StartInfo) (hK : Keeps s₀ s) : Keeps s₀ (State.chooseImage s x).1 := by
  unfold State.chooseImage
  with_reducible repeat' (first
      | assumption | apply State.tryStart_keeps | apply State.copyStart_keeps | apply Keeps.logErr | apply State.fallBack_keeps
      | apply Keeps.iteFst | split | dsimp only)

theorem State.coldBase_keeps {s₀ : State} {s : State} (cause : Nat) (hK : Keeps s₀ s) : Keeps s₀ (State.coldBase s cause) := by
  unfold State.coldBase
  exact hK.afresh rfl rfl rfl rfl

theorem State.tamperRec_keeps {s₀ : State} {s : State} (source : Nat) (whn : Nat) (response : Nat) (hK : Keeps s₀ s) : Keeps s₀ (State.tamperRec s
    source whn response) := by
  unfold State.tamperRec
  with_reducible repeat' ((try (fail_if_success fail_if_success conv => enter [2, 25]); refine Keeps.upd _ ?_ rfl rfl rfl); first
      | assumption | split | dsimp only)

theorem State.startAlarm_keeps {s₀ : State} {s : State} (source : Nat) (hK : Keeps s₀ s) : Keeps s₀ (State.startAlarm s source) := by
  unfold State.startAlarm
  with_reducible repeat' ((try (fail_if_success fail_if_success conv => enter [2, 25]); refine Keeps.upd _ ?_ rfl rfl rfl); first
      | assumption | apply State.tamperRec_keeps | apply State.holdStart_keeps | apply State.eraseStore_keeps | apply Keeps.ite)

theorem State.measureBoot_keeps {s₀ : State} {s : State} (img : Nat) (hK : Keeps s₀ s) : Keeps s₀ (State.measureBoot s img) := by
  unfold State.measureBoot
  with_reducible repeat' (first
      | assumption | apply State.extend_keeps | apply State.draw_keeps | apply State.extendDigest_keeps | apply Keeps.ite
      | (refine Keeps.foldl (fun _ _ _ => ?_) _ _ ?_))

theorem State.measureMain_keeps {s₀ : State} {s : State} (img : Nat) (hK : Keeps s₀ s) : Keeps s₀ (State.measureMain s img) := by
  unfold State.measureMain
  with_reducible repeat' (first
      | assumption | apply State.extend_keeps | apply State.extendDigest_keeps | apply Keeps.ite | (refine Keeps.foldl (fun _ _ _ => ?_) _ _ ?_))

theorem State.applyRepairs_keeps {s₀ : State} {s : State} (hK : Keeps s₀ s) : Keeps s₀ (State.applyRepairs s) := by
  unfold State.applyRepairs
  with_reducible repeat' ((try (fail_if_success fail_if_success conv => enter [2, 25]); refine Keeps.upd _ ?_ rfl rfl rfl); first
      | assumption | apply Keeps.ite | (refine Keeps.foldl (fun _ _ _ => ?_) _ _ ?_) | split | dsimp only)

theorem State.nextGen_keeps {s₀ : State} {s : State} (hK : Keeps s₀ s) : Keeps s₀ (State.nextGen s) := by
  unfold State.nextGen
  with_reducible repeat' ((try (fail_if_success fail_if_success conv => enter [2, 25]); refine Keeps.upd _ ?_ rfl rfl rfl); first
      | assumption | apply State.putBoot_keeps | apply Keeps.ite | split | dsimp only)

theorem State.vaultStart_keeps {s₀ : State} {s : State} (x : StartInfo) (hK : Keeps s₀ s) : Keeps s₀ (State.vaultStart s x).1 := by
  unfold State.vaultStart
  with_reducible repeat' ((try (fail_if_success fail_if_success conv => enter [2, 25]); refine Keeps.upd _ ?_ rfl rfl rfl); first
      | assumption | apply State.chooseImage_keeps | apply State.measureBoot_keeps | apply State.deriveBase_keeps | apply State.loadStore_keeps
      | apply Keeps.ite | apply Keeps.iteFst | split | dsimp only)

theorem State.mgmtStart_keeps {s₀ : State} {s : State} (img : Nat) (hK : Keeps s₀ s) : Keeps s₀ (State.mgmtStart s img) := by
  unfold State.mgmtStart
  with_reducible repeat' ((try (fail_if_success fail_if_success conv => enter [2, 25]); refine Keeps.upd _ ?_ rfl rfl rfl); first
      | assumption | apply State.holdStart_keeps | apply Keeps.logErr | apply Keeps.ite | split | dsimp only)

theorem State.configure_keeps {s₀ : State} {s : State} (img : Nat) (hK : Keeps s₀ s) : Keeps s₀ (State.configure s img) := by
  unfold State.configure
  with_reducible repeat' ((try (fail_if_success fail_if_success conv => enter [2, 25]); refine Keeps.upd _ ?_ rfl rfl rfl); first
      | assumption | apply State.measureMain_keeps | apply State.extendDigest_keeps | apply State.bootConfig_keeps | apply State.deriveAttest_keeps
      | apply Keeps.ite | split)

theorem State.domainsStart_keeps {s₀ : State} {s : State} (hK : Keeps s₀ s) : Keeps s₀ (State.domainsStart s) := by
  unfold State.domainsStart
  with_reducible repeat' ((try (fail_if_success fail_if_success conv => enter [2, 25]); refine Keeps.upd _ ?_ rfl rfl rfl); first
      | assumption | apply State.applyRepairs_keeps | apply State.nextGen_keeps | apply State.syncDomains_keeps | apply Keeps.ite)

theorem State.memStart_keeps {s₀ : State} {s : State} (hK : Keeps s₀ s) : Keeps s₀ (State.memStart s) :=
  Keeps.upd _ hK rfl rfl rfl

theorem State.fedStart_keeps {s₀ : State} {s : State} (x : StartInfo) (hK : Keeps s₀ s) : Keeps s₀ (State.fedStart s x) := by
  unfold State.fedStart
  with_reducible repeat' ((try (fail_if_success fail_if_success conv => enter [2, 25]); refine Keeps.upd _ ?_ rfl rfl rfl); first
      | assumption | apply State.vaultStart_keeps | apply State.mgmtStart_keeps | apply State.memStart_keeps | apply State.configure_keeps
      | apply State.domainsStart_keeps | apply Keeps.ite)

theorem State.deadRun_keeps {s₀ : State} {s : State} (x : StartInfo) (hK : Keeps s₀ s) : Keeps s₀ (State.deadRun s x) := by
  unfold State.deadRun
  with_reducible repeat' (first
      | assumption | apply State.vaultStart_keeps | apply State.mgmtStart_keeps | apply State.holdStart_keeps | apply State.configure_keeps
      | apply Keeps.ite | split)

theorem State.deadStart_keeps {s₀ : State} {s : State} (x : StartInfo) (hK : Keeps s₀ s) : Keeps s₀ (State.deadStart s x) := by
  unfold State.deadStart
  with_reducible repeat' ((try (fail_if_success fail_if_success conv => enter [2, 25]); refine Keeps.upd _ ?_ rfl rfl rfl); first
      | assumption | apply State.deadRun_keeps | apply Keeps.ite | split)

theorem State.coldStart_keeps {s₀ : State} {s : State} (x : StartInfo) (hK : Keeps s₀ s) : Keeps s₀ (State.coldStart s x) := by
  unfold State.coldStart
  with_reducible repeat' ((try (fail_if_success fail_if_success conv => enter [2, 25]); refine Keeps.upd _ ?_ rfl rfl rfl); first
      | assumption | apply State.fedStart_keeps | apply State.deadStart_keeps | apply Keeps.ite)

theorem State.coldReset_keeps {s₀ : State} {s : State} (cause : Nat) (x : StartInfo) (hK : Keeps s₀ s) : Keeps s₀ (State.coldReset s cause x) := by
  unfold State.coldReset
  with_reducible repeat' ((try (fail_if_success fail_if_success conv => enter [2, 25]); refine Keeps.upd _ ?_ rfl rfl rfl); first
      | assumption | apply State.coldBase_keeps | apply State.coldStart_keeps | dsimp only)

theorem State.emptyBoxes_keeps {s₀ : State} {s : State} (hK : Keeps s₀ s) : Keeps s₀ (State.emptyBoxes s) := by
  refine hK.trans ⟨rfl, fun i => ⟨i.dram, fun k => ?_, Nat.zero_le _, i.log⟩⟩
  have h := i.boxes k
  simp only [State.box, State.emptyBoxes, Vector.getElem_map] at h ⊢
  exact ⟨Nat.zero_lt_succ _, Nat.zero_lt_succ _, h.seq, by simp [Mailbox.used], h.unmasked⟩

theorem State.emptyFabric_keeps {s₀ : State} {s : State} (hK : Keeps s₀ s) : Keeps s₀ (State.emptyFabric s) :=
  Keeps.upd _ hK rfl rfl rfl

theorem State.treeDown_keeps {s₀ : State} {s : State} (hK : Keeps s₀ s) : Keeps s₀ (State.treeDown s) := by
  unfold State.treeDown
  with_reducible repeat' ((try (fail_if_success fail_if_success conv => enter [2, 25]); refine Keeps.upd _ ?_ rfl rfl rfl); first
      | assumption | apply State.closeAll_keeps | apply State.forgetEpochs_keeps | apply State.forgetReports_keeps | apply State.loseGuyline_keeps)

theorem State.cutTests_keeps {s₀ : State} {s : State} (hK : Keeps s₀ s) : Keeps s₀ (State.cutTests s) := by
  unfold State.cutTests
  with_reducible repeat' ((try (fail_if_success fail_if_success conv => enter [2, 25]); refine Keeps.upd _ ?_ rfl rfl rfl); first
      | assumption | apply State.modLp_keeps | apply State.setLp_keeps | apply Keeps.ite | (refine Keeps.foldl (fun _ _ _ => ?_) _ _ ?_))

theorem State.warmReset_keeps {s₀ : State} {s : State} (cause : Nat) (hK : Keeps s₀ s) : Keeps s₀ (State.warmReset s cause) := by
  unfold State.warmReset
  with_reducible repeat' ((try (fail_if_success fail_if_success conv => enter [2, 25]); refine Keeps.upd _ ?_ rfl rfl rfl); first
      | assumption | apply State.emptyBoxes_keeps | apply State.treeDown_keeps | apply State.emptyFabric_keeps | apply State.endSession_keeps
      | apply State.leaveAttach_keeps | apply State.setSeg_keeps | apply State.cutTests_keeps | apply Keeps.ite
      | (refine Keeps.foldl (fun _ _ _ => ?_) _ _ ?_) | split | dsimp only)

theorem State.warmStart_keeps {s₀ : State} {s : State} (hK : Keeps s₀ s) : Keeps s₀ (State.warmStart s) := by
  unfold State.warmStart
  with_reducible repeat' ((try (fail_if_success fail_if_success conv => enter [2, 25]); refine Keeps.upd _ ?_ rfl rfl rfl); first
      | assumption | apply State.syncDomains_keeps | apply State.restartPort_keeps | apply State.refreshSegment_keeps | apply Keeps.ite
      | (refine Keeps.foldl (fun _ _ _ => ?_) _ _ ?_) | dsimp only)

theorem State.wakeFrom_keeps {s₀ : State} {s : State} (source : Nat) (hK : Keeps s₀ s) : Keeps s₀ (State.wakeFrom s source) := by
  unfold State.wakeFrom
  with_reducible repeat' ((try (fail_if_success fail_if_success conv => enter [2, 25]); refine Keeps.upd _ ?_ rfl rfl rfl); first
      | assumption | apply State.warmReset_keeps | dsimp only)

theorem State.abortStage_keeps {s₀ : State} {s : State} (hK : Keeps s₀ s) : Keeps s₀ (State.abortStage s) := by
  unfold State.abortStage
  with_reducible repeat' (first | assumption | apply State.unstage_keeps | apply Keeps.respond | apply Keeps.ite | split)

theorem State.restartBegin_keeps {s₀ : State} {s : State} (hK : Keeps s₀ s) : Keeps s₀ (State.restartBegin s) := by
  unfold State.restartBegin
  refine Keeps.ite hK ?_
  dsimp only
  refine State.endSession_keeps _ (State.abortStage_keeps (State.markOpenings_keeps (hK.boxes rfl rfl (fun i k => ?_) rfl rfl)))
  simp only [State.box, Vector.getElem_map] at k ⊢
  exact k.same rfl rfl rfl rfl

theorem State.releaseHeld_keeps {s₀ : State} {s : State} (hK : Keeps s₀ s) : Keeps s₀ (State.releaseHeld s) := by
  unfold State.releaseHeld
  dsimp only
  exact Keeps.foldl (fun _ _ h => Keeps.modBox (fun _ k => Mailbox.flushLost_ok k _) h) _ _ (Keeps.foldl (fun _ _ h => h.loseEvent ..) _ _
    (Keeps.foldl (fun _ _ h => h.deliver ..) _ _ (hK.less rfl rfl rfl (Nat.zero_le _) (Nat.le_refl _))))

theorem State.finish_keeps {s₀ : State} {s : State} (q : Waiting) (r : Response) (hK : Keeps s₀ s) : Keeps s₀ (State.finish s q r) := by
  unfold State.finish
  with_reducible repeat' ((try (fail_if_success fail_if_success conv => enter [2, 25]); refine Keeps.upd _ ?_ rfl rfl rfl); first
      | assumption | apply Keeps.modBox | apply State.send_keeps | apply Keeps.ite | (apply Mailbox.Ok.same <;> first | assumption | rfl) | split
      | intro _ | dsimp only)

theorem State.restartEnd_keeps {s₀ : State} {s : State} (hK : Keeps s₀ s) : Keeps s₀ (State.restartEnd s) := by
  unfold State.restartEnd
  refine Keeps.ite hK ?_
  extract_lets x1 x2 s1 s2 s3 x3 y3 s4 s5 s6 ra da ba x4 x5 x6 s7 s8 s9 s10
  have h1 : Keeps s₀ s1 := by
    refine hK.boxes rfl rfl (fun i k => ?_) rfl rfl
    simp only [State.box, s1, Vector.getElem_ofFn] at k ⊢
    exact k.same rfl rfl rfl rfl
  clear_value s1
  have h2 : Keeps s₀ s2 := by
    simp only [s2]
    split
    · split
      · exact State.finish_keeps _ _ h1
      · exact Keeps.ite (State.finish_keeps _ _ (Keeps.ite (State.changeAnswered_keeps _ _ h1) h1)) (State.finish_keeps _ _ (State.abortEp_keeps h1))
    · exact h1
  clear_value s2
  have h4 : Keeps s₀ s4 := Keeps.upd _ (State.nameHeld_keeps (State.abortOpenings_keeps (State.raise_keeps _ _ _ (State.releaseHeld_keeps h2)))) rfl
      rfl rfl
  clear_value s4
  have h5 : Keeps s₀ s5 := by
    refine Keeps.foldl (fun _ _ h => Keeps.ite ?_ h) _ _ h4
    exact State.offerRekey_keeps _ (State.dropOffer_keeps _ _ h)
  clear_value s5
  have h7 : Keeps s₀ s7 := Keeps.upd _ (State.hpdResume_keeps h5) rfl rfl rfl
  clear_value s7 ra da ba
  exact State.startNext_keeps (Keeps.foldl (fun _ _ h => State.sendRoot_keeps _ _ h) _ _ (Keeps.foldl (fun _ _ h => State.sendRoot_keeps _ _ h) _ _
    (Keeps.foldl (fun _ _ h => State.sendRoot_keeps _ _ h) _ _ h7)))

/-! ### Security -/

theorem State.zeroize_keeps {s₀ : State} {s : State} (source : Nat) (whn : Nat) (extra : Nat) (hK : Keeps s₀ s) : Keeps s₀ (State.zeroize s source
    whn extra) := by
  unfold State.zeroize
  with_reducible repeat' ((try (fail_if_success fail_if_success conv => enter [2, 25]); refine Keeps.upd _ ?_ rfl rfl rfl); first
      | assumption | apply State.tamperRec_keeps | apply State.clearVolatile_keeps | apply State.raiseOrHold_keeps | apply State.eraseStore_keeps
      | apply State.volKeysChanged_keeps | apply State.closeForKeys_keeps | apply Keeps.ite | split | dsimp only)

theorem State.runAlarm_keeps {s₀ : State} {s : State} (source : Nat) (whn : Nat) (stands : Bool) (hK : Keeps s₀ s) : Keeps s₀ (State.runAlarm s
    source whn stands) := by
  unfold State.runAlarm
  with_reducible repeat' (first
      | assumption | apply State.tamperRec_keeps | apply State.eraseStore_keeps | apply State.raiseOrHold_keeps | apply Keeps.respond
      | apply State.zeroize_keeps | apply Keeps.ite)

theorem State.alarm_keeps {s₀ : State} {s : State} (source : Nat) (hK : Keeps s₀ s) : Keeps s₀ (State.alarm s source) := by
  unfold State.alarm
  with_reducible repeat' ((try (fail_if_success fail_if_success conv => enter [2, 25]); refine Keeps.upd _ ?_ rfl rfl rfl); first
      | assumption | apply State.zeroize_keeps | apply State.wakeFrom_keeps | apply State.tamperRec_keeps | apply State.startAlarm_keeps
      | apply State.runAlarm_keeps | apply State.raiseOrHold_keeps | apply Keeps.ite | split | dsimp only)

theorem State.clearAlarm_keeps {s₀ : State} {s : State} (hK : Keeps s₀ s) : Keeps s₀ (State.clearAlarm s) := by
  unfold State.clearAlarm
  with_reducible repeat' ((try (fail_if_success fail_if_success conv => enter [2, 25]); refine Keeps.upd _ ?_ rfl rfl rfl); first
      | assumption | apply State.deriveBase_keeps | apply State.deriveAttest_keeps | apply State.loadStore_keeps | apply State.raise_keeps
      | apply State.sendJoin_keeps | apply Keeps.ite)

theorem State.signWith_keeps {s₀ : State} {s : State} (n : Nat) (digest : BitVec 384) (hK : Keeps s₀ s) : Keeps s₀ (State.signWith s n digest).2 := by
  unfold State.signWith
  with_reducible repeat' (first | assumption | apply State.draw_keeps)

theorem State.writeSlot_keeps {s₀ : State} {s : State} (n : Nat) (kind : Nat) (usage : Nat) (origin : Nat) (label : List Word) (key : List Word) (hK
    : Keeps s₀ s) : Keeps s₀ (State.writeSlot s n kind usage origin label key) := by
  unfold State.writeSlot
  with_reducible repeat' (first | assumption | apply State.modSlot_keeps)

theorem State.changeLifecycle_keeps {s₀ : State} {s : State} (x : StartInfo) (hK : Keeps s₀ s) : Keeps s₀ (State.changeLifecycle s x) := by
  unfold State.changeLifecycle
  with_reducible repeat' ((try (fail_if_success fail_if_success conv => enter [2, 25]); refine Keeps.upd _ ?_ rfl rfl rfl); first
      | assumption | apply State.draw_keeps | apply State.eraseStore_keeps | apply State.clearVolatile_keeps | apply State.closeForKeys_keeps
      | apply State.raise_keeps | apply State.endSession_keeps | apply State.coldReset_keeps | split | dsimp only)

/-! ### Update -/

theorem State.proceed_keeps {s₀ : State} {s : State} (hK : Keeps s₀ s) : Keeps s₀ (State.proceed s) :=
  Keeps.upd _ hK rfl rfl rfl

theorem State.grantLease_keeps {s₀ : State} {s : State} (hub : Nat) (health : Nat) (hK : Keeps s₀ s) : Keeps s₀ (State.grantLease s hub health) := by
  unfold State.grantLease
  with_reducible repeat' ((try (fail_if_success fail_if_success conv => enter [2, 25]); refine Keeps.upd _ ?_ rfl rfl rfl); first
      | assumption | apply State.raise_keeps)

theorem State.endLease_keeps {s₀ : State} {s : State} (hK : Keeps s₀ s) : Keeps s₀ (State.endLease s) := by
  unfold State.endLease
  with_reducible repeat' ((try (fail_if_success fail_if_success conv => enter [2, 25]); refine Keeps.upd _ ?_ rfl rfl rfl); first
      | assumption | apply State.raise_keeps | split)

theorem State.activate_keeps {s₀ : State} {s : State} (x : StartInfo) (hK : Keeps s₀ s) : Keeps s₀ (State.activate s x) := by
  unfold State.activate
  with_reducible repeat' ((try (fail_if_success fail_if_success conv => enter [2, 25]); refine Keeps.upd _ ?_ rfl rfl rfl); first
      | assumption | apply State.putBoot_keeps | apply State.coldReset_keeps)

theorem State.confirm_keeps {s₀ : State} {s : State} (hK : Keeps s₀ s) : Keeps s₀ (State.confirm s) := by
  unfold State.confirm
  with_reducible repeat' ((try (fail_if_success fail_if_success conv => enter [2, 25]); refine Keeps.upd _ ?_ rfl rfl rfl); first
      | assumption | apply State.putBoot_keeps | apply State.sendRoot_keeps | apply State.raise_keeps | apply Keeps.ite)

/-! ### Faults -/

theorem State.testEnds_keeps {s₀ : State} {s : State} (t : UnitTest) (cls : Nat) (logUnit : Nat) (outcome : Nat) (event : Nat) (detail : Nat) (hK :
    Keeps s₀ s) : Keeps s₀ (State.testEnds s t cls logUnit outcome event detail) := by
  unfold State.testEnds
  with_reducible repeat' ((try (fail_if_success fail_if_success conv => enter [2, 25]); refine Keeps.upd _ ?_ rfl rfl rfl); first
      | assumption | apply Keeps.logErr | apply State.raise_keeps | split)

theorem State.repair_keeps {s₀ : State} {s : State} (r : Repair) (hK : Keeps s₀ s) : Keeps s₀ (State.repair s r) :=
  Keeps.upd _ hK rfl rfl rfl

theorem State.unrepair_keeps {s₀ : State} {s : State} (kind : Nat) (unit : Nat) (hK : Keeps s₀ s) : Keeps s₀ (State.unrepair s kind unit) :=
  Keeps.upd _ hK rfl rfl rfl

theorem State.rowBack_keeps {s₀ : State} {s : State} (row : Nat × Nat) (hK : Keeps s₀ s) : Keeps s₀ (State.rowBack s row) :=
  Keeps.upd _ hK rfl rfl rfl

theorem State.rowLasting_keeps {s₀ : State} {s : State} (bank : Nat) (row : Nat) (hK : Keeps s₀ s) : Keeps s₀ (State.rowLasting s bank row).1 := by
  unfold State.rowLasting
  with_reducible repeat' ((try (fail_if_success fail_if_success conv => enter [2, 25]); refine Keeps.upd _ ?_ rfl rfl rfl); first
      | assumption | apply State.repair_keeps | apply State.sharedCheck_keeps | apply Keeps.iteFst)

theorem State.memErr_keeps {s₀ : State} {s : State} (user : Nat) (hK : Keeps s₀ s) : Keeps s₀ (State.memErr s user) := by
  unfold State.memErr
  with_reducible repeat' (first | assumption | apply State.raiseCounted_keeps)

theorem State.captureEcc_keeps {s₀ : State} {s : State} (p : Nat) (addr : Nat) (hK : Keeps s₀ s) : Keeps s₀ (State.captureEcc s p addr) := by
  unfold State.captureEcc
  with_reducible repeat' (first | assumption | apply State.modDk_keeps | apply Keeps.ite | (refine Keeps.foldl (fun _ _ _ => ?_) _ _ ?_))

theorem State.engineFault_keeps {s₀ : State} {s : State} (engine : Nat) (cause : Nat) (hK : Keeps s₀ s) : Keeps s₀ (State.engineFault s engine
    cause) := by
  unfold State.engineFault
  with_reducible repeat' (first | assumption | apply State.raise_keeps | apply Keeps.logErr)

/-! ### Startup -/

theorem State.endStart_keeps {s₀ : State} {s : State} (hK : Keeps s₀ s) : Keeps s₀ (State.endStart s) := by
  unfold State.endStart
  with_reducible repeat' ((try (fail_if_success fail_if_success conv => enter [2, 25]); refine Keeps.upd _ ?_ rfl rfl rfl); first
      | assumption | apply Keeps.refreshAuth | apply State.raise_keeps | apply Keeps.raiseW | apply State.enterSynth_keeps | apply Keeps.ite
      | (refine Keeps.foldl (fun _ _ _ => ?_) _ _ ?_))

theorem State.raiseLevel_keeps {s₀ : State} {s : State} (level : Nat) (info : StartInfo) (hK : Keeps s₀ s) : Keeps s₀ (State.raiseLevel s level
    info) := by
  unfold State.raiseLevel
  with_reducible repeat' ((try (fail_if_success fail_if_success conv => enter [2, 25]); refine Keeps.upd _ ?_ rfl rfl rfl); first
      | assumption | apply State.deadRun_keeps | apply Keeps.ite)

theorem State.leaveDeadSink_keeps {s₀ : State} {s : State} (p : Fin 4) (hK : Keeps s₀ s) : Keeps s₀ (State.leaveDeadSink s p) := by
  unfold State.leaveDeadSink
  with_reducible repeat' ((try (fail_if_success fail_if_success conv => enter [2, 25]); refine Keeps.upd _ ?_ rfl rfl rfl); first
      | assumption | apply State.raiseOrHold_keeps | apply State.portAfresh_keeps | apply State.enterSnk_keeps | apply Keeps.ite
      | (refine Keeps.foldl (fun _ _ _ => ?_) _ _ ?_))

theorem State.flushLog_keeps {s₀ : State} {s : State} (hK : Keeps s₀ s) : Keeps s₀ (State.flushLog s) := by
  unfold State.flushLog
  with_reducible repeat' ((try (fail_if_success fail_if_success conv => enter [2, 25]); refine Keeps.upd _ ?_ rfl rfl rfl); first
      | assumption | apply State.plogAdd_keeps | (refine Keeps.foldl (fun _ _ _ => ?_) _ _ ?_))

theorem State.watchdog_keeps {s₀ : State} {s : State} (engine : Nat) (hK : Keeps s₀ s) : Keeps s₀ (State.watchdog s engine) := by
  unfold State.watchdog
  with_reducible repeat' ((try (fail_if_success fail_if_success conv => enter [2, 25]); refine Keeps.upd _ ?_ rfl rfl rfl); first
      | assumption | apply State.engineFault_keeps | apply Keeps.ite)

theorem State.enterBivouac_keeps {s₀ : State} {s : State} (hK : Keeps s₀ s) : Keeps s₀ (State.enterBivouac s) := by
  unfold State.enterBivouac
  with_reducible repeat' ((try (fail_if_success fail_if_success conv => enter [2, 25]); refine Keeps.upd _ ?_ rfl rfl rfl); first
      | assumption | apply State.treeDown_keeps | apply State.raise_keeps | apply State.leaveAttach_keeps | apply State.domainOff_keeps
      | apply State.emptyFabric_keeps | apply Keeps.ite | (refine Keeps.foldl (fun _ _ _ => ?_) _ _ ?_) | dsimp only)

theorem State.afterAnswer_keeps {s₀ : State} {s : State} (info : StartInfo) (hK : Keeps s₀ s) : Keeps s₀ (State.afterAnswer s info) := by
  unfold State.afterAnswer
  with_reducible repeat' ((try (fail_if_success fail_if_success conv => enter [2, 25]); refine Keeps.upd _ ?_ rfl rfl rfl); first
      | assumption | apply State.startNext_keeps | apply State.restartBegin_keeps | apply State.warmReset_keeps | apply State.coldReset_keeps
      | apply State.activate_keeps | apply State.changeLifecycle_keeps | apply State.enterBivouac_keeps | split)

/-! ### Seconds -/

theorem State.intrSecond_keeps {s₀ : State} {s : State} (g : Nat) (n : Nat) (hK : Keeps s₀ s) : Keeps s₀ (State.intrSecond s g n) := by
  unfold State.intrSecond
  with_reducible repeat' (first | assumption | apply State.modNode_keeps | apply State.sendIntr_keeps | apply Keeps.ite)

theorem State.intrSeconds_keeps {s₀ : State} {s : State} (hK : Keeps s₀ s) : Keeps s₀ (State.intrSeconds s) := by
  unfold State.intrSeconds
  with_reducible repeat' (first | assumption | apply State.intrSecond_keeps | (refine Keeps.foldl (fun _ _ _ => ?_) _ _ ?_))

end Sys2Proof.Machine
end

