-- ==== Sys2Proof/Machine/Pins.lean ====
section
/-!
DEFINITION. Output balls as functions of State: regulator enables (R580), gates and FEED_WARN (R440, R443, R449, R576), the converter settings
of the desk ports (R589), HOST_IRQ_N (R50) and the TRIG outputs (R591).
-/

namespace Sys2Proof.Machine

/-- Rails whose regulators the hub enables (R580). -/
inductive Rail where
  | core
  | sram
  | ser
  | mem
  | io
  deriving DecidableEq, Repr

/-- Some domain whose bit lies in a list is on. -/
def State.anyDomain (s : State) (ds : List Nat) : Bool := ds.any s.domOn

/-- REG_EN_x: CORE and SRAM are enabled with the first domain that takes them, IO with DOM_MGMT or DOM_ETH, MEM with DOM_MEM, and SER while
any domain that needs it is on; in Bivouac SER and IO are off (R580, R581). -/
def State.regEn (s : State) : Rail → Bool
  | .core => s.anyDomain [1, 2, 3, 4, 5, 6, 7, 8, 9, 10, 11, 12, 13]
  | .sram => s.anyDomain [1, 2, 4]
  | .ser => s.sys.stage != .bivouac && s.sys.start != 1 && s.anyDomain [5, 6, 7, 8, 9, 10, 11, 12]
  | .mem => s.domOn 3
  | .io => s.sys.stage != .bivouac && s.anyDomain [1, 2, 11]

/-- FEED_A_GATE or FEED_B_GATE is driven (R440, R441). -/
def State.feedGate (s : State) (f : Fin 2) : Bool := (s.fd f).gate

/-- FEED_WARN (R443). -/
def State.feedWarnPin (s : State) : Bool := s.pwr.warn

/-- Ln_GATE is driven (R444, R449). -/
def State.portGate (s : State) (n : Fin 16) : Bool := (s.lp n.val).driven

/-- HOST_IRQ_N is pulled low (R50). -/
def State.hostIrqLow (s : State) : Bool := s.domOn 2 && s.hostIrq

/-- Duty of a PWM of 12 bits for a part of its full scale (R589). -/
def duty12 (value full : Nat) : Nat := Nat.min 4095 (value * 4096 / full)

/-- Cn_VBUS_GATE (R589). -/
def State.vbusGate (s : State) (p : Fin 4) : Bool := s.desk.port[p.val].vbusOn

/-- Duty of Cn_VSET before its trim: 30.0 V is full scale, and a source without a contract gives 5 V (R358, R589). -/
def State.vsetDuty (s : State) (p : Fin 4) : Nat :=
  let x := s.desk.port[p.val]
  if x.vbusOn then duty12 ((x.contract.map (·.mv)).getD 5000) 30000 else 0

/-- Duty of Cn_ISET: 6.0 A is full scale (R589). -/
def State.isetDuty (s : State) (p : Fin 4) : Nat :=
  let x := s.desk.port[p.val]
  if x.vbusOn then duty12 ((x.contract.map (·.ma)).getD 3000) 6000 else 0

/-- A TRIG output drives this level: IDLE until action 6 sets it (R98, R591). -/
def State.trigOut (s : State) (n : Fin 8) : Option Bool :=
  let t := s.trig[n.val]
  if t.output then some (if t.driven then t.level else t.idle) else none

end Sys2Proof.Machine
end

