-- ==== Sys2Proof/Tests/Slice0.lean ====
section
/-!
SUPPORT. Tests of the model: the smoke test of WellFormed, and states that meet the hypotheses of the statements.
-/

namespace Sys2Proof.Tests

open Sys2Proof Sys2Proof.Machine

set_option maxRecDepth 10000

/-- A hub that runs, every domain on. -/
def onHub : State :=
  { State.reset with sys.domains := Vector.replicate 14 true, sys.stage := .running, vault.records := [{ state := .deployed }],
                     mbx.boxes := Vector.replicate 38 { st := .idle, auth := .owner } }

/-- A request of MGMT_SPI. -/
def req (op : Nat) (data : List Word := []) : Waiting := { src := .win 0, opcode := op, len := 4 * data.length, data := data }

/-- A hub that runs a command. -/
def withCmdData (op : Nat) (data : List Word) : State := { onHub with mbx.running := some { req := req op data } }

/-- A hub that runs a command without request data. -/
def withCmd (op : Nat) : State := withCmdData op []

/-- A mailbox tunnel that is open. -/
def mailTun : Tunnel := { idx := 1, st := .up, p := { cls := 1 } }

/-- A hub with one tunnel. -/
def withTun (t : Tunnel) : State := { onHub with tun.table := [t] }

/-- A ROOT that runs, in ACQUIRE. -/
def edgeHub : State := { onHub with sys.role := .root, sys.hubId := 1, topo.join := .joined }

/-- A ZONE hub with its upstream link on T0. -/
def childHub : State :=
  { onHub with sys.role := .zone, sys.hubId := 2, topo.upstream := some 0, trunk := Vector.replicate 4 { st := .active } }

/-- A hub in LOCKED that runs a command. -/
def lockedCmd (op : Nat) (data : List Word) : State := { withCmdData op data with phase.st := .locked, sys.role := .zone }

/-- What PHASE.ARM arms in a first entry. -/
def firstEntry : SchedEntry := { base := 0, action := 0, inst := 16, left := some 1, armer := some (.win 0) }

/-- The hub with `firstEntry` armed, and the entry. -/
def armedPair : State × SchedEntry := ((lockedCmd 0x1010 [0, 0, 0, 0, 1]).armEntry firstEntry).getD (onHub, {})

/-- The hub with `firstEntry` armed. -/
def armed : State := armedPair.1

/-- The entry armed. -/
def armedEntry : SchedEntry := armedPair.2

/-- A hub whose TRIG pins have seen an edge just now and `n` rejections. -/
def trigHub (n : Nat) (ign : Bool) : State :=
  { onHub with trig := Vector.replicate 8 { lastEdge := some 0, winRej := n, ignored := ign } }

/-- A hub whose trunk ports are all alike. -/
def trunkHub (t : TrunkPort) : State := { onHub with trunk := Vector.replicate 4 t }

/-- A head of a ring on T0 and T1. -/
def ringHub : State := { onHub with sys.hubId := 5, ring := Vector.replicate 2 { on := true }, trunk := Vector.replicate 4 { cfg.ring := true } }

/-- A hub with one forwarding entry, of TUNNEL 1, whose tunnel queue is closed. -/
def entryHub (e : FwdEntry) : State :=
  { onHub with fwd.entries := [{ e with tunnel := 1 }], fwd.queues := [{ key := { egress := 0, tunQ := true, id := 0 }, closed := true }] }

/-- A joined ROOT that runs a command. -/
def joinedCmd (op : Nat) (data : List Word) : State := { withCmdData op data with sys.role := .root, sys.hubId := 1 }

/-- Words of TUN.OPEN: a mailbox tunnel to hub 2. -/
def openWords : List Word := [0x20000000, 0x00020000, 0, 0, 0, 0]

/-- What TUN.OPEN takes of the tunnel table. -/
def opened : State × Nat :=
  ((joinedCmd 0x2101 openWords).openTun { readOpen openWords 0 with
      cir := (clampRates 1 (readOpen openWords 0).cir (readOpen openWords 0).pir (readOpen openWords 0).cbs (readOpen openWords 0).pbs).1.cir
      pir := (clampRates 1 (readOpen openWords 0).cir (readOpen openWords 0).pir (readOpen openWords 0).cbs (readOpen openWords 0).pbs).1.pir
      cbs := (clampRates 1 (readOpen openWords 0).cir (readOpen openWords 0).pir (readOpen openWords 0).cbs (readOpen openWords 0).pbs).1.cbs
      pbs := (clampRates 1 (readOpen openWords 0).cir (readOpen openWords 0).pir (readOpen openWords 0).cbs (readOpen openWords 0).pbs).1.pbs }
    (some (.win 0))).getD (onHub, 0)

/-- A hub that can sign, with a tunnel about to be admitted. -/
def signHub : State := { withTun { idx := 1, st := .opening, eph := some 0 } with vault.slots := Vector.replicate 96 { st := .valid, tagOk := true } }

/-- A hub that has a trust anchor. -/
def trust (s : State) : State := { s with vault.slots := Vector.replicate 96 { st := .valid, tagOk := true } }

/-- A ROOT whose image gives its protocol version as 5. -/
def joinRoot : State := { edgeHub with upd.running := [{ id := 2, jv := 5 }] }

/-- A certificate of hub 9 that passes every check while time is unset. -/
def goodCert : Cert := { len := 4, hub := 9, parses := true, sigs := true, anchored := true, usage := true }

/-- A request of a peer. -/
def peerReq (op : Nat) (data : List Word) : Waiting := { src := .peer 1 0, opcode := op, len := 4 * data.length, data := data }

/-- A hub that runs a request of a peer. -/
def peerCmd (op : Nat) (data : List Word) : State := { onHub with mbx.running := some { req := peerReq op data } }

/-- A hub with one tunnel that runs a command. -/
def tunCmd (op : Nat) (data : List Word) (t : Tunnel) : State := { withCmdData op data with tun.table := [t] }

/-- A ROOT with one hub in its tree that runs TUN.ADMIT. -/
def admitHub : State := { joinedCmd 0x2140 openWords with topo.hubs := [{ hub := 2, parent := 1 }] }

/-- A hub whose lighting segments are all alike. -/
def lightHub (x : Segment) : State := { onHub with light.seg := Vector.replicate 16 x }

/-- A hub whose lighting ports are all alike. -/
def portHub (x : LightPower) : State := { onHub with pwr.lp := Vector.replicate 16 x }

/-- A hub whose bridge windows are all alike. -/
def winHub (w : Window) : State := { onHub with bridge.windows := Vector.replicate 256 w }

/-- A hub with one endpoint, 5, of an admitted node. -/
def epHub : State :=
  { onHub with light.seg := Vector.replicate 16 { st := .run, nodes := Vector.replicate 32 { st := .admitted, eps := [{ id := 5 }] } } }

/-- A command of PCIe function 0 that runs. -/
def fnReq (op : Nat) (data : List Word) : Waiting := { src := .win 6, opcode := op, len := 4 * data.length, data := data }

/-- A hub that runs it. -/
def fnCmd (op : Nat) (data : List Word) : State := { onHub with mbx.running := some { req := fnReq op data } }

/-- A hub with a display target on D1. -/
def dispHub : State := { onHub with disp.head := modAt (Vector.replicate 2 {}) 1 fun x => { x with targets := [{ tun := 3 }] } }

/-- No window is valid at reset. -/
theorem reset_window (f w : Nat) : (State.reset.window f w).valid = false := by
  have h : State.reset.bridge.windows = Vector.replicate 256 {} := rfl
  simp only [State.window, h, Vector.getD, Array.getD]
  split <;> simp

/-- A hub whose desk ports are all alike. -/
def deskHub (x : DeskPort) : State := { onHub with desk.port := Vector.replicate 4 x }

/-- No desk port waits to be offered again at reset. -/
theorem reset_reoffer (p : Nat) : (State.reset.dk p).reoffer = false := by
  have h : State.reset.desk.port = Vector.replicate 4 {} := rfl
  simp only [State.dk, h, Vector.getD, Array.getD]
  split <;> simp

/-- A hub with one mapped port, the last of C3. -/
def deskMap (m : Mapped) : State :=
  { onHub with desk.port := modAt (Vector.replicate 4 {}) 3 fun x => { x with mapped := modAt (Vector.replicate 6 {}) 5 fun _ => m } }

/-- A hub whose desk ports are PERIPHERAL and attached as DFP. -/
def periphHub : State := deskHub { st := .attachedSrc, dfp := true, data.peripheral := true }

/-- No port of `periphHub` is mapped. -/
theorem periph_maps (q k : Nat) : ((periphHub.dk q).mp k).map.kind = 0 := by
  have h : periphHub.desk.port = Vector.replicate 4 { st := .attachedSrc, dfp := true, data.peripheral := true } := rfl
  simp only [State.dk, h, DeskPort.mp, Vector.getD, Array.getD]
  split <;> split <;> simp

/-- A hub whose functions are storage functions with an I/O queue 65535. -/
def storHub (x : StorFn) : State :=
  { onHub with stor.func := Vector.replicate 32 { storage := true }, stor.fn := Vector.replicate 32 { x with queues := [(1, 65535, 0)] } }

/-- A hub whose functions are storage functions that wait for nothing. -/
def flrHub : State := { onHub with stor.func := Vector.replicate 32 { storage := true } }

/-- A hub whose PCIe ports are root ports with drives in one state. -/
def driveHub (d : DriveState) : State := { onHub with stor.port := Vector.replicate 2 { cfg.mode := 1, drive.st := d } }

/-- A hub whose Ethernet ports are all alike. -/
def ethHub (x : EthPort) : State := { onHub with eth.port := Vector.replicate 4 x }

/-- Words of a package of 1,028 bytes with an empty configuration image (R493). -/
def packageBlocks : List (Nat × Word) :=
  [(0, 0x50554857), (1, 0x00020101), (4, 6), (6, 0x00040000)] ++ List.replicate 253 (1000, 0)

/-- A hub whose session holds that package. -/
def packageHub : State := { withCmd 0x7812 with upd.session := .opened, upd.total := 1028, upd.blocks := packageBlocks }

/-- The package passes the checks of a commit. -/
theorem package_passes : (packageHub.checkSlot 2).commitCode true true true (BitVec.toNat (0 : Byte)) = 0 := by decide

/-- A hub in a trial. -/
def trialHub : State := { onHub with upd.boot := Vector.replicate 2 { trial := true }, upd.health := some 29 }

/-! ### WellFormed refuses an ill-formed term of each check -/

/-- A keyshare. -/
def aShare : List Word := List.replicate 49 0

/-- Facts of boot flash that name a key slot that does not exist. -/
def badInfo : StartInfo := { badKeys := [72] }

/-- Operands that hold the facts of boot flash. -/
theorem test_wf_info : [Instr.commandFinish badInfo, .domAonStart true badInfo, .startupTimeout badInfo, .deadFeedFeedGood badInfo,
    .resetNRelease badInfo, .warmStart 0 badInfo, .vcWatchdogExpiry badInfo, .domainPgLoss 0 badInfo, .healthTimerExpiry badInfo,
    .pdPartnerAnswer 0 .prSwap .accept badInfo, .deadFeedAdvertisement 0 .dflt badInfo,
    .commandFinish { copyFails := 4 }].all (fun i => !i.wf) = true := by decide

/-- Offsets and PDUs. -/
theorem test_wf_mailbox : [Instr.registerWrite 0 2 0, .registerWrite 0 16384 0,
    .pciePartialWindowAccess 6 true 3 0 0, .pciePartialWindowAccess 6 true 16384 0 0,
    .peerCommandPdu 1048576 0 0 0 0 []].all (fun i => !i.wf) = true := by decide

/-- Cells and payloads. -/
theorem test_wf_cells : [Instr.cellReceive 0 { payload := List.replicate 225 0 } 0 0 0 false, .tunnelCellReceive { payload := List.replicate 225 0 } none true,
    .dataCellOffer 0 true 0 true true (List.replicate 225 0), .displayCellReceive 0 (List.replicate 225 0)].all (fun i => !i.wf) = true := by decide

/-- Certificates, keyshares and places. -/
theorem test_wf_certs : [Instr.joinRequest none 0 0 0 0 { len := 4 } ⟨aShare, true⟩ {}, .joinRequest none 0 0 0 0 { hub := 65536 } ⟨aShare, true⟩ {},
    .joinRequest none 0 0 0 0 {} ⟨aShare, true⟩ { parent := 65536 }, .joinRequest none 0 0 0 0 {} ⟨aShare, true⟩ { parentPort := 4 },
    .joinRequest none 0 0 0 0 {} ⟨aShare, true⟩ { pos := 64 }, .joinRequest none 0 0 0 0 {} ⟨[0], true⟩ {},
    .joinReply none 0 none 0 0 0 ⟨{ notBefore := 18446744073709551616 }, aShare, true⟩, .joinReply none 0 none 0 0 0 ⟨{}, [], true⟩,
    .tunOffer { notAfter := 18446744073709551616 } true, .tunResult { len := 65536 } true, .keyCertSet { len := 1 },
    .tunAdmit [(65536, false)], .tunOfferAnswer 0 0 0 [0]].all (fun i => !i.wf) = true := by decide

/-- What this file forms is well formed where nothing is wrong. -/
theorem test_wf_good : [Instr.joinRequest none 0 0 0 0 {} ⟨aShare, true⟩ {}, .joinReply none 0 none 0 0 0 ⟨{}, aShare, true⟩, .tunOfferAnswer 0 0 0 aShare,
    .tunOfferAnswer 0 0 0 [], .tunAdmit [(65535, true)], .registerWrite 0 16380 0].all (·.wf) = true := by decide

/-- Times, schedules and PTP messages. -/
theorem test_wf_times : [Instr.guylineSync 0 0 0 0 0 0 ⟨18446744073709551616, 0⟩ 0, .guylineDelayResponse 0 18446744073709551616, .schedulerFire 1024 [],
    .schedulerFire 0 (List.replicate 17 (0, 0)), .ptpMessageReceive 0 0 (.sync 18446744073709551616 0 false 0 0),
    .ptpMessageReceive 0 0 (.announce { prio1 := 256 }), .ptpMessageReceive 0 0 (.announce { prio2 := 256 }),
    .ptpMessageReceive 0 0 (.announce { cls := 256 }), .ptpMessageReceive 0 0 (.announce { identity := 18446744073709551616 }),
    .linkRateReport 0 0 4294967296 false].all (fun i => !i.wf) = true := by decide

/-- Lighting, the directory and bridges. -/
theorem test_wf_lighting : [Instr.statusFrameReceive 0 true true 0 0 0 0 0 0 0 (List.replicate 5 0), .dirReport (some (0, 0, List.replicate 1023 0)),
    .bar2Write 0 0 (List.replicate 1025 (0, 0)), .bridgeRead (.fn 0) 0 0 0 0 0 0 (some (List.replicate 1025 0)),
    .bridgeWrite (.fn 0) true 0 0 0 0 (List.replicate 1025 0) true, .bridgeAnswer none 0 0 0 0 0 (List.replicate 1025 0)].all (fun i => !i.wf) = true := by decide

/-- Displays and desk ports. -/
theorem test_wf_desk : [Instr.dispHpdHigh 0 [[]], .pdRequest 0 0 65536 0, .pdRequest 0 0 0 65536, .deskStatus 65536 0, .deskStatus 0 65536,
    .dpSinkTraining 0 0 0 (some (65536, 0, 0, true)), .dpSinkTraining 0 0 0 (some (0, 65536, 0, true)), .captureFrameComplete 0 [(65536, [])],
    .usbLaptopTransaction 0 0 true true (List.replicate 1025 0),
    .sourceCapsReceive 0 true 65536].all (fun i => !i.wf) = true := by decide

/-- Storage, Ethernet, power and update. -/
theorem test_wf_units : [Instr.driveLinkUp 0 0 0 (some { used := 256 }), .driveLinkUp 0 0 0 (some { warning := 256 }),
    .driveLinkUp 0 0 0 (some { ns := List.replicate 1025 {} }), .feedSample 65536 0 0, .feedSample 0 65536 0,
    .feedSample 0 0 65536, .portPowerTick 0 65536 0 true true, .meterSample [], .updLease (some (List.replicate 1023 0))].all (fun i => !i.wf) = true := by decide

/-- A frame, a packet and storage data that are too long. -/
theorem test_wf_long (f : List Byte) (d : List Word) (hf : f.length = 9601) (hd : d.length = 32769) :
    (Instr.ethFrameReceive (.port 0 true) f).wf = false ∧ (Instr.usbTunnelPacket 0 0 f).wf = false ∧
    (Instr.storageCompletion (.drive none) 0 0 d).wf = false ∧ (Instr.storagePduRequest 0 0 0 0 0 0 d).wf = false ∧
    (Instr.nvmeCommandFetch 0 0 0 0 0 0 0 0 0 d).wf = false ∧ (Instr.peerCommandPdu 0 0 0 0 0 d).wf = false := by
  have h : ∀ {α : Type} (xs : List α) (m n : Nat), xs.length = n → m < n → decide (xs.length ≤ m) = false := by
    intro α xs m n h; simp only [h, decide_eq_false_iff_not]; omega
  exact ⟨h f 9600 _ hf (by decide), h f 4096 _ hf (by decide), h d 32768 _ hd (by decide), h d 32768 _ hd (by decide), h d 32768 _ hd (by decide),
    h d 1022 _ hd (by decide)⟩

/-- The bound that `Instr.wf` puts on the address of an LPDDR5X error: no board has this byte. -/
theorem test_wf_lpddr : ¬ 1099511627776 < Config.memMiB * 1048576 := by
  have := Config.memGiB.isLt
  unfold Config.memMiB
  omega

/-- States and operands that meet the hypotheses of `Obligations.StepTakesTheFrontCommand`, clause by clause. -/
theorem wit_StepTakesTheFrontCommand :
    (∃ (c : Instr) (r : List Instr) (s : State), s.pending = c :: r) ∧
    (∃ (s : State), s.pending = []) := by
  exact ⟨⟨.sysStatus, [], { State.reset with pending := [.sysStatus] }, by decide⟩,
    ⟨State.reset, by decide⟩⟩

/-- States and operands that meet the hypotheses of `Obligations.EveryStepKeepsTheSafeStates`, clause by clause. -/
theorem wit_EveryStepKeepsTheSafeStates :
    (∃ (s : State) (t : State), s.Inv ∧ step s = .next t) := by
  exact ⟨State.reset, idleCycle State.reset, State.reset_inv, rfl⟩

/-- States and operands that meet the hypotheses of `Obligations.QueuesHoldTheirEntries`, clause by clause. -/
theorem wit_QueuesHoldTheirEntries :
    (∃ (m : Mailbox), m.Ok) ∧
    (∃ (m : Mailbox), m.Ok ∧ m.full = false ∧ m.lost = 0) ∧
    (∃ (box : Fin 38) (c : BitVec 16) (s : State), 256 < ((s.box box).prod + 65536 - c.toNat) % 65536) ∧
    (∃ (box : Fin 38) (c : BitVec 16) (s : State), s.windowOn box = true ∧ ((s.box box).prod + 65536 - c.toNat) % 65536 ≤ 256) := by
  exact ⟨⟨{}, Mailbox.reset_ok⟩,
    ⟨{ cons := 1, prod := 256 }, ⟨by decide, by decide, by decide, by decide, by decide⟩, by decide, by decide⟩,
    ⟨0, 1, State.reset, by decide⟩,
    ⟨0, 0, onHub, by decide⟩⟩

/-- States and operands that meet the hypotheses of `Obligations.LostEventsAreReported`, clause by clause. -/
theorem wit_LostEventsAreReported :
    (∃ (m : Mailbox), m.full = true) ∧
    (∃ (m : Mailbox), m.full = false ∧ m.lost ≠ 0) ∧
    (∃ (m : Mailbox) (st : Stamp), (m.flushLost st).full = false) ∧
    (∃ (box : Fin 38) (c : BitVec 16) (s : State), s.windowOn box = true ∧ (s.box box).lost ≠ 0 ∧ ((s.box box).prod + 65536 - c.toNat) % 65536 < 256) := by
  exact ⟨⟨{ prod := 256 }, by decide⟩,
    ⟨{ lost := 3 }, by decide⟩,
    ⟨{ lost := 3 }, 0, by decide⟩,
    ⟨0, 1, onHub.modBox 0 fun m => { m with prod := 256, lost := 3 }, by decide⟩⟩

/-- States and operands that meet the hypotheses of `Obligations.EventsReachTheMailboxesBoundForThem`, clause by clause. -/
theorem wit_EventsReachTheMailboxesBoundForThem :
    (∃ (s : State), s.mbx.restart = false) ∧
    (∃ (m : Mailbox), m.used ≤ 1) ∧
    (∃ (m : Mailbox) (a : EvEntry) (b : EvEntry), m.used = 2 ∧ m.slot ((m.prod + 65534) % 65536 % 256) = some b ∧ m.slot ((m.prod + 65535) % 65536 % 256) = some a ∧ a.stamp = b.stamp ∧ a.event < b.event) ∧
    (∃ (s : State), s.mbx.restart = true ∧ s.mbx.heldEvents.length < 64) ∧
    (∃ (s : State), s.mbx.restart = true ∧ 64 ≤ s.mbx.heldEvents.length) := by
  exact ⟨⟨onHub, by decide⟩,
    ⟨{}, by decide⟩,
    ⟨({} : Mailbox).entry 5 0 7 |>.entry 4 0 7, { seq := 1, event := 4, data := 0, stamp := 7 }, { seq := 0, event := 5, data := 0, stamp := 7 }, by decide⟩,
    ⟨{ onHub with mbx.restart := true }, by decide⟩,
    ⟨{ onHub with mbx.restart := true, mbx.heldEvents := List.replicate 64 {} }, by decide⟩⟩

/-- States and operands that meet the hypotheses of `Obligations.RequestsAreCheckedInOrder`, clause by clause. -/
theorem wit_RequestsAreCheckedInOrder :
    (∃ (s : State) (r : Waiting), s.mbx.running = none ∧ s.mbx.restart = false ∧ s.mbx.waiting = [] ∧ opInfo r.opcode = none) ∧
    (∃ (s : State) (r : Waiting) (x : OpInfo) (c : Nat), s.mbx.running = none ∧ s.mbx.restart = false ∧ s.mbx.waiting = [] ∧ opInfo r.opcode = some x ∧ s.checkClass x r = some c) ∧
    (∃ (s : State) (r : Waiting) (x : OpInfo), s.mbx.running = none ∧ s.mbx.restart = false ∧ s.mbx.waiting = [] ∧ opInfo r.opcode = some x ∧ s.checkClass x r = none ∧ x.len.ok r = false) ∧
    (∃ (s : State) (r : Waiting) (x : OpInfo), s.mbx.running = none ∧ s.mbx.restart = false ∧ s.mbx.waiting = [] ∧ opInfo r.opcode = some x ∧ s.checkClass x r = none ∧ x.len.ok r = true ∧ s.upd.goldenRun = false ∧ s.sys.start ≠ 1) := by
  exact ⟨⟨onHub, req 0xFFFF, by decide⟩,
    ⟨onHub, req 0x2140, ⟨0x2140, [.pa], .exact 56⟩, 0x20, by decide⟩,
    ⟨onHub, req 0x0102, ⟨0x0102, [.o, .s], .exact 1⟩, by decide⟩,
    ⟨onHub, req 0x0101, ⟨0x0101, [.o, .t, .s], .exact 0⟩, by decide⟩⟩

/-- States and operands that meet the hypotheses of `Obligations.MemoryReadsWhatWasWritten`, clause by clause. -/
theorem wit_MemoryReadsWhatWasWritten :
    (∃ (s : State), Memory.wf s.dram = true) := by
  exact ⟨onHub, by decide⟩

/-- States and operands that meet the hypotheses of `Obligations.WindowWritesDoWhatTheirRegistersSay`, clause by clause. -/
theorem wit_WindowWritesDoWhatTheirRegistersSay :
    (∃ (i : Fin 38) (s : State), s.windowOn i = true ∧ ((s.box i).st = .idle ∨ (s.box i).st = .done)) ∧
    (∃ (i : Fin 38) (s : State), s.windowOn i = true ∧ ((s.box i).st = .busy ∨ (s.box i).st = .offline)) ∧
    (∃ (i : Fin 38) (s : State), s.windowOn i = false) ∧
    (∃ (o : Nat), o ≠ 0x2000 ∧ o ≠ 0x2014) ∧
    (∃ (i : Byte) (a : BitVec 16), ((i ≠ 0x02 ∧ i ≠ 0x0B) ∨ a.toNat % 4 ≠ 0)) ∧
    (∃ (i : Byte) (a : BitVec 16) (s : State), (i = 0x02 ∨ i = 0x0B) ∧ a.toNat % 4 = 0 ∧ s.windowOn 0 = false) ∧
    (∃ (a : BitVec 16) (s : State), a.toNat % 4 = 0 ∧ s.windowOn 0 = true) ∧
    (∃ (a : BitVec 16) (s : State), a.toNat % 4 = 0 ∧ s.windowOn 0 = true) ∧
    (∃ (box : Fin 38) (o : Nat) (e : BitVec 4) (s : State), 6 ≤ box.val ∧ o < 0x4000 ∧ o % 4 = 0 ∧ e ≠ 0xF ∧ s.windowOn box = true) ∧
    (∃ (box : Fin 38) (o : Nat) (s : State), 6 ≤ box.val ∧ o < 0x4000 ∧ o % 4 = 0 ∧ s.windowOn box = true) ∧
    (∃ (box : Fin 38) (o : Nat) (s : State), (box.val < 6 ∨ 0x4000 ≤ o ∨ o % 4 ≠ 0 ∨ s.windowOn box = false)) := by
  exact ⟨⟨0, onHub, by decide⟩,
    ⟨0, onHub.modBox 0 fun m => { m with st := .busy }, by decide⟩,
    ⟨1, onHub, by decide⟩,
    ⟨0x2008, by decide⟩,
    ⟨3, 0, by decide⟩,
    ⟨2, 0, State.reset, by decide⟩,
    ⟨8, onHub, by decide⟩,
    ⟨8, onHub, by decide⟩,
    ⟨6, 0x3FFC, 0, onHub, by decide⟩,
    ⟨6, 0x3FFC, onHub, by decide⟩,
    ⟨5, 0, onHub, by decide⟩⟩

/-- States and operands that meet the hypotheses of `Obligations.FramedAndPeerMailboxesTakeRequests`, clause by clause. -/
theorem wit_FramedAndPeerMailboxesTakeRequests :
    (∃ (box : Fin 38) (sk : List Byte) (hd : List Byte) (pl : List Byte) (cr : List Byte) (bytes : List Byte) (held : List Byte) (s : State), bytes = sk ++ hd ++ pl ++ cr ∧ s.frameOn box = true ∧ rxStep ((s.box box).rx ++ bytes) = .more held) ∧
    (∃ (box : Fin 38) (sk : List Byte) (hd : List Byte) (pl : List Byte) (cr : List Byte) (bytes : List Byte) (rest : List Byte) (s : State), bytes = sk ++ hd ++ pl ++ cr ∧ s.frameOn box = true ∧ rxStep ((s.box box).rx ++ bytes) = .bad rest) ∧
    (∃ (box : Fin 38) (sk : List Byte) (hd : List Byte) (pl : List Byte) (cr : List Byte) (bytes : List Byte) (payload : List Byte) (rest : List Byte) (s : State), bytes = sk ++ hd ++ pl ++ cr ∧ s.frameOn box = true ∧ rxStep ((s.box box).rx ++ bytes) = .good payload rest) ∧
    (∃ (box : Fin 38) (s : State), s.frameOn box = false) ∧
    (∃ (l0 : Byte) (l1 : Byte) (p : List Byte), p.length = l0.toNat + 256 * l1.toNat ∧ 8 ≤ p.length ∧ p.length ≤ 4096) ∧
    (∃ (ty : Byte) (l0 : Byte) (l1 : Byte) (c0 : Byte) (c1 : Byte) (p : List Byte), p.length = l0.toNat + 256 * l1.toNat ∧ 8 ≤ p.length ∧ p.length ≤ 4096 ∧ (ty ≠ 0x01 ∨ [c0, c1] ≠ [(crc16Frame (ty :: l0 :: l1 :: p)).extractLsb' 0 8, (crc16Frame (ty :: l0 :: l1 :: p)).extractLsb' 8 8])) ∧
    (∃ (l0 : Byte) (l1 : Byte), (l0.toNat + 256 * l1.toNat < 8 ∨ 4096 < l0.toNat + 256 * l1.toNat)) ∧
    (∃ (box : Fin 38) (s : State), s.frameOn box = true ∧ (s.box box).rx ≠ []) ∧
    (∃ (box : Fin 38) (s : State), (s.frameOn box = false ∨ (s.box box).rx = [])) ∧
    (∃ (box : Fin 38) (e : EvEntry) (s : State), s.frameOn box = true ∧ (s.box box).prod ≠ (s.box box).cons ∧ (s.box box).slot ((s.box box).cons % 256) = some e) ∧
    (∃ (box : Fin 38) (s : State), (s.frameOn box = false ∨ (s.box box).prod = (s.box box).cons)) := by
  exact ⟨⟨1, [0], [0xA5, 1], [], [], [0, 0xA5, 1], [0xA5, 1], onHub, by decide⟩,
    ⟨1, [], [0xA5, 1, 7, 0], [9], [], [0xA5, 1, 7, 0, 9], [9], onHub, by decide⟩,
    ⟨1, [], frameBytes 1 [0, 0], [], [], frameBytes 1 [0, 0], [0, 0, 0, 0, 0, 0, 0, 0], [], onHub, by decide⟩,
    ⟨0, onHub, by decide⟩,
    ⟨8, 0, List.replicate 8 0, by decide⟩,
    ⟨2, 8, 0, 0, 0, List.replicate 8 0, by decide⟩,
    ⟨7, 0, by decide⟩,
    ⟨1, onHub.modBox 1 fun m => { m with rx := [0xA5] }, by decide⟩,
    ⟨1, onHub, by decide⟩,
    ⟨1, { seq := 0, event := 4, data := 0, stamp := 0 }, onHub.modBox 1 fun m => m.entry 4 0 0, by decide⟩,
    ⟨1, onHub, by decide⟩⟩

/-- States and operands that meet the hypotheses of `Obligations.SystemReportsHaveTheirWords`, clause by clause. -/
theorem wit_SystemReportsHaveTheirWords :
    (∃ (s : State) (r : Waiting), s.runningOp 0x0101 = some r) ∧
    (∃ (s : State) (r : Waiting), s.runningOp 0x0103 = some r) ∧
    (∃ (s : State) (r : Waiting), s.runningOp 0x0110 = some r) ∧
    (∃ (s : State) (r : Waiting), s.runningOp 0x0120 = some r ∧ r.f 0 7 0 ≠ 0) ∧
    (∃ (s : State) (r : Waiting) (m : Nat), s.runningOp 0x0120 = some r ∧ r.f 0 7 0 = 0 ∧ s.mbx.svcWindow = some m) ∧
    (∃ (s : State) (r : Waiting), s.runningOp 0x0120 = some r ∧ r.f 0 7 0 = 0 ∧ s.mbx.svcWindow = none) ∧
    (∃ (s : State), s.mbx.svcWindow = none) ∧
    (∃ (s : State) (m : Nat), s.mbx.svcWindow = some m) ∧
    (∃ (s : State) (r : Waiting), s.runningOp 0x0210 = some r) ∧
    (∃ (s : State) (r : Waiting) (i : Fin 38), s.runningOp 0x0301 = some r ∧ r.src = .win i) := by
  exact ⟨⟨withCmd 0x0101, req 0x0101, by decide⟩,
    ⟨withCmd 0x0103, req 0x0103, by decide⟩,
    ⟨withCmd 0x0110, req 0x0110, by decide⟩,
    ⟨withCmdData 0x0120 [241], req 0x0120 [241], by decide⟩,
    ⟨{ withCmdData 0x0120 [0] with mbx.svcWindow := some 240 }, req 0x0120 [0], 240, by decide⟩,
    ⟨withCmdData 0x0120 [0], req 0x0120 [0], by decide⟩,
    ⟨onHub, by decide⟩,
    ⟨{ onHub with mbx.svcWindow := some 1 }, 1, by decide⟩,
    ⟨withCmd 0x0210, req 0x0210, by decide⟩,
    ⟨withCmdData 0x0301 [], req 0x0301 [], 0, by decide⟩⟩

/-- States and operands that meet the hypotheses of `Obligations.MainsEdgesAndTheirTimeoutsMovePhase`, clause by clause. -/
theorem wit_MainsEdgesAndTheirTimeoutsMovePhase :
    (∃ (s : State), (s.sys.stage = .off ∨ (s.isRoot && s.phase.cfg.synthEn) = true)) ∧
    (∃ (s : State) (e : Nat) (hz : Nat), s.sys.stage ≠ .off ∧ (s.isRoot && s.phase.cfg.synthEn) = false ∧ s.phase.lastEdge = some e ∧ s.nominalHz = some hz ∧ (hz = 50 ∨ hz = 60) ∧ (s.time.clock - e) * (4 * hz) < secT ∧ (s.phase.winRej ≠ 8 ∨ s.phase.noisy = true)) ∧
    (∃ (s : State) (e : Nat), s.sys.stage ≠ .off ∧ (s.isRoot && s.phase.cfg.synthEn) = false ∧ s.phase.lastEdge = some e ∧ s.nominalHz = none ∧ (s.time.clock - e) * 264 < secT ∧ s.phase.winRej = 8 ∧ s.phase.noisy = false) ∧
    (∃ (s : State), s.sys.stage ≠ .off ∧ (s.isRoot && s.phase.cfg.synthEn) = false ∧ s.phase.lastEdge = none) ∧
    (∃ (s : State) (e : Nat), s.sys.stage ≠ .off ∧ (s.isRoot && s.phase.cfg.synthEn) = false ∧ s.phase.lastEdge = some e ∧ secT ≤ (s.time.clock - e) * 200) ∧
    (∃ (s : State), s.isRoot = true ∧ s.phase.cfg.synthEn = false ∧ s.phase.st = .locked) ∧
    (∃ (s : State), s.isRoot = true ∧ s.phase.cfg.synthEn = true) ∧
    (∃ (s : State), s.isRoot = false) ∧
    (∃ (s : State), s.phase.noisy = true ∧ s.phase.winRej ≤ 8) ∧
    (∃ (s : State), (s.phase.noisy = false ∨ 8 < s.phase.winRej)) ∧
    (∃ (s : State), s.isRoot = true ∧ s.phase.st = .acquire) ∧
    (∃ (s : State), (s.isRoot = false ∨ s.phase.st ≠ .acquire)) ∧
    (∃ (s : State), s.isRoot = true ∧ s.phase.pulling = true ∧ s.phase.mainsOk = true ∧ 16 ≤ s.phase.nearRun) ∧
    (∃ (s : State), (s.isRoot = false ∨ s.phase.pulling = false ∨ s.phase.mainsOk = false ∨ s.phase.nearRun < 16)) := by
  exact ⟨⟨State.reset, by decide⟩,
    ⟨{ edgeHub with phase.lastEdge := some 0, phase.cfg.nominal := 2, phase.winRej := 7 }, 0, 60, by decide⟩,
    ⟨{ edgeHub with phase.lastEdge := some 0, phase.winRej := 8 }, 0, by decide⟩,
    ⟨{ edgeHub with phase.noisy := true }, by decide⟩,
    ⟨{ edgeHub with phase.lastEdge := some 0, time.clock := secT }, 0, by decide⟩,
    ⟨{ edgeHub with phase.st := .locked }, by decide⟩,
    ⟨{ edgeHub with phase.cfg.synthEn := true }, by decide⟩,
    ⟨childHub, by decide⟩,
    ⟨{ edgeHub with phase.noisy := true, phase.winRej := 8 }, by decide⟩,
    ⟨edgeHub, by decide⟩,
    ⟨edgeHub, by decide⟩,
    ⟨childHub, by decide⟩,
    ⟨{ edgeHub with phase.pulling := true, phase.mainsOk := true, phase.nearRun := 16 }, by decide⟩,
    ⟨childHub, by decide⟩⟩

/-- States and operands that meet the hypotheses of `Obligations.GuylineMessagesCarryTimeAndPhase`, clause by clause. -/
theorem wit_GuylineMessagesCarryTimeAndPhase :
    (∃ (s : State) (p : Fin 4), s.guylineSends = true ∧ s.guylineDown p = true) ∧
    (∃ (s : State) (p : Fin 4), (s.guylineSends = false ∨ s.guylineDown p = false)) ∧
    (∃ (s : State) (p : Fin 4), s.guylineUp p = true) ∧
    (∃ (s : State) (p : Fin 4), s.guylineUp p = false) ∧
    (∃ (s : State) (p : Fin 4), s.guylineUp p = false) ∧
    (∃ (s : State) (p : Fin 4), s.guylineUp p = true ∧ s.phase.st = .acquire) ∧
    (∃ (s : State), s.isRoot = false ∧ s.phase.st ≠ .acquire ∧ s.phase.lossReported = false) ∧
    (∃ (s : State), (s.isRoot = true ∨ s.phase.st = .acquire ∨ s.phase.lossReported = true)) := by
  exact ⟨⟨{ edgeHub with phase.st := .locked, trunk := Vector.replicate 4 { st := .active } }, 0, by decide⟩,
    ⟨childHub, 0, by decide⟩,
    ⟨childHub, 0, by decide⟩,
    ⟨childHub, 1, by decide⟩,
    ⟨childHub, 1, by decide⟩,
    ⟨childHub, 0, by decide⟩,
    ⟨{ childHub with phase.st := .locked }, by decide⟩,
    ⟨childHub, by decide⟩⟩

/-- States and operands that meet the hypotheses of `Obligations.PhaseAndTimeCommandsAnswer`, clause by clause. -/
theorem wit_PhaseAndTimeCommandsAnswer :
    (∃ (s : State) (r : Waiting), s.runningOp 0x1001 = some r) ∧
    (∃ (s : State) (r : Waiting), s.runningOp 0x1101 = some r) ∧
    (∃ (s : State) (r : Waiting), s.runningOp 0x1010 = some r ∧ r.f 0 31 30 ≠ 2 ∧ s.phase.st = .acquire) ∧
    (∃ (s : State) (r : Waiting), s.runningOp 0x1010 = some r ∧ r.f 0 31 30 = 2 ∧ s.time.st = .unset) ∧
    (∃ (s : State) (r : Waiting) (b : Nat) (a : Nat) (p : Nat) (v : Nat) (c : Bool), s.runningOp 0x1010 = some r ∧ r.f 0 31 30 = b ∧ r.f 0 29 27 = a ∧ b < 3 ∧ (a = 0 ∨ a = 1 ∨ a = 6) ∧ (if b = 2 then s.time.st ≠ .unset else s.phase.st ≠ .acquire) ∧ s.applyInstant b (u64At r.data 1) = (v, c) ∧ p = (if (r.w 3).toNat = 0 then 0 else Nat.max (r.w 3).toNat (if b = 2 then 1250 else 16))) ∧
    (∃ (s : State) (r : Waiting) (b : Bool) (v : Nat) (s' : State) (e' : SchedEntry), s.runningOp 0x1010 = some r ∧ r.f 0 31 30 = 0 ∧ r.f 0 29 27 = 0 ∧ s.phase.st ≠ .acquire ∧ s.applyInstant 0 (u64At r.data 1) = (v, b) ∧ (r.w 3).toNat = 0 ∧ s.armEntry { base := 0, action := 0, notify := bitAt (r.w 0) 26, target := r.f 0 23 16, inst := v, period := 0, left := some 1, armer := some r.src } = some (s', e')) ∧
    (∃ (s : State) (r : Waiting), s.runningOp 0x1011 = some r) ∧
    (∃ (s : State) (r : Waiting), s.runningOp 0x1102 = some r ∧ r.f 0 3 2 = 2 ∧ r.f 0 1 0 = 2) ∧
    (∃ (s : State) (r : Waiting), s.runningOp 0x1102 = some r ∧ r.f 0 3 2 < 3 ∧ r.f 0 1 0 < 3 ∧ ¬(r.f 0 3 2 = 2 ∧ r.f 0 1 0 = 2)) ∧
    (∃ (s : State) (r : Waiting), s.runningOp 0x1110 = some r ∧ s.isRoot = true ∧ s.time.cfg.source = 0 ∧ r.len ≠ 8) ∧
    (∃ (s : State) (r : Waiting), s.runningOp 0x1110 = some r ∧ s.isRoot = true ∧ (s.time.cfg.source ≠ 0 ∨ r.len = 8)) ∧
    (∃ (s : State) (r : Waiting), s.runningOp 0x1110 = some r ∧ s.isRoot = false ∧ s.phase.st = .acquire) ∧
    (∃ (s : State) (r : Waiting), s.runningOp 0x1110 = some r ∧ s.isRoot = false ∧ s.phase.st ≠ .acquire) := by
  exact ⟨⟨withCmd 0x1001, req 0x1001, by decide⟩,
    ⟨withCmd 0x1101, req 0x1101, by decide⟩,
    ⟨withCmdData 0x1010 [0, 0, 0, 0, 1], req 0x1010 [0, 0, 0, 0, 1], by decide⟩,
    ⟨withCmdData 0x1010 [0x80000000, 0, 0, 0, 1], req 0x1010 [0x80000000, 0, 0, 0, 1], by decide⟩,
    ⟨lockedCmd 0x1010 [0x30000000, 0, 0, 5, 1], req 0x1010 [0x30000000, 0, 0, 5, 1], 0, 6, 16, 16, true, by decide, by decide, by decide, by decide, by decide, by decide, by decide, by decide⟩,
    ⟨lockedCmd 0x1010 [0, 0, 0, 0, 1], req 0x1010 [0, 0, 0, 0, 1], true, 16, armed, armedEntry, by decide, by decide, by decide, by decide, by decide, by decide, rfl⟩,
    ⟨withCmd 0x1011, req 0x1011, by decide⟩,
    ⟨withCmdData 0x1102 [0xA, 0, 0], req 0x1102 [0xA, 0, 0], by decide⟩,
    ⟨withCmdData 0x1102 [1, 0, 0], req 0x1102 [1, 0, 0], by decide⟩,
    ⟨{ withCmd 0x1110 with sys.role := .root }, req 0x1110, by decide⟩,
    ⟨{ withCmdData 0x1110 [5, 0] with sys.role := .root }, req 0x1110 [5, 0], by decide, by decide, by decide⟩,
    ⟨{ withCmd 0x1110 with sys.role := .zone }, req 0x1110, by decide⟩,
    ⟨lockedCmd 0x1110 [], req 0x1110, by decide⟩⟩

/-- States and operands that meet the hypotheses of `Obligations.SchedulerAndTriggersFire`, clause by clause. -/
theorem wit_SchedulerAndTriggersFire :
    (∃ (s : State) (i : Nat), s.sched.entries.find? (fun e => e.idx == i) = none) ∧
    (∃ (s : State) (i : Nat) (e : SchedEntry), s.sched.entries.find? (fun e => e.idx == i) = some e ∧ s.sys.stage ≠ .bivouac) ∧
    (∃ (s : State) (i : Nat) (e : SchedEntry), s.sched.entries.find? (fun e => e.idx == i) = some e ∧ s.sys.stage = .bivouac ∧ (actionDomain e.action).all (fun d => s.domOn d) = true) ∧
    (∃ (s : State) (i : Nat) (d : Nat) (e : SchedEntry), s.sched.entries.find? (fun e => e.idx == i) = some e ∧ s.sys.stage = .bivouac ∧ actionDomain e.action = some d ∧ s.domOn d = false) ∧
    (∃ (s : State) (p : Fin 8) (e : Nat), s.sys.stage ≠ .off ∧ s.trig[p.val].output = false ∧ s.trig[p.val].lastEdge = some e ∧ s.time.clock - e < secT / 100000 ∧ (s.trig[p.val].winRej ≠ 1000 ∨ s.trig[p.val].ignored = true)) ∧
    (∃ (s : State) (p : Fin 8) (e : Nat), s.sys.stage ≠ .off ∧ s.trig[p.val].output = false ∧ s.trig[p.val].lastEdge = some e ∧ s.time.clock - e < secT / 100000 ∧ s.trig[p.val].winRej = 1000 ∧ s.trig[p.val].ignored = false) ∧
    (∃ (s : State) (p : Fin 8), s.sys.stage ≠ .off ∧ s.trig[p.val].output = false ∧ s.trig[p.val].lastEdge.all (fun e => secT / 100000 ≤ s.time.clock - e) = true ∧ s.trig[p.val].ignored = true) ∧
    (∃ (s : State) (p : Fin 8), s.sys.stage ≠ .off ∧ s.trig[p.val].output = false ∧ s.trig[p.val].lastEdge.all (fun e => secT / 100000 ≤ s.time.clock - e) = true ∧ s.trig[p.val].ignored = false ∧ s.pinCounts p = false) ∧
    (∃ (s : State) (p : Fin 8), s.sys.stage ≠ .off ∧ s.trig[p.val].output = false ∧ s.trig[p.val].lastEdge.all (fun e => secT / 100000 ≤ s.time.clock - e) = true ∧ s.trig[p.val].ignored = false ∧ s.pinCounts p = true) ∧
    (∃ (s : State) (p : Fin 8), (s.sys.stage = .off ∨ s.trig[p.val].output = true)) ∧
    (∃ (s : State) (p : Fin 8), s.trig[p.val].ignored = true ∧ s.trig[p.val].winRej ≤ 1000) ∧
    (∃ (s : State) (p : Fin 8), (s.trig[p.val].ignored = false ∨ 1000 < s.trig[p.val].winRej)) ∧
    (∃ (s : State) (p : Fin 8), s.pinCounts p = true ∧ s.trig[p.val].output = false) ∧
    (∃ (s : State) (p : Fin 8), (s.pinCounts p = false ∨ s.trig[p.val].output = true)) := by
  exact ⟨⟨edgeHub, 5, by decide⟩,
    ⟨{ onHub with sched.entries := [{ idx := 5 }] }, 5, { idx := 5 }, by decide⟩,
    ⟨{ State.reset with sys.stage := .bivouac, sched.entries := [{ idx := 5 }] }, 5, { idx := 5 }, by decide⟩,
    ⟨{ State.reset with sys.stage := .bivouac, sched.entries := [{ idx := 5, action := 4 }] }, 5, 12, { idx := 5, action := 4 }, by decide⟩,
    ⟨trigHub 999 false, 0, 0, by decide⟩,
    ⟨trigHub 1000 false, 0, 0, by decide⟩,
    ⟨{ onHub with trig := Vector.replicate 8 { ignored := true } }, 7, by decide⟩,
    ⟨onHub, 7, by decide⟩,
    ⟨{ onHub with phase.cfg.countMask := 128 }, 7, by decide⟩,
    ⟨State.reset, 0, by decide⟩,
    ⟨trigHub 1000 true, 0, by decide⟩,
    ⟨trigHub 1000 false, 0, by decide⟩,
    ⟨{ onHub with phase.cfg.countMask := 128 }, 7, by decide⟩,
    ⟨onHub, 7, by decide⟩⟩

/-- States and operands that meet the hypotheses of `Obligations.TrunkPortsTrainAndEnterHello`, clause by clause. -/
theorem wit_TrunkPortsTrainAndEnterHello :
    (∃ (s : State) (p : Fin 4), (s.tp p.val).st ≠ .search) ∧
    (∃ (s : State) (p : Fin 4), (s.tp p.val).st = .search) ∧
    (∃ (s : State) (p : Fin 4), (s.tp p.val).st ≠ .search) ∧
    (∃ (s : State) (p : Fin 4), (s.tp p.val).st = .search ∧ ((s.tp p.val).aligned[0] = true ∨ (s.tp p.val).aligned[1] = true)) ∧
    (∃ (s : State) (p : Fin 4), (s.tp p.val).st = .search ∧ (s.tp p.val).aligned[0] = false ∧ (s.tp p.val).aligned[1] = false) ∧
    (∃ (s : State) (p : Fin 4), ((s.tp p.val).st = .hello ∨ (s.tp p.val).st = .active)) ∧
    (∃ (s : State) (p : Fin 4), ((s.tp p.val).st = .search ∨ (s.tp p.val).st = .disabled)) ∧
    (∃ (s : State) (p : Fin 4), ((s.tp p.val).st = .search ∨ (s.tp p.val).st = .disabled)) ∧
    (∃ (s : State) (p : Fin 4), (s.tp p.val).st = .active) ∧
    (∃ (s : State) (p : Fin 4), (s.tp p.val).st = .hello) ∧
    (∃ (s : State) (p : Fin 4), (s.tp p.val).st = .active ∧ (s.tp p.val).twoLanes = true) ∧
    (∃ (s : State) (p : Fin 4), (s.tp p.val).twoLanes = false) ∧
    (∃ (s : State) (p : Fin 4) (l : Fin 2), s.laneMayReturn p.val l = false) ∧
    (∃ (s : State) (p : Fin 4) (l : Fin 2), s.laneMayReturn p.val l = true) ∧
    (∃ (s : State) (p : Fin 4) (l : Fin 2), s.laneMayReturn p.val l = true) ∧
    (∃ (s : State) (p : Fin 4) (l : Fin 2), s.laneMayReturn p.val l = true) := by
  exact ⟨⟨trunkHub { st := .active }, 0, by decide⟩,
    ⟨trunkHub { st := .search, cfg.lanes := 1 }, 0, by decide⟩,
    ⟨trunkHub { st := .active }, 0, by decide⟩,
    ⟨trunkHub { st := .search, aligned := #v[false, true] }, 3, by decide⟩,
    ⟨trunkHub { st := .search }, 3, by decide⟩,
    ⟨trunkHub { st := .hello }, 0, by decide⟩,
    ⟨trunkHub { st := .search }, 0, by decide⟩,
    ⟨trunkHub { st := .search }, 0, by decide⟩,
    ⟨trunkHub { st := .active }, 0, by decide⟩,
    ⟨trunkHub { st := .hello }, 3, by decide⟩,
    ⟨trunkHub { st := .active, lane := #v[true, true] }, 0, by decide⟩,
    ⟨trunkHub { st := .active }, 0, by decide⟩,
    ⟨trunkHub { st := .search }, 0, 0, by decide⟩,
    ⟨trunkHub { st := .active, lane := #v[true, false] }, 0, 1, by decide⟩,
    ⟨trunkHub { st := .active, lane := #v[true, false] }, 0, 1, by decide⟩,
    ⟨trunkHub { st := .active, lane := #v[true, false] }, 0, 1, by decide⟩⟩

/-- States and operands that meet the hypotheses of `Obligations.TrunkPortsKeepTheLinkAlive`, clause by clause. -/
theorem wit_TrunkPortsKeepTheLinkAlive :
    (∃ (s : State) (p : Fin 4), (s.tp p.val).st ≠ .hello ∧ (s.tp p.val).st ≠ .active) ∧
    (∃ (s : State) (p : Fin 4), ((s.tp p.val).st = .hello ∨ (s.tp p.val).st = .active)) ∧
    (∃ (s : State) (p : Fin 4), (s.tp p.val).st = .disabled) ∧
    (∃ (s : State) (p : Fin 4), (s.tp p.val).st = .search) ∧
    (∃ (s : State) (p : Fin 4), (s.tp p.val).st = .hello ∧ (s.tp p.val).lcq = []) ∧
    (∃ (s : State) (p : Fin 4) (m : LinkMsg) (ms : List LinkMsg), (s.tp p.val).st = .hello ∧ (s.tp p.val).lcq = m :: ms) ∧
    (∃ (s : State) (p : Fin 4), (s.tp p.val).st = .active) ∧
    (∃ (s : State) (p : Fin 4) (v : BitVec 3), (s.tp p.val).st = .active ∧ 1 ≤ v.toNat ∧ v.toNat ≤ 6 ∧ (s.tp p.val).credit v.toNat = false ∧ s.vlWaits p.val v.toNat = true ∧ (s.tp p.val).stalled.getD (vlIdx v.toNat) true = false) ∧
    (∃ (s : State) (p : Fin 4) (v : BitVec 3), ((s.tp p.val).st ≠ .active ∨ v.toNat = 0 ∨ v.toNat = 7 ∨ (s.tp p.val).credit v.toNat = true ∨ s.vlWaits p.val v.toNat = false ∨ (s.tp p.val).stalled.getD (vlIdx v.toNat) true = true)) ∧
    (∃ (s : State) (p : Fin 4), (s.tp p.val).st ≠ .active) ∧
    (∃ (s : State) (p : Fin 4), (s.tp p.val).replayWait = false) ∧
    (∃ (s : State) (p : Fin 4), (s.tp p.val).st = .active) ∧
    (∃ (s : State) (p : Fin 4), (s.tp p.val).st = .active ∧ (s.tp p.val).replayWait = true ∧ (s.tp p.val).replayAsked < 4) ∧
    (∃ (s : State) (p : Fin 4), (s.tp p.val).st = .active ∧ (s.tp p.val).replayWait = true ∧ 4 ≤ (s.tp p.val).replayAsked) := by
  exact ⟨⟨trunkHub { st := .search }, 0, by decide⟩,
    ⟨trunkHub { st := .hello }, 0, by decide⟩,
    ⟨trunkHub { st := .disabled }, 0, by decide⟩,
    ⟨trunkHub { st := .search }, 0, by decide⟩,
    ⟨trunkHub { st := .hello }, 0, by decide⟩,
    ⟨trunkHub { st := .hello, lcq := [{ msg := 0 }] }, 0, { msg := 0 }, [], by decide⟩,
    ⟨trunkHub { st := .active }, 0, by decide⟩,
    ⟨{ trunkHub { st := .active } with fwd.egress := Vector.replicate 16 { window := [{ cell := { vl := 6 } }] } }, 0, 6, by decide⟩,
    ⟨trunkHub { st := .search }, 0, 6, by decide⟩,
    ⟨trunkHub { st := .search }, 0, by decide⟩,
    ⟨trunkHub { st := .active }, 0, by decide⟩,
    ⟨trunkHub { st := .active }, 0, by decide⟩,
    ⟨trunkHub { st := .active, replayWait := true, replayAsked := 3 }, 0, by decide⟩,
    ⟨trunkHub { st := .active, replayWait := true, replayAsked := 4 }, 0, by decide⟩⟩

/-- States and operands that meet the hypotheses of `Obligations.LinkCommandsReportAndControlPorts`, clause by clause. -/
theorem wit_LinkCommandsReportAndControlPorts :
    (∃ (s : State) (r : Waiting), s.runningOp 0x2001 = some r) ∧
    (∃ (s : State) (r : Waiting), s.runningOp 0x2002 = some r) ∧
    (∃ (s : State) (r : Waiting), s.runningOp 0x2010 = some r ∧ r.f 0 3 0 ≤ 6) ∧
    (∃ (s : State) (r : Waiting), s.runningOp 0x2010 = some r ∧ 6 < r.f 0 3 0) ∧
    (∃ (s : State) (r : Waiting), s.runningOp 0x2020 = some r ∧ r.f 0 3 0 ≠ 1) ∧
    (∃ (s : State) (r : Waiting), s.runningOp 0x2020 = some r ∧ r.f 0 3 0 = 1) := by
  exact ⟨⟨withCmd 0x2001, req 0x2001, by decide⟩,
    ⟨withCmd 0x2002, req 0x2002, by decide⟩,
    ⟨withCmdData 0x2010 [6], req 0x2010 [6], by decide⟩,
    ⟨withCmdData 0x2010 [7], req 0x2010 [7], by decide⟩,
    ⟨withCmdData 0x2020 [2], req 0x2020 [2], by decide⟩,
    ⟨withCmdData 0x2020 [1], req 0x2020 [1], by decide⟩⟩

/-- States and operands that meet the hypotheses of `Obligations.RingsFollowTheirNotices`, clause by clause. -/
theorem wit_RingsFollowTheirNotices :
    (∃ (s : State) (p : Fin 4), s.ringOf p.val = none) ∧
    (∃ (s : State) (p : Fin 4), s.ringOf p.val = none) ∧
    (∃ (s : State) (p : Fin 4), s.ringOf p.val = none) ∧
    (∃ (s : State) (w : Fin 2) (i : Nat), (s.rg w.val).revertAt = some i) ∧
    (∃ (s : State) (w : Nat) (p : Fin 4) (h : BitVec 16), s.ringOf p.val = some w ∧ s.headsRing w = true ∧ s.sys.hubId = h.toNat ∧ (s.rg w).portB = p) ∧
    (∃ (s : State) (p : Fin 4), s.ringOf p.val = some 1 ∧ s.headsRing 1 = false) ∧
    (∃ (s : State) (w : Nat) (p : Fin 4) (h : BitVec 16) (n : Byte), s.ringOf p.val = some w ∧ ((s.rg w).on = false ∨ s.headOf w ≠ h.toNat ∨ (s.rg w).seen.contains (h.toNat, n.toNat) = true)) ∧
    (∃ (s : State) (w : Nat) (p : Fin 4) (h : BitVec 16) (n : Byte), s.ringOf p.val = some w ∧ (s.rg w).on = true ∧ s.headOf w = h.toNat ∧ (s.rg w).seen.contains (h.toNat, n.toNat) = false) ∧
    (∃ (s : State) (w : Nat) (p : Fin 4) (h : BitVec 16), s.ringOf p.val = some w ∧ s.headsRing w = true ∧ (s.sys.hubId ≠ h.toNat ∨ (s.rg w).portB ≠ p)) ∧
    (∃ (s : State) (w : Fin 2), (s.rg w.val).revertAt = none) := by
  exact ⟨⟨onHub, 0, by decide⟩,
    ⟨onHub, 0, by decide⟩,
    ⟨onHub, 0, by decide⟩,
    ⟨{ onHub with ring := Vector.replicate 2 { revertAt := some 0 } }, 1, 0, by decide⟩,
    ⟨ringHub, 0, 1, 5, by decide⟩,
    ⟨{ onHub with sys.role := .relay, trunk := Vector.replicate 4 { cfg.ring := true } }, 3, by decide⟩,
    ⟨{ onHub with sys.role := .relay, trunk := Vector.replicate 4 { cfg.ring := true } }, 1, 3, 5, 0, by decide⟩,
    ⟨ringHub, 0, 1, 5, 255, by decide⟩,
    ⟨ringHub, 0, 1, 6, by decide⟩,
    ⟨onHub, 0, by decide⟩⟩

/-- States and operands that meet the hypotheses of `Obligations.RidgeMovesCellsAndKeepsTheirOrder`, clause by clause. -/
theorem wit_RidgeMovesCellsAndKeepsTheirOrder :
    (∃ (s : State), s.fwd.cut = []) ∧
    (∃ (s : State) (i : Fin 15), s.fwd.blocked.find? (fun x => x.1 == i.val) = none) ∧
    (∃ (s : State) (i : Fin 15) (k : Nat) (c : Cell), s.fwd.blocked.find? (fun x => x.1 == i.val) = some (k, c)) ∧
    (∃ (s : State) (t : BitVec 20), s.entryOf t.toNat = none) ∧
    (∃ (s : State) (t : BitVec 20) (b : Bool) (e : FwdEntry), s.entryOf t.toNat = some e ∧ (e.ctx b).heldCells = []) ∧
    (∃ (s : State) (t : BitVec 20) (k : QKey), s.tunnelQueue t.toNat = some k ∧ (s.queueOf k).closed = true ∧ s.allCells.any (fun c => (s.queueOf k).drainIds.contains c.serial) = false) ∧
    (∃ (s : State) (t : BitVec 20) (k : QKey), s.tunnelQueue t.toNat = some k ∧ (s.queueOf k).closed = true) ∧
    (∃ (s : State) (i : Fin 4) (b : Barrier), s.fwd.barriers.find? (fun x => x.id == i.val) = some b ∧ b.flush = false) ∧
    (∃ (s : State), s.fwd.cut = [] ∧ s.fwd.egress = Vector.replicate 16 {}) ∧
    (∃ (s : State) (t : BitVec 20) (b : Bool) (e : FwdEntry), s.entryOf t.toNat = some e ∧ (e.ctx b).heldCells ≠ []) ∧
    (∃ (s : State) (t : BitVec 20), (s.tunnelQueue t.toNat).all (fun k => !(s.queueOf k).closed) = true) ∧
    (∃ (s : State) (i : Fin 4) (b : Barrier), s.fwd.barriers.find? (fun x => x.id == i.val) = some b ∧ b.flush = true) ∧
    (∃ (s : State) (i : Fin 4), s.fwd.barriers.find? (fun x => x.id == i.val) = none) := by
  exact ⟨⟨onHub, by decide⟩,
    ⟨onHub, 0, by decide⟩,
    ⟨{ onHub with fwd.blocked := [(0, { tunnel := 7 })] }, 0, 0, { tunnel := 7 }, by decide⟩,
    ⟨onHub, 0, by decide⟩,
    ⟨entryHub {}, 1, false, { tunnel := 1 }, by decide⟩,
    ⟨entryHub { qsel := true }, 1, { egress := 0, tunQ := true, id := 0 }, by decide⟩,
    ⟨entryHub { qsel := true }, 1, { egress := 0, tunQ := true, id := 0 }, by decide⟩,
    ⟨{ onHub with fwd.barriers := [{ id := 3 }] }, 3, { id := 3 }, by decide⟩,
    ⟨onHub, by decide⟩,
    ⟨entryHub { valid := true, data := { e := 3, heldCells := [{ cell := { seq := 5 } }] } }, 1, false, { valid := true, tunnel := 1, data := { e := 3, heldCells := [{ cell := { seq := 5 } }] } }, by decide⟩,
    ⟨onHub, 0, by decide⟩,
    ⟨{ onHub with fwd.barriers := [{ id := 3, flush := true }] }, 3, { id := 3, flush := true }, by decide⟩,
    ⟨onHub, 0, by decide⟩⟩

/-- States and operands that meet the hypotheses of `Obligations.ForwardingCommandsSetAndReportEntries`, clause by clause. -/
theorem wit_ForwardingCommandsSetAndReportEntries :
    (∃ (s : State) (r : Waiting), s.runningOp 0x2201 = some r) ∧
    (∃ (s : State) (r : Waiting), s.runningOp 0x2202 = some r) ∧
    (∃ (s : State) (r : Waiting), s.runningOp 0x2203 = some r) ∧
    (∃ (s : State) (r : Waiting), s.runningOp 0x2210 = some r ∧ bitAt (r.w 0) 11 = true ∧ fld (r.w 1) 31 28 ≠ 15 ∧ s.entryOf (fld (r.w 0) 31 12) = none ∧ 32768 ≤ s.entryCount) ∧
    (∃ (s : State) (r : Waiting), s.runningOp 0x2210 = some r ∧ bitAt (r.w 0) 11 = true ∧ fld (r.w 1) 31 28 ≠ 15 ∧ s.entryCount < 32768) ∧
    (∃ (s : State) (r : Waiting), s.runningOp 0x2220 = some r ∧ 3 ≤ s.fwd.barriers.length) ∧
    (∃ (s : State) (r : Waiting) (i : Fin 38), s.runningOp 0x2220 = some r ∧ s.fwd.barriers.length < 3 ∧ r.src = .win i) ∧
    (∃ (s : State) (r : Waiting), s.runningOp 0x2241 = some r) := by
  exact ⟨⟨withCmd 0x2201, req 0x2201, by decide⟩,
    ⟨withCmd 0x2202, req 0x2202, by decide⟩,
    ⟨withCmd 0x2203, req 0x2203, by decide⟩,
    ⟨{ withCmdData 0x2210 [0x1800, 0, 0] with fwd.entries := List.replicate 32768 {} }, req 0x2210 [0x1800, 0, 0], rfl, by decide, by decide, by show (List.replicate 32768 _).find? _ = none; rw [List.find?_replicate] <;> rfl, by show 32768 ≤ ((List.replicate 32768 _).filter _).length; rw [List.filter_replicate, if_pos (by decide), List.length_replicate] <;> exact Nat.le_refl _⟩,
    ⟨withCmdData 0x2210 [0x1800, 0, 0], req 0x2210 [0x1800, 0, 0], by decide⟩,
    ⟨{ withCmd 0x2220 with fwd.barriers := List.replicate 3 {} }, req 0x2220, by decide⟩,
    ⟨withCmdData 0x2220 [0], req 0x2220 [0], 0, by decide⟩,
    ⟨withCmd 0x2241, req 0x2241, by decide⟩⟩

/-- States and operands that meet the hypotheses of `Obligations.JoiningTheTreeIsAnswered`, clause by clause. -/
theorem wit_JoiningTheTreeIsAnswered :
    (∃ (s : State) (p : Fin 4), s.portBlocked p = true) ∧
    (∃ (s : State) (p : Fin 4), s.portBlocked p = false ∧ (s.joined = false ∨ s.isUpstream p = true)) ∧
    (∃ (s : State), (s.joined = false ∨ s.headsTree = false)) ∧
    (∃ (s : State) (s' : State) (p : Fin 4) (code : Nat) (reason : Nat) (h : BitVec 16) (ro : BitVec 2) (d : Byte) (v : Byte) (c : Cert) (ok : Bool) (pl : Place), s.joined = true ∧ s.isUpstream p = false ∧ s.portBlocked p = false ∧ s.headsTree = true ∧ s.checkCert c h.toNat = (s', code) ∧ s'.joinReason h.toNat d.toNat v.toNat (roleOf ro.toNat) pl (if code = 0 && !ok then 2 else code) = some reason) ∧
    (∃ (s : State) (s' : State) (code : Nat) (reason : Nat) (h : BitVec 16) (ro : BitVec 2) (d : Byte) (v : Byte) (c : Cert) (ok : Bool) (pl : Place), s.joined = true ∧ s.headsTree = true ∧ s.checkCert c h.toNat = (s', code) ∧ s'.joinReason h.toNat d.toNat v.toNat (roleOf ro.toNat) pl (if code = 0 && !ok then 2 else code) = some reason) ∧
    (∃ (s : State) (s' : State) (via : Option (Fin 4)) (h : BitVec 16) (ro : BitVec 2) (d : Byte) (v : Byte) (c : Cert) (pl : Place), s.joined = true ∧ via.all (fun p => !s.isUpstream p && !s.portBlocked p) = true ∧ s.headsTree = true ∧ s.checkCert c h.toNat = (s', 0) ∧ s'.joinReason h.toNat d.toNat v.toNat (roleOf ro.toNat) pl 0 = none) ∧
    (∃ (s : State) (p : Fin 4), s.joined = true ∧ s.isUpstream p = false ∧ s.portBlocked p = false ∧ s.headsTree = false) ∧
    (∃ (s : State) (p : Fin 4) (h : BitVec 16), s.topo.proxied.find? (fun x => x.2 == h.toNat) = some (p, h.toNat)) ∧
    (∃ (s : State) (p : Fin 4) (h : BitVec 16), s.topo.proxied.find? (fun x => x.2 == h.toNat) = some (p, h.toNat)) ∧
    (∃ (s : State) (h : BitVec 16), s.topo.proxied.find? (fun x => x.2 == h.toNat) = none) ∧
    (∃ (s : State) (p : Fin 4), s.portBlocked p = true) ∧
    (∃ (s : State) (p : Fin 4) (h : BitVec 16), s.portBlocked p = false ∧ (s.topo.join ≠ .waiting ∨ s.topo.upstream ≠ some p ∨ h.toNat ≠ s.sys.hubId)) ∧
    (∃ (s : State) (p : Fin 4) (h : BitVec 16), s.portBlocked p = false ∧ s.topo.join = .waiting ∧ s.topo.upstream = some p ∧ h.toNat = s.sys.hubId) ∧
    (∃ (s : State) (s' : State) (p : Fin 4) (h : BitVec 16) (r : BitVec 16) (c : Cert) (ok : Bool) (code : Nat), s.portBlocked p = false ∧ s.topo.join = .waiting ∧ s.topo.upstream = some p ∧ h.toNat = s.sys.hubId ∧ s.checkCert c r.toNat = (s', code) ∧ (code ≠ 0 ∨ ok = false)) ∧
    (∃ (s : State) (s' : State) (p : Fin 4) (h : BitVec 16) (r : BitVec 16) (c : Cert), s.portBlocked p = false ∧ s.topo.join = .waiting ∧ s.topo.upstream = some p ∧ h.toNat = s.sys.hubId ∧ s.checkCert c r.toNat = (s', 0)) := by
  exact ⟨⟨{ childHub with topo.extra := Vector.replicate 4 true }, 1, by decide⟩,
    ⟨{ childHub with topo.join := .joined }, 0, by decide, Or.inr (by decide)⟩,
    ⟨onHub, Or.inl (by decide)⟩,
    ⟨edgeHub, (edgeHub.checkCert {} 1).1, 0, (edgeHub.checkCert {} 1).2, 1, 1, 1, 2, 0, {}, true, {}, by decide, by decide, by decide, by decide, rfl, by decide⟩,
    ⟨edgeHub, (edgeHub.checkCert {} 1).1, (edgeHub.checkCert {} 1).2, 1, 1, 1, 2, 0, {}, true, {}, by decide, by decide, rfl, by decide⟩,
    ⟨trust joinRoot, ((trust joinRoot).checkCert goodCert 9).1, some 1, 9, 1, 1, 5, goodCert, { parent := 1 }, by decide, by decide, by decide, Prod.ext rfl (by decide), by decide⟩,
    ⟨{ childHub with topo.join := .joined }, 1, by decide⟩,
    ⟨{ onHub with topo.proxied := [(2, 9)] }, 2, 9, by decide⟩,
    ⟨{ onHub with topo.proxied := [(2, 9)] }, 2, 9, by decide⟩,
    ⟨onHub, 3, by decide⟩,
    ⟨{ childHub with topo.extra := Vector.replicate 4 true }, 1, by decide⟩,
    ⟨childHub, 1, 0, by decide, Or.inl (by decide)⟩,
    ⟨{ childHub with topo.join := .waiting }, 0, 2, by decide⟩,
    ⟨{ childHub with topo.join := .waiting }, (({ childHub with topo.join := .waiting } : State).checkCert {} 0).1, 0, 2, 0, {}, false, (({ childHub with topo.join := .waiting } : State).checkCert {} 0).2, by decide, by decide, by decide, by decide, rfl, Or.inr rfl⟩,
    ⟨trust { childHub with topo.join := .waiting }, ((trust { childHub with topo.join := .waiting }).checkCert goodCert 9).1, 0, 2, 9, goodCert, by decide, by decide, by decide, by decide, Prod.ext rfl (by decide)⟩⟩

/-- States and operands that meet the hypotheses of `Obligations.StartUpWarmStartAndDeadFeed`, clause by clause. -/
theorem wit_StartUpWarmStartAndDeadFeed :
    (∃ (s : State), s.sys.stage = .aonReset) ∧
    (∃ (s : State), s.sys.stage = .aonReset) ∧
    (∃ (s : State), s.sys.stage ≠ .aonReset) ∧
    (∃ (s : State), s.sys.stage = .starting ∧ s.domOn 2 = true ∧ s.upd.dead = false) ∧
    (∃ (s : State), s.sys.stage = .starting ∧ s.isRoot = false) ∧
    (∃ (s : State), (s.sys.stage ≠ .starting ∨ s.domOn 2 = false ∨ s.upd.dead = true)) ∧
    (∃ (s : State), (s.desk.service = none ∨ s.sys.start ≠ 1 ∨ s.pwr.selected = none)) ∧
    (∃ (s : State) (p : Fin 4), s.desk.service = some p ∧ s.sys.start = 1 ∧ s.pwr.selected.isSome = true ∧ s.domOn 1 = false) ∧
    (∃ (s : State) (p : Fin 4), s.desk.service = some p ∧ s.sys.start = 1 ∧ s.pwr.selected.isSome = true ∧ s.domOn 1 = true) := by
  exact ⟨⟨{ State.reset with sys.stage := .aonReset }, by decide⟩,
    ⟨{ State.reset with sys.stage := .aonReset }, by decide⟩,
    ⟨State.reset, by decide⟩,
    ⟨{ onHub with sys.stage := .starting }, by decide⟩,
    ⟨{ onHub with sys.stage := .starting, sys.role := .zone }, by decide⟩,
    ⟨onHub, Or.inl (by decide)⟩,
    ⟨onHub, Or.inl rfl⟩,
    ⟨{ State.reset with sys.start := 1, desk.service := some 3, pwr.selected := some 0 }, 3, by decide⟩,
    ⟨{ onHub with sys.start := 1, desk.service := some 3, pwr.selected := some 0 }, 3, by decide⟩⟩

/-- States and operands that meet the hypotheses of `Obligations.ResetsFollowTheirCauses`, clause by clause. -/
theorem wit_ResetsFollowTheirCauses :
    (∃ (s : State), s.sys.stage ≠ .off ∧ s.sys.stage ≠ .aonReset) ∧
    (∃ (s : State), (s.sys.stage = .off ∨ s.sys.stage = .aonReset)) ∧
    (∃ (s : State) (d : Fin 14), (d.val = 0 ∨ s.domOn d.val = false)) ∧
    (∃ (s : State) (d : Fin 14), s.domOn d.val = true ∧ 1 ≤ d.val ∧ d.val < 5) ∧
    (∃ (s : State) (d : Fin 14), s.domOn d.val = true ∧ 5 ≤ d.val) ∧
    (∃ (s : State) (r : Waiting), s.runningOp 0x0102 = some r) ∧
    (∃ (s : State) (r : Waiting), s.runningOp 0x0130 = some r ∧ (s.isRoot || s.upd.session != .none || s.boot.trial || s.sys.start == 1) = true) ∧
    (∃ (s : State) (r : Waiting), s.runningOp 0x0130 = some r ∧ (s.isRoot || s.upd.session != .none || s.boot.trial || s.sys.start == 1) = false) := by
  exact ⟨⟨onHub, by decide⟩,
    ⟨State.reset, by decide⟩,
    ⟨onHub, 0, by decide⟩,
    ⟨onHub, 4, by decide⟩,
    ⟨onHub, 5, by decide⟩,
    ⟨withCmdData 0x0102 [2], req 0x0102 [2], by decide⟩,
    ⟨{ withCmdData 0x0130 [0, 0] with sys.role := .root }, req 0x0130 [0, 0], by decide⟩,
    ⟨lockedCmd 0x0130 [0, 0], req 0x0130 [0, 0], by decide⟩⟩

/-- States and operands that meet the hypotheses of `Obligations.CommandsEndAndWindowsTurnOver`, clause by clause. -/
theorem wit_CommandsEndAndWindowsTurnOver :
    (∃ (s : State), (s.mbx.restart = true ∨ s.mbx.running = none)) ∧
    (∃ (s : State) (x : Running) (r : Response), s.mbx.restart = false ∧ s.mbx.running = some x ∧ x.resp = some r) ∧
    (∃ (s : State) (x : Running), s.mbx.restart = false ∧ s.mbx.running = some x ∧ x.resp = none ∧ (x.req.opcode = 0x3020 ∨ x.req.opcode = 0x3021 ∨ x.req.opcode = 0x3022 ∨ (x.req.opcode = 0x7814 ∧ s.upd.leaseWait = true))) ∧
    (∃ (s : State) (x : Running), s.mbx.restart = false ∧ s.mbx.running = some x ∧ x.resp = none ∧ s.mayTimeOut x.req = false) ∧
    (∃ (s : State) (f : BitVec 5) (i : Fin 38), i.val = f.toNat + 6 ∧ (s.stor.func.getD f.toNat {}).storage = false) ∧
    (∃ (s : State) (f : BitVec 5) (i : Fin 38), i.val = f.toNat + 6 ∧ (s.stor.func.getD f.toNat {}).storage = true ∧ s.stor.nextFunc.getD f.toNat none = none) := by
  exact ⟨⟨onHub, Or.inr (by decide)⟩,
    ⟨{ onHub with mbx.running := some { req := req 0x0101, resp := some okR } }, { req := req 0x0101, resp := some okR }, okR, by decide⟩,
    ⟨withCmdData 0x3020 [0, 0], { req := req 0x3020 [0, 0] }, by decide⟩,
    ⟨withCmd 0x0101, { req := req 0x0101 }, by decide⟩,
    ⟨onHub, 31, 37, by decide⟩,
    ⟨flrHub, 31, 37, by decide⟩⟩

/-- States and operands that meet the hypotheses of `Obligations.ConfigurationIsAppliedWholeOrRefused`, clause by clause. -/
theorem wit_ConfigurationIsAppliedWholeOrRefused :
    (∃ (s : State) (r : Waiting), s.runningOp 0x0201 = some r ∧ s.isOwner r.src = false ∧ r.data ≠ []) ∧
    (∃ (s : State) (r : Waiting) (e : RecFault), s.runningOp 0x0201 = some r ∧ parseStream (s.isOwner r.src) r.data = .error e) ∧
    (∃ (s : State) (s' : State) (r : Waiting) (rs : List Rec) (cs : List Clamp), s.runningOp 0x0201 = some r ∧ parseStream (s.isOwner r.src) r.data = .ok rs ∧ s.applyRecs true 0 rs = (s', cs)) := by
  exact ⟨⟨{ withCmdData 0x0201 [1] with mbx.boxes := Vector.replicate 38 {} }, req 0x0201 [1], by decide⟩,
    ⟨withCmdData 0x0201 [1], req 0x0201 [1], { code := 0x10, index := 0 }, by decide, rfl⟩,
    ⟨withCmdData 0x0201 [], ((withCmdData 0x0201 []).applyRecs true 0 []).1, req 0x0201, [], [], by decide, rfl, rfl⟩⟩

/-- States and operands that meet the hypotheses of `Obligations.OpeningATunnelGoesThroughTheRoot`, clause by clause. -/
theorem wit_OpeningATunnelGoesThroughTheRoot :
    (∃ (s : State) (r : Waiting), s.runningOp 0x2101 = some r ∧ s.joined = false) ∧
    (∃ (s : State) (r : Waiting), s.runningOp 0x2101 = some r ∧ s.joined = true) ∧
    (∃ (s : State) (i : BitVec 14), s.tunAt i.toNat = none) ∧
    (∃ (s : State) (i : BitVec 14) (t : Tunnel), s.tunAt i.toNat = some t ∧ (t.st != .opening || !t.endA || t.number != 0 || !t.ownShare.isEmpty) = true) ∧
    (∃ (s : State) (i : BitVec 14) (t : Tunnel), s.tunAt i.toNat = some t ∧ t.st = .opening ∧ t.endA = true ∧ t.number = 0 ∧ t.ownShare = [] ∧ s.canSign = false) ∧
    (∃ (s : State) (i : BitVec 14) (t : Tunnel), s.tunAt i.toNat = some t ∧ t.st = .opening ∧ t.endA = true ∧ t.number = 0 ∧ t.ownShare = [] ∧ s.canSign = true) ∧
    (∃ (s : State) (u : State) (r : Waiting) (qs : List (Nat × Bool)) (e : Nat), s.runningOp 0x2140 = some r ∧ u = (if (readOpen r.data 0).farHub = 0 then s.dirTouch (readOpen r.data 0).farEp else s) ∧ u.admitCheck (s.peerHub r.src) (readOpen r.data 0) qs = .error e) ∧
    (∃ (s : State) (u : State) (r : Waiting) (qs : List (Nat × Bool)) (b : Nat) (n : Nat) (h : Nat) (ls : List Leg), s.runningOp 0x2140 = some r ∧ u = (if (readOpen r.data 0).farHub = 0 then s.dirTouch (readOpen r.data 0).farEp else s) ∧ u.admitCheck (s.peerHub r.src) (readOpen r.data 0) qs = .ok (b, n, h, ls)) ∧
    (∃ (s : State) (n : BitVec 19), s.tun.rootTuns.find? (fun x => x.number == n.toNat && x.stage == .offered) = none) ∧
    (∃ (s : State) (n : BitVec 19) (t : RootTun), s.tun.rootTuns.find? (fun x => x.number == n.toNat && x.stage == .offered) = some t ∧ t.marked = true) ∧
    (∃ (s : State) (n : BitVec 19) (re : Byte) (t : RootTun), s.tun.rootTuns.find? (fun x => x.number == n.toNat && x.stage == .offered) = some t ∧ t.marked = false ∧ re ≠ 0) ∧
    (∃ (s : State) (n : BitVec 19) (t : RootTun), s.tun.rootTuns.find? (fun x => x.number == n.toNat && x.stage == .offered) = some t ∧ t.marked = false) ∧
    (∃ (s : State) (n : BitVec 19) (t : RootTun), s.tun.rootTuns.find? (fun x => x.number == n.toNat && x.stage == .offered) = some t) ∧
    (∃ (s : State), s.freeEph = none) ∧
    (∃ (s : State) (r : Waiting), s.freeEph.isSome = true ∧ s.runningOp 0x2141 = some r) ∧
    (∃ (s : State) (r : Waiting) (t : Tunnel), s.runningOp 0x2142 = some r ∧ s.tun.table.find? (fun t => !t.endA && t.number == r.f 3 31 12 / 2 && t.handle == (r.w 2).toNat) = some t) ∧
    (∃ (s : State) (r : Waiting) (t : Tunnel), s.runningOp 0x2142 = some r ∧ s.tun.table.find? (fun t => !t.endA && t.number == r.f 3 31 12 / 2 && t.handle == (r.w 2).toNat) = none ∧ s.tun.table.find? (fun t => t.endA && t.number == 0 && t.handle == (r.w 1).toNat && (t.st == .opening || t.st == .closing)) = some t) ∧
    (∃ (s : State) (r : Waiting), s.runningOp 0x2142 = some r ∧ s.tun.table.find? (fun t => !t.endA && t.number == r.f 3 31 12 / 2 && t.handle == (r.w 2).toNat) = none ∧ s.tun.table.find? (fun t => t.endA && t.number == 0 && t.handle == (r.w 1).toNat && (t.st == .opening || t.st == .closing)) = none) ∧
    (∃ (s : State) (i : BitVec 14) (t : Tunnel), s.tunAt i.toNat = some t) := by
  exact ⟨⟨withCmdData 0x2101 [0, 0, 0, 0, 0, 0], req 0x2101 [0, 0, 0, 0, 0, 0], by decide⟩,
    ⟨joinedCmd 0x2101 openWords, req 0x2101 openWords, by decide⟩,
    ⟨onHub, 3, by decide⟩,
    ⟨withTun { idx := 1, st := .up }, 1, { idx := 1, st := .up }, by decide⟩,
    ⟨withTun { idx := 1, st := .opening }, 1, { idx := 1, st := .opening }, by decide⟩,
    ⟨signHub, 1, { idx := 1, st := .opening, eph := some 0 }, by decide⟩,
    ⟨joinedCmd 0x2140 openWords, joinedCmd 0x2140 openWords, req 0x2140 openWords, [], 1, by decide, rfl, rfl⟩,
    ⟨admitHub, admitHub, req 0x2140 openWords, [], 2, 1, 1, admitHub.pathLegs 1 2 1 [], by decide, rfl, rfl⟩,
    ⟨onHub, 1, by decide⟩,
    ⟨{ onHub with tun.rootTuns := [{ number := 1, marked := true }] }, 1, { number := 1, marked := true }, by decide⟩,
    ⟨{ onHub with tun.rootTuns := [{ number := 1 }] }, 1, 6, { number := 1 }, by decide⟩,
    ⟨{ onHub with tun.rootTuns := [{ number := 1 }] }, 1, { number := 1 }, by decide⟩,
    ⟨{ onHub with tun.rootTuns := [{ number := 1 }] }, 1, { number := 1 }, by decide⟩,
    ⟨{ onHub with vault.slots := Vector.replicate 96 { st := .valid } }, by decide⟩,
    ⟨peerCmd 0x2141 openWords, peerReq 0x2141 openWords, by decide⟩,
    ⟨tunCmd 0x2142 [0, 0, 1, 0x2000] { idx := 1, endA := false, number := 1 }, req 0x2142 [0, 0, 1, 0x2000], { idx := 1, endA := false, number := 1 }, by decide⟩,
    ⟨tunCmd 0x2142 [0, 1, 0, 0x2000] { idx := 1, endA := true, st := .opening }, req 0x2142 [0, 1, 0, 0x2000], { idx := 1, endA := true, st := .opening }, by decide⟩,
    ⟨withCmdData 0x2142 [0], req 0x2142 [0], by decide⟩,
    ⟨withTun { idx := 1 }, 1, { idx := 1 }, by decide⟩⟩

/-- States and operands that meet the hypotheses of `Obligations.TunnelCommandsCloseReportAndRelease`, clause by clause. -/
theorem wit_TunnelCommandsCloseReportAndRelease :
    (∃ (s : State) (r : Waiting) (t : Tunnel), s.runningOp 0x2102 = some r ∧ s.tunFor r (r.w 0).toNat = some t) ∧
    (∃ (s : State) (r : Waiting), s.runningOp 0x2102 = some r ∧ s.tunFor r (r.w 0).toNat = none) ∧
    (∃ (s : State) (r : Waiting) (t : Tunnel), s.runningOp 0x2103 = some r ∧ s.tunFor r (r.w 0).toNat = some t) ∧
    (∃ (s : State) (r : Waiting), s.runningOp 0x2103 = some r ∧ s.tunFor r (r.w 0).toNat = none) ∧
    (∃ (s : State) (r : Waiting) (ts : List Tunnel), s.runningOp 0x2104 = some r ∧ (s.tun.table.filter fun t => s.seesTun r.src t).foldr insertTun [] = ts) ∧
    (∃ (s : State) (r : Waiting) (t : Tunnel), s.runningOp 0x2110 = some r ∧ s.tunFor r (r.w 0).toNat = some t) ∧
    (∃ (s : State) (r : Waiting), s.runningOp 0x2110 = some r ∧ s.tunFor r (r.w 0).toNat = none) ∧
    (∃ (s : State) (r : Waiting) (t : RootTun), s.runningOp 0x2143 = some r ∧ s.tun.rootTuns.find? (fun x => x.number == r.f 0 31 12 / 2 && (x.hubA == s.peerHub r.src || x.hubB == s.peerHub r.src)) = some t) ∧
    (∃ (s : State) (r : Waiting), s.runningOp 0x2143 = some r ∧ s.tun.rootTuns.find? (fun x => x.number == r.f 0 31 12 / 2 && (x.hubA == s.peerHub r.src || x.hubB == s.peerHub r.src)) = none) ∧
    (∃ (s : State) (r : Waiting) (t : Tunnel), s.runningOp 0x2144 = some r ∧ s.tunByNumber (r.f 0 31 12 / 2) = some t) ∧
    (∃ (s : State) (r : Waiting), s.runningOp 0x2144 = some r ∧ s.tunByNumber (r.f 0 31 12 / 2) = none) := by
  exact ⟨⟨tunCmd 0x2102 [1] { idx := 1 }, req 0x2102 [1], { idx := 1 }, by decide⟩,
    ⟨withCmdData 0x2102 [1], req 0x2102 [1], by decide⟩,
    ⟨tunCmd 0x2103 [1] { idx := 1 }, req 0x2103 [1], { idx := 1 }, by decide⟩,
    ⟨withCmdData 0x2103 [1], req 0x2103 [1], by decide⟩,
    ⟨withCmdData 0x2104 [0], req 0x2104 [0], [], by decide⟩,
    ⟨tunCmd 0x2110 [1] { idx := 1 }, req 0x2110 [1], { idx := 1 }, by decide⟩,
    ⟨withCmdData 0x2110 [1], req 0x2110 [1], by decide⟩,
    ⟨{ withCmdData 0x2143 [0x2000] with tun.rootTuns := [{ number := 1 }] }, req 0x2143 [0x2000], { number := 1 }, by decide⟩,
    ⟨withCmdData 0x2143 [0x2000], req 0x2143 [0x2000], by decide⟩,
    ⟨tunCmd 0x2144 [0x2000] { idx := 1, number := 1 }, req 0x2144 [0x2000], { idx := 1, number := 1 }, by decide⟩,
    ⟨withCmdData 0x2144 [0x2000], req 0x2144 [0x2000], by decide⟩⟩

/-- States and operands that meet the hypotheses of `Obligations.TunnelCellsAndTimersKeepATunnel`, clause by clause. -/
theorem wit_TunnelCellsAndTimersKeepATunnel :
    (∃ (s : State) (c : Cell), s.tun.table.find? (fun t => t.number != 0 && t.rx == c.tunnel.toNat) = none) ∧
    (∃ (s : State) (c : Cell) (g : Option Bool) (t : Tunnel), s.tun.table.find? (fun t => t.number != 0 && t.rx == c.tunnel.toNat) = some t ∧ (c.enc && g.any fun n => t.keyServes c n) = false) ∧
    (∃ (s : State) (c : Cell) (n : Bool) (t : Tunnel), s.tun.table.find? (fun t => t.number != 0 && t.rx == c.tunnel.toNat) = some t ∧ c.enc = true ∧ t.keyServes c n = true) ∧
    (∃ (s : State) (i : BitVec 14), s.tunAt i.toNat = none) ∧
    (∃ (s : State) (i : BitVec 14) (t : Tunnel), s.tunAt i.toNat = some t ∧ t.st ≠ .up ∧ t.st ≠ .stalled) ∧
    (∃ (s : State) (i : BitVec 14) (t : Tunnel), s.tunAt i.toNat = some t ∧ (t.st = .up ∨ t.st = .stalled)) ∧
    (∃ (s : State) (i : BitVec 14) (t : Tunnel), s.tunAt i.toNat = some t) ∧
    (∃ (s : State) (i : BitVec 14) (t : Tunnel), s.tunAt i.toNat = some t) ∧
    (∃ (s : State) (i : BitVec 14) (t : Tunnel), s.tunAt i.toNat = some t) ∧
    (∃ (s : State) (i : BitVec 14) (t : Tunnel), s.tunAt i.toNat = some t) ∧
    (∃ (s : State) (i : BitVec 14) (t : Tunnel), s.tunAt i.toNat = some t ∧ t.st ≠ .stalled) ∧
    (∃ (s : State) (i : BitVec 14) (t : Tunnel), s.tunAt i.toNat = some t ∧ t.st = .stalled ∧ s.topo.rootChan = some t.idx) ∧
    (∃ (s : State) (i : BitVec 14) (t : Tunnel), s.tunAt i.toNat = some t ∧ t.st = .stalled ∧ s.topo.rootChan ≠ some t.idx) ∧
    (∃ (s : State) (i : BitVec 14) (t : Tunnel), s.tunAt i.toNat = some t) ∧
    (∃ (s : State) (i : BitVec 14) (t : Tunnel), s.tunAt i.toNat = some t ∧ (reliable t.p.cls = true ∨ t.repeats = 0)) ∧
    (∃ (s : State) (i : BitVec 14) (t : Tunnel), s.tunAt i.toNat = some t ∧ reliable t.p.cls = false ∧ t.repeats ≠ 0 ∧ t.st = .closing ∧ t.began = true ∧ t.gotClose = false) ∧
    (∃ (s : State) (i : BitVec 14) (t : Tunnel), s.tunAt i.toNat = some t ∧ reliable t.p.cls = false ∧ t.repeats ≠ 0 ∧ (t.st == .closing && t.began && !t.gotClose) = false) ∧
    (∃ (s : State) (i : BitVec 14) (t : Tunnel), s.tunAt i.toNat = some t) ∧
    (∃ (s : State) (i : BitVec 14) (t : Tunnel), s.tunAt i.toNat = some t) ∧
    (∃ (s : State) (i : BitVec 14) (t : Tunnel), s.tunAt i.toNat = some t) ∧
    (∃ (s : State) (i : BitVec 14) (t : Tunnel), s.tunAt i.toNat = some t) := by
  exact ⟨⟨onHub, {}, by decide⟩,
    ⟨withTun { idx := 1, number := 1 }, { tunnel := 3 }, none, { idx := 1, number := 1 }, by decide⟩,
    ⟨withTun { idx := 1, number := 1 }, { tunnel := 3, enc := true }, true, { idx := 1, number := 1 }, by decide⟩,
    ⟨onHub, 9, by decide⟩,
    ⟨withTun { idx := 1, st := .closing }, 1, { idx := 1, st := .closing }, by decide⟩,
    ⟨withTun { idx := 1, st := .up }, 1, { idx := 1, st := .up }, by decide, Or.inl rfl⟩,
    ⟨withTun { idx := 1, gen := 0 }, 1, { idx := 1, gen := 0 }, by decide⟩,
    ⟨withTun { idx := 1, gen := 0 }, 1, { idx := 1, gen := 0 }, by decide⟩,
    ⟨withTun { idx := 1, gen := 0 }, 1, { idx := 1, gen := 0 }, by decide⟩,
    ⟨withTun { idx := 1, st := .up }, 1, { idx := 1, st := .up }, by decide⟩,
    ⟨withTun { idx := 1, st := .up }, 1, { idx := 1, st := .up }, by decide⟩,
    ⟨{ withTun { idx := 1, st := .stalled } with topo.rootChan := some 1 }, 1, { idx := 1, st := .stalled }, by decide⟩,
    ⟨withTun { idx := 1, st := .stalled }, 1, { idx := 1, st := .stalled }, by decide⟩,
    ⟨withTun { idx := 1, st := .closing }, 1, { idx := 1, st := .closing }, by decide⟩,
    ⟨withTun { idx := 1, repeats := 0 }, 1, { idx := 1, repeats := 0 }, by decide, Or.inr (by decide)⟩,
    ⟨withTun { idx := 1, st := .closing, p.cls := 5, repeats := 1, began := true }, 1, { idx := 1, st := .closing, p.cls := 5, repeats := 1, began := true }, by decide⟩,
    ⟨withTun { idx := 1, st := .up, p.cls := 5, repeats := 1 }, 1, { idx := 1, st := .up, p.cls := 5, repeats := 1 }, by decide⟩,
    ⟨withTun { idx := 1, gen := 0 }, 1, { idx := 1, gen := 0 }, by decide⟩,
    ⟨withTun { idx := 1, gen := 0 }, 1, { idx := 1, gen := 0 }, by decide⟩,
    ⟨withTun { idx := 1, gen := 0 }, 1, { idx := 1, gen := 0 }, by decide⟩,
    ⟨withTun { idx := 1, gen := 0 }, 1, { idx := 1, gen := 0 }, by decide⟩⟩

/-- States and operands that meet the hypotheses of `Obligations.AllotmentPolicesAndStages`, clause by clause. -/
theorem wit_AllotmentPolicesAndStages :
    (∃ (s : State) (r : Waiting), s.runningOp 0x2310 = some r) ∧
    (∃ (s : State) (r : Waiting), s.runningOp 0x2311 = some r ∧ s.allot.pendingEp.any (fun e => e.no == (r.w 0).toNat) = true) ∧
    (∃ (s : State) (r : Waiting), s.runningOp 0x2311 = some r ∧ s.allot.pendingEp.any (fun e => e.no == (r.w 0).toNat) = false) ∧
    (∃ (s : State) (r : Waiting), s.runningOp 0x2301 = some r) ∧
    (∃ (s : State) (r : Waiting), s.runningOp 0x2302 = some r ∧ s.selected (r.w 0) = none) ∧
    (∃ (s : State) (r : Waiting) (k : QKey), s.runningOp 0x2302 = some r ∧ s.selected (r.w 0) = some k) ∧
    (∃ (s : State) (r : Waiting) (t : Tunnel), s.runningOp 0x2303 = some r ∧ s.tunFor r (r.w 0).toNat = some t) ∧
    (∃ (s : State) (r : Waiting), s.runningOp 0x2303 = some r ∧ s.tunFor r (r.w 0).toNat = none) ∧
    (∃ (s : State) (r : Waiting), s.runningOp 0x2320 = some r ∧ s.tunFor r (r.w 0).toNat = none) ∧
    (∃ (s : State) (r : Waiting) (t : Tunnel), s.runningOp 0x2320 = some r ∧ s.tunFor r (r.w 0).toNat = some t ∧ t.st ≠ .up) ∧
    (∃ (s : State) (r : Waiting) (t : Tunnel) (c : OpenParams) (b : Bool), s.runningOp 0x2320 = some r ∧ s.tunFor r (r.w 0).toNat = some t ∧ t.st = .up ∧ clampRates t.p.cls (r.f 1 31 8) (r.f 2 31 8) (r.f 3 31 16) (r.f 3 15 0) = (c, b)) ∧
    (∃ (s : State) (r : Waiting), s.runningOp 0x2340 = some r) ∧
    (∃ (s : State) (r : Waiting), s.runningOp 0x2341 = some r ∧ r.f 0 15 8 ≠ 2 ∧ r.f 0 15 8 ≠ 3) ∧
    (∃ (s : State) (r : Waiting) (no : Nat) (es : List (Nat × List Word)), s.runningOp 0x2341 = some r ∧ (r.f 0 15 8 = 2 ∨ r.f 0 15 8 = 3) ∧ s.allot.named.find? (fun x => x.1 == (r.w 1).toNat) = some (no, es)) ∧
    (∃ (s : State) (r : Waiting), s.runningOp 0x2341 = some r ∧ (r.f 0 15 8 = 2 ∨ r.f 0 15 8 = 3) ∧ s.allot.named.find? (fun x => x.1 == (r.w 1).toNat) = none) := by
  exact ⟨⟨withCmdData 0x2310 [0, 0, 0, 0], req 0x2310 [0, 0, 0, 0], by decide⟩,
    ⟨{ withCmdData 0x2311 [7] with allot.pendingEp := [{ no := 7 }] }, req 0x2311 [7], by decide⟩,
    ⟨withCmdData 0x2311 [7], req 0x2311 [7], by decide⟩,
    ⟨withCmd 0x2301, req 0x2301, by decide⟩,
    ⟨withCmdData 0x2302 [0x80F00000], req 0x2302 [0x80F00000], by decide⟩,
    ⟨withCmdData 0x2302 [0x00600000], req 0x2302 [0x00600000], vlQueue 0 6, by decide⟩,
    ⟨tunCmd 0x2303 [1] { idx := 1 }, req 0x2303 [1], { idx := 1 }, by decide⟩,
    ⟨withCmdData 0x2303 [1], req 0x2303 [1], by decide⟩,
    ⟨withCmdData 0x2320 [1], req 0x2320 [1], by decide⟩,
    ⟨tunCmd 0x2320 [1, 0, 0, 0] { idx := 1 }, req 0x2320 [1, 0, 0, 0], { idx := 1 }, by decide⟩,
    ⟨tunCmd 0x2320 [1, 0, 0, 0] { idx := 1, st := .up }, req 0x2320 [1, 0, 0, 0], { idx := 1, st := .up }, (clampRates 0 0 0 0 0).1, true, by decide⟩,
    ⟨peerCmd 0x2340 [0, 0, 0, 0], peerReq 0x2340 [0, 0, 0, 0], by decide⟩,
    ⟨withCmdData 0x2341 [0x100], req 0x2341 [0x100], by decide⟩,
    ⟨{ withCmdData 0x2341 [0x200, 7] with allot.named := [(7, [])] }, req 0x2341 [0x200, 7], 7, [], by decide, Or.inl (by decide), by decide⟩,
    ⟨withCmdData 0x2341 [0x200, 7], req 0x2341 [0x200, 7], by decide, Or.inl (by decide), by decide⟩⟩

/-- States and operands that meet the hypotheses of `Obligations.LightingSegmentsFollowTheBus`, clause by clause. -/
theorem wit_LightingSegmentsFollowTheBus :
    (∃ (s : State) (n : Fin 4) (k : Fin 4) (g : Fin 16), g = lightPort n k ∧ (s.sg g.val).st ≠ .run) ∧
    (∃ (s : State) (n : Fin 4) (k : Fin 4) (g : Fin 16), g = lightPort n k ∧ (s.sg g.val).st = .run ∧ (s.sg g.val).lastStart = none) ∧
    (∃ (s : State) (n : Fin 4) (k : Fin 4) (g : Fin 16) (t : Nat), g = lightPort n k ∧ (s.sg g.val).st = .run ∧ s.sinceBeacon g.val = some t) ∧
    (∃ (s : State) (n : Fin 4) (k : Fin 4) (g : Fin 16) (t : Nat), g = lightPort n k ∧ (s.sg g.val).st = .run ∧ s.sinceBeacon g.val = some t) ∧
    (∃ (s : State) (n : Fin 4) (k : Fin 4) (g : Fin 16) (o : Bool), g = lightPort n k ∧ (s.sg g.val).dueAt o = none) ∧
    (∃ (s : State) (n : Fin 4) (k : Fin 4) (g : Fin 16) (o : Bool) (d : Nat), g = lightPort n k ∧ (s.sg g.val).st = .run ∧ (s.sg g.val).dueAt o = some d) ∧
    (∃ (s : State) (g : Fin 16), ((s.sg g.val).st ≠ .run ∨ (s.sg g.val).lastFrame = none)) ∧
    (∃ (s : State) (g : Fin 16) (f : CycleFrame), (s.sg g.val).st = .run ∧ (s.sg g.val).lastFrame = some f) ∧
    (∃ (s : State) (g : Fin 16) (f : CycleFrame), (s.sg g.val).st = .run ∧ (s.sg g.val).lastFrame = some f) ∧
    (∃ (s : State) (g : Fin 16), ((s.sg g.val).st == .run && (s.sg g.val).lastFrame.any (fun f => f.enrol) && !(s.sg g.val).answered) = false) ∧
    (∃ (s : State) (g : Fin 16) (f : CycleFrame), (s.sg g.val).st = .run ∧ (s.sg g.val).lastFrame = some f ∧ f.enrol = true ∧ (s.sg g.val).answered = false) ∧
    (∃ (s : State) (g : Fin 16) (f : CycleFrame), (s.sg g.val).st = .run ∧ (s.sg g.val).lastFrame = some f ∧ f.enrol = true ∧ (s.sg g.val).answered = false) ∧
    (∃ (s : State) (g : Fin 16) (f : CycleFrame), (s.sg g.val).st = .run ∧ (s.sg g.val).lastFrame = some f ∧ f.enrol = true ∧ (s.sg g.val).answered = false) ∧
    (∃ (n : BitVec 5), n.toNat ≠ 0) := by
  exact ⟨⟨lightHub {}, 3, 3, 15, by decide⟩,
    ⟨lightHub { st := .run }, 3, 3, 15, by decide⟩,
    ⟨lightHub { st := .run, lastStart := some 0 }, 3, 3, 15, 0, by decide⟩,
    ⟨lightHub { st := .run, lastStart := some 0 }, 3, 3, 15, 0, by decide⟩,
    ⟨lightHub { st := .run }, 3, 3, 15, false, by decide⟩,
    ⟨lightHub { st := .run, due := some 0 }, 3, 3, 15, false, 0, by decide⟩,
    ⟨lightHub {}, 15, Or.inr (by decide)⟩,
    ⟨lightHub { st := .run, lastFrame := some { poll := 1 } }, 15, { poll := 1 }, by decide⟩,
    ⟨lightHub { st := .run, lastFrame := some { poll := 1 } }, 15, { poll := 1 }, by decide⟩,
    ⟨lightHub {}, 15, by decide⟩,
    ⟨lightHub { st := .run, lastFrame := some { poll := 1, enrol := true } }, 15, { poll := 1, enrol := true }, by decide⟩,
    ⟨lightHub { st := .run, lastFrame := some { poll := 1, enrol := true } }, 15, { poll := 1, enrol := true }, by decide⟩,
    ⟨lightHub { st := .run, lastFrame := some { poll := 1, enrol := true } }, 15, { poll := 1, enrol := true }, by decide⟩,
    ⟨31, by decide⟩⟩

/-- States and operands that meet the hypotheses of `Obligations.LightingAndSceneCommandsAnswer`, clause by clause. -/
theorem wit_LightingAndSceneCommandsAnswer :
    (∃ (s : State) (r : Waiting), s.runningOp 0x3080 = some r) ∧
    (∃ (s : State) (r : Waiting), s.runningOp 0x3081 = some r) ∧
    (∃ (s : State) (r : Waiting), s.runningOp 0x3101 = some r) ∧
    (∃ (s : State) (r : Waiting), s.runningOp 0x3110 = some r ∧ s.phase.st = .acquire) ∧
    (∃ (s : State) (r : Waiting) (i : Fin 38), s.runningOp 0x3110 = some r ∧ s.phase.st ≠ .acquire ∧ r.src = .win i) ∧
    (∃ (s : State) (r : Waiting), s.runningOp 0x3110 = some r ∧ s.phase.st ≠ .acquire ∧ (∀ i : Fin 38, r.src ≠ .win i)) ∧
    (∃ (s : State) (r : Waiting) (i : Fin 38), s.runningOp 0x3111 = some r ∧ r.src = .win i ∧ s.light.gos.find? (fun g => g.handle == r.f 0 15 0) = none) ∧
    (∃ (s : State) (r : Waiting), s.runningOp 0x3111 = some r ∧ (∀ i : Fin 38, r.src ≠ .win i) ∧ s.light.gos.find? (fun g => g.tree && !g.origin && g.rootHandle == r.f 0 15 0) = none) ∧
    (∃ (s : State) (r : Waiting) (i : Fin 38) (g : Go), s.runningOp 0x3111 = some r ∧ r.src = .win i ∧ s.light.gos.find? (fun g => g.handle == r.f 0 15 0) = some g) ∧
    (∃ (s : State) (r : Waiting) (g : Go), s.runningOp 0x3111 = some r ∧ (∀ i : Fin 38, r.src ≠ .win i) ∧ s.light.gos.find? (fun g => g.tree && !g.origin && g.rootHandle == r.f 0 15 0) = some g) ∧
    (∃ (s : State) (r : Waiting), s.runningOp 0x3140 = some r) ∧
    (∃ (s : State) (h : BitVec 16) (g : Go), s.goOf h.toNat = some g) ∧
    (∃ (s : State) (h : BitVec 16), s.goOf h.toNat = none) := by
  exact ⟨⟨withCmd 0x3080, req 0x3080, by decide⟩,
    ⟨withCmdData 0x3081 [0xF8000000], req 0x3081 [0xF8000000], by decide⟩,
    ⟨withCmd 0x3101, req 0x3101, by decide⟩,
    ⟨withCmdData 0x3110 [0, 0, 0, 0], req 0x3110 [0, 0, 0, 0], by decide⟩,
    ⟨lockedCmd 0x3110 [0, 0, 0, 0], req 0x3110 [0, 0, 0, 0], 0, by decide⟩,
    ⟨{ peerCmd 0x3110 [0, 0, 0, 0] with phase.st := .locked }, peerReq 0x3110 [0, 0, 0, 0], by decide⟩,
    ⟨withCmdData 0x3111 [5], req 0x3111 [5], 0, by decide⟩,
    ⟨peerCmd 0x3111 [5], peerReq 0x3111 [5], by decide⟩,
    ⟨{ withCmdData 0x3111 [5] with light.gos := [{ handle := 5, ph := .armed, origin := false, inst := 1000000 }] }, req 0x3111 [5], 0, { handle := 5, ph := .armed, origin := false, inst := 1000000 }, by decide⟩,
    ⟨{ peerCmd 0x3111 [5] with light.gos := [{ tree := true, rootHandle := 5 }] }, peerReq 0x3111 [5], { tree := true, rootHandle := 5 }, by decide⟩,
    ⟨withCmd 0x3140, req 0x3140, by decide⟩,
    ⟨{ onHub with light.gos := [{ handle := 5 }] }, 5, { handle := 5 }, by decide⟩,
    ⟨onHub, 5, by decide⟩⟩

/-- States and operands that meet the hypotheses of `Obligations.TheDirectoryIsTheRoots`, clause by clause. -/
theorem wit_TheDirectoryIsTheRoots :
    (∃ (s : State), s.isRoot = false) ∧
    (∃ (s : State) (r : Waiting), s.runningOp 0x3201 = some r ∧ s.isRoot = true) ∧
    (∃ (s : State) (r : Waiting), s.runningOp 0x3202 = some r ∧ s.isRoot = true) ∧
    (∃ (s : State) (r : Waiting), s.runningOp 0x3203 = some r ∧ s.isRoot = true) ∧
    (∃ (s : State) (r : Waiting), s.runningOp 0x3210 = some r ∧ s.isRoot = true ∧ (r.f 0 7 6 = 0 ∨ r.f 0 7 6 = 3 ∨ (0x800000 ≤ r.f 0 31 8 ∧ r.f 0 7 6 ≠ 2) ∨ (r.f 0 31 8 < 0x800000 ∧ r.f 0 7 6 = 2))) ∧
    (∃ (s : State) (r : Waiting), s.runningOp 0x3210 = some r ∧ s.isRoot = true ∧ r.f 0 7 6 = 1 ∧ r.f 0 31 8 < 0x10) ∧
    (∃ (s : State) (r : Waiting) (d : DirRec), s.runningOp 0x3210 = some r ∧ s.isRoot = true ∧ ((r.f 0 7 6 = 2 ∧ 0x800000 ≤ r.f 0 31 8) ∨ (r.f 0 7 6 = 1 ∧ 0x10 ≤ r.f 0 31 8 ∧ r.f 0 31 8 < 0x800000)) ∧ s.dirRec (r.f 0 31 8) = some d) ∧
    (∃ (s : State) (r : Waiting), s.runningOp 0x3210 = some r ∧ s.isRoot = true ∧ ((r.f 0 7 6 = 2 ∧ 0x800000 ≤ r.f 0 31 8) ∨ (r.f 0 7 6 = 1 ∧ 0x10 ≤ r.f 0 31 8 ∧ r.f 0 31 8 < 0x800000)) ∧ s.dirRec (r.f 0 31 8) = none) ∧
    (∃ (s : State) (r : Waiting) (d : DirRec), s.runningOp 0x3211 = some r ∧ s.isRoot = true ∧ s.dirRec (r.f 0 23 0) = some d ∧ (d.kind == 1 && d.present) = false) ∧
    (∃ (s : State) (r : Waiting) (d : DirRec), s.runningOp 0x3211 = some r ∧ s.isRoot = true ∧ s.dirRec (r.f 0 23 0) = some d ∧ d.kind = 1 ∧ d.present = true) ∧
    (∃ (s : State) (r : Waiting), s.runningOp 0x3211 = some r ∧ s.isRoot = true ∧ s.dirRec (r.f 0 23 0) = none) ∧
    (∃ (s : State) (r : Waiting), s.runningOp 0x3240 = some r ∧ s.isRoot = true) ∧
    (∃ (s : State) (r : Waiting), s.runningOp 0x3241 = some r ∧ s.isRoot = true) := by
  exact ⟨⟨{ withCmdData 0x3211 [16] with sys.role := .zone }, by decide⟩,
    ⟨joinedCmd 0x3201 [16], req 0x3201 [16], by decide⟩,
    ⟨joinedCmd 0x3202 [0, 0], req 0x3202 [0, 0], by decide⟩,
    ⟨joinedCmd 0x3203 [], req 0x3203 [], by decide⟩,
    ⟨joinedCmd 0x3210 [0], req 0x3210 [0], by decide, by decide, Or.inl (by decide)⟩,
    ⟨joinedCmd 0x3210 [0x40], req 0x3210 [0x40], by decide⟩,
    ⟨{ joinedCmd 0x3210 [0x80000080] with dir.recs := [{ id := 0x800000 }] }, req 0x3210 [0x80000080], { id := 0x800000 }, by decide, by decide, Or.inl (by decide), by decide⟩,
    ⟨joinedCmd 0x3210 [0x80000080], req 0x3210 [0x80000080], by decide, by decide, Or.inl (by decide), by decide⟩,
    ⟨{ joinedCmd 0x3211 [16] with dir.recs := [{ id := 16, present := false }] }, req 0x3211 [16], { id := 16, present := false }, by decide⟩,
    ⟨{ joinedCmd 0x3211 [16] with dir.recs := [{ id := 16, kind := 1, present := true }] }, req 0x3211 [16], { id := 16, kind := 1, present := true }, by decide⟩,
    ⟨joinedCmd 0x3211 [16], req 0x3211 [16], by decide⟩,
    ⟨joinedCmd 0x3240 [0, 0, 0], req 0x3240 [0, 0, 0], by decide⟩,
    ⟨joinedCmd 0x3241 [], req 0x3241 [], by decide⟩⟩

/-- States and operands that meet the hypotheses of `Obligations.FeedsSwitchInOrder`, clause by clause. -/
theorem wit_FeedsSwitchInOrder :
    (∃ (s : State) (f : Fin 2), (s.fd f).st ≠ .qualifying) ∧
    (∃ (s : State) (f : Fin 2), (s.fd f).st = .qualifying) ∧
    (∃ (s : State) (f : Fin 2), s.pwr.sw = .gateOff ∧ s.pwr.selected = some f) ∧
    (∃ (s : State) (f : Fin 2), s.pwr.sw = .dead ∧ s.pwr.selected = some f) ∧
    (∃ (s : State) (f : Fin 2), s.pwr.sw = .gateOn ∧ s.pwr.selected = some f) ∧
    (∃ (s : State) (f : Fin 2), s.pwr.selected = some f ∧ s.pwr.warn = true ∧ s.warnMv + 1000 < (s.fd f).mv) ∧
    (∃ (s : State), (s.pwr.selected = none ∨ s.pwr.warn = false ∨ (∀ f, s.pwr.selected = some f → (s.fd f).mv ≤ s.warnMv + 1000))) := by
  exact ⟨⟨{ onHub with pwr.feed := Vector.replicate 2 { st := .good } }, 1, by decide⟩,
    ⟨{ onHub with pwr.feed := Vector.replicate 2 { st := .qualifying }, pwr.selected := some 1 }, 0, by decide⟩,
    ⟨{ onHub with pwr.sw := .gateOff, pwr.selected := some 1 }, 1, by decide⟩,
    ⟨{ onHub with pwr.sw := .dead, pwr.selected := some 1 }, 1, by decide⟩,
    ⟨{ onHub with pwr.sw := .gateOn, pwr.selected := some 1 }, 1, by decide⟩,
    ⟨{ onHub with pwr.selected := some 1, pwr.warn := true, pwr.feed := Vector.replicate 2 { mv := 65535 } }, 1, by decide⟩,
    ⟨onHub, Or.inl (by decide)⟩⟩

/-- States and operands that meet the hypotheses of `Obligations.LightingPortsPowerUpAndTrip`, clause by clause. -/
theorem wit_LightingPortsPowerUpAndTrip :
    (∃ (s : State), s.lightOn = false) ∧
    (∃ (s : State), s.lightOn = true) ∧
    (∃ (s : State), s.lightOn = true) ∧
    (∃ (s : State) (p : Fin 16), ((s.lp p.val).st ≠ .unstable ∨ 2 < (s.lp p.val).unseats ∨ (s.lp p.val).quietWin < 2)) ∧
    (∃ (s : State) (p : Fin 16), (s.lp p.val).st = .unstable ∧ (s.lp p.val).unseats ≤ 2 ∧ 2 ≤ (s.lp p.val).quietWin) ∧
    (∃ (s : State) (p : Fin 16), (s.lightOn = false ∨ (s.lp p.val).driven = false)) ∧
    (∃ (s : State) (p : Fin 16), s.lightOn = true ∧ (s.lp p.val).driven = true) ∧
    (∃ (s : State) (p : Fin 16), (s.diag.calQueue.getD (p.val / 4) []).head? ≠ some p) ∧
    (∃ (s : State) (p : Fin 16), (s.diag.calQueue.getD (p.val / 4) []).head? = some p ∧ s.testOf 3 p.val = none) ∧
    (∃ (s : State) (p : Fin 16) (t : UnitTest), (s.diag.calQueue.getD (p.val / 4) []).head? = some p ∧ s.testOf 3 p.val = some t) := by
  exact ⟨⟨State.reset, by decide⟩,
    ⟨portHub { seatLow := true }, by decide⟩,
    ⟨portHub { seatLow := true, st := .on }, by decide⟩,
    ⟨portHub {}, 15, Or.inl (by decide)⟩,
    ⟨portHub { st := .unstable, quietWin := 2 }, 15, by decide⟩,
    ⟨State.reset, 0, Or.inl (by decide)⟩,
    ⟨portHub { st := .on }, 15, by decide⟩,
    ⟨onHub, 15, by decide⟩,
    ⟨{ onHub with diag.calQueue := Vector.replicate 4 [15] }, 15, by decide⟩,
    ⟨{ onHub with diag.calQueue := Vector.replicate 4 [15], diag.tests := [{ kind := 3, unit := 15 }] }, 15, { kind := 3, unit := 15 }, by decide⟩⟩

/-- States and operands that meet the hypotheses of `Obligations.PowerIsMeteredAndCommanded`, clause by clause. -/
theorem wit_PowerIsMeteredAndCommanded :
    (∃ (s : State) (r : Waiting), s.runningOp 0x6001 = some r) ∧
    (∃ (s : State) (r : Waiting), s.runningOp 0x6002 = some r) ∧
    (∃ (s : State) (r : Waiting), s.runningOp 0x6003 = some r) ∧
    (∃ (s : State) (r : Waiting), s.runningOp 0x6004 = some r) ∧
    (∃ (s : State) (r : Waiting), s.runningOp 0x6010 = some r ∧ (r.f 0 3 0 = 1 ∨ r.f 0 3 0 = 2)) ∧
    (∃ (s : State) (r : Waiting), s.runningOp 0x6010 = some r ∧ r.f 0 3 0 ≠ 1 ∧ r.f 0 3 0 ≠ 2) ∧
    (∃ (s : State) (r : Waiting), s.runningOp 0x6011 = some r) := by
  exact ⟨⟨withCmd 0x6001, req 0x6001, by decide⟩,
    ⟨withCmd 0x6002, req 0x6002, by decide⟩,
    ⟨withCmdData 0x6003 [1], req 0x6003 [1], by decide⟩,
    ⟨withCmd 0x6004, req 0x6004, by decide⟩,
    ⟨withCmdData 0x6010 [1], req 0x6010 [1], by decide, Or.inl (by decide)⟩,
    ⟨withCmdData 0x6010 [3], req 0x6010 [3], by decide⟩,
    ⟨withCmdData 0x6011 [0xF0000001], req 0x6011 [0xF0000001], by decide⟩⟩

/-- States and operands that meet the hypotheses of `Obligations.WindowsOfTheNearBridgeReadAndWrite`, clause by clause. -/
theorem wit_WindowsOfTheNearBridgeReadAndWrite :
    (∃ (s : State) (f : BitVec 5) (l : BitVec 13), (s.bar2On f.toNat = false ∨ l = 0)) ∧
    (∃ (s : State) (f : BitVec 5) (o : BitVec 30) (l : BitVec 13), s.bar2On f.toNat = true ∧ l ≠ 0 ∧ (s.window f.toNat (o.toNat / 2 ^ 27)).valid = false) ∧
    (∃ (s : State) (f : BitVec 5) (o : BitVec 30) (l : BitVec 13) (w : Window), s.bar2On f.toNat = true ∧ l ≠ 0 ∧ s.window f.toNat (o.toNat / 2 ^ 27) = w ∧ w.valid = true ∧ s.windowTun w = some none) ∧
    (∃ (s : State) (f : BitVec 5) (o : BitVec 30) (l : BitVec 13) (w : Window), s.bar2On f.toNat = true ∧ l ≠ 0 ∧ s.window f.toNat (o.toNat / 2 ^ 27) = w ∧ w.valid = true ∧ s.windowTun w ≠ some none ∧ w.exp = 0 ∧ (64 < l.toNat ∨ 16384 < o.toNat % 16384 + l.toNat)) ∧
    (∃ (s : State) (f : BitVec 5) (o : BitVec 30) (l : BitVec 13) (w : Window), s.bar2On f.toNat = true ∧ l ≠ 0 ∧ s.window f.toNat (o.toNat / 2 ^ 27) = w ∧ w.valid = true ∧ s.windowTun w ≠ some none ∧ w.exp = 0 ∧ l.toNat ≤ 64 ∧ o.toNat % 16384 + l.toNat ≤ 16384 ∧ (w.confirm && s.unconfirmed f.toNat (o.toNat / 2 ^ 27)) = true) ∧
    (∃ (s : State) (f : BitVec 5) (o : BitVec 30) (l : BitVec 13) (w : Window) (d : DelayedRead), s.bar2On f.toNat = true ∧ l ≠ 0 ∧ s.window f.toNat (o.toNat / 2 ^ 27) = w ∧ w.valid = true ∧ s.windowTun w ≠ some none ∧ w.exp = 0 ∧ l.toNat ≤ 64 ∧ o.toNat % 16384 + l.toNat ≤ 16384 ∧ w.confirm = false ∧ s.bridge.dr.find? (fun d => d.fn == f.toNat && d.win == o.toNat / 2 ^ 27 && d.offset == o.toNat && d.len == l.toNat) = some d) ∧
    (∃ (s : State) (f : BitVec 5) (o : BitVec 30) (l : BitVec 13) (w : Window), s.bar2On f.toNat = true ∧ l ≠ 0 ∧ s.window f.toNat (o.toNat / 2 ^ 27) = w ∧ w.valid = true ∧ s.windowTun w ≠ some none ∧ w.exp = 0 ∧ l.toNat ≤ 64 ∧ o.toNat % 16384 + l.toNat ≤ 16384 ∧ w.confirm = false ∧ s.bridge.dr.find? (fun d => d.fn == f.toNat && d.win == o.toNat / 2 ^ 27 && d.offset == o.toNat && d.len == l.toNat) = none ∧ (s.freeTag = none ∨ 16 ≤ (s.bridge.dr.filter fun d => d.fn == f.toNat).length)) ∧
    (∃ (s : State) (f : BitVec 5) (o : BitVec 30) (l : BitVec 13) (w : Window) (g : Nat), s.bar2On f.toNat = true ∧ l ≠ 0 ∧ s.window f.toNat (o.toNat / 2 ^ 27) = w ∧ w.valid = true ∧ s.windowTun w ≠ some none ∧ w.exp = 0 ∧ l.toNat ≤ 64 ∧ o.toNat % 16384 + l.toNat ≤ 16384 ∧ w.confirm = false ∧ s.bridge.dr.find? (fun d => d.fn == f.toNat && d.win == o.toNat / 2 ^ 27 && d.offset == o.toNat && d.len == l.toNat) = none ∧ s.freeTag = some g ∧ (s.bridge.dr.filter fun d => d.fn == f.toNat).length < 16) ∧
    (∃ (s : State) (f : BitVec 5) (o : BitVec 30) (l : BitVec 13) (w : Window) (n : Nat) (a : Nat), s.bar2On f.toNat = true ∧ l ≠ 0 ∧ s.window f.toNat (o.toNat / 2 ^ 27) = w ∧ w.valid = true ∧ s.windowTun w ≠ some none ∧ w.exp ≠ 0 ∧ n = slotsOf o.toNat l.toNat ∧ a = w.memTarget (o.toNat % 2 ^ 27 / 4 * 4) ∧ s.prefetched f.toNat (o.toNat / 2 ^ 27) a (4 * n) = none ∧ s.freeTag = none) ∧
    (∃ (s : State) (f : BitVec 5) (o : BitVec 30) (l : BitVec 13) (w : Window) (n : Nat) (a : Nat) (p : Prefetched), s.bar2On f.toNat = true ∧ l ≠ 0 ∧ s.window f.toNat (o.toNat / 2 ^ 27) = w ∧ w.valid = true ∧ s.windowTun w ≠ some none ∧ w.exp ≠ 0 ∧ n = slotsOf o.toNat l.toNat ∧ a = w.memTarget (o.toNat % 2 ^ 27 / 4 * 4) ∧ s.prefetched f.toNat (o.toNat / 2 ^ 27) a (4 * n) = some p) ∧
    (∃ (s : State) (f : BitVec 5) (o : BitVec 30) (l : BitVec 13) (w : Window) (n : Nat) (a : Nat) (g : Nat), s.bar2On f.toNat = true ∧ l ≠ 0 ∧ s.window f.toNat (o.toNat / 2 ^ 27) = w ∧ w.valid = true ∧ s.windowTun w ≠ some none ∧ w.exp ≠ 0 ∧ n = slotsOf o.toNat l.toNat ∧ a = w.memTarget (o.toNat % 2 ^ 27 / 4 * 4) ∧ s.prefetched f.toNat (o.toNat / 2 ^ 27) a (4 * n) = none ∧ s.freeTag = some g) ∧
    (∃ (s : State) (f : BitVec 5), s.bar2On f.toNat = false) ∧
    (∃ (s : State) (f : BitVec 5), s.bar2On f.toNat = true ∧ s.bridge.port.any (fun p => p.fn == f.toNat) = true) ∧
    (∃ (s : State) (f : BitVec 5) (o : BitVec 30), s.bar2On f.toNat = true ∧ s.bridge.port.any (fun p => p.fn == f.toNat) = false ∧ (s.window f.toNat (o.toNat / 2 ^ 27)).valid = false) ∧
    (∃ (s : State) (f : BitVec 5) (o : BitVec 30) (w : Window), s.bar2On f.toNat = true ∧ s.bridge.port.any (fun p => p.fn == f.toNat) = false ∧ s.window f.toNat (o.toNat / 2 ^ 27) = w ∧ w.valid = true ∧ s.windowTun w = some none) ∧
    (∃ (s : State) (f : BitVec 5) (o : BitVec 30) (w : Window), s.bar2On f.toNat = true ∧ s.bridge.port.any (fun p => p.fn == f.toNat) = false ∧ s.window f.toNat (o.toNat / 2 ^ 27) = w ∧ w.valid = true ∧ s.windowTun w ≠ some none) ∧
    (∃ (s : State) (f : BitVec 5) (o : BitVec 30) (e : BitVec 4) (w : Window), s.bar2On f.toNat = true ∧ s.bridge.port.any (fun p => p.fn == f.toNat) = false ∧ s.window f.toNat (o.toNat / 2 ^ 27) = w ∧ w.valid = true ∧ s.windowTun w ≠ some none ∧ w.exp = 0 ∧ w.confirm = false ∧ e &&& 7 = 7) ∧
    (∃ (s : State) (g : Byte) (d : DelayedRead), s.bridge.dr.find? (fun d => d.tag == g.toNat && d.held) = some d) ∧
    (∃ (s : State) (g : Byte), s.bridge.dr.find? (fun d => d.tag == g.toNat && d.held) = none) ∧
    (∃ (s : State) (g : Byte) (d : DelayedRead), s.bridge.dr.find? (fun d => d.tag == g.toNat && d.st == .ready) = some d) ∧
    (∃ (s : State) (g : Byte), s.bridge.dr.find? (fun d => d.tag == g.toNat && d.st == .ready) = none) ∧
    (∃ (s : State) (g : Byte) (o : BrWrite), s.bridge.out.find? (fun o => o.tag == g.toNat && o.op == opRead) = some o) ∧
    (∃ (s : State) (g : Byte), s.bridge.out.find? (fun o => o.tag == g.toNat && o.op == opRead) = none) := by
  exact ⟨⟨onHub, 31, 0, by decide⟩,
    ⟨onHub, 31, 0x3fffffff, 1, by decide⟩,
    ⟨winHub { valid := true, handle := 9 }, 31, 0x3fffffff, 1, { valid := true, handle := 9 }, by decide⟩,
    ⟨winHub { valid := true }, 31, 0x3fffffff, 2, { valid := true }, by decide⟩,
    ⟨{ winHub { valid := true, confirm := true } with bridge.out := [{ fn := 31, win := 7, op := opWriteC }] }, 31, 0x3fffffff, 1, { valid := true, confirm := true }, by decide⟩,
    ⟨{ winHub { valid := true } with bridge.dr := [{ fn := 31, win := 7, offset := 0x3fffffff, len := 1 }] }, 31, 0x3fffffff, 1, { valid := true }, { fn := 31, win := 7, offset := 0x3fffffff, len := 1 }, by decide⟩,
    ⟨{ winHub { valid := true } with bridge.dr := List.replicate 16 { fn := 31 } }, 31, 0x3fffffff, 1, { valid := true }, by decide⟩,
    ⟨winHub { valid := true }, 31, 0x3fffffff, 1, { valid := true }, 1, by decide⟩,
    ⟨{ winHub { valid := true, exp := 15 } with bridge.out := (List.range 256).map fun k => { tag := k } }, 31, 0x3fffffff, 4096, { valid := true, exp := 15 }, 1025, 134217724, by decide⟩,
    ⟨{ winHub { valid := true, exp := 15 } with bridge.pf := [{ fn := 31, win := 0, start := 0, data := [1, 2, 3, 4] }] }, 31, 0, 4, { valid := true, exp := 15 }, 1, 0, { fn := 31, win := 0, start := 0, data := [1, 2, 3, 4] }, by decide⟩,
    ⟨winHub { valid := true, exp := 15 }, 31, 0x3fffffff, 4096, { valid := true, exp := 15 }, 1025, 134217724, 1, by decide⟩,
    ⟨State.reset, 31, by decide⟩,
    ⟨{ onHub with bridge.port := [{ fn := 31, off := 0, slots := [] }] }, 31, by decide⟩,
    ⟨onHub, 31, 0x3fffffff, by decide⟩,
    ⟨winHub { valid := true, handle := 9 }, 31, 0x3fffffff, { valid := true, handle := 9 }, by decide⟩,
    ⟨winHub { valid := true }, 31, 0x3fffffff, { valid := true }, by decide⟩,
    ⟨winHub { valid := true }, 31, 0x3fffffff, 15, { valid := true }, by decide⟩,
    ⟨{ onHub with bridge.dr := [{ tag := 255, held := true }] }, 255, { tag := 255, held := true }, by decide⟩,
    ⟨onHub, 255, by decide⟩,
    ⟨{ onHub with bridge.dr := [{ tag := 255, st := .ready }] }, 255, { tag := 255, st := .ready }, by decide⟩,
    ⟨{ onHub with bridge.dr := [{ tag := 255 }] }, 255, by decide⟩,
    ⟨{ onHub with bridge.out := [{ tag := 255, op := opRead }] }, 255, { tag := 255, op := opRead }, by decide⟩,
    ⟨{ onHub with bridge.out := [{ tag := 255, op := opWriteC }] }, 255, by decide⟩⟩

/-- States and operands that meet the hypotheses of `Obligations.BridgesExchangeTheirPdus`, clause by clause. -/
theorem wit_BridgesExchangeTheirPdus :
    (∃ (s : State) (b : BrFrom), s.hears b = false) ∧
    (∃ (s : State) (b : BrFrom) (e : BitVec 4), s.hears b = true ∧ s.reaches b e.toNat = false) ∧
    (∃ (s : State) (b : BrFrom), s.hears b = true ∧ s.reaches b 0 = true) ∧
    (∃ (s : State) (b : BrFrom) (by' : BitVec 16) (e : BitVec 4) (t : BitVec 64) (d : Option (List Word)) (c : Nat) (ws : List Word), s.hears b = true ∧ s.reaches b e.toNat = true ∧ e ≠ 0 ∧ s.exportRead (s.fromTenant b) e.toNat t.toNat by'.toNat d = (c, ws)) ∧
    (∃ (s : State) (b : BrFrom) (e : BitVec 4), s.hears b = true ∧ s.reaches b e.toNat = false) ∧
    (∃ (s : State) (b : BrFrom), s.hears b = true ∧ s.reaches b 0 = true) ∧
    (∃ (s : State) (u : State) (b : BrFrom) (v : Bool) (e : BitVec 4) (t : BitVec 64) (d : Word) (ds : List Word) (k : Nat), s.hears b = true ∧ s.reaches b e.toNat = true ∧ e ≠ 0 ∧ s.exportWrite (s.fromTenant b) e.toNat t.toNat (d :: ds) v = (u, k)) ∧
    (∃ (s : State) (b : BrFrom) (t : BitVec 64) (c : Nat), s.hears b = true ∧ s.partPlace (s.fromTenant b) t.toNat = .inl c) ∧
    (∃ (s : State) (b : BrFrom) (t : BitVec 64) (x : Nat × Nat × Nat), s.hears b = true ∧ s.partPlace (s.fromTenant b) t.toNat = .inr x ∧ (s.sg x.1).lock = none) ∧
    (∃ (s : State) (b : BrFrom) (t : BitVec 64) (x : Nat × Nat × Nat) (k : Lock), s.hears b = true ∧ s.partPlace (s.fromTenant b) t.toNat = .inr x ∧ (s.sg x.1).lock = some k) ∧
    (∃ (s : State) (b : BrFrom), s.hears b = true) ∧
    (∃ (s : State) (i : BitVec 14), s.hears (.tun i) = true) ∧
    (∃ (s : State) (l : BitVec 16) (q : LockSeq), s.bridge.seqs.find? (fun q => q.lsid == l.toNat && q.backoff) = some q) ∧
    (∃ (s : State) (l : BitVec 16), s.bridge.seqs.find? (fun q => q.lsid == l.toNat && q.backoff) = none) ∧
    (∃ (o : Byte), (o = 0 ∨ (7 ≤ o.toNat ∧ o.toNat < 0x81) ∨ 0x86 < o.toNat)) ∧
    (∃ (o : Byte), ((1 ≤ o.toNat ∧ o.toNat ≤ 6) ∨ o = 0x86)) ∧
    (∃ (s : State) (i : Option (BitVec 14)) (g : BitVec 16) (x : DelayedRead), s.bridge.dr.find? (fun k => k.tag == g.toNat && k.st == .pending && k.tun == i.map (·.toNat)) = some x) ∧
    (∃ (s : State) (i : Option (BitVec 14)) (g : BitVec 16) (x : BrWrite), s.bridge.dr.find? (fun k => k.tag == g.toNat && k.st == .pending && k.tun == i.map (·.toNat)) = none ∧ s.bridge.out.find? (fun o => o.tag == g.toNat && o.op == opRead && o.tun == i.map (·.toNat) && o.sent) = some x) ∧
    (∃ (s : State) (i : Option (BitVec 14)) (g : BitVec 16) (x : DelayedRead), g ≠ 0 ∧ s.bridge.dr.find? (fun k => k.tag == g.toNat && k.st == .pending && k.tun == i.map (·.toNat)) = some x) ∧
    (∃ (s : State) (i : Option (BitVec 14)) (g : BitVec 16), (g = 0 ∨ s.bridge.dr.find? (fun k => k.tag == g.toNat && k.st == .pending && k.tun == i.map (·.toNat)) = none)) ∧
    (∃ (s : State), (∀ f w, (s.window f w).valid = false)) ∧
    (∃ (s : State) (e : BitVec 24) (a : BitVec 18) (x : Window), s.bridge.windows = modAt (Vector.replicate 256 {}) 0 (fun _ => x) ∧ x.valid = true ∧ x.intrEn = true ∧ x.exp = 0 ∧ x.handle = 0 ∧ x.firstEp ≤ e.toNat ∧ e.toNat < x.firstEp + 8192 ∧ (a.toNat / 4096) &&& x.intrMask ≠ 0) := by
  exact ⟨⟨onHub, .tun 1, by decide⟩,
    ⟨withTun { idx := 1, st := .up }, .tun 1, 1, by decide⟩,
    ⟨withTun { idx := 1, st := .up }, .tun 1, by decide⟩,
    ⟨{ onHub with bridge.exports := Vector.replicate 16 { valid := true, kind := 1 } }, .fn 31, 4, 15, 0, some [7], 0, [7], by decide, by decide, by decide, by decide⟩,
    ⟨withTun { idx := 1, st := .up }, .tun 1, 1, by decide⟩,
    ⟨withTun { idx := 1, st := .up }, .tun 1, by decide⟩,
    ⟨onHub, onHub, .fn 31, true, 15, 0, 7, [], 12, by decide, by decide, by decide, rfl⟩,
    ⟨withTun { idx := 1, st := .up }, .tun 1, 0x5000, 1, by decide⟩,
    ⟨epHub, .fn 0, 0x5000, (0, 0, 0), by decide⟩,
    ⟨{ onHub with light.seg := Vector.replicate 16 { st := .run, lock := some { lsid := 1 }, nodes := Vector.replicate 32 { st := .admitted, eps := [{ id := 5 }] } } }, .fn 0, 0x5000, (0, 0, 0), { lsid := 1 }, by decide⟩,
    ⟨withTun { idx := 1, st := .up }, .tun 1, by decide⟩,
    ⟨withTun { idx := 1, st := .up }, 1, by decide⟩,
    ⟨{ onHub with bridge.seqs := [{ lsid := 65535, backoff := true }] }, 65535, { lsid := 65535, backoff := true }, by decide⟩,
    ⟨onHub, 65535, by decide⟩,
    ⟨0x87, Or.inr (Or.inr (by decide))⟩,
    ⟨0x86, by decide⟩,
    ⟨{ onHub with bridge.dr := [{ tag := 255 }] }, none, 255, { tag := 255 }, by decide⟩,
    ⟨{ onHub with bridge.out := [{ tag := 255, op := opRead, exp := 1 }] }, none, 255, { tag := 255, op := opRead, exp := 1 }, by decide⟩,
    ⟨{ onHub with bridge.dr := [{ tag := 255 }] }, none, 255, { tag := 255 }, by decide⟩,
    ⟨onHub, none, 0, by decide⟩,
    ⟨State.reset, reset_window⟩,
    ⟨{ onHub with bridge.windows := modAt (Vector.replicate 256 {}) 0 fun _ => { valid := true, intrEn := true, intrMask := 63 } }, 8191, 0x3F000, { valid := true, intrEn := true, intrMask := 63 }, by decide⟩⟩

/-- States and operands that meet the hypotheses of `Obligations.EndpointCommandsAccessNodes`, clause by clause. -/
theorem wit_EndpointCommandsAccessNodes :
    (∃ (s : State) (r : Waiting), s.runningOp 0x3001 = some r) ∧
    (∃ (s : State) (r : Waiting), s.runningOp 0x3010 = some r ∧ fnOfSrc r.src = none) ∧
    (∃ (s : State) (r : Waiting) (f : Nat), s.runningOp 0x3010 = some r ∧ fnOfSrc r.src = some f) ∧
    (∃ (s : State) (r : Waiting), s.runningOp 0x3011 = some r) ∧
    (∃ (s : State) (r : Waiting), s.runningOp 0x3020 = some r) ∧
    (∃ (s : State) (r : Waiting), s.runningOp 0x3020 = some r ∧ s.epRuns r.src = false ∧ r.f 1 11 0 + (r.f 1 19 16 + 1) ≤ 4096) ∧
    (∃ (s : State) (r : Waiting), s.runningOp 0x3021 = some r) ∧
    (∃ (s : State) (r : Waiting), s.runningOp 0x3021 = some r ∧ s.epRuns r.src = false ∧ r.f 1 11 0 + (r.f 1 19 16 + 1) ≤ 4096) ∧
    (∃ (s : State) (r : Waiting), s.runningOp 0x3022 = some r ∧ fnOfSrc r.src = none) ∧
    (∃ (s : State) (r : Waiting) (f : Nat) (q : LockSeq), s.runningOp 0x3022 = some r ∧ fnOfSrc r.src = some f ∧ s.bridge.seqs.find? (fun q => q.fn == f && q.win == r.f 0 31 29) = some q) ∧
    (∃ (s : State) (r : Waiting) (f : Nat), s.runningOp 0x3022 = some r ∧ fnOfSrc r.src = some f ∧ s.bridge.seqs.find? (fun q => q.fn == f && q.win == r.f 0 31 29) = none ∧ ((s.window f (r.f 0 31 29)).valid = false ∨ (s.window f (r.f 0 31 29)).exp ≠ 0)) ∧
    (∃ (s : State) (r : Waiting) (f : Nat) (w : Window), s.runningOp 0x3022 = some r ∧ fnOfSrc r.src = some f ∧ s.bridge.seqs.find? (fun q => q.fn == f && q.win == r.f 0 31 29) = none ∧ s.window f (r.f 0 31 29) = w ∧ w.valid = true ∧ w.exp = 0 ∧ s.windowTun w = some none) ∧
    (∃ (s : State) (r : Waiting) (f : Nat) (w : Window), s.runningOp 0x3022 = some r ∧ fnOfSrc r.src = some f ∧ s.bridge.seqs.find? (fun q => q.fn == f && q.win == r.f 0 31 29) = none ∧ s.window f (r.f 0 31 29) = w ∧ w.valid = true ∧ w.exp = 0 ∧ s.windowTun w ≠ some none) ∧
    (∃ (s : State) (r : Waiting), s.runningOp 0x3023 = some r ∧ fnOfSrc r.src = none) ∧
    (∃ (s : State) (r : Waiting) (f : Nat), s.runningOp 0x3023 = some r ∧ fnOfSrc r.src = some f ∧ s.bridge.seqs.find? (fun q => q.lsid == r.f 0 15 0 && q.fn == f && q.complete) = none) ∧
    (∃ (s : State) (r : Waiting) (f : Nat) (q : LockSeq), s.runningOp 0x3023 = some r ∧ fnOfSrc r.src = some f ∧ s.bridge.seqs.find? (fun q => q.lsid == r.f 0 15 0 && q.fn == f && q.complete) = some q) ∧
    (∃ (s : State) (r : Waiting), s.runningOp 0x3030 = some r) := by
  exact ⟨⟨withCmd 0x3001, req 0x3001, by decide⟩,
    ⟨withCmdData 0x3010 [], req 0x3010 [], by decide⟩,
    ⟨fnCmd 0x3010 [0xE0000000, 0, 0, 0], fnReq 0x3010 [0xE0000000, 0, 0, 0], 0, by decide⟩,
    ⟨fnCmd 0x3011 [0xE0000000, 0, 0, 0], fnReq 0x3011 [0xE0000000, 0, 0, 0], by decide⟩,
    ⟨withCmdData 0x3020 [0xFFFFFF, 0xF0FF0], req 0x3020 [0xFFFFFF, 0xF0FF0], by decide⟩,
    ⟨withCmdData 0x3020 [0xFFFFFF, 0xF0FF0], req 0x3020 [0xFFFFFF, 0xF0FF0], by decide⟩,
    ⟨withCmdData 0x3021 [0x80000000, 0x10FFE, 1, 2], req 0x3021 [0x80000000, 0x10FFE, 1, 2], by decide⟩,
    ⟨withCmdData 0x3021 [0x80000000, 0x10FFE, 1, 2], req 0x3021 [0x80000000, 0x10FFE, 1, 2], by decide⟩,
    ⟨withCmdData 0x3022 [0, 0], req 0x3022 [0, 0], by decide⟩,
    ⟨{ fnCmd 0x3022 [0, 5] with bridge.seqs := [{ lsid := 1 }] }, fnReq 0x3022 [0, 5], 0, { lsid := 1 }, by decide⟩,
    ⟨fnCmd 0x3022 [0xE0000000, 0, 0, 0], fnReq 0x3022 [0xE0000000, 0, 0, 0], 0, by decide⟩,
    ⟨{ fnCmd 0x3022 [0, 5] with bridge.windows := Vector.replicate 256 { valid := true, handle := 9 } }, fnReq 0x3022 [0, 5], 0, { valid := true, handle := 9 }, by decide⟩,
    ⟨{ fnCmd 0x3022 [0, 5] with bridge.windows := Vector.replicate 256 { valid := true } }, fnReq 0x3022 [0, 5], 0, { valid := true }, by decide⟩,
    ⟨withCmdData 0x3023 [0], req 0x3023 [0], by decide⟩,
    ⟨fnCmd 0x3023 [1], fnReq 0x3023 [1], 0, by decide⟩,
    ⟨{ fnCmd 0x3023 [1] with bridge.seqs := [{ lsid := 1, complete := true }] }, fnReq 0x3023 [1], 0, { lsid := 1, complete := true }, by decide⟩,
    ⟨withCmdData 0x3030 [1], req 0x3030 [1], by decide⟩⟩

/-- States and operands that meet the hypotheses of `Obligations.HeadsShowFramesFromTheirTunnels`, clause by clause. -/
theorem wit_HeadsShowFramesFromTheirTunnels :
    (∃ (s : State), s.paired = true ∧ ((s.hd 1).restart = false ∨ (s.hd 1).st = .off)) ∧
    (∃ (s : State) (h : Fin 2), (s.paired && h.val == 1) = false ∧ s.domOn 12 = true ∧ ((s.hd h.val).nextCfg.getD (s.hd h.val).cfg).enable = true ∧ ((s.hd h.val).restart && (s.hd h.val).st != .off) = false) ∧
    (∃ (s : State) (u : State) (i : BitVec 14), u = (((s.hd 0).targets.find? fun t => t.tun == i.toNat).map fun (t : Target) => s.sendRaster 0 t).getD s) ∧
    (∃ (s : State) (i : BitVec 14) (p : List Byte), byteNum p 0 1 = 2 ∧ s.desk.port.toList.any (fun x => x.vidTun == some i.toNat) = true) ∧
    (∃ (s : State) (i : BitVec 14) (p : List Byte), (byteNum p 0 1 ≠ 2 ∨ s.desk.port.toList.any (fun x => x.vidTun == some i.toNat) = false) ∧ s.targetOf i.toNat = none) ∧
    (∃ (s : State) (i : BitVec 14) (p : List Byte) (h : Nat) (t : Target), s.targetOf i.toNat = some (h, t) ∧ ((byteNum p 0 1 ≠ 1 ∧ byteNum p 0 1 ≠ 2) ∨ (byteNum p 0 1 = 1 ∧ (byteNum p 6 1 = 0 ∨ 52 < byteNum p 6 1 ∨ p.length ≠ 16 + 4 * byteNum p 6 1)))) ∧
    (∃ (s : State) (i : BitVec 14) (p : List Byte) (h : Nat) (t : Target), s.targetOf i.toNat = some (h, t) ∧ byteNum p 0 1 = 2) ∧
    (∃ (s : State) (i : BitVec 14) (p : List Byte) (h : Nat) (n : Nat) (y : Nat) (x : Nat) (t : Target), s.targetOf i.toNat = some (h, t) ∧ byteNum p 0 1 = 1 ∧ n = byteNum p 6 1 ∧ 1 ≤ n ∧ n ≤ 52 ∧ p.length = 16 + 4 * n ∧ y = byteNum p 2 2 ∧ x = byteNum p 4 2) := by
  exact ⟨⟨{ onHub with disp.head := Vector.replicate 2 { cfg.pair := true } }, by decide, Or.inl (by decide)⟩,
    ⟨{ onHub with disp.head := Vector.replicate 2 { cfg.enable := true } }, 1, by decide⟩,
    ⟨onHub, onHub, 3, rfl⟩,
    ⟨{ onHub with desk.port := Vector.replicate 4 { vidTun := some 3 } }, 3, [2], by decide⟩,
    ⟨onHub, 3, [], by decide⟩,
    ⟨dispHub, 3, [3], 1, { tun := 3 }, by decide⟩,
    ⟨dispHub, 3, [2], 1, { tun := 3 }, by decide⟩,
    ⟨dispHub, 3, [1, 0, 0, 0, 0, 0, 1, 0, 0, 0, 0, 0, 0, 0, 0, 0, 1, 2, 3, 4], 1, 1, 0, 0, { tun := 3 }, by decide⟩⟩

/-- States and operands that meet the hypotheses of `Obligations.DisplayCommandsCommitAndBind`, clause by clause. -/
theorem wit_DisplayCommandsCommitAndBind :
    (∃ (s : State) (r : Waiting), s.runningOp 0x4001 = some r) ∧
    (∃ (s : State) (r : Waiting), s.runningOp 0x4002 = some r ∧ ((s.hd (r.f 0 31 31)).st = .noSink ∨ (s.hd (r.f 0 31 31)).edid[r.f 0 7 0]? = none)) ∧
    (∃ (s : State) (r : Waiting) (b : List Word), s.runningOp 0x4002 = some r ∧ (s.hd (r.f 0 31 31)).st ≠ .noSink ∧ (s.hd (r.f 0 31 31)).edid[r.f 0 7 0]? = some b) ∧
    (∃ (s : State) (r : Waiting), s.runningOp 0x4010 = some r ∧ (s.seesHead r.src (r.f 0 31 31) = false ∨ (s.paired = true ∧ r.f 0 31 31 = 1))) ∧
    (∃ (s : State) (r : Waiting) (h : Nat), s.runningOp 0x4010 = some r ∧ r.f 0 31 31 = h ∧ s.seesHead r.src h = true ∧ (s.paired && h == 1) = false) ∧
    (∃ (s : State) (r : Waiting), s.runningOp 0x4011 = some r ∧ s.seesHead r.src (r.f 0 31 31) = true ∧ (r.w 1).toNat / 4 * 4 + 4 * (r.data.length - 2) ≤ (s.hd (r.f 0 31 31)).cfg.fbMib * mib) ∧
    (∃ (s : State) (r : Waiting), s.runningOp 0x4011 = some r ∧ (s.seesHead r.src (r.f 0 31 31) = false ∨ (s.hd (r.f 0 31 31)).cfg.fbMib * mib < (r.w 1).toNat / 4 * 4 + 4 * (r.data.drop 2).length)) ∧
    (∃ (s : State) (r : Waiting), s.runningOp 0x4020 = some r ∧ s.tunFor r (r.w 1).toNat = none) ∧
    (∃ (s : State) (r : Waiting) (t : Tunnel), s.runningOp 0x4020 = some r ∧ s.tunFor r (r.w 1).toNat = some t ∧ (t.p.cls ≠ 2 ∨ s.seesHead r.src (r.f 0 31 31) = false ∨ (s.paired = true ∧ r.f 0 31 31 = 1))) ∧
    (∃ (s : State) (r : Waiting) (t : Tunnel), s.runningOp 0x4020 = some r ∧ s.tunFor r (r.w 1).toNat = some t ∧ t.p.cls = 2 ∧ s.seesHead r.src (r.f 0 31 31) = true ∧ (s.paired && r.f 0 31 31 == 1) = false ∧ bitAt (r.w 0) 30 = true ∧ s.targetOf t.idx = none) ∧
    (∃ (s : State) (r : Waiting) (t : Tunnel) (x : Nat) (b : Target), s.runningOp 0x4020 = some r ∧ s.tunFor r (r.w 1).toNat = some t ∧ t.p.cls = 2 ∧ s.seesHead r.src (r.f 0 31 31) = true ∧ (s.paired && r.f 0 31 31 == 1) = false ∧ bitAt (r.w 0) 30 = true ∧ s.targetOf t.idx = some (x, b)) ∧
    (∃ (s : State) (r : Waiting) (t : Tunnel), s.runningOp 0x4020 = some r ∧ s.tunFor r (r.w 1).toNat = some t ∧ t.p.cls = 2 ∧ s.seesHead r.src (r.f 0 31 31) = true ∧ (s.paired && r.f 0 31 31 == 1) = false ∧ bitAt (r.w 0) 30 = false ∧ (leastFree (((s.hd (r.f 0 31 31)).targets.filter fun (x : Target) => x.tun != t.idx).map fun (x : Target) => x.slot) 0 4 = none ∨ (s.hd (r.f 0 31 31)).cfg.bufferOk (u64At r.data 2) (r.f 4 31 16) (r.f 5 31 16) (r.f 5 15 0) = false)) ∧
    (∃ (s : State) (r : Waiting) (t : Tunnel) (k : Nat), s.runningOp 0x4020 = some r ∧ s.tunFor r (r.w 1).toNat = some t ∧ t.p.cls = 2 ∧ s.seesHead r.src (r.f 0 31 31) = true ∧ (s.paired && r.f 0 31 31 == 1) = false ∧ bitAt (r.w 0) 30 = false ∧ leastFree (((s.hd (r.f 0 31 31)).targets.filter fun (x : Target) => x.tun != t.idx).map fun (x : Target) => x.slot) 0 4 = some k ∧ (s.hd (r.f 0 31 31)).cfg.bufferOk (u64At r.data 2) (r.f 4 31 16) (r.f 5 31 16) (r.f 5 15 0) = true) := by
  exact ⟨⟨withCmd 0x4001, req 0x4001, by decide⟩,
    ⟨withCmdData 0x4002 [0x800000FF], req 0x4002 [0x800000FF], by decide⟩,
    ⟨{ withCmdData 0x4002 [0] with disp.head := Vector.replicate 2 { st := .run, edid := [List.replicate 32 0] } }, req 0x4002 [0], List.replicate 32 0, by decide⟩,
    ⟨{ withCmdData 0x4010 [0] with mbx.boxes := Vector.replicate 38 { st := .idle, auth := .tenant, tenant := 7 } }, req 0x4010 [0], by decide⟩,
    ⟨withCmdData 0x4010 [0x80000000], req 0x4010 [0x80000000], 1, by decide⟩,
    ⟨{ withCmdData 0x4011 [0x80000000, 3, 9] with disp.head := Vector.replicate 2 { cfg.fbMib := 1 } }, req 0x4011 [0x80000000, 3, 9], by decide⟩,
    ⟨withCmdData 0x4011 [0, 3, 9], req 0x4011 [0, 3, 9], by decide, Or.inr (by decide)⟩,
    ⟨withCmdData 0x4020 [0, 5], req 0x4020 [0, 5], by decide⟩,
    ⟨tunCmd 0x4020 [0xC0000000, 1] { idx := 1, st := .up, p := { cls := 1 } }, req 0x4020 [0xC0000000, 1], { idx := 1, st := .up, p := { cls := 1 } }, by decide⟩,
    ⟨tunCmd 0x4020 [0xC0000000, 1] { idx := 1, st := .up, p := { cls := 2 } }, req 0x4020 [0xC0000000, 1], { idx := 1, st := .up, p := { cls := 2 } }, by decide⟩,
    ⟨{ tunCmd 0x4020 [0xC0000000, 1] { idx := 1, st := .up, p := { cls := 2 } } with disp.head := modAt (Vector.replicate 2 {}) 1 fun x => { x with targets := [{ tun := 1 }] } }, req 0x4020 [0xC0000000, 1], { idx := 1, st := .up, p := { cls := 2 } }, 1, { tun := 1 }, by decide⟩,
    ⟨tunCmd 0x4020 [0x80000000, 1, 0, 0, 0x00400000, 0x00100001] { idx := 1, st := .up, p := { cls := 2 } }, req 0x4020 [0x80000000, 1, 0, 0, 0x00400000, 0x00100001], { idx := 1, st := .up, p := { cls := 2 } }, by decide⟩,
    ⟨{ tunCmd 0x4020 [0x80000000, 1, 0, 0, 0x00400000, 0x00100001] { idx := 1, st := .up, p := { cls := 2 } } with disp.head := Vector.replicate 2 { cfg.fbMib := 1 } }, req 0x4020 [0x80000000, 1, 0, 0, 0x00400000, 0x00100001], { idx := 1, st := .up, p := { cls := 2 } }, 0, by decide⟩⟩

/-- States and operands that meet the hypotheses of `Obligations.DeskPortsAttachAndRecover`, clause by clause. -/
theorem wit_DeskPortsAttachAndRecover :
    (∃ (s : State) (p : Fin 4), (s.dk p.val).st = .attachWaitSrc) ∧
    (∃ (s : State) (p : Fin 4), (s.dk p.val).st = .attachWaitSnk) ∧
    (∃ (s : State) (p : Fin 4), (s.dk p.val).st = .tryWaitSnk) ∧
    (∃ (s : State) (p : Fin 4) (k : Fin 4), ((k.val = 3 ∧ (s.dk p.val).vconnOn = false) ∨ (k.val ≠ 3 ∧ (s.dk p.val).vbusOn = false))) ∧
    (∃ (s : State) (p : Fin 4) (k : Fin 4), ((k.val = 3 ∧ (s.dk p.val).vconnOn = true) ∨ (k.val ≠ 3 ∧ (s.dk p.val).vbusOn = true))) := by
  exact ⟨⟨deskHub { st := .attachWaitSrc }, 3, by decide⟩,
    ⟨deskHub { st := .attachWaitSnk }, 3, by decide⟩,
    ⟨deskHub { st := .tryWaitSnk }, 3, by decide⟩,
    ⟨deskHub {}, 3, 2, by decide⟩,
    ⟨deskHub { vbusOn := true, faultTimes := [0, 0] }, 3, 2, by decide⟩⟩

/-- States and operands that meet the hypotheses of `Obligations.DeskContractsAreMadeAndTimed`, clause by clause. -/
theorem wit_DeskContractsAreMadeAndTimed :
    (∃ (s : State) (p : Fin 4), (s.dk p.val).mayOffer = false) ∧
    (∃ (s : State) (p : Fin 4), (s.dk p.val).mayOffer = true) ∧
    (∃ (s : State) (p : Fin 4), (s.dk p.val).mayOffer = true) ∧
    (∃ (s : State) (p : Fin 4), ((s.dk p.val).st ≠ .attachedSrc ∨ (s.dk p.val).recovering = true ∨ (s.dk p.val).swap ≠ .none)) ∧
    (∃ (s : State) (p : Fin 4) (o : Fin 16) (v : Nat) (a : Nat) (c : Contract), (s.dk p.val).st = .attachedSrc ∧ (s.dk p.val).recovering = false ∧ (s.dk p.val).swap = .none ∧ (s.dk p.val).request o.val v a = some c) ∧
    (∃ (s : State) (p : Fin 4) (o : Fin 16) (v : Nat) (a : Nat), (s.dk p.val).st = .attachedSrc ∧ (s.dk p.val).recovering = false ∧ (s.dk p.val).swap = .none ∧ (s.dk p.val).request o.val v a = none) ∧
    (∃ (s : State) (p : Fin 4) (c : Contract), (s.dk p.val).swap = .none ∧ (s.dk p.val).transition = some c) ∧
    (∃ (s : State) (p : Fin 4), (s.dk p.val).swap = .oldOff ∧ (s.dk p.val).swapToSrc = true) ∧
    (∃ (s : State) (p : Fin 4), (s.dk p.val).swap = .accepted ∧ (s.dk p.val).swapToSrc = false) ∧
    (∃ (s : State) (p : Fin 4), (((s.dk p.val).swap = .accepted ∧ (s.dk p.val).swapToSrc = true) ∨ ((s.dk p.val).swap = .oldOff ∧ (s.dk p.val).swapToSrc = false) ∨ ((s.dk p.val).swap = .none ∧ (s.dk p.val).transition = none))) ∧
    (∃ (s : State) (p : Fin 4), (s.dk p.val).attached = false ∧ (s.dk p.val).st ≠ .deadSink) ∧
    (∃ (s : State) (p : Fin 4), (s.dk p.val).attached = true ∧ (s.dk p.val).swap = .oldOff) ∧
    (∃ (s : State), (∀ p, (s.dk p).reoffer = false)) ∧
    (∃ (s : State) (p : Nat), (List.range 4).find? (fun p => (s.dk p).reoffer) = some p) ∧
    (∃ (s : State) (p : Nat), (List.range 4).find? (fun p => (s.dk p).reoffer) = some p ∧ s.reofferBusy = false ∧ (s.dk p).mayOffer = true) ∧
    (∃ (s : State) (p : Fin 4), (s.dk p.val).st = .deadSink) ∧
    (∃ (s : State) (p : Fin 4), (s.dk p.val).st = .attachedSnk) ∧
    (∃ (s : State) (p : Fin 4), (s.dk p.val).st ≠ .attachedSnk ∧ (s.dk p.val).st ≠ .deadSink) := by
  exact ⟨⟨State.reset, 3, by decide⟩,
    ⟨deskHub { st := .attachedSrc, vbusOn := true }, 3, by decide⟩,
    ⟨deskHub { st := .attachedSrc, vbusOn := true, vconnOn := true }, 3, by decide⟩,
    ⟨deskHub {}, 3, by decide⟩,
    ⟨deskHub { st := .attachedSrc, caps := [(0, 5000, 5000, 3000)] }, 3, 1, 5000, 3000, { mv := 5000, ma := 3000 }, by decide⟩,
    ⟨deskHub { st := .attachedSrc, caps := [(0, 5000, 5000, 3000)] }, 3, 1, 5000, 3001, by decide⟩,
    ⟨deskHub { transition := some {}, contract := some {} }, 3, {}, by decide⟩,
    ⟨deskHub { swap := .oldOff, swapToSrc := true }, 3, by decide⟩,
    ⟨deskHub { swap := .accepted }, 3, by decide⟩,
    ⟨deskHub {}, 3, by decide⟩,
    ⟨deskHub {}, 3, by decide⟩,
    ⟨deskHub { st := .attachedSnk, swap := .oldOff }, 3, by decide⟩,
    ⟨State.reset, reset_reoffer⟩,
    ⟨deskHub { st := .attachedSrc, vbusOn := true, reoffer := true }, 0, by decide⟩,
    ⟨deskHub { st := .attachedSrc, vbusOn := true, reoffer := true }, 0, by decide⟩,
    ⟨deskHub { st := .deadSink }, 3, by decide⟩,
    ⟨deskHub { st := .attachedSnk }, 3, by decide⟩,
    ⟨deskHub {}, 3, by decide⟩⟩

/-- States and operands that meet the hypotheses of `Obligations.DeskRolesSwapAndCommandsAct`, clause by clause. -/
theorem wit_DeskRolesSwapAndCommandsAct :
    (∃ (s : State) (p : Fin 4), (s.dk p.val).st = .attachedSnk ∧ (s.dk p.val).moving = false) ∧
    (∃ (s : State) (p : Fin 4), (s.dk p.val).st = .attachedSrc ∧ (s.dk p.val).moving = false) ∧
    (∃ (s : State) (p : Fin 4), (s.dk p.val).st = .attachedSrc ∧ (s.dk p.val).moving = false ∧ (s.dk p.val).dfp = true ∧ (s.dk p.val).data.peripheral = false) ∧
    (∃ (s : State) (p : Fin 4) (m : PdMsg), (s.dk p.val).asked.getD m.slot false = false) ∧
    (∃ (s : State) (p : Fin 4) (m : PdMsg), (s.dk p.val).asked.getD m.slot false = true ∧ (s.dk p.val).inUse.waitRetries ≤ (s.dk p.val).waits.getD m.slot 0 + 1) ∧
    (∃ (s : State) (p : Fin 4) (m : PdMsg), (s.dk p.val).asked.getD m.slot false = true ∧ ¬ (s.dk p.val).inUse.waitRetries ≤ (s.dk p.val).waits.getD m.slot 0 + 1) ∧
    (∃ (s : State) (p : Fin 4) (m : PdMsg) (a : PdAnswer), (s.dk p.val).asked.getD m.slot false = false ∧ a ≠ .psRdy ∧ s.sys.start ≠ 1) ∧
    (∃ (s : State) (p : Fin 4), (s.dk p.val).asked.getD 0 false = true ∧ s.sys.start ≠ 1) ∧
    (∃ (s : State) (p : Fin 4), (s.dk p.val).asked.getD 1 false = true ∧ s.sys.start ≠ 1) ∧
    (∃ (s : State) (p : Fin 4), (s.dk p.val).asked.getD 3 false = true ∧ s.sys.start ≠ 1) ∧
    (∃ (s : State) (p : Fin 4), (s.dk p.val).asked.getD 2 false = true ∧ s.sys.start ≠ 1) ∧
    (∃ (s : State) (p : Fin 4) (m : PdMsg), (s.dk p.val).asked.getD m.slot false = true ∧ m ≠ .drSwap ∧ s.sys.start ≠ 1) ∧
    (∃ (s : State) (p : Fin 4), (s.dk p.val).swap = .accepted ∧ (s.dk p.val).swapToSrc = true ∧ s.sys.start ≠ 1) ∧
    (∃ (s : State) (p : Fin 4), (s.dk p.val).swap = .oldOff ∧ (s.dk p.val).swapToSrc = false ∧ s.sys.start ≠ 1) ∧
    (∃ (s : State) (r : Waiting), s.runningOp 0x5001 = some r) ∧
    (∃ (s : State) (r : Waiting), s.runningOp 0x5010 = some r) := by
  exact ⟨⟨deskHub { st := .attachedSnk }, 3, by decide⟩,
    ⟨deskHub { st := .attachedSrc }, 3, by decide⟩,
    ⟨deskHub { st := .attachedSrc, dfp := true }, 3, by decide⟩,
    ⟨deskHub {}, 3, .drSwap, by decide⟩,
    ⟨deskHub { asked := Vector.replicate 4 true, inUse.waitRetries := 1 }, 3, .drSwap, by decide⟩,
    ⟨deskHub { asked := Vector.replicate 4 true, inUse.waitRetries := 2 }, 3, .drSwap, by decide⟩,
    ⟨{ deskHub {} with sys.start := 0 }, 3, .drSwap, .accept, by decide⟩,
    ⟨{ deskHub { asked := Vector.replicate 4 true } with sys.start := 0 }, 3, by decide⟩,
    ⟨{ deskHub { asked := Vector.replicate 4 true } with sys.start := 0 }, 3, by decide⟩,
    ⟨{ deskHub { asked := Vector.replicate 4 true } with sys.start := 0 }, 3, by decide⟩,
    ⟨{ deskHub { asked := Vector.replicate 4 true } with sys.start := 0 }, 3, by decide⟩,
    ⟨{ deskHub { asked := Vector.replicate 4 true } with sys.start := 0 }, 3, .prSwap, by decide⟩,
    ⟨{ deskHub { swap := .accepted, swapToSrc := true } with sys.start := 0 }, 3, by decide⟩,
    ⟨{ deskHub { swap := .oldOff } with sys.start := 0 }, 3, by decide⟩,
    ⟨withCmd 0x5001, req 0x5001, by decide⟩,
    ⟨withCmdData 0x5010 [0xC0000003], req 0x5010 [0xC0000003], by decide⟩⟩

/-- States and operands that meet the hypotheses of `Obligations.LaptopsEnterDisplayPortMode`, clause by clause. -/
theorem wit_LaptopsEnterDisplayPortMode :
    (∃ (s : State) (p : Fin 4) (x : Fin 3), ((s.dk p.val).answersVdm = false ∨ x.val ≠ 0)) ∧
    (∃ (s : State) (p : Fin 4), (s.dk p.val).answersVdm = true) ∧
    (∃ (s : State) (p : Fin 4) (x : Fin 3), ((s.dk p.val).answersVdm = false ∨ x.val ≠ 0)) ∧
    (∃ (s : State) (p : Fin 4) (v : BitVec 16) (m : BitVec 3), (s.dk p.val).answersVdm = true ∧ (v ≠ 0xFF01 ∨ m ≠ 1 ∨ (s.dk p.val).data.dpEn = false ∨ (s.dk p.val).swap ≠ .none)) ∧
    (∃ (s : State) (p : Fin 4), (s.dk p.val).answersVdm = true ∧ (s.dk p.val).data.dpEn = true ∧ (s.dk p.val).swap = .none) ∧
    (∃ (s : State) (p : Fin 4), (s.dk p.val).answersVdm = true) ∧
    (∃ (s : State) (p : Fin 4), (s.dk p.val).alt = false) ∧
    (∃ (s : State) (p : Fin 4) (i : Byte) (r : BitVec 3), (s.dk p.val).alt = true ∧ (i = 0 ∨ ((i = 1 ∨ i = 2) ∧ r.toNat ≤ (s.dk p.val).data.maxDpRate))) ∧
    (∃ (s : State) (p : Fin 4) (i : Byte) (r : BitVec 3), (s.dk p.val).alt = true ∧ i ≠ 0 ∧ (3 ≤ i.toNat ∨ (s.dk p.val).data.maxDpRate < r.toNat)) ∧
    (∃ (s : State) (p : Fin 4) (r : Fin 6) (l : Fin 3), ((s.dk p.val).sink = 0 ∨ (s.dk p.val).pin = 0 ∨ (s.dk p.val).data.maxDpRate < r.val ∨ lanesOf l.val = 1 ∨ ((s.dk p.val).pin = 2 ∧ lanesOf l.val = 4))) ∧
    (∃ (s : State) (p : Fin 4) (r : Fin 6) (l : Fin 3), (s.dk p.val).pin ≠ 0 ∧ (s.dk p.val).sink ≠ 0 ∧ r.val ≤ (s.dk p.val).data.maxDpRate ∧ lanesOf l.val ≠ 1 ∧ ((s.dk p.val).pin ≠ 2 ∨ lanesOf l.val ≠ 4)) ∧
    (∃ (s : State) (p : Fin 4) (r : Fin 6) (l : Fin 3), (s.dk p.val).pin ≠ 0 ∧ (s.dk p.val).sink ≠ 0 ∧ r.val ≤ (s.dk p.val).data.maxDpRate ∧ lanesOf l.val ≠ 1 ∧ ((s.dk p.val).pin ≠ 2 ∨ lanesOf l.val ≠ 4)) ∧
    (∃ (s : State) (p : Fin 4), (s.dk p.val).sink ≠ 3) ∧
    (∃ (s : State) (p : Fin 4), (s.dk p.val).sink = 3) ∧
    (∃ (s : State) (p : Fin 4), (s.dk p.val).binding = none) ∧
    (∃ (s : State) (p : Fin 4) (b : Binding), (s.dk p.val).binding = some b ∧ ((s.dk p.val).sink ≠ 3 ∨ b.video = 0 ∨ (b.video = 2 ∧ (s.videoReady p.val = false ∨ ((s.dk p.val).vidTun.bind fun i => s.disp.pacing.find? fun y => y.1 == i) = none)))) ∧
    (∃ (s : State) (p : Fin 4) (b : Binding), (s.dk p.val).binding = some b ∧ b.video = 1 ∧ (s.dk p.val).sink = 3 ∧ (s.dk p.val).sendOn = false ∧ (s.dk p.val).frameWait = false) ∧
    (∃ (s : State) (p : Fin 4) (b : Binding) (r : Raster) (u : State), (s.dk p.val).binding = some b ∧ (s.dk p.val).sink = 3 ∧ (b.video = 1 ∨ (b.video = 2 ∧ ((s.dk p.val).vidTun.bind fun i => s.disp.pacing.find? fun y => y.1 == i) = some (((s.dk p.val).vidTun).getD 0, r) ∧ s.videoReady p.val = true)) ∧ u = (if !(s.dk p.val).sendOn && (s.dk p.val).frameWait then s.modDk p.val fun x => { x with sending := x.damage, damage := [], frameWait := false, sendOn := true, firstBand := true } else s) ∧ (u.dk p.val).sendOn = true) := by
  exact ⟨⟨State.reset, 3, 2, Or.inl (by decide)⟩,
    ⟨deskHub { st := .attachedSrc, roleHeld := true }, 3, by decide⟩,
    ⟨State.reset, 3, 2, Or.inl (by decide)⟩,
    ⟨deskHub { st := .attachedSrc, roleHeld := true, data.dpEn := false }, 3, 0xFF01, 1, by decide⟩,
    ⟨deskHub { st := .attachedSrc, roleHeld := true }, 3, by decide⟩,
    ⟨deskHub { st := .attachedSrc, roleHeld := true }, 3, by decide⟩,
    ⟨State.reset, 3, by decide⟩,
    ⟨deskHub { alt := true }, 3, 2, 5, by decide, by decide⟩,
    ⟨deskHub { alt := true }, 3, 255, 7, by decide, by decide, by decide⟩,
    ⟨State.reset, 3, 5, 2, by decide⟩,
    ⟨deskHub { pin := 1, sink := 1 }, 3, 5, 2, by decide, by decide, by decide, by decide, Or.inl (by decide)⟩,
    ⟨deskHub { pin := 1, sink := 1 }, 3, 5, 2, by decide, by decide, by decide, by decide, Or.inl (by decide)⟩,
    ⟨State.reset, 3, by decide⟩,
    ⟨deskHub { sink := 3 }, 3, by decide⟩,
    ⟨State.reset, 3, by decide⟩,
    ⟨deskHub { binding := some {} }, 3, {}, by decide, by decide⟩,
    ⟨deskHub { binding := some { video := 1 }, sink := 3 }, 3, { video := 1 }, by decide⟩,
    ⟨deskHub { binding := some { video := 1 }, sink := 3, sendOn := true, data.refreshLines := 0 }, 3, { video := 1 }, {}, deskHub { binding := some { video := 1 }, sink := 3, sendOn := true, data.refreshLines := 0 }, by decide, by decide, Or.inl (by decide), rfl, by decide⟩⟩

/-- States and operands that meet the hypotheses of `Obligations.DesksExportUsbDevices`, clause by clause. -/
theorem wit_DesksExportUsbDevices :
    (∃ (s : State) (i : BitVec 14), s.tunAt i.toNat = none) ∧
    (∃ (s : State) (i : BitVec 14) (t : Tunnel), s.tunAt i.toNat = some t ∧ (t.p.cls ≠ 3 ∨ t.endA = true)) ∧
    (∃ (s : State) (i : BitVec 14) (t : Tunnel), s.tunAt i.toNat = some t ∧ t.p.cls = 3 ∧ t.endA = false) ∧
    (∃ (s : State) (i : BitVec 14), s.mappedBy i.toNat = []) ∧
    (∃ (s : State) (i : BitVec 14) (p : Nat) (k : Nat), s.mappedBy i.toNat = [(p, k)]) ∧
    (∃ (s : State) (i : BitVec 14) (st : Byte) (p : Nat) (k : Nat), s.mappedBy i.toNat = [(p, k)] ∧ st ≠ 0) ∧
    (∃ (s : State) (i : BitVec 14) (p : Nat) (k : Nat), s.mappedBy i.toNat = [(p, k)]) ∧
    (∃ (u : Byte), u ≠ 4) ∧
    (∃ (s : State) (i : BitVec 14) (p : Nat) (k : Nat) (l : List (Nat × Nat)), s.mappedBy i.toNat = (p, k) :: l) ∧
    (∃ (s : State) (i : BitVec 14), s.mappedBy i.toNat = []) ∧
    (∃ (s : State) (p : Fin 4) (k : BitVec 3), ((s.dk p.val).hubShown = false ∨ k = 0)) ∧
    (∃ (s : State) (p : Fin 4), (s.dk p.val).hubShown = true ∧ (s.dk p.val).netTun = none) ∧
    (∃ (s : State) (p : Fin 4) (i : Nat), (s.dk p.val).hubShown = true ∧ (s.dk p.val).netTun = some i) ∧
    (∃ (s : State) (p : Fin 4) (d : List Byte) (i : Nat), (s.dk p.val).hubShown = true ∧ (s.dk p.val).netTun = some i ∧ (s.dk p.val).dataInUse.ncmEn = true ∧ s.tunIsUp i = true ∧ isTagged d = false) ∧
    (∃ (s : State) (p : Fin 4) (k : BitVec 3), (s.dk p.val).hubShown = true ∧ 2 ≤ k.toNat) ∧
    (∃ (s : State) (p : Fin 4), ((s.dk p.val).data.peripheral = false ∨ (s.dk p.val).attached = false ∨ (s.dk p.val).dfp = false)) ∧
    (∃ (s : State) (p : Fin 4), (s.dk p.val).data.peripheral = true ∧ (s.dk p.val).attached = true ∧ (s.dk p.val).dfp = true) ∧
    (∃ (s : State) (p : Fin 4), (s.dk p.val).data.peripheral = true ∧ (s.dk p.val).attached = true ∧ (s.dk p.val).dfp = true ∧ (∀ q k, ((s.dk q).mp k).map.kind = 0)) ∧
    (∃ (k : BitVec 3), 2 ≤ k.toNat) := by
  exact ⟨⟨State.reset, 1, by decide⟩,
    ⟨withTun mailTun, 1, mailTun, by decide⟩,
    ⟨withTun { idx := 1, st := .up, endA := false, p := { cls := 3 } }, 1, { idx := 1, st := .up, endA := false, p := { cls := 3 } }, by decide⟩,
    ⟨State.reset, 1, by decide⟩,
    ⟨deskMap { tun := some 1 }, 1, 3, 5, by decide⟩,
    ⟨deskMap { tun := some 1 }, 1, 255, 3, 5, by decide⟩,
    ⟨deskMap { tun := some 1 }, 1, 3, 5, by decide⟩,
    ⟨255, by decide⟩,
    ⟨deskMap { tun := some 1, st := 2 }, 1, 3, 5, [], by decide⟩,
    ⟨State.reset, 1, by decide⟩,
    ⟨State.reset, 3, 7, Or.inl (by decide)⟩,
    ⟨deskHub { st := .attachedSnk, roleHeld := true }, 3, by decide⟩,
    ⟨{ withTun mailTun with desk.port := Vector.replicate 4 { st := .attachedSnk, roleHeld := true, netTun := some 1 } }, 3, 1, by decide⟩,
    ⟨{ withTun mailTun with desk.port := Vector.replicate 4 { st := .attachedSnk, roleHeld := true, netTun := some 1 } }, 3, [], 1, by decide⟩,
    ⟨deskHub { st := .attachedSnk, roleHeld := true }, 3, 7, by decide⟩,
    ⟨State.reset, 3, by decide⟩,
    ⟨periphHub, 3, by decide⟩,
    ⟨periphHub, 3, by decide, by decide, by decide, periph_maps⟩,
    ⟨7, by decide⟩⟩

/-- States and operands that meet the hypotheses of `Obligations.DeskDataCommandsReportAndBind`, clause by clause. -/
theorem wit_DeskDataCommandsReportAndBind :
    (∃ (s : State) (r : Waiting), s.runningOp 0x5002 = some r) ∧
    (∃ (s : State) (r : Waiting), s.runningOp 0x5020 = some r ∧ (s.dk (r.f 0 31 30)).data.peripheral = true) ∧
    (∃ (s : State) (r : Waiting), s.runningOp 0x5020 = some r ∧ (s.dk (r.f 0 31 30)).data.peripheral = false ∧ bitAt (r.w 0) 29 = true) ∧
    (∃ (s : State) (r : Waiting), s.runningOp 0x5020 = some r ∧ (s.dk (r.f 0 31 30)).data.peripheral = false ∧ bitAt (r.w 0) 29 = false) ∧
    (∃ (s : State) (r : Waiting), s.runningOp 0x5020 = some r ∧ (s.dk (r.f 0 31 30)).data.peripheral = false ∧ bitAt (r.w 0) 29 = false ∧ (readBinding r).video ≠ 1) := by
  exact ⟨⟨withCmdData 0x5002 [0xC0000000], req 0x5002 [0xC0000000], by decide⟩,
    ⟨{ withCmd 0x5020 with desk.port := Vector.replicate 4 { data.peripheral := true } }, req 0x5020, by decide⟩,
    ⟨{ withCmdData 0x5020 [0xE0000000] with desk.port := Vector.replicate 4 { binding := some {} } }, req 0x5020 [0xE0000000], by decide⟩,
    ⟨withCmdData 0x5020 [0, 0, 0, 0, 0xC0000000, 0, 0, 0, 0, 0, 0], req 0x5020 [0, 0, 0, 0, 0xC0000000, 0, 0, 0, 0, 0, 0], by decide⟩,
    ⟨withCmdData 0x5020 [0, 0, 0, 0, 0xC0000000, 0, 0, 0, 0, 0, 0], req 0x5020 [0, 0, 0, 0, 0xC0000000, 0, 0, 0, 0, 0, 0], by decide⟩⟩

/-- States and operands that meet the hypotheses of `Obligations.StorageFunctionsRunCommands`, clause by clause. -/
theorem wit_StorageFunctionsRunCommands :
    (∃ (s : State) (f : BitVec 5), (s.isStorFn f.toNat = false ∨ s.domOn 9 = false ∨ (s.sfn f.toNat).flrWait = true ∨ 256 ≤ s.stor.cmds.length)) ∧
    (∃ (s : State) (t : State) (f : BitVec 5), s.isStorFn f.toNat = true ∧ s.domOn 9 = true ∧ (s.sfn f.toNat).flrWait = false ∧ s.stor.cmds.length < 256 ∧ t = s.modFn f.toNat (fun e => { e with ccEn := true })) ∧
    (∃ (s : State) (t : State) (f : BitVec 5) (x : Word) (y : Word), s.isStorFn f.toNat = true ∧ s.domOn 9 = true ∧ (s.sfn f.toNat).flrWait = false ∧ s.stor.cmds.length < 256 ∧ t = s.modFn f.toNat (fun e => { e with ccEn := true }) ∧ x.toNat % 65536 ≠ 0 ∧ x.toNat % 65536 ≤ (t.sfn f.toNat).nQueues ∧ (t.sfn f.toNat).hasQueue 0 (x.toNat % 65536) = false ∧ x.toNat / 65536 ≠ 0 ∧ x.toNat / 65536 ≤ 1023 ∧ y.toNat / 2 % 2 = 0) ∧
    (∃ (s : State) (t : State) (f : BitVec 5) (x : Word) (y : Word), s.isStorFn f.toNat = true ∧ s.domOn 9 = true ∧ (s.sfn f.toNat).flrWait = false ∧ s.stor.cmds.length < 256 ∧ t = s.modFn f.toNat (fun e => { e with ccEn := true }) ∧ x.toNat % 65536 ≠ 0 ∧ x.toNat % 65536 ≤ (t.sfn f.toNat).nQueues ∧ (t.sfn f.toNat).hasQueue 1 (x.toNat % 65536) = false ∧ x.toNat / 65536 ≠ 0 ∧ x.toNat / 65536 ≤ 1023 ∧ (t.sfn f.toNat).hasQueue 0 (y.toNat / 65536) = true) ∧
    (∃ (s : State) (t : State) (f : BitVec 5), s.isStorFn f.toNat = true ∧ s.domOn 9 = true ∧ (s.sfn f.toNat).flrWait = false ∧ s.stor.cmds.length < 256 ∧ t = s.modFn f.toNat (fun e => { e with ccEn := true })) ∧
    (∃ (s : State) (t : State) (f : BitVec 5) (q : BitVec 16), s.isStorFn f.toNat = true ∧ s.domOn 9 = true ∧ (s.sfn f.toNat).flrWait = false ∧ s.stor.cmds.length < 256 ∧ q ≠ 0 ∧ t = s.modFn f.toNat (fun e => { e with ccEn := true }) ∧ (t.sfn f.toNat).hasQueue 1 q.toNat = false) ∧
    (∃ (s : State) (t : State) (f : BitVec 5) (q : BitVec 16) (o : Byte), s.isStorFn f.toNat = true ∧ s.domOn 9 = true ∧ (s.sfn f.toNat).flrWait = false ∧ s.stor.cmds.length < 256 ∧ q ≠ 0 ∧ t = s.modFn f.toNat (fun e => { e with ccEn := true }) ∧ (t.sfn f.toNat).hasQueue 1 q.toNat = true ∧ ioOp o.toNat = none) ∧
    (∃ (s : State) (t : State) (f : BitVec 5) (q : BitVec 16) (o : Byte) (fl : Byte) (n : Word) (x : Word) (y : Word) (z : Word) (op : Nat) (st : Nat) (nlb : Nat), s.isStorFn f.toNat = true ∧ s.domOn 9 = true ∧ (s.sfn f.toNat).flrWait = false ∧ s.stor.cmds.length < 256 ∧ q ≠ 0 ∧ t = s.modFn f.toNat (fun e => { e with ccEn := true }) ∧ (t.sfn f.toNat).hasQueue 1 q.toNat = true ∧ ioOp o.toNat = some op ∧ nlb = (if op = 4 then x.toNat % 256 else if op = 3 then 0 else z.toNat % 65536) ∧ (t.sfn f.toNat).ioRefusal op fl.toNat n.toNat nlb y.toNat = some st) ∧
    (∃ (s : State) (t : State) (f : BitVec 5) (q : BitVec 16) (o : Byte) (fl : Byte) (n : Word) (x : Word) (y : Word) (z : Word) (op : Nat) (nlb : Nat), s.isStorFn f.toNat = true ∧ s.domOn 9 = true ∧ (s.sfn f.toNat).flrWait = false ∧ s.stor.cmds.length < 256 ∧ q ≠ 0 ∧ t = s.modFn f.toNat (fun e => { e with ccEn := true }) ∧ (t.sfn f.toNat).hasQueue 1 q.toNat = true ∧ ioOp o.toNat = some op ∧ nlb = (if op = 4 then x.toNat % 256 else if op = 3 then 0 else z.toNat % 65536) ∧ (t.sfn f.toNat).ioRefusal op fl.toNat n.toNat nlb y.toNat = none) ∧
    (∃ (s : State) (i : BitVec 14) (g : BitVec 16), ((s.stor.cmds.find? fun c => c.tag == g.toNat).any fun (c : StorCmd) => ((s.sfn c.fn).nsp (c.nsid - 1)).tun == some i.toNat) = false) ∧
    (∃ (s : State) (i : BitVec 14) (g : BitVec 16) (c : StorCmd), s.stor.cmds.find? (·.tag == g.toNat) = some c ∧ ((s.sfn c.fn).nsp (c.nsid - 1)).tun = some i.toNat) ∧
    (∃ (s : State) (i : Option (BitVec 14)) (g : BitVec 16), s.stor.reqs.find? (fun r => r.tun == i.map (·.toNat) && r.tag == g.toNat) = none) ∧
    (∃ (s : State) (i : Option (BitVec 14)) (g : BitVec 16) (r : DriveReq), s.stor.reqs.find? (fun r => r.tun == i.map (·.toNat) && r.tag == g.toNat) = some r) ∧
    (∃ (s : State) (g : BitVec 16), s.stor.cmds.find? (·.tag == g.toNat) = none) ∧
    (∃ (s : State) (g : BitVec 16) (c : StorCmd), s.stor.cmds.find? (·.tag == g.toNat) = some c) ∧
    (∃ (s : State) (i : BitVec 14), (s.tunAt i.toNat).any (fun t => t.p.cls == 4 && t.st == .up) = false) ∧
    (∃ (s : State) (i : BitVec 14) (o : Byte) (t : Tunnel), s.tunAt i.toNat = some t ∧ t.p.cls = 4 ∧ t.st = .up ∧ (o = 0 ∨ (6 < o.toNat ∧ o ≠ 0x81 ∧ o ≠ 0x86))) ∧
    (∃ (s : State) (i : BitVec 14) (o : Byte) (t : Tunnel), s.tunAt i.toNat = some t ∧ t.p.cls = 4 ∧ t.st = .up ∧ ((t.endA = true ∧ 1 ≤ o.toNat ∧ o.toNat ≤ 6) ∨ o = 6 ∨ o = 0x81 ∨ o = 0x86)) ∧
    (∃ (s : State) (i : BitVec 14) (o : Byte) (t : Tunnel), s.tunAt i.toNat = some t ∧ t.p.cls = 4 ∧ t.st = .up ∧ t.endA = false ∧ 1 ≤ o.toNat ∧ o.toNat ≤ 5) ∧
    (∃ (s : State) (i : BitVec 14) (o : Byte) (v : BitVec 4) (n : BitVec 16) (l : BitVec 64) (d : List Word) (t : Tunnel), s.tunAt i.toNat = some t ∧ t.p.cls = 4 ∧ t.st = .up ∧ t.endA = false ∧ 1 ≤ o.toNat ∧ o.toNat ≤ 5 ∧ ((s.vol v.toNat).online = false ∨ (s.vol v.toNat).beyond o.toNat n.toNat l.toNat d = true)) ∧
    (∃ (s : State) (i : BitVec 14) (t : Tunnel), s.tunAt i.toNat = some t ∧ t.p.cls = 4 ∧ t.st = .up) ∧
    (∃ (s : State) (i : BitVec 14) (t : Tunnel), s.tunAt i.toNat = some t ∧ t.p.cls = 4 ∧ t.st = .up) := by
  exact ⟨⟨State.reset, 1, Or.inl (by decide)⟩,
    ⟨storHub {}, (storHub {}).modFn 1 (fun x => { x with ccEn := true }), 1, by decide, by decide, by decide, by decide, rfl⟩,
    ⟨storHub {}, (storHub {}).modFn 1 (fun x => { x with ccEn := true }), 1, 0x03FF0010, 0, by decide, by decide, by decide, by decide, rfl, by decide, by decide, by decide, by decide, by decide, by decide⟩,
    ⟨{ onHub with stor.func := Vector.replicate 32 { storage := true }, stor.fn := Vector.replicate 32 { queues := [(0, 16, 2)] } }, State.modFn { onHub with stor.func := Vector.replicate 32 { storage := true }, stor.fn := Vector.replicate 32 { queues := [(0, 16, 2)] } } 1 (fun x => { x with ccEn := true }), 1, 0x03FF0010, 0x00100000, by decide, by decide, by decide, by decide, rfl, by decide, by decide, by decide, by decide, by decide, by decide⟩,
    ⟨storHub {}, (storHub {}).modFn 1 (fun x => { x with ccEn := true }), 1, by decide, by decide, by decide, by decide, rfl⟩,
    ⟨storHub {}, (storHub {}).modFn 1 (fun x => { x with ccEn := true }), 1, 1, by decide, by decide, by decide, by decide, by decide, rfl, by decide⟩,
    ⟨storHub {}, (storHub {}).modFn 1 (fun x => { x with ccEn := true }), 1, 65535, 255, by decide, by decide, by decide, by decide, by decide, rfl, by decide, by decide⟩,
    ⟨storHub {}, (storHub {}).modFn 1 (fun x => { x with ccEn := true }), 1, 65535, 0, 0, 0, 0, 0, 0, 3, stNamespace, 0, by decide, by decide, by decide, by decide, by decide, rfl, by decide, by decide, by decide, by decide⟩,
    ⟨storHub { ns := Vector.replicate 16 { valid := true, ready := true } }, (storHub { ns := Vector.replicate 16 { valid := true, ready := true } }).modFn 1 (fun x => { x with ccEn := true }), 1, 65535, 0, 0, 16, 0, 0, 0, 3, 0, by decide, by decide, by decide, by decide, by decide, rfl, by decide, by decide, by decide, by decide⟩,
    ⟨State.reset, 1, 1, by decide⟩,
    ⟨{ onHub with stor.cmds := [{ tag := 255, nsid := 1 }], stor.fn := Vector.replicate 32 { ns := Vector.replicate 16 { tun := some 1 } } }, 1, 255, { tag := 255, nsid := 1 }, by decide⟩,
    ⟨State.reset, none, 1, by decide⟩,
    ⟨{ onHub with stor.reqs := [{ tag := 255 }] }, none, 255, { tag := 255 }, by decide⟩,
    ⟨State.reset, 1, by decide⟩,
    ⟨{ onHub with stor.cmds := [{ tag := 255 }] }, 255, { tag := 255 }, by decide⟩,
    ⟨State.reset, 1, by decide⟩,
    ⟨withTun { idx := 1, st := .up, endA := false, p := { cls := 4 } }, 1, 7, { idx := 1, st := .up, endA := false, p := { cls := 4 } }, by decide, by decide, by decide, by decide⟩,
    ⟨withTun { idx := 1, st := .up, endA := false, p := { cls := 4 } }, 1, 6, { idx := 1, st := .up, endA := false, p := { cls := 4 } }, by decide, by decide, by decide, by decide⟩,
    ⟨withTun { idx := 1, st := .up, endA := false, p := { cls := 4 } }, 1, 5, { idx := 1, st := .up, endA := false, p := { cls := 4 } }, by decide⟩,
    ⟨withTun { idx := 1, st := .up, endA := false, p := { cls := 4 } }, 1, 5, 15, 0, 0, [], { idx := 1, st := .up, endA := false, p := { cls := 4 } }, by decide, by decide, by decide, by decide, by decide, by decide, Or.inl (by decide)⟩,
    ⟨withTun { idx := 1, st := .up, endA := false, p := { cls := 4 } }, 1, { idx := 1, st := .up, endA := false, p := { cls := 4 } }, by decide⟩,
    ⟨withTun { idx := 1, st := .up, p := { cls := 4 } }, 1, { idx := 1, st := .up, p := { cls := 4 } }, by decide⟩⟩

/-- States and operands that meet the hypotheses of `Obligations.DrivesAndPcieLinksChange`, clause by clause. -/
theorem wit_DrivesAndPcieLinksChange :
    (∃ (s : State) (p : Fin 2), ((s.pp p.val).cfg.mode ≠ 1 ∨ s.domOn 9 = false)) ∧
    (∃ (s : State) (p : Fin 2), (s.pp p.val).cfg.mode = 1 ∧ s.domOn 9 = true) ∧
    (∃ (s : State) (p : Fin 2), (s.pp p.val).cfg.mode = 1 ∧ s.domOn 9 = true ∧ (s.pp p.val).drive.st = .init) ∧
    (∃ (s : State) (p : Fin 2), ((s.pp p.val).cfg.mode = 2 ∨ s.domOn 9 = false)) ∧
    (∃ (s : State) (p : Fin 2), (s.pp p.val).cfg.mode ≠ 2 ∧ s.domOn 9 = true) ∧
    (∃ (s : State) (r : Waiting), s.runningOp 0x5801 = some r ∧ s.seesFn r.src (r.f 0 31 31 * 16 + r.f 0 30 27) = false) ∧
    (∃ (s : State) (r : Waiting), s.runningOp 0x5801 = some r ∧ s.seesFn r.src (r.f 0 31 31 * 16 + r.f 0 30 27) = true) ∧
    (∃ (s : State) (r : Waiting), s.runningOp 0x5802 = some r) := by
  exact ⟨⟨State.reset, 1, Or.inl (by decide)⟩,
    ⟨driveHub .absent, 1, by decide⟩,
    ⟨driveHub .init, 1, by decide⟩,
    ⟨{ onHub with stor.port := Vector.replicate 2 { cfg.mode := 2 } }, 1, Or.inl (by decide)⟩,
    ⟨onHub, 1, by decide⟩,
    ⟨{ onHub with mbx.running := some { req := fnReq 0x5801 [0xF8000000] }, mbx.boxes := Vector.replicate 38 { auth := .tenant } }, fnReq 0x5801 [0xF8000000], by decide⟩,
    ⟨withCmdData 0x5801 [0xF8000000], req 0x5801 [0xF8000000], by decide⟩,
    ⟨withCmd 0x5802, req 0x5802, by decide⟩⟩

/-- States and operands that meet the hypotheses of `Obligations.EthernetPortsBridgeAndTime`, clause by clause. -/
theorem wit_EthernetPortsBridgeAndTime :
    (∃ (s : State) (p : Fin 4), ((s.ep p.val).cfg.mode = 0 ∨ s.domOn 11 = false)) ∧
    (∃ (s : State) (p : Fin 4), (s.ep p.val).cfg.mode ≠ 0 ∧ s.domOn 11 = true) ∧
    (∃ (s : State) (p : Fin 4), (s.ep p.val).cfg.mode ≠ 0 ∧ s.domOn 11 = true) ∧
    (∃ (s : State) (p : Fin 4) (v : Fin 6), (s.ep p.val).cfg.mode ≠ 0 ∧ s.domOn 11 = true ∧ (s.ep p.val).up = false ∧ speedOk (s.ep p.val).cfg.mode v.val = true) ∧
    (∃ (s : State) (p : Fin 4), ((s.ep p.val).up = false ∨ s.domOn 11 = false)) ∧
    (∃ (s : State) (p : Fin 4) (c : Bool) (f : List Byte), (s.ep p.val).up = true ∧ s.domOn 11 = true ∧ (c = false ∨ f.length + 4 < 64 ∨ (s.ep p.val).cfg.maxFrame < f.length + 4)) ∧
    (∃ (s : State) (p : Fin 4) (f : List Byte) (n : Nat), (s.ep p.val).up = true ∧ s.domOn 11 = true ∧ 64 ≤ f.length + 4 ∧ f.length + 4 ≤ (s.ep p.val).cfg.maxFrame ∧ (s.ep p.val).cfg.pauseEn = true ∧ pauseTime f = some n) ∧
    (∃ (s : State) (p : Fin 4) (f : List Byte) (v : Nat), (s.ep p.val).up = true ∧ s.domOn 11 = true ∧ 64 ≤ f.length + 4 ∧ f.length + 4 ≤ (s.ep p.val).cfg.maxFrame ∧ ((s.ep p.val).cfg.pauseEn = false ∨ pauseTime f = none) ∧ v = (if frHalf f 12 = 0x8100 ∧ frHalf f 14 % 4096 ≠ 0 then frHalf f 14 % 4096 else (s.ep p.val).cfg.pvid) ∧ s.eth.maps.find? (fun m => m.port == p && m.vid == v) = none) ∧
    (∃ (s : State) (p : Fin 4) (f : List Byte) (v : Nat) (m : VlanMap), (s.ep p.val).up = true ∧ s.domOn 11 = true ∧ 64 ≤ f.length + 4 ∧ f.length + 4 ≤ (s.ep p.val).cfg.maxFrame ∧ ((s.ep p.val).cfg.pauseEn = false ∨ pauseTime f = none) ∧ v = (if frHalf f 12 = 0x8100 ∧ frHalf f 14 % 4096 ≠ 0 then frHalf f 14 % 4096 else (s.ep p.val).cfg.pvid) ∧ s.eth.maps.find? (fun m => m.port == p && m.vid == v) = some m) ∧
    (∃ (s : State) (i : BitVec 14), s.tunAt i.toNat = none) ∧
    (∃ (s : State) (i : BitVec 14) (t : Tunnel), s.tunAt i.toNat = some t) ∧
    (∃ (s : State) (p : Fin 4), ((s.ep p.val).up = false ∨ (s.ep p.val).cfg.ptpRole ≠ 1 ∨ s.time.st = .unset)) ∧
    (∃ (s : State) (t : State) (p : Fin 4) (ws : List Nat), (s.ep p.val).up = true ∧ (s.ep p.val).cfg.ptpRole = 1 ∧ s.time.st ≠ .unset ∧ s.announced = (t, ws)) ∧
    (∃ (s : State) (p : Fin 4) (d : Byte), ((s.ep p.val).up = false ∨ (s.ep p.val).cfg.ptpRole = 0 ∨ d.toNat ≠ (s.ep p.val).cfg.domain)) ∧
    (∃ (s : State) (p : Fin 4) (d : Byte), (s.ep p.val).up = true ∧ (s.ep p.val).cfg.ptpRole = 1 ∧ d.toNat = (s.ep p.val).cfg.domain) ∧
    (∃ (s : State) (p : Fin 4) (d : Byte), (s.ep p.val).up = true ∧ (s.ep p.val).cfg.ptpRole = 1 ∧ d.toNat = (s.ep p.val).cfg.domain) ∧
    (∃ (s : State) (p : Fin 4) (d : Byte), (s.ep p.val).up = true ∧ (s.ep p.val).cfg.ptpRole ≠ 0 ∧ (s.ep p.val).cfg.ptpRole ≠ 1 ∧ d.toNat = (s.ep p.val).cfg.domain) ∧
    (∃ (s : State) (p : Fin 4) (d : Byte) (m : PtpMsg), (s.ep p.val).up = true ∧ (s.ep p.val).cfg.ptpRole ≠ 0 ∧ (s.ep p.val).cfg.ptpRole ≠ 1 ∧ d.toNat = (s.ep p.val).cfg.domain ∧ (∀ a, m ≠ .announce a)) ∧
    (∃ (s : State) (p : Fin 4) (d : Byte), (s.ep p.val).up = true ∧ (s.ep p.val).cfg.ptpRole ≠ 0 ∧ (s.ep p.val).cfg.ptpRole ≠ 1 ∧ d.toNat = (s.ep p.val).cfg.domain) ∧
    (∃ (s : State) (p : Fin 4) (d : Byte) (i : Nat) (k : Nat) (c0 : Int) (t2 : Int), (s.ep p.val).up = true ∧ (s.ep p.val).cfg.ptpRole ≠ 0 ∧ (s.ep p.val).cfg.ptpRole ≠ 1 ∧ d.toNat = (s.ep p.val).cfg.domain ∧ s.feedsServo p.val = true ∧ (s.ep p.val).syncIn = some (k, i, t2, c0)) ∧
    (∃ (s : State) (p : Fin 4) (d : Byte) (q : BitVec 16) (t3 : Int), (s.ep p.val).up = true ∧ (s.ep p.val).cfg.ptpRole ≠ 0 ∧ (s.ep p.val).cfg.ptpRole ≠ 1 ∧ d.toNat = (s.ep p.val).cfg.domain ∧ s.feedsServo p.val = true ∧ (s.ep p.val).reqAt = some t3 ∧ (s.ep p.val).cfg.p2p = false ∧ q.toNat = (s.ep p.val).reqSeq) ∧
    (∃ (s : State) (r : Waiting), s.runningOp 0x5901 = some r) ∧
    (∃ (s : State) (r : Waiting), s.runningOp 0x5910 = some r) := by
  exact ⟨⟨State.reset, 3, Or.inl (by decide)⟩,
    ⟨ethHub { cfg.mode := 4, up := true }, 3, by decide⟩,
    ⟨ethHub { cfg.mode := 4 }, 3, by decide⟩,
    ⟨ethHub { cfg.mode := 4 }, 3, 4, by decide⟩,
    ⟨State.reset, 3, Or.inl (by decide)⟩,
    ⟨ethHub { up := true }, 3, false, [], by decide, by decide, Or.inl rfl⟩,
    ⟨ethHub { up := true, cfg.pauseEn := true }, 3, [0x01, 0x80, 0xC2, 0, 0, 1, 0, 0, 0, 0, 0, 0, 0x88, 0x08, 0, 1, 0, 5] ++ List.replicate 42 0, 5, by decide⟩,
    ⟨ethHub { up := true }, 3, List.replicate 60 0, 1, by decide, by decide, by decide, by decide, Or.inl (by decide), by decide, by decide⟩,
    ⟨{ ethHub { up := true } with eth.maps := [{ port := 3, vid := 5 }] }, 3, List.replicate 12 0 ++ [0x81, 0, 0, 5] ++ List.replicate 60 0, 5, { port := 3, vid := 5 }, by decide, by decide, by decide, by decide, Or.inl (by decide), by decide, by decide⟩,
    ⟨State.reset, 1, by decide⟩,
    ⟨withTun mailTun, 1, mailTun, by decide⟩,
    ⟨State.reset, 3, Or.inl (by decide)⟩,
    ⟨{ ethHub { up := true, cfg.ptpRole := 1 } with time.st := .locked }, _, 3, _, by decide, by decide, by decide, (Prod.eta _).symm⟩,
    ⟨State.reset, 3, 1, Or.inr (Or.inr (by decide))⟩,
    ⟨ethHub { up := true, cfg.ptpRole := 1 }, 3, 0, by decide⟩,
    ⟨ethHub { up := true, cfg.ptpRole := 1 }, 3, 0, by decide⟩,
    ⟨ethHub { up := true, cfg.ptpRole := 2 }, 3, 0, by decide⟩,
    ⟨ethHub { up := true, cfg.ptpRole := 2 }, 3, 0, .delayReq 0 0, by decide, by decide, by decide, by decide, fun _ => nofun⟩,
    ⟨ethHub { up := true, cfg.ptpRole := 2 }, 3, 0, by decide⟩,
    ⟨{ ethHub { up := true, cfg.ptpRole := 2, syncIn := some (7, 9, 0, 0) } with sys.role := .root, time.cfg.source := 1, time.cfg.srcPort := 3 }, 3, 0, 9, 7, 0, 0, by decide⟩,
    ⟨{ ethHub { up := true, cfg.ptpRole := 2, reqAt := some 0 } with sys.role := .root, time.cfg.source := 1, time.cfg.srcPort := 3 }, 3, 0, 0, 0, by decide⟩,
    ⟨withCmd 0x5901, req 0x5901, by decide⟩,
    ⟨withCmd 0x5910, req 0x5910, by decide⟩⟩

/-- States and operands that meet the hypotheses of `Obligations.TamperAlarmsAreTakenAndRecorded`, clause by clause. -/
theorem wit_TamperAlarmsAreTakenAndRecorded :
    (∃ (s : State), (s.vault.log.all (·.copied) = true ∨ s.domOn 2 = false)) ∧
    (∃ (s : State) (x : TamperRec), (s.vault.log.filter fun r => !r.copied).getLast? = some x ∧ s.domOn 2 = true) ∧
    (∃ (s : State) (t : State) (r : Waiting), s.runningOp 0x7040 = some r ∧ t = (if r.f 0 3 0 = 1 ∧ s.alarmState = 2 then s.clearAlarm else if r.f 0 3 0 = 2 ∧ s.alarmState = 0 then { s with vault.log := [] } else s)) := by
  exact ⟨⟨State.reset, Or.inl (by decide)⟩,
    ⟨{ onHub with vault.log := [{}] }, {}, by decide⟩,
    ⟨withCmd 0x7040, _, req 0x7040, by decide, rfl⟩⟩

/-- States and operands that meet the hypotheses of `Obligations.VaultCommandsReportMeasureAndAttest`, clause by clause. -/
theorem wit_VaultCommandsReportMeasureAndAttest :
    (∃ (s : State) (r : Waiting), s.runningOp 0x7001 = some r) ∧
    (∃ (s : State) (r : Waiting) (i : Instr) (o : Nat) (c : Cert), s.vault.locked = true ∧ s.runningOp o = some r ∧ (i, o) ∈ [(Instr.keySlot, 0x7002), (.keyMeasure, 0x7003), (.keyAttest, 0x7004), (.keyCerts, 0x7005), (.keyGenerate, 0x7010), (.keyPut, 0x7011), (.keyDerive, 0x7012), (.keyErase, 0x7013), (.keyExtend, 0x7014), (.keySign, 0x7015), (.keyCsr, 0x7020), (.keyCertSet c, 0x7021), (.keyDeny, 0x7022)]) ∧
    (∃ (s : State) (r : Waiting), s.runningOp 0x7002 = some r ∧ s.vault.locked = false) ∧
    (∃ (s : State) (r : Waiting), s.runningOp 0x7003 = some r ∧ s.vault.locked = false) ∧
    (∃ (s : State) (t : State) (r : Waiting), s.runningOp 0x7004 = some r ∧ s.vault.locked = false ∧ t = s.checkSlot 50 ∧ (t.slot 50).st ≠ .valid) ∧
    (∃ (s : State) (t : State) (r : Waiting), s.runningOp 0x7004 = some r ∧ s.vault.locked = false ∧ t = s.checkSlot 50 ∧ (t.slot 50).st = .valid) ∧
    (∃ (s : State) (r : Waiting), s.runningOp 0x7005 = some r ∧ s.vault.locked = false) ∧
    (∃ (s : State) (r : Waiting), s.runningOp 0x7014 = some r ∧ s.vault.locked = false) ∧
    (∃ (s : State) (t : State) (r : Waiting) (n : Nat), s.runningOp 0x7015 = some r ∧ s.vault.locked = false ∧ n = r.f 0 6 0 ∧ t = s.checkSlot n ∧ (t.slot n).st = .bad) ∧
    (∃ (s : State) (t : State) (r : Waiting) (n : Nat), s.runningOp 0x7015 = some r ∧ s.vault.locked = false ∧ n = r.f 0 6 0 ∧ t = s.checkSlot n ∧ (t.slot n).st ≠ .bad ∧ (96 ≤ n ∨ (t.slot n).st ≠ .valid ∨ (t.slot n).kind ≠ 4 ∨ (t.slot n).usage.testBit 5 = false)) ∧
    (∃ (s : State) (t : State) (r : Waiting) (n : Nat), s.runningOp 0x7015 = some r ∧ s.vault.locked = false ∧ n = r.f 0 6 0 ∧ t = s.checkSlot n ∧ n < 96 ∧ (t.slot n).st = .valid ∧ (t.slot n).kind = 4 ∧ (t.slot n).usage.testBit 5 = true) ∧
    (∃ (s : State) (t : State) (r : Waiting), s.runningOp 0x7020 = some r ∧ s.vault.locked = false ∧ t = s.checkSlot 1) ∧
    (∃ (s : State) (r : Waiting), s.runningOp 0x7021 = some r ∧ s.vault.locked = false ∧ bitAt (r.w 0) 0 = true) ∧
    (∃ (s : State) (r : Waiting) (c : Cert) (d : Cert) (x : State × Nat), s.runningOp 0x7021 = some r ∧ s.vault.locked = false ∧ bitAt (r.w 0) 0 = false ∧ d = { c with len := (r.w 1).toNat, words := r.data.drop 2 } ∧ x = s.checkCert d s.sys.hubId ∧ x.2 ≠ 0) ∧
    (∃ (s : State) (r : Waiting) (c : Cert) (d : Cert) (x : State × Nat), s.runningOp 0x7021 = some r ∧ s.vault.locked = false ∧ bitAt (r.w 0) 0 = false ∧ d = { c with len := (r.w 1).toNat, words := r.data.drop 2 } ∧ x = s.checkCert d s.sys.hubId ∧ x.2 = 0) := by
  exact ⟨⟨withCmd 0x7001, req 0x7001, by decide⟩,
    ⟨{ withCmd 0x7002 with vault.locked := true }, req 0x7002, .keySlot, 0x7002, {}, by decide⟩,
    ⟨withCmdData 0x7002 [95], req 0x7002 [95], by decide⟩,
    ⟨withCmd 0x7003, req 0x7003, by decide⟩,
    ⟨withCmd 0x7004, _, req 0x7004, by decide, by decide, rfl, by decide⟩,
    ⟨{ withCmd 0x7004 with vault.slots := Vector.replicate 96 { st := .valid } }, _, req 0x7004, by decide, by decide, rfl, by decide⟩,
    ⟨withCmd 0x7005, req 0x7005, by decide⟩,
    ⟨withCmd 0x7014, req 0x7014, by decide⟩,
    ⟨{ withCmdData 0x7015 [95] with vault.slots := Vector.replicate 96 { st := .bad } }, _, req 0x7015 [95], _, by decide, by decide, rfl, rfl, by decide⟩,
    ⟨withCmd 0x7015, _, req 0x7015, _, by decide, by decide, rfl, rfl, by decide, Or.inr (Or.inl (by decide))⟩,
    ⟨{ withCmdData 0x7015 [95] with vault.slots := Vector.replicate 96 { st := .valid, kind := 4, usage := 32 } }, _, req 0x7015 [95], _, by decide, by decide, rfl, rfl, by decide, by decide, by decide, by decide⟩,
    ⟨{ withCmd 0x7020 with vault.slots := Vector.replicate 96 { st := .valid } }, _, req 0x7020, by decide, by decide, rfl⟩,
    ⟨withCmdData 0x7021 [1], req 0x7021 [1], by decide⟩,
    ⟨withCmdData 0x7021 [0, 0], req 0x7021 [0, 0], {}, _, _, by decide, by decide, by decide, rfl, rfl, by decide⟩,
    ⟨{ withCmdData 0x7021 [0, 0] with vault.slots := Vector.replicate 96 { st := .valid } }, req 0x7021 [0, 0], { parses := true, sigs := true, anchored := true, usage := true }, _, _, by decide, by decide, by decide, rfl, rfl, by decide⟩⟩

/-- States and operands that meet the hypotheses of `Obligations.VaultSlotsAreMadeAndErased`, clause by clause. -/
theorem wit_VaultSlotsAreMadeAndErased :
    (∃ (s : State) (t : State) (r : Waiting) (n : Nat), s.runningOp 0x7010 = some r ∧ s.vault.locked = false ∧ n = r.f 0 6 0 ∧ t = s.checkSlot n) ∧
    (∃ (s : State) (t : State) (r : Waiting) (n : Nat), s.runningOp 0x7011 = some r ∧ s.vault.locked = false ∧ n = r.f 0 6 0 ∧ t = s.checkSlot n) ∧
    (∃ (s : State) (t : State) (r : Waiting) (a : Nat) (b : Nat), s.runningOp 0x7012 = some r ∧ s.vault.locked = false ∧ a = r.f 0 6 0 ∧ b = r.f 0 14 8 ∧ t = (s.checkSlot a).checkSlot b) ∧
    (∃ (s : State) (t : State) (r : Waiting) (n : Nat), s.runningOp 0x7013 = some r ∧ s.vault.locked = false ∧ n = r.f 0 6 0 ∧ t = s.modSlot n (fun _ => {})) ∧
    (∃ (s : State) (r : Waiting), s.runningOp 0x7022 = some r ∧ s.vault.locked = false) ∧
    (∃ (s : State) (r : Waiting), s.runningOp 0x7030 = some r ∧ 5 ≤ r.f 0 31 24) ∧
    (∃ (s : State) (r : Waiting) (l : Lifecycle), s.runningOp 0x7030 = some r ∧ lifecycleOf (r.f 0 31 24) = some l ∧ (s.upd.session ≠ .none ∨ s.boot.trial = true)) ∧
    (∃ (s : State) (r : Waiting) (l : Lifecycle), s.runningOp 0x7030 = some r ∧ lifecycleOf (r.f 0 31 24) = some l ∧ s.upd.session = .none ∧ s.boot.trial = false ∧ bitAt (r.w 0) 0 = false) ∧
    (∃ (s : State) (r : Waiting) (l : Lifecycle), s.runningOp 0x7030 = some r ∧ lifecycleOf (r.f 0 31 24) = some l ∧ s.upd.session = .none ∧ s.boot.trial = false ∧ bitAt (r.w 0) 0 = true) := by
  exact ⟨⟨withCmdData 0x7010 [0x01000018], _, req 0x7010 [0x01000018], _, by decide, by decide, rfl, rfl⟩,
    ⟨withCmdData 0x7011 [2], _, req 0x7011 [2], _, by decide, by decide, rfl, rfl⟩,
    ⟨{ withCmdData 0x7012 [0x01003800, 0, 0, 0, 0, 0, 0] with vault.slots := modAt (Vector.replicate 96 {}) 0 fun _ => { st := .valid, usage := 8 } }, _, req 0x7012 [0x01003800, 0, 0, 0, 0, 0, 0], _, _, by decide, by decide, rfl, rfl, rfl⟩,
    ⟨withCmdData 0x7013 [2], _, req 0x7013 [2], _, by decide, by decide, rfl, rfl⟩,
    ⟨withCmdData 0x7022 [2], req 0x7022 [2], by decide⟩,
    ⟨withCmdData 0x7030 [0xFF000000], req 0x7030 [0xFF000000], by decide⟩,
    ⟨{ withCmd 0x7030 with upd.session := .opened }, req 0x7030, .blank, by decide, by decide, Or.inl (by decide)⟩,
    ⟨withCmdData 0x7030 [0x04000000], req 0x7030 [0x04000000], .scrapped, by decide⟩,
    ⟨{ withCmdData 0x7030 [0x04000001, 7] with vault.arm := some { target := .scrapped, challenge := 7 } }, req 0x7030 [0x04000001, 7], .scrapped, by decide⟩⟩

/-- States and operands that meet the hypotheses of `Obligations.UpdateSessionsTakeAPackage`, clause by clause. -/
theorem wit_UpdateSessionsTakeAPackage :
    (∃ (s : State) (r : Waiting) (n : Nat), s.runningOp 0x7810 = some r ∧ n = (r.w 0).toNat) ∧
    (∃ (s : State) (r : Waiting) (i : Instr) (o : Nat), (i, o) ∈ [(Instr.updBlock, 0x7811), (.updAbort, 0x7813)] ∧ s.runningOp o = some r ∧ (s.upd.session = .none ∨ s.upd.owner ≠ r.src)) ∧
    (∃ (s : State) (r : Waiting), s.runningOp 0x7811 = some r ∧ s.upd.session ≠ .none ∧ s.upd.owner = r.src) ∧
    (∃ (s : State) (r : Waiting), s.runningOp 0x7812 = some r ∧ (s.vault.locked = true ∨ s.upd.session = .none ∨ s.upd.owner ≠ r.src)) ∧
    (∃ (s : State) (t : State) (r : Waiting) (a : Bool) (b : Bool) (c : Bool) (v : Byte), s.runningOp 0x7812 = some r ∧ s.vault.locked = false ∧ s.upd.session ≠ .none ∧ s.upd.owner = r.src ∧ t = s.checkSlot 2 ∧ t.commitCode a b c v.toNat ≠ 0) ∧
    (∃ (s : State) (t : State) (r : Waiting) (a : Bool) (b : Bool) (c : Bool) (v : Byte), s.runningOp 0x7812 = some r ∧ s.vault.locked = false ∧ s.upd.session ≠ .none ∧ s.upd.owner = r.src ∧ t = s.checkSlot 2 ∧ t.commitCode a b c v.toNat = 0) ∧
    (∃ (s : State) (r : Waiting), s.runningOp 0x7813 = some r ∧ s.upd.session ≠ .none ∧ s.upd.owner = r.src) ∧
    (∃ (s : State) (r : Waiting), s.runningOp 0x7801 = some r) := by
  exact ⟨⟨withCmdData 0x7810 [16777216], req 0x7810 [16777216], 16777216, by decide⟩,
    ⟨withCmd 0x7811, req 0x7811, .updBlock, 0x7811, by decide, by decide, Or.inl (by decide)⟩,
    ⟨{ withCmdData 0x7811 [1024, 1] with upd.session := .opened, upd.total := 1028 }, req 0x7811 [1024, 1], by decide⟩,
    ⟨withCmd 0x7812, req 0x7812, by decide, Or.inr (Or.inl (by decide))⟩,
    ⟨{ withCmd 0x7812 with upd.session := .opened, upd.total := 1028 }, _, req 0x7812, false, false, false, 0, by decide, by decide, by decide, by decide, rfl, by decide⟩,
    ⟨packageHub, _, req 0x7812, true, true, true, 0, by decide, by decide, by decide, by decide, rfl, package_passes⟩,
    ⟨{ withCmd 0x7813 with upd.session := .opened }, req 0x7813, by decide⟩,
    ⟨withCmd 0x7801, req 0x7801, by decide⟩⟩

/-- States and operands that meet the hypotheses of `Obligations.ActivationsHoldTheLeaseAndAreConfirmed`, clause by clause. -/
theorem wit_ActivationsHoldTheLeaseAndAreConfirmed :
    (∃ (s : State) (r : Waiting), s.runningOp 0x7814 = some r ∧ s.upd.leaseWait = true) ∧
    (∃ (s : State) (r : Waiting), s.runningOp 0x7814 = some r ∧ s.upd.leaseWait = false ∧ (s.upd.session ≠ .committed ∨ s.upd.owner ≠ r.src)) ∧
    (∃ (s : State) (r : Waiting), s.runningOp 0x7814 = some r ∧ s.upd.leaseWait = false ∧ s.upd.session = .committed ∧ s.upd.owner = r.src ∧ s.headsTree = true) ∧
    (∃ (s : State) (r : Waiting), s.runningOp 0x7814 = some r ∧ s.upd.leaseWait = false ∧ s.upd.session = .committed ∧ s.upd.owner = r.src ∧ s.headsTree = false ∧ s.joined = true) ∧
    (∃ (s : State) (r : Waiting), s.runningOp 0x7814 = some r ∧ s.upd.leaseWait = false ∧ s.upd.session = .committed ∧ s.upd.owner = r.src ∧ s.headsTree = false ∧ s.joined = false) ∧
    (∃ (s : State) (r : Waiting), s.runningOp 0x7840 = some r) ∧
    (∃ (s : State) (r : Waiting), s.runningOp 0x7841 = some r) ∧
    (∃ (s : State) (r : Waiting), s.runningOp 0x7820 = some r) := by
  exact ⟨⟨{ withCmd 0x7814 with upd.leaseWait := true }, req 0x7814, by decide⟩,
    ⟨withCmd 0x7814, req 0x7814, by decide, by decide, Or.inl (by decide)⟩,
    ⟨{ joinedCmd 0x7814 [] with upd.session := .committed }, req 0x7814, by decide⟩,
    ⟨{ withCmd 0x7814 with upd.session := .committed, sys.role := .zone, topo.join := .joined }, req 0x7814, by decide⟩,
    ⟨{ withCmd 0x7814 with upd.session := .committed }, req 0x7814, by decide⟩,
    ⟨withCmd 0x7840, req 0x7840, by decide⟩,
    ⟨withCmd 0x7841, req 0x7841, by decide⟩,
    ⟨withCmd 0x7820, req 0x7820, by decide⟩⟩

/-- States and operands that meet the hypotheses of `Obligations.TestsAndRepairsEnd`, clause by clause. -/
theorem wit_TestsAndRepairsEnd :
    (∃ (s : State) (b : Fin 64) (r : Fin 1024), s.testOf 1 (rowUnit b.val r.val) = none) ∧
    (∃ (s : State) (b : Fin 64) (r : Fin 1024) (t : UnitTest), s.testOf 1 (rowUnit b.val r.val) = some t ∧ t.restore = false) ∧
    (∃ (s : State) (b : Fin 64) (r : Fin 1024) (t : UnitTest), s.testOf 1 (rowUnit b.val r.val) = some t ∧ t.restore = true) ∧
    (∃ (s : State) (p : Fin 4) (l : Fin 2), s.testOf 2 (laneUnit p.val l) = none) ∧
    (∃ (s : State) (p : Fin 4) (l : Fin 2) (t : UnitTest), s.testOf 2 (laneUnit p.val l) = some t) ∧
    (∃ (s : State) (r : Waiting) (k : Nat), s.runningOp 0x7E10 = some r ∧ k = r.f 0 31 28 ∧ (s.sys.start = 1 ∨ (k = 1 ∧ s.testRuns 1 (r.f 0 15 0) = true) ∨ (k = 2 ∧ (s.testRuns 2 (r.f 0 2 0) = true ∨ ((s.tp (r.f 0 2 0 / 2)).st = .active ∧ (s.tp (r.f 0 2 0 / 2)).twoLanes = false))) ∨ (k = 3 ∧ (s.testRuns 3 (r.f 0 3 0) = true ∨ (s.lp (r.f 0 3 0)).st ∉ [LpState.off, .latched, .lockout, .damaged])))) ∧
    (∃ (s : State) (r : Waiting), s.runningOp 0x7E10 = some r ∧ s.sys.start ≠ 1 ∧ r.f 0 31 28 = 1 ∧ s.testRuns 1 (r.f 0 15 0) = false) ∧
    (∃ (s : State) (t : State) (r : Waiting) (u : Nat), s.runningOp 0x7E10 = some r ∧ s.sys.start ≠ 1 ∧ r.f 0 31 28 = 2 ∧ u = r.f 0 2 0 ∧ s.testRuns 2 u = false ∧ (((s.tp (u / 2)).st = .active → (s.tp (u / 2)).twoLanes = true)) ∧ t = { s with diag.tests := s.diag.tests ++ [({ kind := 2, unit := u, src := some r.src } : UnitTest)] }) ∧
    (∃ (s : State) (t : State) (r : Waiting) (u : Fin 16), s.runningOp 0x7E10 = some r ∧ s.sys.start ≠ 1 ∧ r.f 0 31 28 = 3 ∧ u.val = r.f 0 3 0 ∧ s.testRuns 3 u.val = false ∧ (s.lp u.val).st ∈ [LpState.off, .latched, .lockout, .damaged] ∧ t = { s with diag.tests := s.diag.tests ++ [({ kind := 3, unit := u.val, src := some r.src } : UnitTest)] }) ∧
    (∃ (s : State) (r : Waiting), s.runningOp 0x7E10 = some r ∧ s.sys.start ≠ 1 ∧ r.f 0 31 28 = 4) ∧
    (∃ (s : State) (r : Waiting), s.runningOp 0x7E10 = some r ∧ s.sys.start ≠ 1 ∧ (r.f 0 31 28 = 0 ∨ 5 ≤ r.f 0 31 28)) ∧
    (∃ (s : State) (r : Waiting) (k : Nat) (u : Nat), s.runningOp 0x7E11 = some r ∧ k = r.f 0 31 28 ∧ u = (if k = 1 then r.f 0 15 0 else r.f 0 2 0)) ∧
    (∃ (s : State) (r : Waiting), s.runningOp 0x7E12 = some r) ∧
    (∃ (s : State) (r : Waiting), s.runningOp 0x7E02 = some r) ∧
    (∃ (s : State) (r : Waiting), s.runningOp 0x7E01 = some r) := by
  exact ⟨⟨State.reset, 63, 1023, by decide⟩,
    ⟨{ onHub with diag.tests := [{ kind := 1, unit := 65535 }] }, 63, 1023, { kind := 1, unit := 65535 }, by decide⟩,
    ⟨{ onHub with diag.tests := [{ kind := 1, unit := 65535, restore := true }] }, 63, 1023, { kind := 1, unit := 65535, restore := true }, by decide⟩,
    ⟨State.reset, 3, 1, by decide⟩,
    ⟨{ onHub with diag.tests := [{ kind := 2, unit := 7 }] }, 3, 1, { kind := 2, unit := 7 }, by decide⟩,
    ⟨{ withCmdData 0x7E10 [0x10000005] with diag.tests := [{ kind := 1, unit := 5 }] }, req 0x7E10 [0x10000005], _, by decide, rfl, by decide⟩,
    ⟨withCmdData 0x7E10 [0x1000FFFF], req 0x7E10 [0x1000FFFF], by decide⟩,
    ⟨withCmdData 0x7E10 [0x20000007], _, req 0x7E10 [0x20000007], _, by decide, by decide, by decide, rfl, by decide, by decide, rfl⟩,
    ⟨{ withCmdData 0x7E10 [0x3000000F] with pwr.lp := Vector.replicate 16 { st := .off } }, _, req 0x7E10 [0x3000000F], 15, by decide, by decide, by decide, by decide, by decide, by decide, rfl⟩,
    ⟨withCmdData 0x7E10 [0x40000000], req 0x7E10 [0x40000000], by decide⟩,
    ⟨withCmdData 0x7E10 [0xF0000000], req 0x7E10 [0xF0000000], by decide, by decide, Or.inr (by decide)⟩,
    ⟨{ withCmdData 0x7E11 [0x20000007] with diag.repairs := [{ kind := 2, unit := 7 }] }, req 0x7E11 [0x20000007], _, _, by decide, rfl, rfl⟩,
    ⟨withCmdData 0x7E12 [1], req 0x7E12 [1], by decide⟩,
    ⟨withCmd 0x7E02, req 0x7E02, by decide⟩,
    ⟨withCmd 0x7E01, req 0x7E01, by decide⟩⟩

/-- States and operands that meet the hypotheses of `Obligations.MemoryErrorsAndEnginesAreReported`, clause by clause. -/
theorem wit_MemoryErrorsAndEnginesAreReported :
    (∃ (s : State) (t : BitVec 20), s.fwd.entries.any (fun e => e.tunnel == t.toNat && e.valid) = false) ∧
    (∃ (s : State) (t : BitVec 20) (e : FwdEntry), s.fwd.entries.find? (fun e => e.tunnel == t.toNat && e.valid) = some e) ∧
    (∃ (s : State) (k : BitVec 14), s.tunAt k.toNat = none) ∧
    (∃ (s : State) (k : BitVec 14) (x : Tunnel), s.tunAt k.toNat = some x) ∧
    (∃ (s : State), s.diag.pwait = []) ∧
    (∃ (s : State) (e : LogEntry) (l : List LogEntry), s.diag.pwait = e :: l) ∧
    (∃ (s : State) (e : LogEntry) (l : List LogEntry), s.diag.pwait = e :: l) := by
  exact ⟨⟨State.reset, 5, by decide⟩,
    ⟨{ onHub with fwd.entries := [{ tunnel := 5, valid := true }] }, 5, { tunnel := 5, valid := true }, by decide⟩,
    ⟨State.reset, 0, by decide⟩,
    ⟨withTun mailTun, 1, mailTun, by decide⟩,
    ⟨State.reset, by decide⟩,
    ⟨{ onHub with diag.pwait := [{}] }, {}, [], by decide⟩,
    ⟨{ onHub with diag.pwait := [{}] }, {}, [], by decide⟩⟩

end Sys2Proof.Tests
end

/-! Event queues of the mailboxes (02_mailboxes.md, R47 and R48): what writing an entry, flushing the lost count and a CONS write do. -/

namespace Sys2Proof.Machine

open Sys2Proof

/-! ### A full queue -/

theorem Mailbox.full_eq_false_iff (m : Mailbox) : m.full = false ↔ m.used < 256 := by
  simp [Mailbox.full]

/-- A mailbox within its bounds never holds more than 256 entries, so a full queue holds exactly 256. -/
theorem Mailbox.Ok.full_iff {m : Mailbox} (h : m.Ok) : m.full = true ↔ m.used = 256 := by
  have hroom : m.used ≤ 256 := h.room
  simp only [Mailbox.full, decide_eq_true_eq]
  omega

/-! ### Writing an entry -/

@[simp] theorem Mailbox.entry_prod (m : Mailbox) (ev : Nat) (data : Word) (st : Stamp) :
    (m.entry ev data st).prod = (m.prod + 1) % 65536 := rfl

@[simp] theorem Mailbox.entry_cons (m : Mailbox) (ev : Nat) (data : Word) (st : Stamp) : (m.entry ev data st).cons = m.cons := rfl

@[simp] theorem Mailbox.slot_entry_same (m : Mailbox) (ev : Nat) (data : Word) (st : Stamp) :
    (m.entry ev data st).slot (m.prod % 256) = some { seq := m.seqNext, event := ev, data := data, stamp := st } := by
  simp [Mailbox.slot, Mailbox.entry]

theorem Mailbox.slot_entry_of_ne {m : Mailbox} {k : Nat} (hk : k ≠ m.prod % 256) (ev : Nat) (data : Word) (st : Stamp) :
    (m.entry ev data st).slot k = m.slot k := by
  have hfilter : (m.evSlots.filter (·.1 != m.prod % 256)).find? (·.1 == k) = m.evSlots.find? (·.1 == k) := by
    rw [List.find?_filter]
    congr 1
    funext e
    by_cases he : e.1 = k
    · simp [he, hk]
    · simp [he]
  simp only [Mailbox.slot, Mailbox.entry]
  rw [List.find?_cons_of_neg (by simpa using hk.symm), hfilter]

/-! ### Flushing the lost count -/

theorem Mailbox.flushLost_of_full {m : Mailbox} (h : m.full = true) (st : Stamp) : m.flushLost st = m := by
  simp [Mailbox.flushLost, h]

theorem Mailbox.flushLost_of_lost_eq_zero {m : Mailbox} (h : m.lost = 0) (st : Stamp) : m.flushLost st = m := by
  simp [Mailbox.flushLost, h]

/-- EV001 takes the free slot, and the lost count starts again (R48). -/
theorem Mailbox.flushLost_of_room {m : Mailbox} (hroom : m.full = false) (hlost : m.lost ≠ 0) (st : Stamp) :
    m.flushLost st = { m.entry 1 (wd m.lost) st with lost := 0 } := by
  simp [Mailbox.flushLost, hroom, hlost]

/-- What `Mailbox.flushLost` leaves behind when it reports a loss (R48). -/
theorem Mailbox.flushLost_reports {m : Mailbox} (hroom : m.full = false) (hlost : m.lost ≠ 0) (st : Stamp) :
    (m.flushLost st).slot (m.prod % 256) = some { seq := m.seqNext, event := 1, data := wd m.lost, stamp := st } ∧ (m.flushLost st).lost = 0 ∧
    (m.flushLost st).prod = (m.prod + 1) % 65536 ∧ (m.flushLost st).seqNext = (m.seqNext + 1) % 65536 := by
  rw [Mailbox.flushLost_of_room hroom hlost]
  exact ⟨m.slot_entry_same .., rfl, rfl, rfl⟩

@[simp] theorem Mailbox.flushLost_cons (m : Mailbox) (st : Stamp) : (m.flushLost st).cons = m.cons := by
  unfold Mailbox.flushLost
  split <;> rfl

/-- Whether EV001 is written does not depend on the event mask (R48, R62). -/
theorem Mailbox.flushLost_setMask (m : Mailbox) (k : BitVec 256) (st : Stamp) :
    { m with mask := k }.flushLost st = { m.flushLost st with mask := k } := by
  by_cases hlost : m.lost = 0
  · rw [Mailbox.flushLost_of_lost_eq_zero hlost, Mailbox.flushLost_of_lost_eq_zero (m := { m with mask := k }) hlost]
  · cases hfull : m.full with
    | true => rw [Mailbox.flushLost_of_full hfull, Mailbox.flushLost_of_full (m := { m with mask := k }) hfull]
    | false => rw [Mailbox.flushLost_of_room hfull hlost, Mailbox.flushLost_of_room (m := { m with mask := k }) hfull hlost]; rfl

/-! ### An event bound for the queue -/

theorem Mailbox.push_of_room {m : Mailbox} {st : Stamp} (h : (m.flushLost st).full = false) (ev : Nat) (data : Word) :
    m.push ev data st = (m.flushLost st).entry ev data st := by
  simp [Mailbox.push, h]

/-- A queue that is full before the event stays full: no EV001 is written, and the event is lost. -/
theorem Mailbox.push_of_full {m : Mailbox} (h : m.full = true) (ev : Nat) (data : Word) (st : Stamp) : m.push ev data st = m.lose := by
  simp [Mailbox.push, Mailbox.lose, Mailbox.flushLost_of_full h, h]

/-- With none lost before, an event that finds room is written at once. -/
theorem Mailbox.push_of_room_of_lost_eq_zero {m : Mailbox} (hroom : m.full = false) (hlost : m.lost = 0) (ev : Nat) (data : Word)
    (st : Stamp) : m.push ev data st = m.entry ev data st := by
  have hflush : m.flushLost st = m := Mailbox.flushLost_of_lost_eq_zero hlost st
  rw [Mailbox.push_of_room (by rw [hflush]; exact hroom), hflush]

/-! ### A CONS write -/

@[simp] theorem State.box_modBox_same (s : State) (i : Fin 38) (f : Mailbox → Mailbox) : (s.modBox i f).box i = f (s.box i) := by
  simp [State.box, State.modBox, updAt]

@[simp] theorem State.box_spiHeard (s : State) (i j : Fin 38) : (s.spiHeard i).box j = s.box j := by
  unfold State.spiHeard
  split <;> rfl

theorem exec_evqConsWrite (box : Fin 38) (c : BitVec 16) (s : State) :
    exec (.evqConsWrite box c) s = execEvqConsWrite box c s := rfl

theorem exec_evqConsWrite_of_exceeds {box : Fin 38} {c : BitVec 16} {s : State}
    (h : 256 < ((s.box box).prod + 65536 - c.toNat) % 65536) : exec (.evqConsWrite box c) s = .next s := by
  rw [exec_evqConsWrite, execEvqConsWrite, decide_eq_false (Nat.not_le.mpr h), Bool.and_false]
  rfl

/-- A CONS write that is accepted sets CONS and then flushes the lost count, with the stamp of now (R47, R48). -/
theorem exec_evqConsWrite_box {box : Fin 38} {c : BitVec 16} {s : State} (hon : s.windowOn box = true)
    (hle : ((s.box box).prod + 65536 - c.toNat) % 65536 ≤ 256) :
    ∃ t, exec (.evqConsWrite box c) s = .next t ∧ t.box box = { s.box box with cons := c.toNat }.flushLost s.now := by
  refine ⟨(s.spiHeard box).modBox box fun m => { m with cons := c.toNat }.flushLost s.now, ?_, by simp⟩
  rw [exec_evqConsWrite, execEvqConsWrite, hon, decide_eq_true hle]
  rfl

/-! ### The obligations -/

/-- Settles O7: the clauses on a queue from `Mailbox.Ok.full_iff` and the slots of `Mailbox.entry`, those on EVQ_CONS_WRITE by its
two cases. -/
theorem queuesHoldTheirEntries : Obligations.QueuesHoldTheirEntries := by
  refine ⟨fun m hok => hok.full_iff, fun m ev data st hok hroom hlost => ?_, fun box c s => exec_evqConsWrite_of_exceeds,
    fun box c s hon hle => ?_⟩
  · have hok' : (m.push ev data st).Ok := Mailbox.push_ok hok ev data st
    rw [Mailbox.push_of_room_of_lost_eq_zero hroom hlost] at hok' ⊢
    exact ⟨m.entry_prod .., m.entry_cons .., hok', m.slot_entry_same .., fun k hk => Mailbox.slot_entry_of_ne hk ..⟩
  · obtain ⟨t, hexec, hbox⟩ := exec_evqConsWrite_box hon hle
    exact ⟨t, hexec, by rw [hbox, Mailbox.flushLost_cons]⟩

/-- Settles O8: `Mailbox.push` and `Mailbox.flushLost` by whether there is room, and the CONS write that makes room by
`Mailbox.flushLost_reports`. -/
theorem lostEventsAreReported : Obligations.LostEventsAreReported := by
  refine ⟨fun m ev data st hfull => Mailbox.push_of_full hfull ev data st, fun m st hroom hlost => Mailbox.flushLost_reports hroom hlost st,
    Mailbox.flushLost_setMask, fun m ev data st hroom => ?_, fun box c s hon hlost hlt => ?_⟩
  · rw [Mailbox.push_of_room hroom]
    exact Mailbox.slot_entry_same ..
  · obtain ⟨t, hexec, hbox⟩ := exec_evqConsWrite_box hon (Nat.le_of_lt hlt)
    have hroom : { s.box box with cons := c.toNat }.full = false := (Mailbox.full_eq_false_iff _).mpr hlt
    obtain ⟨hslot, hzero, -, -⟩ := Mailbox.flushLost_reports hroom hlost s.now
    exact ⟨t, hexec, hbox ▸ hzero, hbox ▸ hslot⟩

end Sys2Proof.Machine

/-! Every command answers a next state that has the queue as it was and stays safe (`OutKeeps`): one lemma per command, from the lemmas
of the operations it calls (`…_keeps`), and one for the dispatch. -/

namespace Sys2Proof.Machine

open Sys2Proof

/-! ### What the lemmas of the commands share -/

theorem OutKeeps.runDir {s : State} {op : Nat} {f : Waiting → State → State × Response} (h : ∀ r, Keeps s (f r s).1) :
    OutKeeps s (runDir op s f) := .runCmd fun r => Keeps.iteFst (h r) (.refl s)

theorem OutKeeps.runKey {s : State} {op : Nat} {f : Waiting → State → State × Response} (h : ∀ r, Keeps s (f r s).1) :
    OutKeeps s (runKey op s f) := .runCmd fun r => Keeps.iteFst (.refl s) (h r)

theorem OutKeeps.runUpd {s : State} {op : Nat} {f : Waiting → State → State × Response} (h : ∀ r, Keeps s (f r s).1) :
    OutKeeps s (runUpd op s f) := .runCmd fun r => Keeps.iteFst (.refl s) (Keeps.iteFst (.refl s) (h r))

/-- A change of one mailbox that keeps the bounds of that mailbox as it stands. -/
theorem Keeps.modBoxAt {s₀ s : State} {i : Fin 38} {f : Mailbox → Mailbox} (hf : (s.box i).Ok → (f (s.box i)).Ok) (h : Keeps s₀ s) :
    Keeps s₀ (s.modBox i f) := by
  refine h.boxes rfl rfl (fun k hk => ?_) rfl rfl
  by_cases e : i = k
  · subst e
    rw [State.box_modBox_same]
    exact hf hk
  · have hother : (s.modBox i f).box k = s.box k := by
      simp [State.box, State.modBox, updAt, Fin.val_ne_of_ne e]
    exact hother ▸ hk

/-- A CONS within 256 entries of PROD keeps the bounds (R47). -/
theorem Mailbox.Ok.setCons {m : Mailbox} (h : m.Ok) {c : Nat} (hc : c < 65536) (hle : (m.prod + 65536 - c) % 65536 ≤ 256) :
    ({ m with cons := c } : Mailbox).Ok := ⟨h.prod, hc, h.seq, hle, h.unmasked⟩

/-- Taking the oldest entry of a queue that holds one keeps the bounds. -/
theorem Mailbox.Ok.consume {m : Mailbox} (h : m.Ok) (hne : m.prod ≠ m.cons) : ({ m with cons := (m.cons + 1) % 65536 } : Mailbox).Ok := by
  obtain ⟨hprod, hcons, -, hroom, -⟩ := id h
  refine h.setCons (Nat.mod_lt _ (by decide)) ?_
  simp only [Mailbox.used] at hroom
  omega

theorem Mailbox.Ok.setMask {m : Mailbox} (h : m.Ok) {k : BitVec 256} (hk : k.getLsbD 1 = true) : ({ m with mask := k } : Mailbox).Ok :=
  ⟨h.prod, h.cons, h.seq, h.room, hk⟩

/-- A mask to which the bit of EV001 is added has it (R62). -/
theorem getLsbD_or_ev001 (k : BitVec 256) : (k ||| 2#256).getLsbD 1 = true := by
  have hbit : (2#256).getLsbD 1 = true := by decide
  rw [BitVec.getLsbD_or, hbit, Bool.or_true]

/-! ### Machine/Mailbox -/

theorem execDoorbellRing_keeps (box : Fin 38) (value : DoorbellWrite) (s : State) : OutKeeps s (execDoorbellRing box value s) := by
  unfold execDoorbellRing
  with_reducible repeat' (first
      | exact Keeps.refl _ | assumption | apply OutKeeps.next | apply State.ringOne_keeps | (refine Keeps.foldl (fun _ _ _ => ?_) _ _ ?_))

/-- R47: only a CONS within 256 entries of PROD is taken. -/
theorem execEvqConsWrite_keeps (box : Fin 38) (cons : BitVec 16) (s : State) : OutKeeps s (execEvqConsWrite box cons s) := by
  unfold execEvqConsWrite
  split
  next h =>
    obtain ⟨-, hle⟩ := (Bool.and_eq_true ..).mp h
    refine .next (Keeps.modBoxAt (fun hok => Mailbox.flushLost_ok (hok.setCons cons.isLt ?_) _) (State.spiHeard_keeps _ (.refl s)))
    rw [State.box_spiHeard]
    exact of_decide_eq_true hle
  next => exact .next (.refl s)

theorem execEvqPendClear_keeps (box : Fin 38) (s : State) : OutKeeps s (execEvqPendClear box s) := by
  unfold execEvqPendClear
  with_reducible repeat' (first
      | exact Keeps.refl _ | apply OutKeeps.ite | apply OutKeeps.next | apply State.spiHeard_keeps
      | (refine Keeps.modBox (fun _ h => h.same rfl rfl rfl rfl) ?_))

theorem execRegisterWrite_keeps (box : Fin 38) (offset : Nat) (value : Word) (s : State) : OutKeeps s (execRegisterWrite box offset value s) :=
  .ite (.next (State.windowWrite_keeps _ _ _ (State.spiHeard_keeps _ (.refl s)))) (.next (.refl s))

theorem execMgmtSpiBadTransaction_keeps (instruction : Byte) (clocked : SpiBits) (s : State) :
    OutKeeps s (execMgmtSpiBadTransaction instruction clocked s) := by
  unfold execMgmtSpiBadTransaction
  with_reducible repeat' (first
      | exact Keeps.refl _ | apply OutKeeps.ite | apply OutKeeps.next | apply State.spiWrites_keeps | apply State.send_keeps
      | refine Keeps.upd _ ?_ rfl rfl rfl)

theorem execPciePartialWindowAccess_keeps (box : Fin 38) (write : Bool) (offset : Nat) (enables : BitVec 4) (value : Word) (s : State) :
    OutKeeps s (execPciePartialWindowAccess box write offset enables value s) := by
  unfold execPciePartialWindowAccess
  with_reducible repeat' (first
      | exact Keeps.refl _ | apply OutKeeps.ite | apply OutKeeps.next | apply State.windowWrite_keeps | apply State.send_keeps | apply Keeps.ite
      | refine Keeps.upd _ ?_ rfl rfl rfl)

theorem execSvcRequestFrame_keeps (box : Fin 38) (skipped head payload crc : List Byte) (s : State) :
    OutKeeps s (execSvcRequestFrame box skipped head payload crc s) := by
  unfold execSvcRequestFrame
  with_reducible repeat' (first
      | exact Keeps.refl _ | apply OutKeeps.ite | apply OutKeeps.next | (refine Keeps.modBox (fun _ h => h.same rfl rfl rfl rfl) ?_)
      | apply State.doorbell_keeps | split | refine Keeps.upd _ ?_ rfl rfl rfl)

theorem execSvcFrameGapTimeout_keeps (box : Fin 38) (s : State) : OutKeeps s (execSvcFrameGapTimeout box s) := by
  unfold execSvcFrameGapTimeout
  with_reducible repeat' (first
      | exact Keeps.refl _ | apply OutKeeps.ite | apply OutKeeps.next | (refine Keeps.modBox (fun _ h => h.same rfl rfl rfl rfl) ?_)
      | refine Keeps.upd _ ?_ rfl rfl rfl)

theorem execSvcEventFrameSend_keeps (box : Fin 38) (s : State) : OutKeeps s (execSvcEventFrameSend box s) := by
  unfold execSvcEventFrameSend
  dsimp only
  split
  next h =>
    obtain ⟨-, hne⟩ := (Bool.and_eq_true ..).mp h
    exact .next (Keeps.modBoxAt (fun hok => Mailbox.flushLost_ok (hok.consume (bne_iff_ne.mp hne)) _) (State.send_keeps _ (.refl s)))
  next => exact .next (.refl s)

theorem execPeerCommandPdu_keeps (tun : Nat) (port : Fin 4) (opcode : BitVec 16) (len : BitVec 16) (tag : Word) (data : List Word) (s : State) :
    OutKeeps s (execPeerCommandPdu tun port opcode len tag data s) :=
  .ite (.ite (.next (State.send_keeps _ (.refl s))) (.next (State.submit_keeps _ (.refl s)))) (.next (.refl s))

theorem execSysStatus_keeps (s : State) : OutKeeps s (execSysStatus s) := .runRead

theorem execSysCounters_keeps (s : State) : OutKeeps s (execSysCounters s) := by
  unfold execSysCounters
  with_reducible repeat' (first | exact Keeps.refl _ | (refine OutKeeps.runCmd fun _ => ?_) | apply Keeps.ite | refine Keeps.upd _ ?_ rfl rfl rfl)

theorem execSysTopo_keeps (s : State) : OutKeeps s (execSysTopo s) := .runRead

theorem execSysSvcWindow_keeps (s : State) : OutKeeps s (execSysSvcWindow s) := by
  unfold execSysSvcWindow
  with_reducible repeat' (first
      | exact Keeps.refl _ | (refine OutKeeps.runCmd fun _ => ?_) | apply Keeps.refreshAuth | apply State.raise_keeps | apply Keeps.iteFst | split
      | refine Keeps.upd _ ?_ rfl rfl rfl)

theorem execSvcWindowExpiry_keeps (s : State) : OutKeeps s (execSvcWindowExpiry s) := by
  unfold execSvcWindowExpiry
  with_reducible repeat' (first
      | exact Keeps.refl _ | apply OutKeeps.next | apply Keeps.refreshAuth | apply State.raise_keeps | split | refine Keeps.upd _ ?_ rfl rfl rfl)

theorem execCfgClamplog_keeps (s : State) : OutKeeps s (execCfgClamplog s) := .runRead

/-- EV001 stays enabled (R62). -/
theorem execEvtMask_keeps (s : State) : OutKeeps s (execEvtMask s) := by
  unfold execEvtMask
  refine .runCmd fun r => ?_
  split
  next i => exact Keeps.iteFst (.refl s) (Keeps.modBox (fun _ hok => hok.setMask (getLsbD_or_ev001 _)) (.refl s))
  next => exact .refl s

/-! ### Machine/PhaseBase -/

theorem execZxEdge_keeps (s : State) : OutKeeps s (execZxEdge s) := by
  unfold execZxEdge
  with_reducible repeat' (first
      | exact Keeps.refl _ | apply OutKeeps.ite | apply OutKeeps.next | apply State.mainsLost_keeps | apply State.raise_keeps
      | apply State.acceptEdge_keeps | dsimp only | refine Keeps.upd _ ?_ rfl rfl rfl)

theorem execMainsLostTimeout_keeps (s : State) : OutKeeps s (execMainsLostTimeout s) :=
  .ite (.next (.refl s)) (.next (State.mainsLost_keeps _ (.refl s)))

theorem execMainsNoiseWindowEnd_keeps (s : State) : OutKeeps s (execMainsNoiseWindowEnd s) := by
  unfold execMainsNoiseWindowEnd
  with_reducible repeat' (first
      | exact Keeps.refl _ | apply OutKeeps.ite | apply OutKeeps.next | apply State.raise_keeps | dsimp only | refine Keeps.upd _ ?_ rfl rfl rfl)

theorem execAcquireTimeout_keeps (s : State) : OutKeeps s (execAcquireTimeout s) :=
  .ite (.next (State.enterSynth_keeps (.refl s))) (.next (.refl s))

theorem execMainsPullInLock_keeps (s : State) : OutKeeps s (execMainsPullInLock s) := by
  unfold execMainsPullInLock
  with_reducible repeat' (first
      | exact Keeps.refl _ | apply OutKeeps.ite | apply OutKeeps.next | apply State.fixNominal_keeps | apply State.setPhase_keeps
      | refine Keeps.upd _ ?_ rfl rfl rfl)

theorem execGuylineSyncSend_keeps (s : State) : OutKeeps s (execGuylineSyncSend s) := by
  unfold execGuylineSyncSend
  with_reducible repeat' (first
      | exact Keeps.refl _ | assumption | apply OutKeeps.next | apply State.guyQueue_keeps | apply Keeps.ite
      | (refine Keeps.foldl (fun _ _ _ => ?_) _ _ ?_))

theorem execGuylineDelayReqSend_keeps (s : State) : OutKeeps s (execGuylineDelayReqSend s) := by
  unfold execGuylineDelayReqSend
  with_reducible repeat' (first
      | exact Keeps.refl _ | assumption | apply OutKeeps.next | apply State.guyQueue_keeps | apply Keeps.ite
      | (refine Keeps.foldl (fun _ _ _ => ?_) _ _ ?_))

theorem execGuylineDelayRequest_keeps (port : Fin 4) (s : State) : OutKeeps s (execGuylineDelayRequest port s) :=
  .next (State.guyDelayReq_keeps _ (.refl s))

theorem execGuylineDelayResponse_keeps (port : Fin 4) (rxTime : Nat) (s : State) : OutKeeps s (execGuylineDelayResponse port rxTime s) :=
  .next (State.guyDelayResp_keeps _ _ (.refl s))

theorem execGuylineLoss_keeps (s : State) : OutKeeps s (execGuylineLoss s) := .next (State.loseGuyline_keeps (.refl s))

theorem execPhaseArm_keeps (s : State) : OutKeeps s (execPhaseArm s) := by
  unfold execPhaseArm
  with_reducible repeat' (first
      | exact Keeps.refl _ | (refine OutKeeps.runCmd fun _ => ?_) | (refine State.armEntry_keeps (by assumption) ?_) | apply Keeps.iteFst | split
      | dsimp only)

theorem execPhaseCancel_keeps (s : State) : OutKeeps s (execPhaseCancel s) := by
  unfold execPhaseCancel
  with_reducible repeat' (first | exact Keeps.refl _ | (refine OutKeeps.runCmd fun _ => ?_) | dsimp only | refine Keeps.upd _ ?_ rfl rfl rfl)

theorem execPhaseStatus_keeps (s : State) : OutKeeps s (execPhaseStatus s) := .runRead

theorem execTimeStatus_keeps (s : State) : OutKeeps s (execTimeStatus s) := .runRead

theorem execTimeConvert_keeps (s : State) : OutKeeps s (execTimeConvert s) := .runRead

theorem execTrigEdge_keeps (pin : Fin 8) (rising : Bool) (s : State) : OutKeeps s (execTrigEdge pin rising s) := by
  have htrig (v : Vector Trig 8) : Keeps s { s with trig := v } := (Keeps.refl s).mk' rfl rfl rfl rfl rfl
  have hcount (u : State) (h : Keeps s u) : Keeps s (if u.pinCounts pin then u.countEdge pin else (u, false)).1 :=
    Keeps.iteFst (State.countEdge_keeps pin h) h
  unfold execTrigEdge
  dsimp only
  refine .ite (.next (.refl s)) (.ite (.ite (.next (State.raise_keeps _ _ _ (htrig _))) (.next (htrig _))) (.ite (.next (htrig _)) ?_))
  exact .ite (.next (Keeps.raiseAt (hcount _ (htrig _)) ..)) (.next (hcount _ (htrig _)))

theorem execTrigWindowEnd_keeps (pin : Fin 8) (s : State) : OutKeeps s (execTrigWindowEnd pin s) := by
  have htrig (v : Vector Trig 8) : Keeps s { s with trig := v } := (Keeps.refl s).mk' rfl rfl rfl rfl rfl
  exact .ite (.next (State.raise_keeps _ _ _ (htrig _))) (.next (htrig _))

theorem execCountWindowClose_keeps (pin : Fin 8) (s : State) : OutKeeps s (execCountWindowClose pin s) := by
  unfold execCountWindowClose
  with_reducible repeat' (first
      | exact Keeps.refl _ | apply OutKeeps.ite | apply OutKeeps.next | apply State.raise_keeps | refine Keeps.upd _ ?_ rfl rfl rfl)

/-! ### Machine/Ridge -/

theorem execEgressDecision_keeps (egress : Fin 15) (s : State) : OutKeeps s (execEgressDecision egress s) :=
  .next (State.decide1_keeps _ (.refl s))

theorem execCrossbarSlot_keeps (s : State) : OutKeeps s (execCrossbarSlot s) := by
  unfold execCrossbarSlot
  with_reducible repeat' (first
      | exact Keeps.refl _ | assumption | apply OutKeeps.next | apply State.cross_keeps | apply State.movePointers_keeps
      | apply State.ethResume_keeps | apply State.drainInternal_keeps | (refine Keeps.foldl (fun _ _ _ => ?_) _ _ ?_)
      | refine Keeps.upd _ ?_ rfl rfl rfl)

theorem execSharedAdmitRetry_keeps (ingress : Fin 15) (s : State) : OutKeeps s (execSharedAdmitRetry ingress s) := by
  unfold execSharedAdmitRetry
  with_reducible repeat' (first
      | exact Keeps.refl _ | apply OutKeeps.ite | apply OutKeeps.next | apply State.offerNow_keeps | split | refine Keeps.upd _ ?_ rfl rfl rfl)

theorem execRsqHoleTimeout_keeps (tunnel : BitVec 20) (status : Bool) (s : State) : OutKeeps s (execRsqHoleTimeout tunnel status s) := by
  unfold execRsqHoleTimeout
  with_reducible repeat' (first
      | exact Keeps.refl _ | apply OutKeeps.ite | apply OutKeeps.next | apply State.modEntry_keeps | apply State.noteSkips_keeps
      | apply State.passCells_keeps | split)

theorem execGsEccError_keeps (bank : Fin 64) (row : Fin 1024) (ingress egress : Fin 15) (corrected : Option Nat) (s : State) :
    OutKeeps s (execGsEccError bank row ingress egress corrected s) := by
  unfold execGsEccError
  with_reducible repeat' (first
      | exact Keeps.refl _ | apply OutKeeps.ite | apply OutKeeps.next | apply State.cntF_keeps | apply Keeps.logErr | apply State.testRow_keeps
      | apply State.raise_keeps | apply State.stompCut_keeps | apply State.modEgress_keeps | apply State.leave_keeps | apply Keeps.ite | split)

/-! ### Machine/Fabric -/

theorem execFwdSet_keeps (s : State) : OutKeeps s (execFwdSet s) := .runCmd fun _ => State.fwdSet_keeps _ _ _ (.refl s)

theorem execFwdGet_keeps (s : State) : OutKeeps s (execFwdGet s) := .runRead

theorem execOrderedHoldDrain_keeps (tunnel : BitVec 20) (s : State) : OutKeeps s (execOrderedHoldDrain tunnel s) := by
  unfold execOrderedHoldDrain
  with_reducible repeat' (first | exact Keeps.refl _ | apply OutKeeps.ite | apply OutKeeps.next | apply State.openAndWake_keeps | split)

theorem execOrderedHoldExpiry_keeps (tunnel : BitVec 20) (s : State) : OutKeeps s (execOrderedHoldExpiry tunnel s) := by
  unfold execOrderedHoldExpiry
  with_reducible repeat' (first
      | exact Keeps.refl _ | apply OutKeeps.ite | apply OutKeeps.next | apply State.openAndWake_keeps | apply State.cntF_keeps
      | apply State.raise_keeps | split)

theorem execFwdBarrier_keeps (s : State) : OutKeeps s (execFwdBarrier s) := by
  unfold execFwdBarrier
  with_reducible repeat' (first
      | exact Keeps.refl _ | (refine OutKeeps.runCmd fun _ => ?_) | apply Keeps.iteFst | split | dsimp only | refine Keeps.upd _ ?_ rfl rfl rfl)

theorem execBarrierDrain_keeps (s : State) : OutKeeps s (execBarrierDrain s) := .next (State.endBarriers_keeps (.refl s))

theorem execBarrierTimeout_keeps (id : Fin 4) (s : State) : OutKeeps s (execBarrierTimeout id s) := by
  unfold execBarrierTimeout
  with_reducible repeat' (first
      | exact Keeps.refl _ | apply OutKeeps.next | apply State.flushCells_keeps | apply State.endBarriers_keeps | apply Keeps.ite | split
      | refine Keeps.upd _ ?_ rfl rfl rfl)

theorem execFwdBarrierDone_keeps (s : State) : OutKeeps s (execFwdBarrierDone s) := .runRead

theorem execFwdStatus_keeps (s : State) : OutKeeps s (execFwdStatus s) := .runRead

theorem execFwdCounters_keeps (s : State) : OutKeeps s (execFwdCounters s) := by
  unfold execFwdCounters
  with_reducible repeat' (first | exact Keeps.refl _ | (refine OutKeeps.runCmd fun _ => ?_) | apply Keeps.ite | refine Keeps.upd _ ?_ rfl rfl rfl)

/-! ### Machine/Allotment -/

theorem execRefillTick_keeps (s : State) : OutKeeps s (execRefillTick s) := by
  unfold execRefillTick
  with_reducible repeat' (first
      | exact Keeps.refl _ | assumption | apply OutKeeps.next | apply State.applyEpoch_keeps | apply State.rescale_keeps | apply State.listVl1_keeps
      | apply State.sendWaiting_keeps | (refine Keeps.foldl (fun _ _ _ => ?_) _ _ ?_) | refine Keeps.upd _ ?_ rfl rfl rfl)

theorem execLinkRateReport_keeps (hub : BitVec 16) (port : Fin 4) (kbps : Nat) (bundled : Bool) (s : State) :
    OutKeeps s (execLinkRateReport hub port kbps bundled s) := .next (.ite (State.setRate_keeps _ _ _ _ (.refl s)) (.refl s))

theorem execAllotStage_keeps (s : State) : OutKeeps s (execAllotStage s) := by
  unfold execAllotStage
  with_reducible repeat' (first
      | exact Keeps.refl _ | (refine OutKeeps.runCmd fun _ => ?_) | apply State.stage_keeps | (refine Keeps.fst (by assumption) ?_) | split
      | dsimp only | refine Keeps.upd _ ?_ rfl rfl rfl)

theorem execAllotCancel_keeps (s : State) : OutKeeps s (execAllotCancel s) := by
  unfold execAllotCancel
  with_reducible repeat' (first
      | exact Keeps.refl _ | (refine OutKeeps.runCmd fun _ => ?_) | apply Keeps.iteFst | dsimp only | refine Keeps.upd _ ?_ rfl rfl rfl)

theorem execAllotStatus_keeps (s : State) : OutKeeps s (execAllotStatus s) := .runRead

theorem execAllotQueue_keeps (s : State) : OutKeeps s (execAllotQueue s) := .runRead

theorem execAllotPolicer_keeps (s : State) : OutKeeps s (execAllotPolicer s) := .runRead

theorem execAllotChange_keeps (s : State) : OutKeeps s (execAllotChange s) := by
  unfold execAllotChange
  with_reducible repeat' (first
      | exact Keeps.refl _ | (refine OutKeeps.runCmd fun _ => ?_) | apply State.askRates_keeps | apply Keeps.iteFst | split)

theorem execAllotRequest_keeps (ans : Option (BitVec 20 × Byte)) (s : State) : OutKeeps s (execAllotRequest ans s) := by
  unfold execAllotRequest
  with_reducible repeat' (first
      | exact Keeps.refl _ | (refine OutKeeps.runCmd fun _ => ?_) | apply OutKeeps.next | apply State.changeAnswered_keeps
      | apply State.decideChange_keeps | apply Keeps.ite | split)

theorem execAllotApplied_keeps (s : State) : OutKeeps s (execAllotApplied s) :=
  .runCmd fun _ => Keeps.iteFst (State.nameEpoch_keeps _ (.ite (.refl s) (State.raise_keeps _ _ _ (.refl s)))) (.ite (.refl s) (State.raise_keeps _
      _ _ (.refl s)))

/-! ### Machine/Bridge -/

theorem execBar2Read_keeps (fn : BitVec 5) (offset : BitVec 30) (len : BitVec 13) (s : State) : OutKeeps s (execBar2Read fn offset len s) := by
  unfold execBar2Read
  with_reducible repeat' (first
      | exact Keeps.refl _ | apply OutKeeps.ite | apply OutKeeps.next | apply State.send_keeps | apply State.logWindow_keeps
      | apply State.complete_keeps | apply State.epRead_keeps | apply State.memRead_keeps | split)

theorem execBar2Write_keeps (fn : BitVec 5) (offset : BitVec 30) (slots : List (BitVec 4 × Word)) (s : State) :
    OutKeeps s (execBar2Write fn offset slots s) := by
  unfold execBar2Write
  with_reducible repeat' (first
      | exact Keeps.refl _ | apply OutKeeps.next | apply State.bar2Write_keeps | apply Keeps.ite | refine Keeps.upd _ ?_ rfl rfl rfl)

theorem execDelayedReadHoldEnd_keeps (tag : Byte) (s : State) : OutKeeps s (execDelayedReadHoldEnd tag s) := by
  unfold execDelayedReadHoldEnd
  with_reducible repeat' (first | exact Keeps.refl _ | apply OutKeeps.next | apply State.modDr_keeps | apply State.complete_keeps | split)

theorem execDelayedReadCollectExpiry_keeps (tag : Byte) (s : State) : OutKeeps s (execDelayedReadCollectExpiry tag s) := by
  unfold execDelayedReadCollectExpiry
  with_reducible repeat' (first
      | exact Keeps.refl _ | apply OutKeeps.next | apply State.dropDr_keeps | apply State.cntB_keeps | apply State.logWindow_keeps
      | apply State.portDrain_keeps | split)

theorem execMemReadTimeout_keeps (tag : Byte) (s : State) : OutKeeps s (execMemReadTimeout tag s) := by
  unfold execMemReadTimeout
  with_reducible repeat' (first
      | exact Keeps.refl _ | apply OutKeeps.next | apply State.dropOut_keeps | apply State.logWindow_keeps | apply State.send_keeps
      | apply State.portDrain_keeps | split)

theorem execPrefetchExpiry_keeps (fn : BitVec 5) (win : BitVec 3) (s : State) : OutKeeps s (execPrefetchExpiry fn win s) := by
  unfold execPrefetchExpiry
  with_reducible repeat' (first | exact Keeps.refl _ | apply OutKeeps.next | refine Keeps.upd _ ?_ rfl rfl rfl)

theorem execBridgeRead_keeps (src : BrFrom) (tag lsid : BitVec 16) (exp : BitVec 4) (slots : Byte) (target : BitVec 64) (bytes : BitVec 16) (dev :
    Option (List Word)) (s : State) :
    OutKeeps s (execBridgeRead src tag lsid exp slots target bytes dev s) := by
  unfold execBridgeRead
  with_reducible repeat' (first
      | exact Keeps.refl _ | apply OutKeeps.ite | apply OutKeeps.next | apply State.cntB_keeps | apply State.sendPdu_keeps
      | apply State.farStart_keeps | apply Keeps.ite)

theorem execBridgeWrite_keeps (src : BrFrom) (confirmed : Bool) (tag lsid : BitVec 16) (exp : BitVec 4) (target : BitVec 64) (data : List Word) (dev
    : Bool) (s : State) :
    OutKeeps s (execBridgeWrite src confirmed tag lsid exp target data dev s) := by
  unfold execBridgeWrite
  with_reducible repeat' (first
      | exact Keeps.refl _ | apply OutKeeps.ite | apply OutKeeps.next | apply State.cntB_keeps | apply State.sendPdu_keeps
      | apply State.farStart_keeps | apply State.exportWrite_keeps | apply Keeps.ite)

theorem execBridgeLock_keeps (src : BrFrom) (tag lsid : BitVec 16) (target : BitVec 64) (depth source : Byte) (hub : BitVec 16) (s : State) :
    OutKeeps s (execBridgeLock src tag lsid target depth source hub s) := by
  unfold execBridgeLock
  with_reducible repeat' (first
      | exact Keeps.refl _ | apply OutKeeps.ite | apply OutKeeps.next | apply State.sendPdu_keeps | apply State.cntB_keeps
      | apply State.grantLock_keeps | apply State.modSeg_keeps | split)

theorem execBridgeUnlock_keeps (src : BrFrom) (tag lsid : BitVec 16) (target : BitVec 64) (s : State) :
    OutKeeps s (execBridgeUnlock src tag lsid target s) := by
  unfold execBridgeUnlock
  with_reducible repeat' (first
      | exact Keeps.refl _ | assumption | apply OutKeeps.ite | apply OutKeeps.next | apply State.modSeg_keeps | apply State.releaseLock_keeps
      | apply State.sendPdu_keeps | apply Keeps.ite | (refine Keeps.foldl (fun _ _ _ => ?_) _ _ ?_))

theorem execLockExpiry_keeps (seg : Fin 16) (s : State) : OutKeeps s (execLockExpiry seg s) := .next (State.releaseLock_keeps _ _ (.refl s))

theorem execBridgeSubscribe_keeps (src : BrFrom) (firstEp : BitVec 24) (mask : BitVec 6) (s : State) :
    OutKeeps s (execBridgeSubscribe src firstEp mask s) := by
  unfold execBridgeSubscribe
  with_reducible repeat' (first | exact Keeps.refl _ | apply OutKeeps.ite | apply OutKeeps.next | refine Keeps.upd _ ?_ rfl rfl rfl)

theorem execLockBackoffEnd_keeps (lsid : BitVec 16) (s : State) : OutKeeps s (execLockBackoffEnd lsid s) := by
  unfold execLockBackoffEnd
  with_reducible repeat' (first | exact Keeps.refl _ | apply OutKeeps.next | apply State.modSeq_keeps | apply State.sendLockPdu_keeps | split)

theorem execBridgeAnswer_keeps (tun : Option (BitVec 14)) (op status : Byte) (tag lsid : BitVec 16) (target : BitVec 64) (data : List Word) (s :
    State) :
    OutKeeps s (execBridgeAnswer tun op status tag lsid target data s) :=
  .next (State.portDrain_keeps (State.bridgeAnswer_keeps _ _ _ _ _ _ _ (.refl s)))

theorem execBridgeIntr_keeps (tun : Option (BitVec 14)) (ep : BitVec 24) (alarm : BitVec 18) (s : State) :
    OutKeeps s (execBridgeIntr tun ep alarm s) := by
  unfold execBridgeIntr
  with_reducible repeat' (first
      | exact Keeps.refl _ | assumption | apply OutKeeps.next | apply State.raise_keeps | apply Keeps.ite
      | (refine Keeps.foldl (fun _ _ _ => ?_) _ _ ?_))

theorem execEpBridge_keeps (s : State) : OutKeeps s (execEpBridge s) := by
  unfold execEpBridge
  with_reducible repeat' (first | exact Keeps.refl _ | (refine OutKeeps.runCmd fun _ => ?_) | apply Keeps.ite | refine Keeps.upd _ ?_ rfl rfl rfl)

theorem execEpWindow_keeps (s : State) : OutKeeps s (execEpWindow s) := by
  unfold execEpWindow
  with_reducible repeat' (first
      | exact Keeps.refl _ | (refine OutKeeps.runCmd fun _ => ?_) | apply State.subscribe_keeps | split | refine Keeps.upd _ ?_ rfl rfl rfl)

theorem execEpWinget_keeps (s : State) : OutKeeps s (execEpWinget s) := .runRead

theorem execEpRead_keeps (s : State) : OutKeeps s (execEpRead s) := by
  unfold execEpRead
  with_reducible repeat' (first
      | exact Keeps.refl _ | apply OutKeeps.ite | apply OutKeeps.next | apply Keeps.respond | apply State.farStart_keeps | split)

theorem execEpWrite_keeps (s : State) : OutKeeps s (execEpWrite s) := by
  unfold execEpWrite
  with_reducible repeat' (first
      | exact Keeps.refl _ | apply OutKeeps.ite | apply OutKeeps.next | apply Keeps.respond | apply State.farStart_keeps | split)

theorem execEpLock_keeps (s : State) : OutKeeps s (execEpLock s) := by
  unfold execEpLock
  with_reducible repeat' (first
      | exact Keeps.refl _ | apply OutKeeps.ite | apply OutKeeps.next | apply Keeps.respond | apply State.sendLockPdu_keeps | apply Keeps.ite
      | split | dsimp only | refine Keeps.upd _ ?_ rfl rfl rfl)

theorem execEpUnlock_keeps (s : State) : OutKeeps s (execEpUnlock s) := by
  unfold execEpUnlock
  with_reducible repeat' (first
      | exact Keeps.refl _ | (refine OutKeeps.runCmd fun _ => ?_) | apply State.releaseSeq_keeps | apply State.dropSeq_keeps | split)

theorem execEpErrlog_keeps (s : State) : OutKeeps s (execEpErrlog s) := .runRead

/-! ### Machine/Topology -/

theorem execJoinRequest_keeps (via : Option (Fin 4)) (hub : BitVec 16) (role : BitVec 2) (depth : Byte) (version : Byte) (cert : Cert) (key :
    JoinKey) (place : Place) (s : State) :
    OutKeeps s (execJoinRequest via hub role depth version cert key place s) := by
  unfold execJoinRequest
  with_reducible repeat' (first
      | exact Keeps.refl _ | apply OutKeeps.ite | apply OutKeeps.next | apply State.cntL_keeps | apply State.checkCert_keeps
      | apply State.answerJoin_keeps | apply State.admitHub_keeps | apply State.send_keeps | (refine Keeps.fst (by assumption) ?_) | split
      | dsimp only | refine Keeps.upd _ ?_ rfl rfl rfl)

theorem execJoinReply_keeps (via : Option (Fin 4)) (hub : BitVec 16) (reason : Option Byte) (rootId : BitVec 16) (number : BitVec 19) (hops : Byte)
    (auth : JoinAuth) (s : State) :
    OutKeeps s (execJoinReply via hub reason rootId number hops auth s) := by
  unfold execJoinReply
  with_reducible repeat' (first
      | exact Keeps.refl _ | apply OutKeeps.ite | apply OutKeeps.next | apply State.send_keeps | apply State.joinRefused_keeps
      | apply State.checkCert_keeps | apply State.joinAdmitted_keeps | apply State.cntL_keeps | apply Keeps.ite | split
      | refine Keeps.upd _ ?_ rfl rfl rfl)

theorem execJoinReplyTimeout_keeps (s : State) : OutKeeps s (execJoinReplyTimeout s) :=
  .next (.ite (State.joinRefused_keeps _ (.refl s)) (.refl s))

theorem execJoinRetry_keeps (s : State) : OutKeeps s (execJoinRetry s) := .next (.ite (State.sendJoin_keeps (.refl s)) (.refl s))

/-! ### Machine/Tunnels -/

theorem execTunOpen_keeps (s : State) : OutKeeps s (execTunOpen s) := by
  unfold execTunOpen
  with_reducible repeat' (first
      | exact Keeps.refl _ | (refine OutKeeps.runCmd fun _ => ?_) | (refine State.openTun_keeps (by assumption) ?_) | apply Keeps.iteFst | split)

theorem execTunAdmitSend_keeps (idx : BitVec 14) (s : State) : OutKeeps s (execTunAdmitSend idx s) := by
  unfold execTunAdmitSend
  with_reducible repeat' (first
      | exact Keeps.refl _ | apply OutKeeps.ite | apply OutKeeps.next | apply State.refuseTun_keeps | apply State.ownKeyshare_keeps
      | apply State.modTun_keeps | apply State.sendRoot_keeps | split)

theorem execTunAdmit_keeps (queues : List (Nat × Bool)) (s : State) : OutKeeps s (execTunAdmit queues s) := by
  unfold execTunAdmit
  with_reducible repeat' (first
      | exact Keeps.refl _ | (refine OutKeeps.runCmd fun _ => ?_) | apply State.dirTouch_keeps | apply State.sendHub_keeps | apply Keeps.ite | split
      | dsimp only | refine Keeps.upd _ ?_ rfl rfl rfl)

theorem execTunOfferAnswer_keeps (number : BitVec 19) (reason : Byte) (handleB : Word) (share : List Word) (s : State) :
    OutKeeps s (execTunOfferAnswer number reason handleB share s) := .next (State.offerAnswered_keeps _ _ _ _ (.refl s))

theorem execTunOfferTimeout_keeps (number : BitVec 19) (s : State) : OutKeeps s (execTunOfferTimeout number s) := by
  unfold execTunOfferTimeout
  with_reducible repeat' (first | exact Keeps.refl _ | apply OutKeeps.next | apply State.refuseAdmission_keeps | split)

theorem execTunOffer_keeps (cert : Cert) (sigOk : Bool) (s : State) : OutKeeps s (execTunOffer cert sigOk s) := by
  unfold execTunOffer
  with_reducible repeat' (first
      | exact Keeps.refl _ | apply OutKeeps.ite | (refine OutKeeps.runCmd fun _ => ?_) | apply OutKeeps.next | apply State.takeOffer_keeps
      | apply State.offerAnswered_keeps | apply Keeps.ite | apply Keeps.iteFst)

theorem execTunResult_keeps (cert : Cert) (sigOk : Bool) (s : State) : OutKeeps s (execTunResult cert sigOk s) := by
  unfold execTunResult
  with_reducible repeat' (first
      | exact Keeps.refl _ | (refine OutKeeps.runCmd fun _ => ?_) | apply State.resultAtB_keeps | apply State.resultAtA_keeps | split | dsimp only)

theorem execTunOpenTimeout_keeps (idx : BitVec 14) (s : State) : OutKeeps s (execTunOpenTimeout idx s) := by
  unfold execTunOpenTimeout
  with_reducible repeat' (first | exact Keeps.refl _ | apply OutKeeps.next | apply State.refuseTun_keeps | apply Keeps.ite | split)

theorem execTunClose_keeps (s : State) : OutKeeps s (execTunClose s) := by
  unfold execTunClose
  with_reducible repeat' (first | exact Keeps.refl _ | (refine OutKeeps.runCmd fun _ => ?_) | apply State.beginClose_keeps | split)

theorem execTunStatus_keeps (s : State) : OutKeeps s (execTunStatus s) := .runRead

theorem execTunList_keeps (s : State) : OutKeeps s (execTunList s) := .runRead

theorem execTunRekey_keeps (s : State) : OutKeeps s (execTunRekey s) := by
  unfold execTunRekey
  with_reducible repeat' (first
      | exact Keeps.refl _ | (refine OutKeeps.runCmd fun _ => ?_) | apply State.offerRekey_keeps | apply Keeps.iteFst | split)

theorem execTunRelease_keeps (s : State) : OutKeeps s (execTunRelease s) := by
  unfold execTunRelease
  with_reducible repeat' (first | exact Keeps.refl _ | (refine OutKeeps.runCmd fun _ => ?_) | apply State.dismantle_keeps | split | dsimp only)

theorem execTunClosed_keeps (s : State) : OutKeeps s (execTunClosed s) := by
  unfold execTunClosed
  with_reducible repeat' (first
      | exact Keeps.refl _ | (refine OutKeeps.runCmd fun _ => ?_) | apply State.closeTun_keeps | apply State.serveKeys_keeps | split)

theorem execTunNumberQuarantineEnd_keeps (number : BitVec 19) (s : State) : OutKeeps s (execTunNumberQuarantineEnd number s) := by
  unfold execTunNumberQuarantineEnd
  with_reducible repeat' (first | exact Keeps.refl _ | apply OutKeeps.next | refine Keeps.upd _ ?_ rfl rfl rfl)

theorem execTunRtoExpiry_keeps (idx : BitVec 14) (s : State) : OutKeeps s (execTunRtoExpiry idx s) := by
  unfold execTunRtoExpiry
  with_reducible repeat' (first | exact Keeps.refl _ | apply OutKeeps.next | apply State.retransmit_keeps | apply Keeps.ite | split)

theorem execTunAckTimer_keeps (idx : BitVec 14) (s : State) : OutKeeps s (execTunAckTimer idx s) := by
  unfold execTunAckTimer
  with_reducible repeat' (first | exact Keeps.refl _ | apply OutKeeps.next | apply State.sendAck_keeps | apply Keeps.ite | split)

theorem execTunKeepaliveSend_keeps (idx : BitVec 14) (s : State) : OutKeeps s (execTunKeepaliveSend idx s) := by
  unfold execTunKeepaliveSend
  with_reducible repeat' (first | exact Keeps.refl _ | apply OutKeeps.next | apply State.sendStatus_keeps | apply Keeps.ite | split)

theorem execTunDeadTimeout_keeps (idx : BitVec 14) (s : State) : OutKeeps s (execTunDeadTimeout idx s) := by
  unfold execTunDeadTimeout
  with_reducible repeat' (first
      | exact Keeps.refl _ | apply OutKeeps.next | apply State.modTun_keeps | apply State.setTun_keeps | apply Keeps.ite | split)

theorem execTunStallClose_keeps (idx : BitVec 14) (s : State) : OutKeeps s (execTunStallClose idx s) := by
  unfold execTunStallClose
  with_reducible repeat' (first
      | exact Keeps.refl _ | apply OutKeeps.ite | apply OutKeeps.next | apply State.leaveTree_keeps | apply State.closeTun_keeps
      | apply State.hubDeparted_keeps | apply State.serveKeys_keeps | apply State.sendRelease_keeps | split)

theorem execTunCloseTimeout_keeps (idx : BitVec 14) (second : Bool) (s : State) : OutKeeps s (execTunCloseTimeout idx second s) := by
  unfold execTunCloseTimeout
  with_reducible repeat' (first
      | exact Keeps.refl _ | apply OutKeeps.ite | apply OutKeeps.next | apply State.closeTun_keeps | apply State.serveKeys_keeps
      | apply State.sendRelease_keeps | apply Keeps.ite | split)

theorem execLossyRepeatTimer_keeps (idx : BitVec 14) (s : State) : OutKeeps s (execLossyRepeatTimer idx s) := by
  unfold execLossyRepeatTimer
  with_reducible repeat' (first
      | exact Keeps.refl _ | apply OutKeeps.ite | apply OutKeeps.next | apply State.modTun_keeps | apply State.sendClose_keeps
      | apply State.sendControl_keeps | apply Keeps.ite | split)

theorem execRekeyMinExpiry_keeps (idx : BitVec 14) (s : State) : OutKeeps s (execRekeyMinExpiry idx s) := by
  unfold execRekeyMinExpiry
  with_reducible repeat' (first | exact Keeps.refl _ | apply OutKeeps.next | apply State.offerRekey_keeps | apply Keeps.ite | split)

theorem execRekeyAcceptTimeout_keeps (idx : BitVec 14) (s : State) : OutKeeps s (execRekeyAcceptTimeout idx s) := by
  unfold execRekeyAcceptTimeout
  with_reducible repeat' (first
      | exact Keeps.refl _ | apply OutKeeps.next | apply State.dropOffer_keeps | apply State.serveKeys_keeps | apply Keeps.ite | split)

theorem execRekeyRetry_keeps (idx : BitVec 14) (s : State) : OutKeeps s (execRekeyRetry idx s) := by
  unfold execRekeyRetry
  with_reducible repeat' (first | exact Keeps.refl _ | apply OutKeeps.next | apply State.offerRekey_keeps | apply Keeps.ite | split)

theorem execOldKeyRetire_keeps (idx : BitVec 14) (s : State) : OutKeeps s (execOldKeyRetire idx s) := by
  unfold execOldKeyRetire
  with_reducible repeat' (first | exact Keeps.refl _ | apply OutKeeps.next | apply State.modTun_keeps | apply Keeps.ite | split)

theorem execTunnelCellReceive_keeps (cell : Cell) (tag : Option Bool) (shareOk : Bool) (s : State) :
    OutKeeps s (execTunnelCellReceive cell tag shareOk s) := by
  unfold execTunnelCellReceive
  with_reducible repeat' (first
      | exact Keeps.refl _ | apply OutKeeps.ite | apply OutKeeps.next | apply State.tagFailed_keeps | apply State.modTun_keeps
      | apply State.noteNewKey_keeps | apply State.setTun_keeps | apply State.cntF_keeps | apply State.status_keeps | apply State.dataCell_keeps
      | apply Keeps.ite | split | refine Keeps.upd _ ?_ rfl rfl rfl)

theorem execDataCellOffer_keeps (idx : BitVec 14) (pdu : Bool) (dest : BitVec 24) (sop eop : Bool) (payload : List Byte) (s : State) :
    OutKeeps s (execDataCellOffer idx pdu dest sop eop payload s) := by
  unfold execDataCellOffer
  with_reducible repeat' (first
      | exact Keeps.refl _ | apply OutKeeps.ite | apply OutKeeps.next | apply State.modTun_keeps | apply State.sendWaiting_keeps | split)

/-! ### Machine/Display -/

theorem execDispHpdHigh_keeps (head : Fin 2) (edid : List (List Word)) (s : State) : OutKeeps s (execDispHpdHigh head edid s) :=
  .next (State.hpdEvent_keeps _ _ (.refl s))

theorem execDispHpdLow_keeps (head : Fin 2) (s : State) : OutKeeps s (execDispHpdLow head s) := .next (State.hpdEvent_keeps _ _ (.refl s))

theorem execDispIrqHpd_keeps (head : Fin 2) (lost : Bool) (s : State) : OutKeeps s (execDispIrqHpd head lost s) :=
  .next (State.hpdEvent_keeps _ _ (.refl s))

theorem execDispLinkTrained_keeps (head : Fin 2) (result : Option (Fin 6 × Fin 3)) (s : State) :
    OutKeeps s (execDispLinkTrained head result s) := by
  unfold execDispLinkTrained
  with_reducible repeat' (first | exact Keeps.refl _ | apply OutKeeps.next | apply State.hpdEvent_keeps | split)

theorem execRasterSend_keeps (idx : BitVec 14) (s : State) : OutKeeps s (execRasterSend idx s) := by
  unfold execRasterSend
  with_reducible repeat' (first
      | exact Keeps.refl _ | assumption | apply OutKeeps.next | apply State.sendRaster_keeps | (refine Keeps.foldl (fun _ _ _ => ?_) _ _ ?_)
      | split)

theorem execFrameStart_keeps (head : Fin 2) (s : State) : OutKeeps s (execFrameStart head s) := .next (State.frameStart_keeps _ (.refl s))

theorem execDispUnderrun_keeps (head : Fin 2) (ecc : Bool) (s : State) : OutKeeps s (execDispUnderrun head ecc s) :=
  .ite (.next (State.cntH_keeps _ _ (.refl s))) (.next (State.raiseCounted_keeps _ _ _ _ _ _ (State.cntH_keeps _ _ (.refl s))))

theorem execDisplayCellReceive_keeps (idx : BitVec 14) (payload : List Byte) (s : State) : OutKeeps s (execDisplayCellReceive idx payload s) := by
  unfold execDisplayCellReceive
  with_reducible repeat' (first
      | exact Keeps.refl _ | apply OutKeeps.ite | apply OutKeeps.next | apply State.takeRaster_keeps | apply State.cntH_keeps
      | apply State.writePixels_keeps | apply Keeps.ite | split)

theorem execDispStatus_keeps (s : State) : OutKeeps s (execDispStatus s) :=
  .runCmd fun _ => Keeps.iteFst (.refl s) (.ite (State.modHead_keeps _ _ (.refl s)) (.refl s))

theorem execDispEdid_keeps (s : State) : OutKeeps s (execDispEdid s) := .runRead

theorem execDispCommit_keeps (s : State) : OutKeeps s (execDispCommit s) := by
  unfold execDispCommit
  with_reducible repeat' (first
      | exact Keeps.refl _ | (refine OutKeeps.runCmd fun _ => ?_) | apply State.discardCommit_keeps | apply State.modHead_keeps
      | apply State.cntH_keeps | apply State.raise_keeps | apply Keeps.ite | apply Keeps.iteFst)

theorem execDispWrite_keeps (s : State) : OutKeeps s (execDispWrite s) := by
  unfold execDispWrite
  with_reducible repeat' (first | exact Keeps.refl _ | (refine OutKeeps.runCmd fun _ => ?_) | apply Keeps.memWrite | apply Keeps.iteFst)

theorem execDispTarget_keeps (s : State) : OutKeeps s (execDispTarget s) := by
  unfold execDispTarget
  with_reducible repeat' (first
      | exact Keeps.refl _ | (refine OutKeeps.runCmd fun _ => ?_) | apply State.unbindTarget_keeps | apply State.bindTarget_keeps
      | apply Keeps.iteFst | split | dsimp only)

/-! ### Machine/PowerPath -/

theorem execFeedSample_keeps (a b bus : Nat) (s : State) : OutKeeps s (execFeedSample a b bus s) := by
  unfold execFeedSample
  with_reducible repeat' (first
      | exact Keeps.refl _ | apply OutKeeps.next | apply State.modFeed_keeps | apply State.reverseTurnOff_keeps | apply State.stepFeed_keeps
      | apply State.diodeCarry_keeps | apply State.decideFeed_keeps | refine Keeps.upd _ ?_ rfl rfl rfl)

theorem execFeedQualifyExpiry_keeps (feed : Fin 2) (s : State) : OutKeeps s (execFeedQualifyExpiry feed s) := by
  unfold execFeedQualifyExpiry
  with_reducible repeat' (first
      | exact Keeps.refl _ | apply OutKeeps.ite | apply OutKeeps.next | apply State.setFeed_keeps | apply State.decideFeed_keeps | apply Keeps.ite
      | refine Keeps.upd _ ?_ rfl rfl rfl)

theorem execFeedWarnSwitchTimer_keeps (s : State) : OutKeeps s (execFeedWarnSwitchTimer s) := by
  unfold execFeedWarnSwitchTimer
  with_reducible repeat' (first | exact Keeps.refl _ | apply OutKeeps.next | apply State.decideFeed_keeps | refine Keeps.upd _ ?_ rfl rfl rfl)

theorem execFeedRevertTimer_keeps (s : State) : OutKeeps s (execFeedRevertTimer s) := by
  unfold execFeedRevertTimer
  with_reducible repeat' (first
      | exact Keeps.refl _ | apply OutKeeps.ite | apply OutKeeps.next | apply State.decideFeed_keeps | refine Keeps.upd _ ?_ rfl rfl rfl)

theorem execFeedGateOffSensed_keeps (s : State) : OutKeeps s (execFeedGateOffSensed s) := by
  unfold execFeedGateOffSensed
  with_reducible repeat' (first | exact Keeps.refl _ | apply OutKeeps.next | apply Keeps.ite | refine Keeps.upd _ ?_ rfl rfl rfl)

theorem execFeedGateOffTimeout_keeps (s : State) : OutKeeps s (execFeedGateOffTimeout s) := by
  unfold execFeedGateOffTimeout
  with_reducible repeat' (first | exact Keeps.refl _ | apply OutKeeps.next | apply State.fetFault_keeps | split)

theorem execFeedDeadTimeEnd_keeps (s : State) : OutKeeps s (execFeedDeadTimeEnd s) := by
  unfold execFeedDeadTimeEnd
  with_reducible repeat' (first
      | exact Keeps.refl _ | apply OutKeeps.next | apply State.selectFeed_keeps | apply State.modFeed_keeps | apply State.setFeed_keeps | split
      | dsimp only | refine Keeps.upd _ ?_ rfl rfl rfl)

theorem execFeedGateOnSensed_keeps (s : State) : OutKeeps s (execFeedGateOnSensed s) := by
  unfold execFeedGateOnSensed
  with_reducible repeat' (first
      | exact Keeps.refl _ | apply OutKeeps.next | apply State.decideFeed_keeps | apply Keeps.ite | refine Keeps.upd _ ?_ rfl rfl rfl)

theorem execFeedGateOnTimeout_keeps (s : State) : OutKeeps s (execFeedGateOnTimeout s) := by
  unfold execFeedGateOnTimeout
  with_reducible repeat' (first | exact Keeps.refl _ | apply OutKeeps.next | apply State.fetFault_keeps | apply State.decideFeed_keeps | split)

theorem execFeedWarnRelease_keeps (s : State) : OutKeeps s (execFeedWarnRelease s) := by
  unfold execFeedWarnRelease
  with_reducible repeat' (first
      | exact Keeps.refl _ | apply OutKeeps.ite | apply OutKeeps.next | apply State.raise_keeps | split | refine Keeps.upd _ ?_ rfl rfl rfl)

theorem execSeatSample_keeps (port : Fin 16) (seated : Bool) (s : State) : OutKeeps s (execSeatSample port seated s) := by
  unfold execSeatSample
  with_reducible repeat' (first
      | exact Keeps.refl _ | apply OutKeeps.ite | apply OutKeeps.next | apply State.modLp_keeps | apply State.unseat_keeps | apply State.setLp_keeps
      | apply Keeps.ite)

theorem execSeatingQualified_keeps (port : Fin 16) (s : State) : OutKeeps s (execSeatingQualified port s) :=
  .ite (.next (State.lpGo_keeps _ (State.modLp_keeps _ _ (.refl s)))) (.next (.refl s))

theorem execUnseatWindowEnd_keeps (port : Fin 16) (s : State) : OutKeeps s (execUnseatWindowEnd port s) := by
  unfold execUnseatWindowEnd
  with_reducible repeat' (first
      | exact Keeps.refl _ | apply OutKeeps.ite | apply OutKeeps.next | apply State.modLp_keeps | apply State.raise_keeps | apply State.setLp_keeps
      | apply State.afresh_keeps)

theorem execPortPowerTick_keeps (port : Fin 16) (mv : Nat) (ma : Int) (gate fast : Bool) (s : State) :
    OutKeeps s (execPortPowerTick port mv ma gate fast s) := by
  unfold execPortPowerTick
  with_reducible repeat' (first
      | exact Keeps.refl _ | apply OutKeeps.ite | apply OutKeeps.next | apply State.modLp_keeps | apply State.damage_keeps
      | apply State.tripPort_keeps | apply State.inrushTick_keeps | apply Keeps.ite)

theorem execInrushTimeout_keeps (port : Fin 16) (s : State) : OutKeeps s (execInrushTimeout port s) :=
  .ite (.next (.refl s)) (.ite (.next (State.damage_keeps _ _ (.refl s))) (.next (State.tripPort_keeps _ _ (.refl s))))

theorem execShortAtStart_keeps (port : Fin 16) (s : State) : OutKeeps s (execShortAtStart port s) :=
  .ite (.next (.refl s)) (.ite (.next (State.damage_keeps _ _ (.refl s))) (.next (State.tripPort_keeps _ _ (.refl s))))

theorem execGateRiseTimeout_keeps (port : Fin 16) (s : State) : OutKeeps s (execGateRiseTimeout port s) :=
  .next (.ite (State.damage_keeps _ _ (.refl s)) (.refl s))

theorem execShortedFetDetect_keeps (port : Fin 16) (s : State) : OutKeeps s (execShortedFetDetect port s) :=
  .next (.ite (.refl s) (State.damage_keeps _ _ (.refl s)))

theorem execRetryInstant_keeps (port : Fin 16) (s : State) : OutKeeps s (execRetryInstant port s) :=
  .ite (.next (State.lpGo_keeps _ (State.modLp_keeps _ _ (.refl s)))) (.next (.refl s))

theorem execPortOn60s_keeps (port : Fin 16) (s : State) : OutKeeps s (execPortOn60s port s) :=
  .next (.ite (State.modLp_keeps _ _ (.refl s)) (.refl s))

theorem execMeterSample_keeps (samples : List (Nat × Int)) (s : State) : OutKeeps s (execMeterSample samples s) :=
  .next (State.sampleAll_keeps _ (.refl s))

theorem execEnergyWindowClose_keeps (s : State) : OutKeeps s (execEnergyWindowClose s) := .next (State.closeEnergy_keeps _ (.refl s))

theorem execPwrStatus_keeps (s : State) : OutKeeps s (execPwrStatus s) := .runRead

theorem execPwrPortStatus_keeps (s : State) : OutKeeps s (execPwrPortStatus s) := .runCmd fun _ => .ite (State.modLp_keeps _ _ (.refl s)) (.refl s)

theorem execPwrMeter_keeps (s : State) : OutKeeps s (execPwrMeter s) := .runRead

theorem execPwrInterval_keeps (s : State) : OutKeeps s (execPwrInterval s) := .runRead

theorem execPwrFeed_keeps (s : State) : OutKeeps s (execPwrFeed s) := by
  unfold execPwrFeed
  with_reducible repeat' (first
      | exact Keeps.refl _ | (refine OutKeeps.runCmd fun _ => ?_) | apply State.decideFeed_keeps | apply State.clearFet_keeps | apply Keeps.iteFst
      | refine Keeps.upd _ ?_ rfl rfl rfl)

theorem execPwrPort_keeps (s : State) : OutKeeps s (execPwrPort s) := by
  unfold execPwrPort
  with_reducible repeat' (first
      | exact Keeps.refl _ | (refine OutKeeps.runCmd fun _ => ?_) | apply State.lpOff_keeps | apply State.modLp_keeps | apply State.dropWaits_keeps
      | apply State.afresh_keeps | apply State.tripPort_keeps | apply State.lpGo_keeps | apply Keeps.ite)

/-! ### Machine/Lighting -/

theorem execBeacon_keeps (engine pair : Fin 4) (offGrid : Bool) (s : State) : OutKeeps s (execBeacon engine pair offGrid s) := by
  unfold execBeacon
  with_reducible repeat' (first
      | exact Keeps.refl _ | apply OutKeeps.ite | apply OutKeeps.next | apply State.startBeacon_keeps | apply State.modSeg_keeps | apply Keeps.ite
      | split)

theorem execBeaconLate_keeps (engine pair : Fin 4) (offGrid : Bool) (s : State) : OutKeeps s (execBeaconLate engine pair offGrid s) := by
  unfold execBeaconLate
  with_reducible repeat' (first
      | exact Keeps.refl _ | apply OutKeeps.ite | apply OutKeeps.next | apply State.modSeg_keeps | apply State.cntS_keeps
      | apply State.raiseRated_keeps | apply State.startBeacon_keeps | split | dsimp only)

theorem execStatusFrameReceive_keeps (seg : Fin 16) (framed valid : Bool) (mac : BitVec 48) (node : BitVec 5) (cseq flags : Byte) (alarm : BitVec
    18) (tid result : Byte) (words : List (BitVec 18)) (s : State) :
    OutKeeps s (execStatusFrameReceive seg framed valid mac node cseq flags alarm tid result words s) := by
  unfold execStatusFrameReceive
  with_reducible repeat' (first
      | exact Keeps.refl _ | apply OutKeeps.ite | apply OutKeeps.next | apply State.statusFrame_keeps | apply State.cntS_keeps
      | apply State.modNode_keeps | split | dsimp only)

theorem execEnrolFrameReceive_keeps (seg : Fin 16) (signal : Bool) (frame : Option (BitVec 48 × BitVec 6)) (s : State) :
    OutKeeps s (execEnrolFrameReceive seg signal frame s) := by
  unfold execEnrolFrameReceive
  with_reducible repeat' (first
      | exact Keeps.refl _ | apply OutKeeps.ite | apply OutKeeps.next | apply State.modSeg_keeps | apply State.cntS_keeps | split | dsimp only)

theorem execNodeAbsentTimeout_keeps (seg : Fin 16) (node : BitVec 5) (s : State) : OutKeeps s (execNodeAbsentTimeout seg node s) :=
  .next (.ite (State.reportGone_keeps _ _ (.refl s)) (.refl s))

theorem execSegmentViolation_keeps (seg : Fin 16) (node : BitVec 5) (s : State) : OutKeeps s (execSegmentViolation seg node s) := by
  unfold execSegmentViolation
  with_reducible repeat' (first
      | exact Keeps.refl _ | apply OutKeeps.ite | apply OutKeeps.next | apply State.cntS_keeps | apply State.modNode_keeps
      | apply State.setNode_keeps | apply State.raise_keeps | apply State.rmFirst_keeps)

theorem execBabbleWindowEnd_keeps (seg : Fin 16) (node : BitVec 5) (s : State) : OutKeeps s (execBabbleWindowEnd seg node s) :=
  .next (.ite (State.endBabble_keeps _ _ _ (State.modNode_keeps _ _ _ (.refl s))) (State.modNode_keeps _ _ _ (.refl s)))

theorem execBabbleCutExpiry_keeps (seg : Fin 16) (node : BitVec 5) (s : State) : OutKeeps s (execBabbleCutExpiry seg node s) :=
  .ite (.next (State.tripPort_keeps _ _ (State.setSeg_keeps _ _ _ (.refl s)))) (.next (.refl s))

theorem execSegmentJam_keeps (seg : Fin 16) (s : State) : OutKeeps s (execSegmentJam seg s) :=
  .ite (.next (State.raise_keeps _ _ _ (State.setSeg_keeps _ _ _ (.refl s)))) (.next (.refl s))

theorem execSegmentJamClear_keeps (seg : Fin 16) (s : State) : OutKeeps s (execSegmentJamClear seg s) :=
  .ite (.next (State.raise_keeps _ _ _ (State.setSeg_keeps _ _ _ (.refl s)))) (.next (.refl s))

theorem execJamCutExpiry_keeps (seg : Fin 16) (s : State) : OutKeeps s (execJamCutExpiry seg s) :=
  .ite (.next (State.tripPort_keeps _ _ (State.setSeg_keeps _ _ _ (.refl s)))) (.next (.refl s))

theorem execEpSegment_keeps (s : State) : OutKeeps s (execEpSegment s) := .runCmd fun _ => .ite (State.modSeg_keeps _ _ (.refl s)) (.refl s)

theorem execEpNode_keeps (s : State) : OutKeeps s (execEpNode s) :=
  .runCmd fun _ => .ite (State.rmFirst_keeps _ _ (State.modNode_keeps _ _ _ (State.setNode_keeps _ _ _ (.ite (.refl s) (State.reportGone_keeps _ _
      (.refl s)))))) (.ite (State.endBabble_keeps _ _ _ (.refl s)) (.refl s))

/-! ### Machine/Scenes -/

theorem execSceneArm_keeps (s : State) : OutKeeps s (execSceneArm s) := by
  unfold execSceneArm
  with_reducible repeat' (first
      | exact Keeps.refl _ | (refine OutKeeps.runCmd fun _ => ?_) | apply State.armOwner_keeps | apply State.armRoot_keeps | apply Keeps.iteFst
      | split)

theorem execSceneCancel_keeps (s : State) : OutKeeps s (execSceneCancel s) := by
  unfold execSceneCancel
  with_reducible repeat' (first
      | exact Keeps.refl _ | assumption | (refine OutKeeps.runCmd fun _ => ?_) | apply State.dropGo_keeps | apply State.dropEntry_keeps
      | apply State.sendHub_keeps | apply Keeps.ite | apply Keeps.iteFst | (refine Keeps.foldl (fun _ _ _ => ?_) _ _ ?_) | split | dsimp only)

theorem execSceneDone_keeps (s : State) : OutKeeps s (execSceneDone s) := .runCmd fun _ => State.hubOutcome_keeps _ _ _ (.refl s)

theorem execSceneReportTimeout_keeps (handle : BitVec 16) (s : State) : OutKeeps s (execSceneReportTimeout handle s) := by
  unfold execSceneReportTimeout
  with_reducible repeat' (first | exact Keeps.refl _ | apply OutKeeps.next | apply State.sceneDone_keeps | apply Keeps.ite | split)

theorem execSceneStatus_keeps (s : State) : OutKeeps s (execSceneStatus s) := .runRead

/-! ### Machine/Storage -/

theorem execDriveLinkUp_keeps (port : Fin 2) (gen lanes : BitVec 3) (ident : Option DriveIdent) (s : State) :
    OutKeeps s (execDriveLinkUp port gen lanes ident s) := by
  unfold execDriveLinkUp
  with_reducible repeat' (first
      | exact Keeps.refl _ | apply OutKeeps.ite | apply OutKeeps.next | apply State.modPp_keeps | apply State.setDrive_keeps
      | apply State.refreshVols_keeps | split)

theorem execDriveReadyTimeout_keeps (port : Fin 2) (s : State) : OutKeeps s (execDriveReadyTimeout port s) :=
  .next (.ite (State.setDrive_keeps _ _ (.refl s)) (.refl s))

theorem execDriveLinkDown_keeps (port : Fin 2) (s : State) : OutKeeps s (execDriveLinkDown port s) := .next (State.driveGone_keeps _ (.refl s))

theorem execDriveFatalStatus_keeps (port : Fin 2) (s : State) : OutKeeps s (execDriveFatalStatus port s) :=
  .next (.ite (State.driveLost_keeps _ (State.setDrive_keeps _ _ (.refl s))) (.refl s))

theorem execPcieLinkChange_keeps (port : Fin 2) (gen lanes : BitVec 3) (s : State) : OutKeeps s (execPcieLinkChange port gen lanes s) :=
  .ite (.next (.refl s)) (.next (.ite (State.driveGone_keeps _ (State.modPp_keeps _ _ (.refl s))) (State.modPp_keeps _ _ (.refl s))))

theorem execStorageTunnelRetry_keeps (fn : BitVec 5) (nsid : Fin 16) (s : State) : OutKeeps s (execStorageTunnelRetry fn nsid s) :=
  .next (.ite (State.openNs_keeps _ _ (.refl s)) (.refl s))

theorem execStorageInfo_keeps (idx : BitVec 14) (volume : BitVec 4) (ack : Option (Byte × Byte × BitVec 64)) (s : State) :
    OutKeeps s (execStorageInfo idx volume ack s) := by
  unfold execStorageInfo
  with_reducible repeat' (first
      | exact Keeps.refl _ | assumption | apply OutKeeps.ite | apply OutKeeps.next | apply State.storPdu_keeps | apply State.modNs_keeps
      | apply State.setNs_keeps | apply Keeps.ite | (refine Keeps.foldl (fun _ _ _ => ?_) _ _ ?_) | split | dsimp only
      | refine Keeps.upd _ ?_ rfl rfl rfl)

theorem execStoragePduRequest_keeps (idx : BitVec 14) (op : Byte) (volume : BitVec 4) (tag nlb : BitVec 16) (lba : BitVec 64) (data : List Word) (s
    : State) :
    OutKeeps s (execStoragePduRequest idx op volume tag nlb lba data s) := by
  unfold execStoragePduRequest
  with_reducible repeat' (first
      | exact Keeps.refl _ | assumption | apply OutKeeps.ite | apply OutKeeps.next | apply State.modFn_keeps | apply State.storRequest_keeps
      | (refine Keeps.foldl (fun _ _ _ => ?_) _ _ ?_) | split | dsimp only | refine Keeps.upd _ ?_ rfl rfl rfl)

theorem execFlrWaitExpiry_keeps (fn : BitVec 5) (s : State) : OutKeeps s (execFlrWaitExpiry fn s) := .next (State.endFlr_keeps _ (.refl s))

theorem execStorageCompletion_keeps (src : StorFrom) (tag status : BitVec 16) (data : List Word) (s : State) :
    OutKeeps s (execStorageCompletion src tag status data s) := by
  unfold execStorageCompletion
  with_reducible repeat' (first
      | exact Keeps.refl _ | assumption | apply OutKeeps.ite | apply OutKeeps.next | apply State.storAnswer_keeps | apply State.endFlr_keeps
      | apply Keeps.ite | (refine Keeps.foldl (fun _ _ _ => ?_) _ _ ?_) | split | dsimp only | refine Keeps.upd _ ?_ rfl rfl rfl)

theorem execStorageTimeout_keeps (tag : BitVec 16) (s : State) : OutKeeps s (execStorageTimeout tag s) := by
  unfold execStorageTimeout
  with_reducible repeat' (first
      | exact Keeps.refl _ | apply OutKeeps.next | apply State.finishCmd_keeps | apply State.modFn_keeps | apply State.raiseCounted_keeps | split
      | refine Keeps.upd _ ?_ rfl rfl rfl)

theorem execNvmeCommandFetch_keeps (fn : BitVec 5) (qid cid : BitVec 16) (opc flags : Byte) (nsid cdw10 cdw11 cdw12 : Word) (data : List Word) (s :
    State) :
    OutKeeps s (execNvmeCommandFetch fn qid cid opc flags nsid cdw10 cdw11 cdw12 data s) := by
  unfold execNvmeCommandFetch
  with_reducible repeat' (first
      | exact Keeps.refl _ | apply OutKeeps.ite | apply OutKeeps.next | apply State.modFn_keeps | apply State.adminCmd_keeps
      | apply State.post_keeps | apply State.storPdu_keeps | apply State.storRequest_keeps | split | dsimp only | refine Keeps.upd _ ?_ rfl rfl rfl)

theorem execStorStatus_keeps (s : State) : OutKeeps s (execStorStatus s) := .runRead

theorem execStorDrive_keeps (s : State) : OutKeeps s (execStorDrive s) := .runRead

/-! ### Machine/Ethernet -/

theorem execEthLinkChange_keeps (port : Fin 4) (signal : Option (Fin 6)) (s : State) : OutKeeps s (execEthLinkChange port signal s) := by
  unfold execEthLinkChange
  with_reducible repeat' (first
      | exact Keeps.refl _ | apply OutKeeps.ite | apply OutKeeps.next | apply State.setEth_keeps | apply Keeps.ite | split)

theorem execEthFrameReceive_keeps (src : EthFrom) (frame : List Byte) (s : State) : OutKeeps s (execEthFrameReceive src frame s) := by
  unfold execEthFrameReceive
  with_reducible repeat' (first
      | exact Keeps.refl _ | apply OutKeeps.ite | apply OutKeeps.next | apply State.bridgeUp_keeps | apply State.modEp_keeps
      | apply State.ethResume_keeps | apply State.bridgeDown_keeps | apply State.raiseCounted_keeps | apply Keeps.ite | split | dsimp only)

theorem execEthLearnAge_keeps (group : BitVec 24) (mac : BitVec 48) (s : State) : OutKeeps s (execEthLearnAge group mac s) :=
  .next (State.forget_keeps _ (.refl s))

theorem execPtpSyncSend_keeps (port : Fin 4) (s : State) : OutKeeps s (execPtpSyncSend port s) :=
  .ite (.next (.refl s)) (.next (State.modEp_keeps _ _ (State.sendPtp_keeps _ _ _ (State.sendPtp_keeps _ _ _ (State.announced_keeps (.refl s))))))

theorem execPtpMessageReceive_keeps (port : Fin 4) (domain : Byte) (msg : PtpMsg) (s : State) :
    OutKeeps s (execPtpMessageReceive port domain msg s) := by
  unfold execPtpMessageReceive
  with_reducible repeat' (first
      | exact Keeps.refl _ | apply OutKeeps.ite | apply OutKeeps.next | apply State.masterAnswers_keeps | apply State.modEp_keeps
      | apply State.refreshPtp_keeps | apply State.slaveTakes_keeps | apply Keeps.ite | split)

theorem execEthStatus_keeps (s : State) : OutKeeps s (execEthStatus s) := .runCmd fun _ => .ite (State.modEp_keeps _ _ (.refl s)) (.refl s)

theorem execEthFlush_keeps (s : State) : OutKeeps s (execEthFlush s) := .runCmd fun _ => State.forget_keeps _ (.refl s)

/-! ### Machine/Schedule -/

theorem execSchedulerFire_keeps (idx : Nat) (samples : List (Nat × Int)) (s : State) : OutKeeps s (execSchedulerFire idx samples s) := by
  unfold execSchedulerFire
  with_reducible repeat' (first
      | exact Keeps.refl _ | apply OutKeeps.ite | apply OutKeeps.next | apply State.skipEntry_keeps | apply State.noteFired_keeps
      | apply State.advanceEntry_keeps | apply State.fireAction_keeps | apply State.notifyFired_keeps | split | refine Keeps.upd _ ?_ rfl rfl rfl)

theorem execGuylineSync_keeps (port : Fin 4) (flags : BitVec 8) (gen : BitVec 16) (_depth : BitVec 8) (ref : Stamp) (arcFrac : BitVec 16) (origin :
    OriginTime) (freq : Word) (s : State) :
    OutKeeps s (execGuylineSync port flags gen _depth ref arcFrac origin freq s) := .next (State.guySync_keeps _ _ _ _ _ _ _ _ (.refl s))

theorem execTimeRestep_keeps (s : State) : OutKeeps s (execTimeRestep s) := by
  unfold execTimeRestep
  with_reducible repeat' (first
      | exact Keeps.refl _ | (refine OutKeeps.runCmd fun _ => ?_) | apply State.stepTime_keeps | apply State.nextGenRoot_keeps
      | apply State.restepped_keeps | apply Keeps.ite | apply Keeps.iteFst | refine Keeps.upd _ ?_ rfl rfl rfl)

/-! ### Machine/Rings -/

theorem execRingSurveySend_keeps (which : Fin 2) (s : State) : OutKeeps s (execRingSurveySend which s) :=
  .next (.ite (State.sendLc_keeps _ _ (.refl s)) (.refl s))

theorem execRingSurveyReceive_keeps (port : Fin 4) (head : BitVec 16) (pos link failed : Byte) (s : State) :
    OutKeeps s (execRingSurveyReceive port head pos link failed s) := .next (State.survey_keeps _ _ _ _ _ (.refl s))

theorem execRingSurveyTimeout_keeps (which : Fin 2) (s : State) : OutKeeps s (execRingSurveyTimeout which s) :=
  .next (.ite (State.setRing_keeps _ _ (.refl s)) (.refl s))

theorem execRingFailReceive_keeps (port : Fin 4) (head : BitVec 16) (link nseq : Byte) (s : State) :
    OutKeeps s (execRingFailReceive port head link nseq s) := .next (State.ringFailIn_keeps _ _ _ _ (.refl s))

theorem execRingClearReceive_keeps (port : Fin 4) (head : BitVec 16) (link nseq : Byte) (s : State) :
    OutKeeps s (execRingClearReceive port head link nseq s) := .next (State.ringClearIn_keeps _ _ _ _ (.refl s))

theorem execRingWtrExpiry_keeps (which : Fin 2) (s : State) : OutKeeps s (execRingWtrExpiry which s) :=
  .next (.ite (State.sendRevert_keeps _ (.refl s)) (.refl s))

theorem execRingRevertReceive_keeps (port : Fin 4) (head : BitVec 16) (link nseq : Byte) (hold : BitVec 16) (inst : Stamp) (s : State) :
    OutKeeps s (execRingRevertReceive port head link nseq hold inst s) := .next (State.ringRevertIn_keeps _ _ _ _ _ _ (.refl s))

theorem execRingRevertInstant_keeps (which : Fin 2) (s : State) : OutKeeps s (execRingRevertInstant which s) := by
  unfold execRingRevertInstant
  with_reducible repeat' (first
      | exact Keeps.refl _ | apply OutKeeps.next | apply State.modRing_keeps | apply State.setRing_keeps | apply State.refreshRing_keeps
      | apply State.settle_keeps | split | dsimp only)

theorem execRingRevertHoldEnd_keeps (which : Fin 2) (s : State) : OutKeeps s (execRingRevertHoldEnd which s) :=
  .next (State.releaseHold_keeps _ (.refl s))

/-! ### Machine/Trunk -/

theorem execLinkRxAlign_keeps (port : Fin 4) (lane0 lane1 : Bool) (s : State) : OutKeeps s (execLinkRxAlign port lane0 lane1 s) :=
  .ite (.next (.refl s)) (.next (.ite (State.enterHello_keeps _ (State.modTp_keeps _ _ (.refl s))) (State.modTp_keeps _ _ (.refl s))))

theorem execLinkAttemptExpiry_keeps (port : Fin 4) (s : State) : OutKeeps s (execLinkAttemptExpiry port s) :=
  .ite (.next (.refl s)) (.ite (.next (State.enterHello_keeps _ (.refl s))) (.ite (.next (State.modTp_keeps _ _ (.refl s))) (.next
      (State.enterSearch_keeps _ _ _ (.refl s)))))

theorem execLinkHelloSend_keeps (port : Fin 4) (s : State) : OutKeeps s (execLinkHelloSend port s) :=
  .ite (.next (.refl s)) (.next (State.tryActive_keeps _ (State.modTp_keeps _ _ (.refl s))))

theorem execLinkHelloReceive_keeps (port : Fin 4) (flags : Byte) (sender : BitVec 16) (depth ver nport : Byte) (role : BitVec 2) (s : State) :
    OutKeeps s (execLinkHelloReceive port flags sender depth ver nport role s) := .next (State.hello_keeps _ _ (.refl s))

theorem execLinkHelloTimeout_keeps (port : Fin 4) (s : State) : OutKeeps s (execLinkHelloTimeout port s) :=
  .next (.ite (State.enterSearch_keeps _ _ _ (.refl s)) (.refl s))

theorem execKeepaliveTimeout_keeps (port : Fin 4) (s : State) : OutKeeps s (execKeepaliveTimeout port s) :=
  .next (State.linkLost_keeps _ _ _ (.refl s))

theorem execCreditCellDue_keeps (port : Fin 4) (s : State) : OutKeeps s (execCreditCellDue port s) :=
  .next (.ite (State.modTp_keeps _ _ (.refl s)) (.refl s))

theorem execCreditStallTimeout_keeps (port : Fin 4) (vl : BitVec 3) (s : State) : OutKeeps s (execCreditStallTimeout port vl s) :=
  .next (.ite (State.raise_keeps _ _ _ (State.modTp_keeps _ _ (.refl s))) (.refl s))

theorem execReplayRequestReceive_keeps (port : Fin 4) (lseq : BitVec 16) (s : State) : OutKeeps s (execReplayRequestReceive port lseq s) :=
  .next (.ite (State.replayAsk_keeps _ _ (.refl s)) (.refl s))

theorem execReplayRequestWaitExpiry_keeps (port : Fin 4) (s : State) : OutKeeps s (execReplayRequestWaitExpiry port s) :=
  .ite (.next (.refl s)) (.ite (.next (State.linkLost_keeps _ _ _ (State.raise_keeps _ _ _ (.refl s)))) (.next (State.modTp_keeps _ _ (.refl s))))

theorem execReplayTimeout_keeps (port : Fin 4) (s : State) : OutKeeps s (execReplayTimeout port s) :=
  .next (.ite (State.modTp_keeps _ _ (.refl s)) (.refl s))

theorem execLaneLockLoss_keeps (port : Fin 4) (lane : Option (Fin 2)) (s : State) : OutKeeps s (execLaneLockLoss port lane s) := by
  unfold execLaneLockLoss
  with_reducible repeat' (first | exact Keeps.refl _ | apply OutKeeps.next | apply State.dropLane_keeps | apply State.linkLost_keeps | split)

theorem execLaneDropMessage_keeps (port : Fin 4) (lane : Fin 2) (echo : Bool) (s : State) :
    OutKeeps s (execLaneDropMessage port lane echo s) := .next (State.laneDrop_keeps _ _ _ (.refl s))

theorem execLaneSearchAlign_keeps (port : Fin 4) (lane : Fin 2) (s : State) : OutKeeps s (execLaneSearchAlign port lane s) :=
  .next (.ite (State.modTp_keeps _ _ (.refl s)) (.refl s))

theorem execLaneAddMessage_keeps (port : Fin 4) (lane : Fin 2) (echo : Bool) (s : State) : OutKeeps s (execLaneAddMessage port lane echo s) :=
  .next (State.laneAdd_keeps _ _ _ (.refl s))

theorem execLinkStatus_keeps (s : State) : OutKeeps s (execLinkStatus s) := .runRead

theorem execLinkCounters_keeps (s : State) : OutKeeps s (execLinkCounters s) := .runCmd fun _ => .ite (State.modTp_keeps _ _ (.refl s)) (.refl s)

theorem execLinkControl_keeps (s : State) : OutKeeps s (execLinkControl s) := .runCmd fun _ => State.linkAction_keeps _ _ (.refl s)

theorem execLinkRing_keeps (s : State) : OutKeeps s (execLinkRing s) := .runCmd fun _ => .ite (State.sendRevert_keeps _ (.refl s)) (.refl s)

/-! ### Machine/CellPath -/

theorem execCellReceive_keeps (port : Fin 4) (cell : Cell) (corrected bad0 bad1 : Nat) (overlaps : Bool) (s : State) :
    OutKeeps s (execCellReceive port cell corrected bad0 bad1 overlaps s) :=
  .ite (.next (.refl s)) (.next (State.fecCounts_keeps _ _ _ _ (State.receiveCell_keeps _ _ _ (.refl s))))

theorem execCellSlotTransmit_keeps (port : Fin 4) (bufErr : Bool) (s : State) : OutKeeps s (execCellSlotTransmit port bufErr s) := by
  unfold execCellSlotTransmit
  with_reducible repeat' (first
      | exact Keeps.refl _ | apply OutKeeps.next | apply State.activeSlot_keeps | apply State.modTp_keeps | apply State.sendLocal_keeps
      | apply State.sendCredit_keeps | apply State.send_keeps | apply Keeps.ite | split | dsimp only)

/-! ### Machine/DeskPower -/

theorem execSourceCapsSend_keeps (port : Fin 4) (cable : Option (Bool × Bool)) (s : State) : OutKeeps s (execSourceCapsSend port cable s) := by
  unfold execSourceCapsSend
  with_reducible repeat' (first
      | exact Keeps.refl _ | apply OutKeeps.ite | apply OutKeeps.next | apply State.modDk_keeps | apply State.sendCaps_keeps | apply Keeps.ite
      | split)

theorem execPdRequest_keeps (port : Fin 4) (pdo : Fin 16) (mv ma : Nat) (s : State) : OutKeeps s (execPdRequest port pdo mv ma s) := by
  unfold execPdRequest
  with_reducible repeat' (first
      | exact Keeps.refl _ | apply OutKeeps.ite | apply OutKeeps.next | apply State.modDk_keeps | apply State.pd_keeps | split)

theorem execPdTransitionDone_keeps (port : Fin 4) (s : State) : OutKeeps s (execPdTransitionDone port s) := by
  unfold execPdTransitionDone
  with_reducible repeat' (first
      | exact Keeps.refl _ | apply OutKeeps.next | apply State.pd_keeps | apply State.swapToSource_keeps | apply State.modDk_keeps
      | apply State.setContract_keeps | apply State.seekRole_keeps | apply State.markReoffers_keeps | apply Keeps.ite | split | dsimp only)

theorem execCcAttachDetect_keeps (port : Fin 4) (cc1 cc2 : Cc) (s : State) : OutKeeps s (execCcAttachDetect port cc1 cc2 s) :=
  .ite (.next (State.tryAttach_keeps _ (State.modDk_keeps _ _ (.refl s)))) (.ite (.next (State.modPower_keeps _ _ (.refl s))) (.next (.refl s)))

theorem execDrpToggle_keeps (port : Fin 4) (s : State) : OutKeeps s (execDrpToggle port s) :=
  .ite (.next (State.modDk_keeps _ _ (.refl s))) (.next (.refl s))

theorem execCcDebounceExpiry_keeps (port : Fin 4) (cc1 cc2 : Cc) (vbus5 vbus0 : Bool) (s : State) :
    OutKeeps s (execCcDebounceExpiry port cc1 cc2 vbus5 vbus0 s) := by
  unfold execCcDebounceExpiry
  with_reducible repeat' (first
      | exact Keeps.refl _ | apply OutKeeps.next | apply State.modDk_keeps | apply State.actOnCc_keeps | apply State.modPower_keeps
      | apply State.toUnattached_keeps | apply State.enterSnk_keeps | split | dsimp only)

theorem execTrySrcDetect_keeps (port : Fin 4) (cc1 cc2 : Cc) (s : State) : OutKeeps s (execTrySrcDetect port cc1 cc2 s) :=
  .ite (.next (State.enterSrc_keeps _ _ (State.modDk_keeps _ _ (.refl s)))) (.next (.refl s))

theorem execTrySrcTimeout_keeps (port : Fin 4) (s : State) : OutKeeps s (execTrySrcTimeout port s) :=
  .next (.ite (State.modPower_keeps _ _ (.refl s)) (.refl s))

theorem execTrywaitTimeout_keeps (port : Fin 4) (s : State) : OutKeeps s (execTrywaitTimeout port s) :=
  .next (.ite (State.toUnattached_keeps _ (.refl s)) (.refl s))

theorem execDeskDetach_keeps (port : Fin 4) (s : State) : OutKeeps s (execDeskDetach port s) := by
  unfold execDeskDetach
  with_reducible repeat' (first
      | exact Keeps.refl _ | apply OutKeeps.next | apply State.leaveAttach_keeps | apply State.toUnattached_keeps | split | dsimp only)

theorem execVbusDischarged_keeps (port : Fin 4) (s : State) : OutKeeps s (execVbusDischarged port s) :=
  .next (State.tryAttach_keeps _ (State.modDk_keeps _ _ (.refl s)))

theorem execSafe0vTimeout_keeps (port : Fin 4) (s : State) : OutKeeps s (execSafe0vTimeout port s) :=
  .ite (.next (.refl s)) (.next (State.leaveAttach_keeps _ _ (State.protect_keeps _ _ (.refl s))))

theorem execErrorRecoveryEnd_keeps (port : Fin 4) (s : State) : OutKeeps s (execErrorRecoveryEnd port s) :=
  .next (.ite (State.portAfresh_keeps _ (.refl s)) (.refl s))

theorem execFaultExit_keeps (port : Fin 4) (s : State) : OutKeeps s (execFaultExit port s) :=
  .next (.ite (State.portAfresh_keeps _ (.refl s)) (.refl s))

theorem execHardReset_keeps (port : Fin 4) (received : Bool) (s : State) : OutKeeps s (execHardReset port received s) :=
  .next (State.hardReset_keeps _ _ (.refl s))

theorem execSrcRecoverExpiry_keeps (port : Fin 4) (s : State) : OutKeeps s (execSrcRecoverExpiry port s) := .next (State.modDk_keeps _ _ (.refl s))

theorem execVbusProtection_keeps (port : Fin 4) (kind : Fin 4) (s : State) : OutKeeps s (execVbusProtection port kind s) := by
  unfold execVbusProtection
  with_reducible repeat' (first
      | exact Keeps.refl _ | apply OutKeeps.ite | apply OutKeeps.next | apply State.protect_keeps | apply State.hardReset_keeps
      | apply State.modPower_keeps | apply State.leaveAttach_keeps | apply Keeps.ite)

theorem execPpsRequestTimeout_keeps (port : Fin 4) (s : State) : OutKeeps s (execPpsRequestTimeout port s) :=
  .next (.ite (State.hardReset_keeps _ _ (.refl s)) (.refl s))

theorem execEprModeEnter_keeps (port : Fin 4) (s : State) : OutKeeps s (execEprModeEnter port s) :=
  .ite (.next (.refl s)) (.ite (.next (State.pd_keeps _ _ _ (State.modDk_keeps _ _ (.refl s)))) (.next (State.pd_keeps _ _ _ (.refl s))))

theorem execEprModeExit_keeps (port : Fin 4) (s : State) : OutKeeps s (execEprModeExit port s) := .next (State.eprExit_keeps _ (.refl s))

theorem execPrSwapReceive_keeps (port : Fin 4) (s : State) : OutKeeps s (execPrSwapReceive port s) := by
  unfold execPrSwapReceive
  with_reducible repeat' (first | exact Keeps.refl _ | apply OutKeeps.ite | apply OutKeeps.next | apply State.pd_keeps | apply State.modDk_keeps)

theorem execVconnSwapReceive_keeps (port : Fin 4) (s : State) : OutKeeps s (execVconnSwapReceive port s) :=
  .ite (.next (State.pd_keeps _ _ _ (.refl s))) (.ite (.next (.refl s)) (.ite (.next (State.pd_keeps _ _ _ (.refl s))) (.next (State.modPower_keeps
      _ _ (State.pd_keeps _ _ _ (.refl s))))))

theorem execDrSwapReceive_keeps (port : Fin 4) (s : State) : OutKeeps s (execDrSwapReceive port s) := by
  unfold execDrSwapReceive
  with_reducible repeat' (first
      | exact Keeps.refl _ | apply OutKeeps.ite | apply OutKeeps.next | apply State.pd_keeps | apply State.modDk_keeps | apply State.gainRole_keeps)

theorem execPdWaitReceive_keeps (port : Fin 4) (msg : PdMsg) (s : State) : OutKeeps s (execPdWaitReceive port msg s) :=
  .ite (.next (.refl s)) (.next (.ite (State.raise_keeps _ _ _ (State.modDk_keeps _ _ (.refl s))) (State.modDk_keeps _ _ (.refl s))))

theorem execWaitRetryExpiry_keeps (port : Fin 4) (msg : PdMsg) (s : State) : OutKeeps s (execWaitRetryExpiry port msg s) :=
  .ite (.next (.refl s)) (.next (State.ask_keeps _ _ (State.modDk_keeps _ _ (.refl s))))

theorem execSwapPsRdyTimeout_keeps (port : Fin 4) (s : State) : OutKeeps s (execSwapPsRdyTimeout port s) :=
  .ite (.next (.refl s)) (.next (State.leaveAttach_keeps _ _ (State.raise_keeps _ _ _ (.refl s))))

theorem execSourceCapsReceive_keeps (port : Fin 4) (dualRole : Bool) (ma : Nat) (s : State) :
    OutKeeps s (execSourceCapsReceive port dualRole ma s) := by
  unfold execSourceCapsReceive
  with_reducible repeat' (first
      | exact Keeps.refl _ | apply OutKeeps.next | apply State.modDk_keeps | apply State.ask_keeps | apply Keeps.ite | split | dsimp only)

theorem execContractTimeout_keeps (port : Fin 4) (s : State) : OutKeeps s (execContractTimeout port s) :=
  .ite (.next (.refl s)) (.ite (.next (State.gainRole_keeps _ (State.modDk_keeps _ _ (.refl s)))) (.next (State.powerOnly_keeps _ (.ite
      (State.loseRole_keeps _ (.refl s)) (.refl s)))))

theorem execDeskReoffer_keeps (s : State) : OutKeeps s (execDeskReoffer s) := by
  unfold execDeskReoffer
  with_reducible repeat' (first
      | exact Keeps.refl _ | apply OutKeeps.next | apply State.sendCaps_keeps | apply State.modDk_keeps | apply Keeps.ite | split | dsimp only
      | refine Keeps.upd _ ?_ rfl rfl rfl)

theorem execDeskReclaimTimeout_keeps (port : Fin 4) (s : State) : OutKeeps s (execDeskReclaimTimeout port s) :=
  .ite (.next (.refl s)) (.next (.ite (State.modDk_keeps _ _ (.refl s)) (State.hardReset_keeps _ _ (State.modDk_keeps _ _ (.refl s)))))

theorem execDeskStatus_keeps (mv ma : Nat) (s : State) : OutKeeps s (execDeskStatus mv ma s) := .runCmd fun _ => State.modDk_keeps _ _ (.refl s)

theorem execDeskControl_keeps (s : State) : OutKeeps s (execDeskControl s) := .runCmd fun _ => State.deskAction_keeps _ _ (.refl s)

/-! ### Machine/DeskData -/

theorem execVdmDiscover_keeps (port : Fin 4) (sop : Fin 3) (kind : Fin 3) (svid : BitVec 16) (s : State) :
    OutKeeps s (execVdmDiscover port sop kind svid s) :=
  .ite (.next (.refl s)) (.ite (.next (State.vdm_keeps _ _ _ _ (.refl s))) (.ite (.next (State.vdm_keeps _ _ _ _ (.refl s))) (.ite (.next
      (State.vdm_keeps _ _ _ _ (.refl s))) (.next (State.vdm_keeps _ _ _ _ (.refl s))))))

theorem execVdmEnterMode_keeps (port : Fin 4) (sop : Fin 3) (svid : BitVec 16) (mode : BitVec 3) (goodCrc : Bool) (s : State) :
    OutKeeps s (execVdmEnterMode port sop svid mode goodCrc s) := by
  unfold execVdmEnterMode
  with_reducible repeat' (first
      | exact Keeps.refl _ | apply OutKeeps.ite | apply OutKeeps.next | apply State.vdm_keeps | apply State.modDk_keeps | apply State.raise_keeps
      | apply State.refreshSink_keeps)

theorem execVdmExitMode_keeps (port : Fin 4) (sop : Fin 3) (svid : BitVec 16) (goodCrc : Bool) (s : State) :
    OutKeeps s (execVdmExitMode port sop svid goodCrc s) :=
  .ite (.next (.refl s)) (.ite (.next (State.vdm_keeps _ _ _ _ (.refl s))) (.next (.ite (State.altExit_keeps _ (State.vdm_keeps _ _ _ _ (.refl s)))
      (State.vdm_keeps _ _ _ _ (.refl s)))))

theorem execDpStatusUpdate_keeps (port : Fin 4) (s : State) : OutKeeps s (execDpStatusUpdate port s) :=
  .next (.ite (State.vdm_keeps _ _ _ _ (.refl s)) (.refl s))

theorem execDpConfigure_keeps (port : Fin 4) (pin : Byte) (rate : BitVec 3) (goodCrc : Bool) (s : State) :
    OutKeeps s (execDpConfigure port pin rate goodCrc s) :=
  .ite (.next (.refl s)) (.ite (.next (.ite (State.setMux_keeps _ _ (State.vdm_keeps _ _ _ _ (.refl s))) (State.vdm_keeps _ _ _ _ (.refl s))))
      (.next (State.vdm_keeps _ _ _ _ (.refl s))))

theorem execDeskUsbLinkTrained_keeps (port : Fin 4) (rate : Fin 3) (s : State) : OutKeeps s (execDeskUsbLinkTrained port rate s) :=
  .ite (.next (.refl s)) (.next (State.setUsb_keeps _ _ (.refl s)))

theorem execDpSinkTraining_keeps (port : Fin 4) (rate : Fin 6) (lanes : Fin 3) (stream : Option (Nat × Nat × Nat × Bool)) (s : State) :
    OutKeeps s (execDpSinkTraining port rate lanes stream s) := by
  unfold execDpSinkTraining
  with_reducible repeat' (first
      | exact Keeps.refl _ | apply OutKeeps.ite | apply OutKeeps.next | apply State.modDk_keeps | apply State.setSink_keeps
      | apply State.refuseStream_keeps | split)

theorem execDpStreamEnded_keeps (port : Fin 4) (s : State) : OutKeeps s (execDpStreamEnded port s) :=
  .next (.ite (State.setSink_keeps _ _ _ (.refl s)) (.refl s))

theorem execCaptureFrameComplete_keeps (port : Fin 4) (lines : List (Nat × List Word)) (s : State) :
    OutKeeps s (execCaptureFrameComplete port lines s) := by
  unfold execCaptureFrameComplete
  with_reducible repeat' (first
      | exact Keeps.refl _ | assumption | apply OutKeeps.ite | apply OutKeeps.next | apply State.refuseStream_keeps | apply State.modDk_keeps
      | apply State.captureLine_keeps | apply State.cntK_keeps | apply State.raiseCounted_keeps | (refine Keeps.foldl (fun _ _ _ => ?_) _ _ ?_))

theorem execDamageSend_keeps (port : Fin 4) (s : State) : OutKeeps s (execDamageSend port s) := by
  unfold execDamageSend
  with_reducible repeat' (first
      | exact Keeps.refl _ | assumption | apply OutKeeps.ite | apply OutKeeps.next | apply State.modDk_keeps | apply State.sendSpan_keeps
      | apply State.cntK_keeps | apply Keeps.ite | (refine Keeps.foldl (fun _ _ _ => ?_) _ _ ?_) | split | dsimp only)

theorem execUsbTunnelAttach_keeps (idx : BitVec 14) (port : BitVec 2) (s : State) : OutKeeps s (execUsbTunnelAttach idx port s) := by
  unfold execUsbTunnelAttach
  with_reducible repeat' (first
      | exact Keeps.refl _ | apply OutKeeps.ite | apply OutKeeps.next | apply State.modDev_keeps | apply State.usbPdu_keeps | apply Keeps.ite
      | split | dsimp only)

theorem execUsbTunnelAttachAck_keeps (idx : BitVec 14) (status : Byte) (speed : BitVec 2) (s : State) :
    OutKeeps s (execUsbTunnelAttachAck idx status speed s) := by
  unfold execUsbTunnelAttachAck
  with_reducible repeat' (first
      | exact Keeps.refl _ | assumption | apply OutKeeps.next | apply State.modMp_keeps | apply State.setMp_keeps | apply State.askRates_keeps
      | apply State.beginClose_keeps | apply Keeps.ite | (refine Keeps.foldl (fun _ _ _ => ?_) _ _ ?_) | split | dsimp only)

theorem execUsbTunnelDetach_keeps (idx : BitVec 14) (status : Byte) (s : State) : OutKeeps s (execUsbTunnelDetach idx status s) := by
  unfold execUsbTunnelDetach
  with_reducible repeat' (first
      | exact Keeps.refl _ | assumption | apply OutKeeps.next | apply State.setMp_keeps | apply State.modMp_keeps | apply State.beginClose_keeps
      | apply Keeps.ite | (refine Keeps.foldl (fun _ _ _ => ?_) _ _ ?_))

theorem execUsbTunnelPacket_keeps (idx : BitVec 14) (uop : Byte) (data : List Byte) (s : State) :
    OutKeeps s (execUsbTunnelPacket idx uop data s) := by
  unfold execUsbTunnelPacket
  with_reducible repeat' (first
      | exact Keeps.refl _ | assumption | apply OutKeeps.ite | apply OutKeeps.next | apply State.cntK_keeps | apply State.usbOut_keeps
      | apply Keeps.ite | (refine Keeps.foldl (fun _ _ _ => ?_) _ _ ?_) | split)

theorem execUsbLaptopTransaction_keeps (port : Fin 4) (dsport : BitVec 3) (iso inward : Bool) (data : List Byte) (s : State) :
    OutKeeps s (execUsbLaptopTransaction port dsport iso inward data s) := by
  unfold execUsbLaptopTransaction
  with_reducible repeat' (first
      | exact Keeps.refl _ | apply OutKeeps.ite | apply OutKeeps.next | apply State.cntK_keeps | apply State.laptopFrame_keeps
      | apply State.usbOut_keeps | apply State.usbPdu_keeps | apply Keeps.ite | split)

theorem execPeripheralEnumerate_keeps (port : Fin 4) (speed : BitVec 2) (exportable : Bool) (s : State) :
    OutKeeps s (execPeripheralEnumerate port speed exportable s) := by
  unfold execPeripheralEnumerate
  with_reducible repeat' (first
      | exact Keeps.refl _ | assumption | apply OutKeeps.ite | apply OutKeeps.next | apply State.modDev_keeps | apply State.connectMp_keeps
      | apply Keeps.ite | (refine Keeps.foldl (fun _ _ _ => ?_) _ _ ?_))

theorem execDeskTunnelRetry_keeps (port : Fin 4) (which : BitVec 3) (s : State) : OutKeeps s (execDeskTunnelRetry port which s) := by
  unfold execDeskTunnelRetry
  with_reducible repeat' (first
      | exact Keeps.refl _ | apply OutKeeps.ite | apply OutKeeps.next | apply State.modDk_keeps | apply State.openNet_keeps
      | apply State.openVid_keeps | apply State.modMp_keeps | apply State.connectMp_keeps | apply Keeps.ite)

theorem execDeskBind_keeps (s : State) : OutKeeps s (execDeskBind s) := by
  unfold execDeskBind
  with_reducible repeat' (first
      | exact Keeps.refl _ | (refine OutKeeps.runCmd fun _ => ?_) | apply State.rebind_keeps | apply State.raise_keeps | apply Keeps.iteFst | split)

theorem execDeskDataStatus_keeps (s : State) : OutKeeps s (execDeskDataStatus s) :=
  .runCmd fun _ => .ite (State.modDk_keeps _ _ (.refl s)) (.refl s)

/-! ### Machine/Directory -/

theorem execDirGet_keeps (s : State) : OutKeeps s (execDirGet s) := .runDir fun _ => State.dirTouch_keeps _ (.refl s)

theorem execDirFind_keeps (s : State) : OutKeeps s (execDirFind s) := .runDir fun _ => .refl s

theorem execDirStatus_keeps (s : State) : OutKeeps s (execDirStatus s) := .runDir fun _ => .refl s

theorem execDirSet_keeps (s : State) : OutKeeps s (execDirSet s) := by
  unfold execDirSet
  with_reducible repeat' (first
      | exact Keeps.refl _ | (refine OutKeeps.runDir fun _ => ?_) | apply State.modDir_keeps | apply State.raise_keeps | apply Keeps.iteFst | split
      | dsimp only | refine Keeps.upd _ ?_ rfl rfl rfl)

theorem execDirDelete_keeps (s : State) : OutKeeps s (execDirDelete s) := by
  unfold execDirDelete
  with_reducible repeat' (first
      | exact Keeps.refl _ | (refine OutKeeps.runDir fun _ => ?_) | apply Keeps.iteFst | split | dsimp only | refine Keeps.upd _ ?_ rfl rfl rfl)

theorem execDirReport_keeps (ans : Option (Fin 16 × BitVec 5 × List Word)) (s : State) : OutKeeps s (execDirReport ans s) := by
  unfold execDirReport
  with_reducible repeat' (first
      | exact Keeps.refl _ | (refine OutKeeps.runDir fun _ => ?_) | apply OutKeeps.next | apply State.takeIds_keeps | apply State.bindAll_keeps
      | apply Keeps.ite | split)

theorem execDirGone_keeps (s : State) : OutKeeps s (execDirGone s) := by
  unfold execDirGone
  with_reducible repeat' (first
      | exact Keeps.refl _ | assumption | (refine OutKeeps.runDir fun _ => ?_) | apply State.raise_keeps
      | (refine Keeps.foldl (fun _ _ _ => ?_) _ _ ?_) | refine Keeps.upd _ ?_ rfl rfl rfl)

/-! ### Machine/CfgApply -/

theorem execCfgApply_keeps (s : State) : OutKeeps s (execCfgApply s) := by
  unfold execCfgApply
  with_reducible repeat' (first
      | exact Keeps.refl _ | (refine OutKeeps.runCmd fun _ => ?_) | apply State.applyRecs_keeps | apply State.syncDomains_keeps | split)

/-! ### Machine/Faults -/

theorem execRowTestDone_keeps (bank : Fin 64) (row : Fin 1024) (pass : Bool) (s : State) : OutKeeps s (execRowTestDone bank row pass s) := by
  unfold execRowTestDone
  with_reducible repeat' (first
      | exact Keeps.refl _ | apply OutKeeps.ite | apply OutKeeps.next | apply State.raise_keeps | apply State.unrepair_keeps
      | apply State.rowBack_keeps | apply State.sharedCheck_keeps | apply State.testEnds_keeps | apply State.rowLasting_keeps | split | dsimp only
      | refine Keeps.upd _ ?_ rfl rfl rfl)

theorem execLaneTestDone_keeps (port : Fin 4) (lane : Fin 2) (pass : Bool) (s : State) : OutKeeps s (execLaneTestDone port lane pass s) := by
  unfold execLaneTestDone
  with_reducible repeat' (first
      | exact Keeps.refl _ | apply OutKeeps.next | apply State.unrepair_keeps | apply State.modTp_keeps | apply State.testEnds_keeps
      | apply State.retireLane_keeps | apply Keeps.ite | split | dsimp only)

theorem execCalibratorDone_keeps (port : Fin 16) (lasting : Bool) (s : State) : OutKeeps s (execCalibratorDone port lasting s) := by
  unfold execCalibratorDone
  with_reducible repeat' (first
      | exact Keeps.refl _ | apply OutKeeps.ite | apply OutKeeps.next | apply State.calDone_keeps | apply State.testEnds_keeps | apply Keeps.logErr
      | split | dsimp only)

theorem execLpddrEccError_keeps (err : MemErr) (addr : Nat) (info : StartInfo) (s : State) : OutKeeps s (execLpddrEccError err addr info s) := by
  unfold execLpddrEccError
  with_reducible repeat' (first
      | exact Keeps.refl _ | apply OutKeeps.ite | apply OutKeeps.next | apply State.memErr_keeps | apply Keeps.logErr | apply State.draw_keeps
      | apply State.cntH_keeps | apply State.captureEcc_keeps | apply State.raise_keeps | apply State.cntB_keeps | apply State.sendPdu_keeps
      | apply State.coldReset_keeps | apply State.removeEntry_keeps | apply State.closeTun_keeps | apply State.modSlot_keeps
      | apply State.checkSlot_keeps | apply Keeps.ite | split | refine Keeps.upd _ ?_ rfl rfl rfl)

theorem execEngineMemoryError_keeps (engine : Fin 12) (s : State) : OutKeeps s (execEngineMemoryError engine s) := by
  unfold execEngineMemoryError
  with_reducible repeat' (first
      | exact Keeps.refl _ | apply OutKeeps.ite | apply OutKeeps.next | apply State.engineFault_keeps | refine Keeps.upd _ ?_ rfl rfl rfl)

theorem execPcieAerError_keeps (port : Fin 2) (status : Word) (s : State) : OutKeeps s (execPcieAerError port status s) := by
  unfold execPcieAerError
  with_reducible repeat' (first | exact Keeps.refl _ | apply OutKeeps.next | apply Keeps.logErr)

theorem execPersistentLogWrite_keeps (ok : Bool) (s : State) : OutKeeps s (execPersistentLogWrite ok s) := by
  unfold execPersistentLogWrite
  with_reducible repeat' (first
      | exact Keeps.refl _ | apply OutKeeps.ite | apply OutKeeps.next | apply State.plogAdd_keeps | apply State.raise_keeps | split
      | refine Keeps.upd _ ?_ rfl rfl rfl)

theorem execDiagStatus_keeps (s : State) : OutKeeps s (execDiagStatus s) := .runRead

theorem execDiagErrlog_keeps (s : State) : OutKeeps s (execDiagErrlog s) := .runRead

theorem execDiagTest_keeps (loop : BitVec 4) (s : State) : OutKeeps s (execDiagTest loop s) := by
  unfold execDiagTest
  with_reducible repeat' (first
      | exact Keeps.refl _ | assumption | (refine OutKeeps.runCmd fun _ => ?_) | apply State.testRow_keeps | apply State.dropLane_keeps
      | apply State.queueCal_keeps | apply State.raise_keeps | apply Keeps.ite | apply Keeps.iteFst | (refine Keeps.foldl (fun _ _ _ => ?_) _ _ ?_)
      | refine Keeps.upd _ ?_ rfl rfl rfl)

theorem execDiagRestore_keeps (s : State) : OutKeeps s (execDiagRestore s) := by
  unfold execDiagRestore
  with_reducible repeat' (first
      | exact Keeps.refl _ | (refine OutKeeps.runCmd fun _ => ?_) | apply Keeps.iteFst | split | dsimp only | refine Keeps.upd _ ?_ rfl rfl rfl)

/-- An empty log is no longer than the one before. -/
theorem execDiagClear_keeps (s : State) : OutKeeps s (execDiagClear s) :=
  .runCmd fun _ => Keeps.iteFst (.refl s) ((Keeps.refl s).less rfl rfl rfl (Nat.le_refl _) (Nat.zero_le _))

/-! ### Machine/Seconds -/

theorem execRateLimitWindowEnd_keeps (ms : Bool) (s : State) : OutKeeps s (execRateLimitWindowEnd ms s) :=
  .next (.ite (State.endWindow_keeps _ (State.msWindow_keeps (.refl s))) (State.intrSeconds_keeps (State.endWindow_keeps _ (State.aonSecond_keeps
      (.refl s)))))

/-! ### Machine/Security -/

theorem execTamperAlarm_keeps (source : Fin 7) (s : State) : OutKeeps s (execTamperAlarm source s) :=
  .ite (.next (.refl s)) (.next (State.alarm_keeps _ (.refl s)))

theorem execTamperUnstableEnd_keeps (input : Fin 4) (s : State) : OutKeeps s (execTamperUnstableEnd input s) := by
  unfold execTamperUnstableEnd
  with_reducible repeat' (first
      | exact Keeps.refl _ | apply OutKeeps.ite | apply OutKeeps.next | apply State.raiseOrHold_keeps | refine Keeps.upd _ ?_ rfl rfl rfl)

theorem execTamperSourceInactive_keeps (source : Fin 7) (s : State) : OutKeeps s (execTamperSourceInactive source s) := by
  unfold execTamperSourceInactive
  with_reducible repeat' (first | exact Keeps.refl _ | apply OutKeeps.ite | apply OutKeeps.next | refine Keeps.upd _ ?_ rfl rfl rfl)

theorem execTamperRecordCopy_keeps (s : State) : OutKeeps s (execTamperRecordCopy s) := by
  unfold execTamperRecordCopy
  with_reducible repeat' (first
      | exact Keeps.refl _ | apply OutKeeps.ite | apply OutKeeps.next | apply State.plogAdd_keeps | split | refine Keeps.upd _ ?_ rfl rfl rfl)

theorem execKeyTamper_keeps (s : State) : OutKeeps s (execKeyTamper s) := by
  unfold execKeyTamper
  with_reducible repeat' (first
      | exact Keeps.refl _ | (refine OutKeeps.runCmd fun _ => ?_) | apply State.clearAlarm_keeps | apply Keeps.ite
      | refine Keeps.upd _ ?_ rfl rfl rfl)

theorem execKeyStatus_keeps (s : State) : OutKeeps s (execKeyStatus s) := .runRead

theorem execKeySlot_keeps (s : State) : OutKeeps s (execKeySlot s) := .runKey fun _ => Keeps.iteFst (.refl s) (State.checkSlot_keeps _ (.refl s))

theorem execKeyMeasure_keeps (s : State) : OutKeeps s (execKeyMeasure s) := .runKey fun _ => .refl s

theorem execKeyAttest_keeps (s : State) : OutKeeps s (execKeyAttest s) := by
  unfold execKeyAttest
  with_reducible repeat' (first
      | exact Keeps.refl _ | (refine OutKeeps.runKey fun _ => ?_) | apply State.checkSlot_keeps | apply State.signWith_keeps | apply Keeps.iteFst)

theorem execKeyCerts_keeps (s : State) : OutKeeps s (execKeyCerts s) := .runKey fun _ => .refl s

theorem execKeyGenerate_keeps (s : State) : OutKeeps s (execKeyGenerate s) := by
  unfold execKeyGenerate
  with_reducible repeat' (first
      | exact Keeps.refl _ | (refine OutKeeps.runKey fun _ => ?_) | apply State.checkSlot_keeps | apply State.drawKeyField_keeps
      | apply State.writeSlot_keeps | apply Keeps.ite | apply Keeps.iteFst | refine Keeps.upd _ ?_ rfl rfl rfl)

theorem execKeyPut_keeps (s : State) : OutKeeps s (execKeyPut s) :=
  .runKey fun _ => Keeps.iteFst (State.checkSlot_keeps _ (.refl s)) (Keeps.iteFst (State.checkSlot_keeps _ (.refl s)) (State.writeSlot_keeps _ _ _ _
      _ _ (State.checkSlot_keeps _ (.refl s))))

theorem execKeyDerive_keeps (s : State) : OutKeeps s (execKeyDerive s) := by
  unfold execKeyDerive
  with_reducible repeat' (first
      | exact Keeps.refl _ | (refine OutKeeps.runKey fun _ => ?_) | apply State.checkSlot_keeps | apply State.writeSlot_keeps | apply Keeps.iteFst)

theorem execKeyErase_keeps (s : State) : OutKeeps s (execKeyErase s) := by
  unfold execKeyErase
  with_reducible repeat' (first
      | exact Keeps.refl _ | (refine OutKeeps.runKey fun _ => ?_) | apply State.modSlot_keeps | apply State.refreshVol_keeps | apply Keeps.iteFst
      | refine Keeps.upd _ ?_ rfl rfl rfl)

theorem execKeyExtend_keeps (s : State) : OutKeeps s (execKeyExtend s) := .runKey fun _ => State.extend_keeps _ _ (.refl s)

theorem execKeySign_keeps (s : State) : OutKeeps s (execKeySign s) := by
  unfold execKeySign
  with_reducible repeat' (first
      | exact Keeps.refl _ | (refine OutKeeps.runKey fun _ => ?_) | apply State.checkSlot_keeps | apply State.signWith_keeps | apply Keeps.iteFst)

theorem execKeyCsr_keeps (s : State) : OutKeeps s (execKeyCsr s) :=
  .runKey fun _ => Keeps.iteFst (State.checkSlot_keeps _ (.refl s)) (Keeps.iteFst (State.checkSlot_keeps _ (.refl s)) (State.draw_keeps
      (State.checkSlot_keeps _ (.refl s))))

theorem execKeyCertSet_keeps (cert : Cert) (s : State) : OutKeeps s (execKeyCertSet cert s) := by
  unfold execKeyCertSet
  with_reducible repeat' (first
      | exact Keeps.refl _ | (refine OutKeeps.runKey fun _ => ?_) | apply State.checkCert_keeps | apply State.sendJoin_keeps | apply Keeps.ite
      | apply Keeps.iteFst | dsimp only | refine Keeps.upd _ ?_ rfl rfl rfl)

theorem execKeyDeny_keeps (s : State) : OutKeeps s (execKeyDeny s) := by
  unfold execKeyDeny
  with_reducible repeat' (first
      | exact Keeps.refl _ | (refine OutKeeps.runKey fun _ => ?_) | apply Keeps.iteFst | dsimp only | refine Keeps.upd _ ?_ rfl rfl rfl)

theorem execKeyLifecycle_keeps (s : State) : OutKeeps s (execKeyLifecycle s) := by
  unfold execKeyLifecycle
  with_reducible repeat' (first
      | exact Keeps.refl _ | (refine OutKeeps.runCmd fun _ => ?_) | apply State.drawWord_keeps | apply Keeps.iteFst
      | (refine Keeps.snd (by assumption) ?_) | split | dsimp only | refine Keeps.upd _ ?_ rfl rfl rfl)

theorem execLifecycleArmLapse_keeps (s : State) : OutKeeps s (execLifecycleArmLapse s) := by
  unfold execLifecycleArmLapse
  with_reducible repeat' (first | exact Keeps.refl _ | apply OutKeeps.ite | apply OutKeeps.next | refine Keeps.upd _ ?_ rfl rfl rfl)

/-! ### Machine/Update -/

theorem execUpdBegin_keeps (s : State) : OutKeeps s (execUpdBegin s) := by
  unfold execUpdBegin
  with_reducible repeat' (first
      | exact Keeps.refl _ | (refine OutKeeps.runCmd fun _ => ?_) | apply Keeps.iteFst | dsimp only | refine Keeps.upd _ ?_ rfl rfl rfl)

theorem execUpdBlock_keeps (s : State) : OutKeeps s (execUpdBlock s) := by
  unfold execUpdBlock
  with_reducible repeat' (first
      | exact Keeps.refl _ | (refine OutKeeps.runUpd fun _ => ?_) | apply Keeps.iteFst | dsimp only | refine Keeps.upd _ ?_ rfl rfl rfl)

theorem execUpdCommit_keeps (vendor owner digests : Bool) (rootVer : Byte) (s : State) :
    OutKeeps s (execUpdCommit vendor owner digests rootVer s) := by
  unfold execUpdCommit
  with_reducible repeat' (first
      | exact Keeps.refl _ | (refine OutKeeps.runCmd fun _ => ?_) | apply State.checkSlot_keeps | apply State.putBoot_keeps
      | apply State.raise_keeps | apply Keeps.iteFst | dsimp only | refine Keeps.upd _ ?_ rfl rfl rfl)

theorem execUpdAbort_keeps (s : State) : OutKeeps s (execUpdAbort s) := .runUpd fun _ => State.endSession_keeps _ (.refl s)

theorem execUpdIdleTimeout_keeps (s : State) : OutKeeps s (execUpdIdleTimeout s) := .next (State.endSession_keeps _ (.refl s))

theorem execUpdStatus_keeps (s : State) : OutKeeps s (execUpdStatus s) := .runRead

theorem execUpdActivate_keeps (s : State) : OutKeeps s (execUpdActivate s) := by
  unfold execUpdActivate
  with_reducible repeat' (first
      | exact Keeps.refl _ | apply OutKeeps.ite | apply OutKeeps.next | apply Keeps.respond | apply State.grantLease_keeps
      | apply State.proceed_keeps | apply State.sendRoot_keeps | split | refine Keeps.upd _ ?_ rfl rfl rfl)

theorem execUpdLease_keeps (ans : Option (List Word)) (s : State) : OutKeeps s (execUpdLease ans s) := by
  unfold execUpdLease
  with_reducible repeat' (first
      | exact Keeps.refl _ | apply OutKeeps.ite | (refine OutKeeps.runCmd fun _ => ?_) | apply OutKeeps.next | apply State.grantLease_keeps
      | apply State.proceed_keeps | apply Keeps.respond | apply Keeps.iteFst | split | refine Keeps.upd _ ?_ rfl rfl rfl)

theorem execUpdLeaseEnd_keeps (s : State) : OutKeeps s (execUpdLeaseEnd s) := .runCmd fun _ => .ite (State.endLease_keeps (.refl s)) (.refl s)

theorem execLeaseTimeout_keeps (s : State) : OutKeeps s (execLeaseTimeout s) := .next (State.endLease_keeps (.refl s))

theorem execUpdConfirm_keeps (s : State) : OutKeeps s (execUpdConfirm s) := .runCmd fun _ => Keeps.iteFst (State.confirm_keeps (.refl s)) (.refl s)

theorem execAutoConfirm_keeps (s : State) : OutKeeps s (execAutoConfirm s) := .next (.ite (State.confirm_keeps (.refl s)) (.refl s))

theorem execHealthLow_keeps (s : State) : OutKeeps s (execHealthLow s) := by
  unfold execHealthLow
  with_reducible repeat' (first
      | exact Keeps.refl _ | apply OutKeeps.next | apply State.raise_keeps | apply Keeps.ite | split | refine Keeps.upd _ ?_ rfl rfl rfl)

theorem execHealthTimerExpiry_keeps (info : StartInfo) (s : State) : OutKeeps s (execHealthTimerExpiry info s) :=
  .next (.ite (State.coldReset_keeps _ _ (State.fallBack_keeps _ (.refl s))) (.refl s))

/-! ### Machine/Startup -/

theorem execPowerOn_keeps (s : State) : OutKeeps s (execPowerOn s) := by
  unfold execPowerOn
  with_reducible repeat' (first | exact Keeps.refl _ | apply OutKeeps.next | apply Keeps.ite | refine Keeps.upd _ ?_ rfl rfl rfl)

theorem execDomAonStart_keeps (clk32 : Bool) (info : StartInfo) (s : State) : OutKeeps s (execDomAonStart clk32 info s) := by
  unfold execDomAonStart
  with_reducible repeat' (first
      | exact Keeps.refl _ | apply OutKeeps.ite | apply OutKeeps.next | apply State.startAlarm_keeps | apply State.coldStart_keeps | apply Keeps.ite
      | refine Keeps.upd _ ?_ rfl rfl rfl)

theorem execStartupEnd_keeps (s : State) : OutKeeps s (execStartupEnd s) := .next (.ite (State.endStart_keeps (.refl s)) (.refl s))

theorem execStartupTimeout_keeps (info : StartInfo) (s : State) : OutKeeps s (execStartupTimeout info s) :=
  .next (.ite (State.coldReset_keeps _ _ (.refl s)) (.refl s))

theorem execDeadFeedAdvertisement_keeps (port : Fin 4) (rp : Rp) (info : StartInfo) (s : State) :
    OutKeeps s (execDeadFeedAdvertisement port rp info s) := .next (.ite (State.raiseLevel_keeps _ _ (.refl s)) (.refl s))

theorem execPdPartnerAnswer_keeps (port : Fin 4) (msg : PdMsg) (answer : PdAnswer) (info : StartInfo) (s : State) :
    OutKeeps s (execPdPartnerAnswer port msg answer info s) :=
  .next (.ite (State.raiseLevel_keeps _ _ (State.partnerAnswer_keeps _ _ _ (.refl s))) (State.partnerAnswer_keeps _ _ _ (.refl s)))

theorem execDeadFeedFeedGood_keeps (info : StartInfo) (s : State) : OutKeeps s (execDeadFeedFeedGood info s) := by
  unfold execDeadFeedFeedGood
  with_reducible repeat' (first
      | exact Keeps.refl _ | apply OutKeeps.ite | apply OutKeeps.next | apply State.leaveDeadSink_keeps | apply State.fedStart_keeps
      | apply State.fallBack_keeps | apply State.coldReset_keeps | apply State.memStart_keeps | apply State.domainsStart_keeps | split)

theorem execResetNAssert_keeps (s : State) : OutKeeps s (execResetNAssert s) := by
  unfold execResetNAssert
  with_reducible repeat' (first
      | exact Keeps.refl _ | apply OutKeeps.ite | apply OutKeeps.next | apply State.coldBase_keeps | refine Keeps.upd _ ?_ rfl rfl rfl)

theorem execResetNRelease_keeps (info : StartInfo) (s : State) : OutKeeps s (execResetNRelease info s) :=
  .next (.ite (State.coldStart_keeps _ (.refl s)) (.refl s))

theorem execWarmStart_keeps (copies : Fin 3) (info : StartInfo) (s : State) : OutKeeps s (execWarmStart copies info s) :=
  .ite (.next (.refl s)) (.ite (.next (State.coldReset_keeps _ _ (.refl s))) (.next (State.warmStart_keeps (.refl s))))

theorem execMcWatchdogExpiry_keeps (s : State) : OutKeeps s (execMcWatchdogExpiry s) :=
  .next (.ite (State.restartBegin_keeps (State.watchdog_keeps _ (.refl s))) (.refl s))

theorem execEngineWatchdogExpiry_keeps (engine : Fin 12) (s : State) : OutKeeps s (execEngineWatchdogExpiry engine s) :=
  .next (.ite (State.warmReset_keeps _ (State.flushLog_keeps (State.watchdog_keeps _ (.refl s)))) (.refl s))

theorem execVcWatchdogExpiry_keeps (info : StartInfo) (s : State) : OutKeeps s (execVcWatchdogExpiry info s) :=
  .next (.ite (State.coldReset_keeps _ _ (State.flushLog_keeps (State.watchdog_keeps _ (.refl s)))) (.refl s))

theorem execControlRestartEnd_keeps (s : State) : OutKeeps s (execControlRestartEnd s) := .next (State.restartEnd_keeps (.refl s))

theorem execControlRestartTimeout_keeps (s : State) : OutKeeps s (execControlRestartTimeout s) :=
  .next (.ite (State.warmReset_keeps _ (.refl s)) (.refl s))

theorem execPowerLoss_keeps (s : State) : OutKeeps s (execPowerLoss s) := by
  unfold execPowerLoss
  with_reducible repeat' (first | exact Keeps.refl _ | apply OutKeeps.next | apply State.coldBase_keeps | refine Keeps.upd _ ?_ rfl rfl rfl)

theorem execDomainPgLoss_keeps (domain : Fin 14) (info : StartInfo) (s : State) : OutKeeps s (execDomainPgLoss domain info s) := by
  unfold execDomainPgLoss
  with_reducible repeat' (first
      | exact Keeps.refl _ | apply OutKeeps.ite | apply OutKeeps.next | apply Keeps.logErr | apply State.flushLog_keeps
      | apply State.coldReset_keeps | apply State.domainOff_keeps | apply State.raise_keeps | refine Keeps.upd _ ?_ rfl rfl rfl)

theorem execDomainRetry_keeps (domain : Fin 14) (s : State) : OutKeeps s (execDomainRetry domain s) := by
  unfold execDomainRetry
  with_reducible repeat' (first
      | exact Keeps.refl _ | apply OutKeeps.ite | apply OutKeeps.next | apply State.syncDomains_keeps | refine Keeps.upd _ ?_ rfl rfl rfl)

theorem execSysReset_keeps (s : State) : OutKeeps s (execSysReset s) := by
  unfold execSysReset
  with_reducible repeat' (first
      | exact Keeps.refl _ | (refine OutKeeps.runCmd fun _ => ?_) | apply Keeps.iteFst | split | dsimp only | refine Keeps.upd _ ?_ rfl rfl rfl)

theorem execSysBivouac_keeps (s : State) : OutKeeps s (execSysBivouac s) := by
  unfold execSysBivouac
  with_reducible repeat' (first
      | exact Keeps.refl _ | (refine OutKeeps.runCmd fun _ => ?_) | apply Keeps.iteFst | dsimp only | refine Keeps.upd _ ?_ rfl rfl rfl)

theorem execBivouacWake_keeps (source : Fin 7) (s : State) : OutKeeps s (execBivouacWake source s) :=
  .next (.ite (State.wakeFrom_keeps _ (.refl s)) (.refl s))

theorem execCommandFinish_keeps (info : StartInfo) (s : State) : OutKeeps s (execCommandFinish info s) := by
  unfold execCommandFinish
  with_reducible repeat' (first
      | exact Keeps.refl _ | apply OutKeeps.ite | apply OutKeeps.next | apply State.finish_keeps | apply State.afterAnswer_keeps
      | apply State.abortEp_keeps | apply State.startNext_keeps | split | dsimp only | refine Keeps.upd _ ?_ rfl rfl rfl)

/-- The mailbox of the function starts afresh. -/
theorem execPcieFunctionReset_keeps (fn : BitVec 5) (s : State) : OutKeeps s (execPcieFunctionReset fn s) := by
  unfold execPcieFunctionReset
  dsimp only
  refine .next (Keeps.refreshAuth ?_)
  have hfunc (u : State) (h : Keeps s u) : Keeps s (match u.stor.nextFunc.getD fn.toNat none with
    | some c => { u with stor.func := modAt u.stor.func fn.toNat fun _ => c, stor.nextFunc := modAt u.stor.nextFunc fn.toNat fun _ => none }
    | none => u) := by
    split
    · exact h.mk' rfl rfl rfl rfl rfl
    · exact h
  have hafresh (discard : Bool) (st : MbxState) : ({ discard := discard, st := st } : Mailbox).Ok := Mailbox.reset_ok.same rfl rfl rfl rfl
  refine hfunc _ (.ite (State.storFlr_keeps _ ?_) ?_) <;>
    exact (Keeps.modBox (fun _ _ => hafresh ..) (.refl s)).mk' rfl rfl rfl rfl rfl

/-! ### The dispatch -/

/-- Every command answers a next state with the queue as it was, which is safe when the state before was. -/
theorem exec_keeps (s : State) : ∀ c : Instr, OutKeeps s (exec c s)
  | .doorbellRing .. => execDoorbellRing_keeps ..
  | .evqConsWrite .. => execEvqConsWrite_keeps ..
  | .evqPendClear .. => execEvqPendClear_keeps ..
  | .registerWrite .. => execRegisterWrite_keeps ..
  | .mgmtSpiBadTransaction .. => execMgmtSpiBadTransaction_keeps ..
  | .pciePartialWindowAccess .. => execPciePartialWindowAccess_keeps ..
  | .svcRequestFrame .. => execSvcRequestFrame_keeps ..
  | .svcFrameGapTimeout .. => execSvcFrameGapTimeout_keeps ..
  | .svcEventFrameSend .. => execSvcEventFrameSend_keeps ..
  | .peerCommandPdu .. => execPeerCommandPdu_keeps ..
  | .commandFinish .. => execCommandFinish_keeps ..
  | .rateLimitWindowEnd .. => execRateLimitWindowEnd_keeps ..
  | .sysStatus => execSysStatus_keeps ..
  | .sysReset => execSysReset_keeps ..
  | .sysCounters => execSysCounters_keeps ..
  | .sysTopo => execSysTopo_keeps ..
  | .sysSvcWindow => execSysSvcWindow_keeps ..
  | .svcWindowExpiry => execSvcWindowExpiry_keeps ..
  | .sysBivouac => execSysBivouac_keeps ..
  | .bivouacWake .. => execBivouacWake_keeps ..
  | .cfgApply => execCfgApply_keeps ..
  | .cfgClamplog => execCfgClamplog_keeps ..
  | .evtMask => execEvtMask_keeps ..
  | .powerOn => execPowerOn_keeps ..
  | .domAonStart .. => execDomAonStart_keeps ..
  | .startupEnd => execStartupEnd_keeps ..
  | .startupTimeout .. => execStartupTimeout_keeps ..
  | .deadFeedFeedGood .. => execDeadFeedFeedGood_keeps ..
  | .resetNAssert => execResetNAssert_keeps ..
  | .resetNRelease .. => execResetNRelease_keeps ..
  | .warmStart .. => execWarmStart_keeps ..
  | .mcWatchdogExpiry => execMcWatchdogExpiry_keeps ..
  | .engineWatchdogExpiry .. => execEngineWatchdogExpiry_keeps ..
  | .vcWatchdogExpiry .. => execVcWatchdogExpiry_keeps ..
  | .controlRestartEnd => execControlRestartEnd_keeps ..
  | .controlRestartTimeout => execControlRestartTimeout_keeps ..
  | .domainPgLoss .. => execDomainPgLoss_keeps ..
  | .domainRetry .. => execDomainRetry_keeps ..
  | .pcieFunctionReset .. => execPcieFunctionReset_keeps ..
  | .joinRequest .. => execJoinRequest_keeps ..
  | .joinReply .. => execJoinReply_keeps ..
  | .joinReplyTimeout => execJoinReplyTimeout_keeps ..
  | .joinRetry => execJoinRetry_keeps ..
  | .zxEdge => execZxEdge_keeps ..
  | .mainsLostTimeout => execMainsLostTimeout_keeps ..
  | .mainsNoiseWindowEnd => execMainsNoiseWindowEnd_keeps ..
  | .acquireTimeout => execAcquireTimeout_keeps ..
  | .mainsPullInLock => execMainsPullInLock_keeps ..
  | .guylineSyncSend => execGuylineSyncSend_keeps ..
  | .guylineDelayReqSend => execGuylineDelayReqSend_keeps ..
  | .guylineSync p f g d r a o q => execGuylineSync_keeps p f g d r a o q s
  | .guylineDelayRequest .. => execGuylineDelayRequest_keeps ..
  | .guylineDelayResponse .. => execGuylineDelayResponse_keeps ..
  | .guylineLoss => execGuylineLoss_keeps ..
  | .schedulerFire .. => execSchedulerFire_keeps ..
  | .trigEdge .. => execTrigEdge_keeps ..
  | .trigWindowEnd .. => execTrigWindowEnd_keeps ..
  | .countWindowClose .. => execCountWindowClose_keeps ..
  | .phaseStatus => execPhaseStatus_keeps ..
  | .phaseArm => execPhaseArm_keeps ..
  | .phaseCancel => execPhaseCancel_keeps ..
  | .timeStatus => execTimeStatus_keeps ..
  | .timeConvert => execTimeConvert_keeps ..
  | .timeRestep => execTimeRestep_keeps ..
  | .linkRxAlign .. => execLinkRxAlign_keeps ..
  | .linkAttemptExpiry .. => execLinkAttemptExpiry_keeps ..
  | .linkHelloSend .. => execLinkHelloSend_keeps ..
  | .linkHelloReceive .. => execLinkHelloReceive_keeps ..
  | .linkHelloTimeout .. => execLinkHelloTimeout_keeps ..
  | .cellReceive .. => execCellReceive_keeps ..
  | .cellSlotTransmit .. => execCellSlotTransmit_keeps ..
  | .creditCellDue .. => execCreditCellDue_keeps ..
  | .creditStallTimeout .. => execCreditStallTimeout_keeps ..
  | .replayRequestReceive .. => execReplayRequestReceive_keeps ..
  | .replayRequestWaitExpiry .. => execReplayRequestWaitExpiry_keeps ..
  | .replayTimeout .. => execReplayTimeout_keeps ..
  | .keepaliveTimeout .. => execKeepaliveTimeout_keeps ..
  | .laneLockLoss .. => execLaneLockLoss_keeps ..
  | .laneDropMessage .. => execLaneDropMessage_keeps ..
  | .laneAddMessage .. => execLaneAddMessage_keeps ..
  | .ringSurveySend .. => execRingSurveySend_keeps ..
  | .ringSurveyReceive .. => execRingSurveyReceive_keeps ..
  | .ringSurveyTimeout .. => execRingSurveyTimeout_keeps ..
  | .ringFailReceive .. => execRingFailReceive_keeps ..
  | .ringClearReceive .. => execRingClearReceive_keeps ..
  | .ringWtrExpiry .. => execRingWtrExpiry_keeps ..
  | .ringRevertReceive .. => execRingRevertReceive_keeps ..
  | .ringRevertInstant .. => execRingRevertInstant_keeps ..
  | .ringRevertHoldEnd .. => execRingRevertHoldEnd_keeps ..
  | .linkStatus => execLinkStatus_keeps ..
  | .linkCounters => execLinkCounters_keeps ..
  | .linkControl => execLinkControl_keeps ..
  | .linkRing => execLinkRing_keeps ..
  | .tunOpen => execTunOpen_keeps ..
  | .tunAdmitSend .. => execTunAdmitSend_keeps ..
  | .tunAdmit .. => execTunAdmit_keeps ..
  | .tunOffer .. => execTunOffer_keeps ..
  | .tunOfferTimeout .. => execTunOfferTimeout_keeps ..
  | .tunOfferAnswer .. => execTunOfferAnswer_keeps ..
  | .tunResult .. => execTunResult_keeps ..
  | .tunOpenTimeout .. => execTunOpenTimeout_keeps ..
  | .tunClose => execTunClose_keeps ..
  | .tunStatus => execTunStatus_keeps ..
  | .tunList => execTunList_keeps ..
  | .tunRekey => execTunRekey_keeps ..
  | .tunRelease => execTunRelease_keeps ..
  | .tunClosed => execTunClosed_keeps ..
  | .tunNumberQuarantineEnd .. => execTunNumberQuarantineEnd_keeps ..
  | .tunnelCellReceive .. => execTunnelCellReceive_keeps ..
  | .dataCellOffer .. => execDataCellOffer_keeps ..
  | .tunAckTimer .. => execTunAckTimer_keeps ..
  | .tunRtoExpiry .. => execTunRtoExpiry_keeps ..
  | .tunKeepaliveSend .. => execTunKeepaliveSend_keeps ..
  | .tunDeadTimeout .. => execTunDeadTimeout_keeps ..
  | .tunStallClose .. => execTunStallClose_keeps ..
  | .tunCloseTimeout .. => execTunCloseTimeout_keeps ..
  | .lossyRepeatTimer .. => execLossyRepeatTimer_keeps ..
  | .rekeyMinExpiry .. => execRekeyMinExpiry_keeps ..
  | .rekeyAcceptTimeout .. => execRekeyAcceptTimeout_keeps ..
  | .rekeyRetry .. => execRekeyRetry_keeps ..
  | .oldKeyRetire .. => execOldKeyRetire_keeps ..
  | .rsqHoleTimeout .. => execRsqHoleTimeout_keeps ..
  | .sharedAdmitRetry .. => execSharedAdmitRetry_keeps ..
  | .egressDecision .. => execEgressDecision_keeps ..
  | .crossbarSlot => execCrossbarSlot_keeps ..
  | .gsEccError .. => execGsEccError_keeps ..
  | .orderedHoldDrain .. => execOrderedHoldDrain_keeps ..
  | .orderedHoldExpiry .. => execOrderedHoldExpiry_keeps ..
  | .barrierDrain => execBarrierDrain_keeps ..
  | .barrierTimeout .. => execBarrierTimeout_keeps ..
  | .fwdStatus => execFwdStatus_keeps ..
  | .fwdCounters => execFwdCounters_keeps ..
  | .fwdGet => execFwdGet_keeps ..
  | .fwdSet => execFwdSet_keeps ..
  | .fwdBarrier => execFwdBarrier_keeps ..
  | .fwdBarrierDone => execFwdBarrierDone_keeps ..
  | .refillTick => execRefillTick_keeps ..
  | .allotStatus => execAllotStatus_keeps ..
  | .allotQueue => execAllotQueue_keeps ..
  | .allotPolicer => execAllotPolicer_keeps ..
  | .allotStage => execAllotStage_keeps ..
  | .allotCancel => execAllotCancel_keeps ..
  | .allotChange => execAllotChange_keeps ..
  | .allotRequest .. => execAllotRequest_keeps ..
  | .allotApplied => execAllotApplied_keeps ..
  | .beacon .. => execBeacon_keeps ..
  | .beaconLate .. => execBeaconLate_keeps ..
  | .statusFrameReceive .. => execStatusFrameReceive_keeps ..
  | .enrolFrameReceive .. => execEnrolFrameReceive_keeps ..
  | .nodeAbsentTimeout .. => execNodeAbsentTimeout_keeps ..
  | .segmentViolation .. => execSegmentViolation_keeps ..
  | .babbleWindowEnd .. => execBabbleWindowEnd_keeps ..
  | .babbleCutExpiry .. => execBabbleCutExpiry_keeps ..
  | .segmentJam .. => execSegmentJam_keeps ..
  | .segmentJamClear .. => execSegmentJamClear_keeps ..
  | .jamCutExpiry .. => execJamCutExpiry_keeps ..
  | .sceneReportTimeout .. => execSceneReportTimeout_keeps ..
  | .epSegment => execEpSegment_keeps ..
  | .epNode => execEpNode_keeps ..
  | .sceneStatus => execSceneStatus_keeps ..
  | .sceneArm => execSceneArm_keeps ..
  | .sceneCancel => execSceneCancel_keeps ..
  | .sceneDone => execSceneDone_keeps ..
  | .dirGet => execDirGet_keeps ..
  | .dirFind => execDirFind_keeps ..
  | .dirStatus => execDirStatus_keeps ..
  | .dirSet => execDirSet_keeps ..
  | .dirDelete => execDirDelete_keeps ..
  | .dirReport .. => execDirReport_keeps ..
  | .dirGone => execDirGone_keeps ..
  | .bar2Read .. => execBar2Read_keeps ..
  | .bar2Write .. => execBar2Write_keeps ..
  | .delayedReadHoldEnd .. => execDelayedReadHoldEnd_keeps ..
  | .delayedReadCollectExpiry .. => execDelayedReadCollectExpiry_keeps ..
  | .memReadTimeout .. => execMemReadTimeout_keeps ..
  | .prefetchExpiry .. => execPrefetchExpiry_keeps ..
  | .bridgeRead .. => execBridgeRead_keeps ..
  | .bridgeWrite .. => execBridgeWrite_keeps ..
  | .bridgeLock .. => execBridgeLock_keeps ..
  | .bridgeUnlock .. => execBridgeUnlock_keeps ..
  | .bridgeSubscribe .. => execBridgeSubscribe_keeps ..
  | .bridgeAnswer .. => execBridgeAnswer_keeps ..
  | .bridgeIntr .. => execBridgeIntr_keeps ..
  | .lockExpiry .. => execLockExpiry_keeps ..
  | .lockBackoffEnd .. => execLockBackoffEnd_keeps ..
  | .epBridge => execEpBridge_keeps ..
  | .epWindow => execEpWindow_keeps ..
  | .epWinget => execEpWinget_keeps ..
  | .epRead => execEpRead_keeps ..
  | .epWrite => execEpWrite_keeps ..
  | .epLock => execEpLock_keeps ..
  | .epUnlock => execEpUnlock_keeps ..
  | .epErrlog => execEpErrlog_keeps ..
  | .dispHpdHigh .. => execDispHpdHigh_keeps ..
  | .dispHpdLow .. => execDispHpdLow_keeps ..
  | .dispIrqHpd .. => execDispIrqHpd_keeps ..
  | .frameStart .. => execFrameStart_keeps ..
  | .rasterSend .. => execRasterSend_keeps ..
  | .displayCellReceive .. => execDisplayCellReceive_keeps ..
  | .dispStatus => execDispStatus_keeps ..
  | .dispEdid => execDispEdid_keeps ..
  | .dispCommit => execDispCommit_keeps ..
  | .dispWrite => execDispWrite_keeps ..
  | .dispTarget => execDispTarget_keeps ..
  | .ccAttachDetect .. => execCcAttachDetect_keeps ..
  | .drpToggle .. => execDrpToggle_keeps ..
  | .ccDebounceExpiry .. => execCcDebounceExpiry_keeps ..
  | .trySrcDetect .. => execTrySrcDetect_keeps ..
  | .trySrcTimeout .. => execTrySrcTimeout_keeps ..
  | .trywaitTimeout .. => execTrywaitTimeout_keeps ..
  | .deskDetach .. => execDeskDetach_keeps ..
  | .vbusDischarged .. => execVbusDischarged_keeps ..
  | .safe0vTimeout .. => execSafe0vTimeout_keeps ..
  | .errorRecoveryEnd .. => execErrorRecoveryEnd_keeps ..
  | .vbusProtection .. => execVbusProtection_keeps ..
  | .faultExit .. => execFaultExit_keeps ..
  | .sourceCapsSend .. => execSourceCapsSend_keeps ..
  | .pdRequest .. => execPdRequest_keeps ..
  | .pdTransitionDone .. => execPdTransitionDone_keeps ..
  | .ppsRequestTimeout .. => execPpsRequestTimeout_keeps ..
  | .eprModeEnter .. => execEprModeEnter_keeps ..
  | .prSwapReceive .. => execPrSwapReceive_keeps ..
  | .vconnSwapReceive .. => execVconnSwapReceive_keeps ..
  | .drSwapReceive .. => execDrSwapReceive_keeps ..
  | .pdWaitReceive .. => execPdWaitReceive_keeps ..
  | .waitRetryExpiry .. => execWaitRetryExpiry_keeps ..
  | .hardReset .. => execHardReset_keeps ..
  | .srcRecoverExpiry .. => execSrcRecoverExpiry_keeps ..
  | .swapPsRdyTimeout .. => execSwapPsRdyTimeout_keeps ..
  | .deskReoffer => execDeskReoffer_keeps ..
  | .deskReclaimTimeout .. => execDeskReclaimTimeout_keeps ..
  | .contractTimeout .. => execContractTimeout_keeps ..
  | .deskStatus .. => execDeskStatus_keeps ..
  | .deskControl => execDeskControl_keeps ..
  | .vdmDiscover .. => execVdmDiscover_keeps ..
  | .vdmEnterMode .. => execVdmEnterMode_keeps ..
  | .vdmExitMode .. => execVdmExitMode_keeps ..
  | .dpStatusUpdate .. => execDpStatusUpdate_keeps ..
  | .dpConfigure .. => execDpConfigure_keeps ..
  | .dpSinkTraining .. => execDpSinkTraining_keeps ..
  | .captureFrameComplete .. => execCaptureFrameComplete_keeps ..
  | .damageSend .. => execDamageSend_keeps ..
  | .usbTunnelAttach .. => execUsbTunnelAttach_keeps ..
  | .usbTunnelAttachAck .. => execUsbTunnelAttachAck_keeps ..
  | .usbTunnelDetach .. => execUsbTunnelDetach_keeps ..
  | .usbTunnelPacket .. => execUsbTunnelPacket_keeps ..
  | .usbLaptopTransaction .. => execUsbLaptopTransaction_keeps ..
  | .peripheralEnumerate .. => execPeripheralEnumerate_keeps ..
  | .deskTunnelRetry .. => execDeskTunnelRetry_keeps ..
  | .deskDataStatus => execDeskDataStatus_keeps ..
  | .deskBind => execDeskBind_keeps ..
  | .nvmeCommandFetch .. => execNvmeCommandFetch_keeps ..
  | .storagePduRequest .. => execStoragePduRequest_keeps ..
  | .storageCompletion .. => execStorageCompletion_keeps ..
  | .storageInfo .. => execStorageInfo_keeps ..
  | .storageTimeout .. => execStorageTimeout_keeps ..
  | .driveLinkUp .. => execDriveLinkUp_keeps ..
  | .driveReadyTimeout .. => execDriveReadyTimeout_keeps ..
  | .storStatus => execStorStatus_keeps ..
  | .storDrive => execStorDrive_keeps ..
  | .ethLinkChange .. => execEthLinkChange_keeps ..
  | .ethFrameReceive .. => execEthFrameReceive_keeps ..
  | .ethLearnAge .. => execEthLearnAge_keeps ..
  | .ptpSyncSend .. => execPtpSyncSend_keeps ..
  | .ptpMessageReceive .. => execPtpMessageReceive_keeps ..
  | .ethStatus => execEthStatus_keeps ..
  | .ethFlush => execEthFlush_keeps ..
  | .feedSample .. => execFeedSample_keeps ..
  | .feedQualifyExpiry .. => execFeedQualifyExpiry_keeps ..
  | .feedWarnSwitchTimer => execFeedWarnSwitchTimer_keeps ..
  | .feedRevertTimer => execFeedRevertTimer_keeps ..
  | .feedGateOffSensed => execFeedGateOffSensed_keeps ..
  | .feedGateOffTimeout => execFeedGateOffTimeout_keeps ..
  | .feedDeadTimeEnd => execFeedDeadTimeEnd_keeps ..
  | .feedGateOnSensed => execFeedGateOnSensed_keeps ..
  | .feedGateOnTimeout => execFeedGateOnTimeout_keeps ..
  | .feedWarnRelease => execFeedWarnRelease_keeps ..
  | .seatSample .. => execSeatSample_keeps ..
  | .seatingQualified .. => execSeatingQualified_keeps ..
  | .unseatWindowEnd .. => execUnseatWindowEnd_keeps ..
  | .portPowerTick .. => execPortPowerTick_keeps ..
  | .inrushTimeout .. => execInrushTimeout_keeps ..
  | .shortAtStart .. => execShortAtStart_keeps ..
  | .gateRiseTimeout .. => execGateRiseTimeout_keeps ..
  | .shortedFetDetect .. => execShortedFetDetect_keeps ..
  | .retryInstant .. => execRetryInstant_keeps ..
  | .calibratorDone .. => execCalibratorDone_keeps ..
  | .portOn60s .. => execPortOn60s_keeps ..
  | .meterSample .. => execMeterSample_keeps ..
  | .energyWindowClose => execEnergyWindowClose_keeps ..
  | .pwrStatus => execPwrStatus_keeps ..
  | .pwrPortStatus => execPwrPortStatus_keeps ..
  | .pwrMeter => execPwrMeter_keeps ..
  | .pwrInterval => execPwrInterval_keeps ..
  | .pwrFeed => execPwrFeed_keeps ..
  | .pwrPort => execPwrPort_keeps ..
  | .tamperAlarm .. => execTamperAlarm_keeps ..
  | .tamperUnstableEnd .. => execTamperUnstableEnd_keeps ..
  | .tamperRecordCopy => execTamperRecordCopy_keeps ..
  | .lifecycleArmLapse => execLifecycleArmLapse_keeps ..
  | .keyStatus => execKeyStatus_keeps ..
  | .keySlot => execKeySlot_keeps ..
  | .keyMeasure => execKeyMeasure_keeps ..
  | .keyAttest => execKeyAttest_keeps ..
  | .keyCerts => execKeyCerts_keeps ..
  | .keyGenerate => execKeyGenerate_keeps ..
  | .keyPut => execKeyPut_keeps ..
  | .keyDerive => execKeyDerive_keeps ..
  | .keyErase => execKeyErase_keeps ..
  | .keyExtend => execKeyExtend_keeps ..
  | .keySign => execKeySign_keeps ..
  | .keyCsr => execKeyCsr_keeps ..
  | .keyCertSet .. => execKeyCertSet_keeps ..
  | .keyDeny => execKeyDeny_keeps ..
  | .keyLifecycle => execKeyLifecycle_keeps ..
  | .keyTamper => execKeyTamper_keeps ..
  | .updStatus => execUpdStatus_keeps ..
  | .updBegin => execUpdBegin_keeps ..
  | .updBlock => execUpdBlock_keeps ..
  | .updCommit .. => execUpdCommit_keeps ..
  | .updAbort => execUpdAbort_keeps ..
  | .updActivate => execUpdActivate_keeps ..
  | .updConfirm => execUpdConfirm_keeps ..
  | .updLease .. => execUpdLease_keeps ..
  | .updLeaseEnd => execUpdLeaseEnd_keeps ..
  | .updIdleTimeout => execUpdIdleTimeout_keeps ..
  | .leaseTimeout => execLeaseTimeout_keeps ..
  | .healthLow => execHealthLow_keeps ..
  | .healthTimerExpiry .. => execHealthTimerExpiry_keeps ..
  | .autoConfirm => execAutoConfirm_keeps ..
  | .rowTestDone .. => execRowTestDone_keeps ..
  | .laneTestDone .. => execLaneTestDone_keeps ..
  | .lpddrEccError .. => execLpddrEccError_keeps ..
  | .engineMemoryError .. => execEngineMemoryError_keeps ..
  | .pcieAerError .. => execPcieAerError_keeps ..
  | .persistentLogWrite .. => execPersistentLogWrite_keeps ..
  | .diagStatus => execDiagStatus_keeps ..
  | .diagErrlog => execDiagErrlog_keeps ..
  | .diagTest .. => execDiagTest_keeps ..
  | .diagRestore => execDiagRestore_keeps ..
  | .diagClear => execDiagClear_keeps ..
  | .powerLoss => execPowerLoss_keeps ..
  | .driveLinkDown .. => execDriveLinkDown_keeps ..
  | .driveFatalStatus .. => execDriveFatalStatus_keeps ..
  | .pcieLinkChange .. => execPcieLinkChange_keeps ..
  | .laneSearchAlign .. => execLaneSearchAlign_keeps ..
  | .pdPartnerAnswer .. => execPdPartnerAnswer_keeps ..
  | .sourceCapsReceive .. => execSourceCapsReceive_keeps ..
  | .eprModeExit .. => execEprModeExit_keeps ..
  | .deadFeedAdvertisement .. => execDeadFeedAdvertisement_keeps ..
  | .linkRateReport .. => execLinkRateReport_keeps ..
  | .dispUnderrun .. => execDispUnderrun_keeps ..
  | .storageTunnelRetry .. => execStorageTunnelRetry_keeps ..
  | .flrWaitExpiry .. => execFlrWaitExpiry_keeps ..
  | .tamperSourceInactive .. => execTamperSourceInactive_keeps ..
  | .dispLinkTrained .. => execDispLinkTrained_keeps ..
  | .deskUsbLinkTrained .. => execDeskUsbLinkTrained_keeps ..
  | .dpStreamEnded .. => execDpStreamEnded_keeps ..

/-- A step answers a next state whose queue is the old one without its front command, which is safe when the state before was. -/
theorem step_keeps (s : State) : ∃ t, step s = .next t ∧ t.pending = s.pending.tail ∧ (s.Inv → t.Inv) := by
  unfold step
  split
  next h =>
    have hidle : Keeps s (idleCycle s) := idleCycle_keeps (.refl s)
    exact ⟨_, rfl, by rw [hidle.pending, h, List.tail_nil], hidle.inv⟩
  next c rest h =>
    have hrest (hs : s.Inv) : State.Inv { s with pending := rest } := ⟨hs.dram, hs.boxes, hs.held, hs.log⟩
    obtain ⟨t, hexec, hkeeps⟩ := exec_keeps { s with pending := rest } c
    exact ⟨t, hexec, by rw [hkeeps.pending, h, List.tail_cons], fun hs => hkeeps.inv (hrest hs)⟩

/-! ### The obligations -/

/-- Settles O5: `exec_keeps` without its part on the safe states. -/
theorem everyCommandCompletesAndLeavesTheQueue : Obligations.EveryCommandCompletesAndLeavesTheQueue := by
  intro c s
  obtain ⟨t, hexec, hkeeps⟩ := exec_keeps s c
  exact ⟨t, hexec, hkeeps.pending⟩

/-- Settles O6: `step_keeps` without its part on the safe states. -/
theorem everyStepTakesOneCommand : Obligations.EveryStepTakesOneCommand := by
  intro s
  obtain ⟨t, hstep, hpending, -⟩ := step_keeps s
  exact ⟨t, hstep, hpending⟩

/-- Settles O4: the safe states are an invariant of `step`, by `step_keeps`. -/
theorem everyStepKeepsTheSafeStates : Obligations.EveryStepKeepsTheSafeStates := by
  intro s t hs hstep
  obtain ⟨t', hstep', -, hinv⟩ := step_keeps s
  obtain rfl : t' = t := Host.Outcome.next.inj (hstep'.symm.trans hstep)
  exact hinv hs

/-- Settles O3: `State.reset_inv`, and `step_keeps` for the step. -/
theorem resetIsSafe : Obligations.ResetIsSafe := by
  obtain ⟨t, hstep, -, -⟩ := step_keeps State.reset
  exact ⟨State.reset_inv, t, hstep⟩

end Sys2Proof.Machine

/-! What a step, the reset state, LPDDR5X, raising an event and submitting a request do. -/

namespace Sys2Proof.Machine

open Sys2Proof

/-! ### A step and the reset state -/

/-- Settles O1: `step` by whether a command waits. -/
theorem stepTakesTheFrontCommand : Obligations.StepTakesTheFrontCommand := by
  refine ⟨fun c r s h => ?_, fun s h => ?_⟩
  · rw [step, h]
  · have hidle : step s = .next (idleCycle s) := by rw [step, h]
    exact hidle

/-- Settles O2: every field is read off `State.reset`. -/
theorem resetStateIsAsTheSpecSays : Obligations.ResetStateIsAsTheSpecSays := by
  refine ⟨rfl, rfl, rfl, rfl, rfl, rfl, rfl, rfl, rfl, rfl, fun i => ?_, fun p => ?_⟩
  · have hbox : State.reset.box i = {} := Vector.getElem_replicate ..
    rw [hbox]
    exact ⟨rfl, rfl⟩
  · revert p
    decide

/-! ### LPDDR5X -/

/-- Settles O11: the laws of `dramWriteBytes`, byte by byte for the read of what was written. -/
theorem memoryReadsWhatWasWritten : Obligations.MemoryReadsWhatWasWritten := by
  refine fun s a bs hwf => ⟨List.ext_getElem (by simp [dramReadBytes]) fun k hk hk' => ?_, State.memWrite_wf a bs hwf, fun b hb => ?_⟩
  · simp only [dramReadBytes, List.getElem_map, List.getElem_range]
    exact dramRead_dramWriteBytes bs a k hk' hwf
  · exact dramRead_dramWriteBytes_other b bs a hwf hb

/-! ### Putting a queue in order -/

/-- The slots of a queue are all that `Mailbox.settleN` changes. -/
theorem Mailbox.settleN_slotsOnly : ∀ (n : Nat) (m : Mailbox) (p : Nat), { m.settleN n p with evSlots := m.evSlots } = m
  | 0, _, _ => rfl
  | n + 1, m, p => by
    unfold Mailbox.settleN
    dsimp only
    split
    next a b _ _ =>
      split
      · have ih := Mailbox.settleN_slotsOnly n (m.swap (p % 256) ((p + 65535) % 65536 % 256) a b) ((p + 65535) % 65536)
        exact congrArg (fun x : Mailbox => { x with evSlots := m.evSlots }) ih
      · rfl
    next => rfl

theorem Mailbox.settle_slotsOnly (m : Mailbox) : { m.settle with evSlots := m.evSlots } = m := Mailbox.settleN_slotsOnly ..

theorem Mailbox.settle_of_used_le_one {m : Mailbox} (h : m.used ≤ 1) : m.settle = m := by
  have hnone : (m.prod + 65536 - m.cons) % 65536 - 1 = 0 := Nat.sub_eq_zero_of_le h
  rw [Mailbox.settle, hnone]
  rfl

/-- What a slot holds after an exchange. -/
theorem Mailbox.slot_swap (m : Mailbox) (j k i : Nat) (a b : EvEntry) : (m.swap j k a b).slot i =
    (m.slot i).map fun e => if i = j then { b with seq := a.seq } else if i = k then { a with seq := b.seq } else e := by
  have hkey : ∀ x : Nat × EvEntry, (((fun (i, e) => if i == j then (i, { b with seq := a.seq }) else
      if i == k then (i, { a with seq := b.seq }) else (i, e)) : Nat × EvEntry → Nat × EvEntry) x).1 = x.1 := by
    intro x
    dsimp only
    split
    · rfl
    · split <;> rfl
  simp only [Mailbox.slot, Mailbox.swap, List.find?_map, Option.map_map, Function.comp_def, hkey]
  refine Option.map_congr fun x hx => ?_
  have hi : x.1 = i := by simpa using List.find?_some hx
  subst hi
  simp only [beq_iff_eq]
  split
  · rfl
  · split <;> rfl

/-- Two entries that wait with equal stamps, the higher number first, change places; each slot keeps its SEQ (R45). -/
theorem Mailbox.settle_two {m : Mailbox} {a b : EvEntry} (hused : m.used = 2) (hb : m.slot ((m.prod + 65534) % 65536 % 256) = some b)
    (ha : m.slot ((m.prod + 65535) % 65536 % 256) = some a) (hst : a.stamp = b.stamp) (hev : a.event < b.event) :
    m.settle = m.swap ((m.prod + 65535) % 65536 % 256) ((m.prod + 65534) % 65536 % 256) a b := by
  have hone : (m.prod + 65536 - m.cons) % 65536 - 1 = 1 := congrArg (· - 1) hused
  have hprev : ((m.prod + 65535) % 65536 + 65535) % 65536 = (m.prod + 65534) % 65536 := by omega
  rw [Mailbox.settle, hone, Mailbox.settleN, hprev, ha, hb]
  simp [hst, hev, Mailbox.settleN]

/-! ### Raising an event -/

/-- Of mailboxes changed one after the other where a condition on each holds, each is changed at most once, and no other is. -/
theorem foldl_modBox_box {c : Fin 38 → Mailbox → Bool} {f : Mailbox → Mailbox} (j : Fin 38) :
    ∀ (is : List (Fin 38)) (s : State), is.Nodup →
    (is.foldl (fun s i => if c i (s.box i) then s.modBox i f else s) s).box j =
      if j ∈ is ∧ c j (s.box j) = true then f (s.box j) else s.box j
  | [], s, _ => by simp
  | i :: is, s, hnodup => by
    obtain ⟨hi, hnodup⟩ := List.nodup_cons.mp hnodup
    rw [List.foldl_cons, foldl_modBox_box j is _ hnodup]
    by_cases hij : i = j
    · subst hij
      by_cases hc : c i (s.box i) = true <;> simp [hc, hi]
    · have hother : (if c i (s.box i) = true then s.modBox i f else s).box j = s.box j := by
        split
        · simp [State.box, State.modBox, updAt, Fin.val_ne_of_ne hij]
        · rfl
      simp [hother, Ne.symm hij]

theorem State.deliver_box (s : State) (ev : Nat) (data : Word) (st : Stamp) (d : EvDest) (i : Fin 38) :
    (s.deliver ev data st d).box i = if (s.box i).bound i ev d then ((s.box i).push ev data st).settle else s.box i := by
  have h := foldl_modBox_box (c := fun i m => m.bound i ev d) (f := fun m => (m.push ev data st).settle) i (List.finRange 38) s
    (List.nodup_finRange 38)
  simpa [State.deliver] using h

/-- Of the mailboxes' family, an event entered changes the mailboxes only. -/
theorem State.deliver_mbx (s : State) (ev : Nat) (data : Word) (st : Stamp) (d : EvDest) :
    { (s.deliver ev data st d).mbx with boxes := s.mbx.boxes } = s.mbx :=
  foldl_keeps (fun t : State => { t.mbx with boxes := s.mbx.boxes }) _ (fun t i => by split <;> rfl) _ s

theorem State.raiseW_of_running {s : State} (h : s.mbx.restart = false) (ev : Nat) (data : Word) (d : EvDest) :
    s.raiseW ev data d = s.deliver ev data s.now d := by
  simp [State.raiseW, State.raiseAt, h]

/-- Only the mailboxes and the record of what was sent change when an event is entered. -/
theorem State.deliver_frame (s : State) (ev : Nat) (data : Word) (st : Stamp) (d : EvDest) :
    { s.deliver ev data st d with mbx := s.mbx, outbox := s.outbox } = s := by
  simp

/-- Settles O9: `State.deliver` by the mailbox, `Mailbox.settle` by the number of entries that wait, and `State.raiseAt` in a control
restart by how many events are held. -/
theorem eventsReachTheMailboxesBoundForThem : Obligations.EventsReachTheMailboxesBoundForThem := by
  refine ⟨fun s ev data d h => ?_, Mailbox.settle_slotsOnly, fun m => Mailbox.settle_of_used_le_one, fun m a b hused hb ha hst hev => ?_,
    fun s ev data d h hroom => ?_, fun s ev data d h hfull => ?_⟩
  · rw [State.raiseW_of_running h]
    exact ⟨s.deliver_box ev data s.now d, s.deliver_frame .., s.deliver_mbx ..⟩
  · have hne : (m.prod + 65534) % 65536 % 256 ≠ (m.prod + 65535) % 65536 % 256 := by omega
    rw [Mailbox.settle_two hused hb ha hst hev, Mailbox.slot_swap, Mailbox.slot_swap, ha, hb]
    simp only [Option.map_some, if_true, if_neg hne]
    exact ⟨trivial, trivial⟩
  · simp [State.raiseW, State.raiseAt, h, hroom]
  · simp [State.raiseW, State.raiseAt, h, Nat.not_lt.mpr hfull]

/-! ### Submitting a request -/

section Submit

variable {s : State} {r : Waiting} (hrun : s.mbx.running = none) (hrestart : s.mbx.restart = false) (hwait : s.mbx.waiting = [])

include hrun hrestart hwait

/-- A request that is taken at once, by the outcome of its checks (R42, R53). -/
theorem State.submit_of_idle : s.submit r = (s.checkRequest r).elim { s with mbx.running := some { req := r } } fun c =>
    if c = 0x20 ∨ c = 0x21 then
      { s with mbx.running := some { req := r, resp := some { result := c } }, mbx.authRefused := bump s.mbx.authRefused }.raiseRated
        3 r.src.code 1 [(r.src.code, 8), (c, 8), (r.opcode, 16)]
    else { s with mbx.running := some { req := r, resp := some { result := c } } } := by
  unfold State.submit State.startNext
  split
  next r' rest _ _ hnext =>
    obtain ⟨rfl, rfl⟩ : r = r' ∧ s.mbx.waiting = rest := by simpa [hwait] using hnext
    change (match s.checkRequest r with | none => _ | some c => _) = _
    cases s.checkRequest r <;> rfl
  next hnot => exact absurd (congrArg (· ++ [r]) hwait) (hnot r [] hrun hrestart)

end Submit

/-- The class check refuses with one of two codes. -/
theorem State.checkClass_code {s : State} {x : OpInfo} {r : Waiting} {c : Nat} (h : s.checkClass x r = some c) : c = 0x20 ∨ c = 0x21 := by
  unfold State.checkClass at h
  grind

/-- Settles O10: `State.submit` of a request taken at once, by the outcome of `State.checkRequest`. -/
theorem requestsAreCheckedInOrder : Obligations.RequestsAreCheckedInOrder := by
  refine ⟨fun s r hrun hres hwait hop => ?_, fun s r x c hrun hres hwait hop hcls => ?_, fun s r x hrun hres hwait hop hcls hlen => ?_,
    fun s r x hrun hres hwait hop hcls hlen hgold hstart => ?_⟩
  all_goals rw [State.submit_of_idle hrun hres hwait, State.checkRequest]
  · simp [hop]
  · have hc := State.checkClass_code hcls
    simp [hop, hcls, hc]
  · simp [hop, hcls, hlen]
  · simp [hop, hcls, hlen, hgold, hstart]

end Sys2Proof.Machine

/-! Mailboxes: what a command that runs does, window accesses, frames and PEER commands, and the system reports (02_mailboxes.md). -/

namespace Sys2Proof.Machine

open Sys2Proof

/-! ### A command that runs -/

section Running

variable {s : State} {op : Nat} {r : Waiting} (h : s.runningOp op = some r)

include h

/-- A row whose command runs carries it out and keeps its response (R39). -/
theorem runCmd_of_running (f : Waiting → State → State × Response) : runCmd op s f = .next ((f r s).1.respond (f r s).2) := by
  rw [runCmd, h]

/-- A row that only reports changes nothing but the response. -/
theorem runRead_of_running (f : Waiting → State → Response) : runRead op s f = .next (s.respond (f r s)) := runCmd_of_running h _

end Running

/-! ### Doorbells and window accesses -/

/-- A doorbell of a mailbox that waits for one (R39). -/
theorem State.doorbell_of_ready {s : State} {i : Fin 38} (h : (s.box i).st = .idle ∨ (s.box i).st = .done) (r : Waiting) :
    s.doorbell i r = (s.modBox i fun m => { m with st := .busy, respArea := [] }).submit r := by
  rw [State.doorbell, if_pos (by simpa using h)]

/-- A doorbell of a mailbox that is busy or offline is ignored (R39). -/
theorem State.doorbell_of_not_ready {s : State} {i : Fin 38} (h : (s.box i).st = .busy ∨ (s.box i).st = .offline) (r : Waiting) :
    s.doorbell i r = s.modBox i fun m => { m with dbIgnored := true } := by
  rw [State.doorbell, if_neg]
  rcases h with h | h <;> simp [h]

theorem State.ringOne_of_on {s : State} {i : Fin 38} (h : s.windowOn i = true) :
    s.ringOne i = (s.spiHeard i).doorbell i ((s.box i).image (.win i)) := by
  rw [State.ringOne, if_pos h]

theorem State.ringOne_of_off {s : State} {i : Fin 38} (h : s.windowOn i = false) : s.ringOne i = s := by
  rw [State.ringOne, h]
  rfl

/-- Settles O12: `State.ringOne` and `State.doorbell` by the state of the mailbox, the other accesses by the test each begins with. -/
theorem windowWritesDoWhatTheirRegistersSay : Obligations.WindowWritesDoWhatTheirRegistersSay := by
  refine ⟨fun box v also s => rfl, fun i s hon hst => ?_, fun i s hon hst => ?_, fun i s hoff => State.ringOne_of_off hoff,
    fun box c s => ?_, fun box s => ?_, fun box o v s => ?_, fun i o v s hring hcons => ?_, fun i a d s hbad => ?_, fun i a d s hi ha hoff => ?_,
    fun a d s ha hon => ?_, fun a d s ha hon => ?_, fun box w o e v s hbox ho hmod he hon => ?_, fun box w o v s hbox ho hmod hon => ?_,
    fun box w o e v s h => ?_⟩
  · rw [State.ringOne_of_on hon, State.doorbell_of_ready (by rwa [State.box_spiHeard])]
  · rw [State.ringOne_of_on hon, State.doorbell_of_not_ready (by rwa [State.box_spiHeard])]
  · show execEvqConsWrite box c s = _
    by_cases hon : s.windowOn box <;> by_cases hle : ((s.box box).prod + 65536 - c.toNat) % 65536 ≤ 256 <;> simp [execEvqConsWrite, hon, hle]
  · show execEvqPendClear box s = _
    by_cases hon : s.windowOn box <;> by_cases heq : (s.box box).prod = (s.box box).cons <;> simp [execEvqPendClear, hon, heq]
  · show execRegisterWrite box o v s = _
    by_cases hon : s.windowOn box <;> by_cases hmod : o % 4 = 0 <;> simp [execRegisterWrite, hon, hmod]
  · rw [State.windowWrite, if_neg hring, if_neg hcons]
  · show execMgmtSpiBadTransaction i ⟨a, d⟩ s = _
    rw [execMgmtSpiBadTransaction, if_pos (by simpa using hbad)]
  · show execMgmtSpiBadTransaction i ⟨a, d⟩ s = _
    rcases hi with rfl | rfl <;> simp [execMgmtSpiBadTransaction, ha, hoff]
  · show execMgmtSpiBadTransaction 0x02 ⟨a, d⟩ s = _
    simp [execMgmtSpiBadTransaction, ha, hon]
  · show execMgmtSpiBadTransaction 0x0B ⟨a, d⟩ s = _
    simp [execMgmtSpiBadTransaction, ha, hon]
  · show execPciePartialWindowAccess box w o e v s = _
    have he' : ¬ e = 0xF := he
    cases w <;> simp only [execPciePartialWindowAccess, hbox, hon, ho, hmod, if_neg he'] <;> rfl
  · show execPciePartialWindowAccess box w o 0xF v s = _
    cases w <;> simp [execPciePartialWindowAccess, hbox, hon, ho, hmod]
  · show execPciePartialWindowAccess box w o e v s = _
    rw [execPciePartialWindowAccess, if_neg]
    simp only [Bool.and_eq_true, decide_eq_true_eq, beq_iff_eq]
    rintro ⟨⟨⟨hpcie, hon⟩, ho⟩, hmod⟩
    rcases h with h | h | h | h
    · exact absurd hpcie (Nat.not_le.mpr h)
    · exact absurd ho (Nat.not_lt.mpr h)
    · exact h hmod
    · exact Bool.false_ne_true (h.symm.trans hon)

/-! ### Frames of SVC_UART -/

/-- Before SYNC the receiver skips bytes; from SYNC on it takes TYPE and LEN first (R36). -/
theorem rxStep_of_badLen {ty l0 l1 : Byte} {rest : List Byte} (h : l0.toNat + 256 * l1.toNat < 8 ∨ 4096 < l0.toNat + 256 * l1.toNat) :
    rxStep (0xA5 :: ty :: l0 :: l1 :: rest) = .bad rest := by
  rw [rxStep, List.dropWhile_cons_of_neg (by decide)]
  exact if_pos (by simpa using h)

/-- A whole frame with a good LEN, by its TYPE and CRC (R36). -/
theorem rxStep_of_frame {ty l0 l1 c0 c1 : Byte} {p rest : List Byte} (hlen : p.length = l0.toNat + 256 * l1.toNat) (hmin : 8 ≤ p.length)
    (hmax : p.length ≤ 4096) : rxStep (0xA5 :: ty :: l0 :: l1 :: (p ++ c0 :: c1 :: rest)) =
      if ty = 0x01 ∧ [c0, c1] = [(crc16Frame (ty :: l0 :: l1 :: p)).extractLsb' 0 8, (crc16Frame (ty :: l0 :: l1 :: p)).extractLsb' 8 8] then
        .good p rest
      else .bad rest := by
  have htake : (p ++ c0 :: c1 :: rest).take (l0.toNat + 256 * l1.toNat) = p := by rw [← hlen, List.take_left]
  have hcrc : (p ++ c0 :: c1 :: rest).drop (l0.toNat + 256 * l1.toNat) = c0 :: c1 :: rest := by rw [← hlen, List.drop_left]
  have hrest : (p ++ c0 :: c1 :: rest).drop (l0.toNat + 256 * l1.toNat + 2) = rest := by rw [← List.drop_drop, hcrc]; rfl
  have hok : ¬ ((decide (l0.toNat + 256 * l1.toNat < 8) || decide (4096 < l0.toNat + 256 * l1.toNat)) = true) := by simp; omega
  have hwhole : ¬ (p ++ c0 :: c1 :: rest).length < l0.toNat + 256 * l1.toNat + 2 := by simp; omega
  rw [rxStep, List.dropWhile_cons_of_neg (by decide)]
  dsimp only
  rw [if_neg hok, if_neg hwhole, htake, hcrc, hrest]
  simp

/-- Settles O13: `rxStep` on the frames of R36, and each row by its test and by what the receiver makes of its bytes. -/
theorem framedAndPeerMailboxesTakeRequests : Obligations.FramedAndPeerMailboxesTakeRequests := by
  refine ⟨fun box sk hd pl cr bytes held s hb hon hrx => ?_, fun box sk hd pl cr bytes rest s hb hon hrx => ?_,
    fun box sk hd pl cr bytes payload rest s hb hon hrx => ?_, fun box sk hd pl cr s hoff => ?_, fun l0 l1 p rest hlen hmin hmax => ?_,
    fun ty l0 l1 c0 c1 p rest hlen hmin hmax hbad => ?_, fun ty l0 l1 rest h => rxStep_of_badLen h, fun box s hon hrx => ?_, fun box s h => ?_,
    fun box e s hon hne hslot => ?_, fun box s h => ?_, fun tun p op len tag d s => ?_⟩
  · subst hb
    show execSvcRequestFrame box sk hd pl cr s = _
    rw [execSvcRequestFrame, if_pos hon, hrx]
  · subst hb
    show execSvcRequestFrame box sk hd pl cr s = _
    rw [execSvcRequestFrame, if_pos hon, hrx]
  · subst hb
    show execSvcRequestFrame box sk hd pl cr s = _
    rw [execSvcRequestFrame, if_pos hon, hrx]
  · show execSvcRequestFrame box sk hd pl cr s = _
    rw [execSvcRequestFrame, hoff]
    rfl
  · simpa using (rxStep_of_frame hlen hmin hmax).trans (if_pos ⟨rfl, rfl⟩)
  · have hnot : ¬ (ty = 0x01 ∧ [c0, c1] = [(crc16Frame (ty :: l0 :: l1 :: p)).extractLsb' 0 8, (crc16Frame (ty :: l0 :: l1 :: p)).extractLsb' 8 8]) :=
      fun h => hbad.elim (· h.1) (· h.2)
    simpa using (rxStep_of_frame hlen hmin hmax).trans (if_neg hnot)
  · show execSvcFrameGapTimeout box s = _
    simp [execSvcFrameGapTimeout, hon, hrx]
  · show execSvcFrameGapTimeout box s = _
    rcases h with h | h <;> simp [execSvcFrameGapTimeout, h]
  · show execSvcEventFrameSend box s = _
    simp [execSvcEventFrameSend, hon, hne, hslot]
  · show execSvcEventFrameSend box s = _
    rcases h with h | h <;> simp [execSvcEventFrameSend, h]
  · show execPeerCommandPdu tun p op len tag d s = _
    cases hopen : s.mailboxTunnel tun <;> by_cases hfull : 64 ≤ s.peerWaiting <;> simp [execPeerCommandPdu, hopen, hfull]

end Sys2Proof.Machine

namespace Sys2Proof.Machine
open Sys2Proof

/-! Rules that more than one obligation uses. -/

/-- A port that is ACTIVE loses its link; another stays as it is (R131). -/
theorem State.linkLost_eq (s : State) (p cause lseq : Nat) :
    s.linkLost p cause lseq = if (s.tp p).st = .active then s.leaveActive p cause (some (s.tp p).rate) lseq else s := by
  simp only [State.linkLost, beq_iff_eq]

/-- What a change of a trunk port does is read of the port as it stands. -/
theorem State.modTp_congr {s : State} {p : Fin 4} {f g : TrunkPort → TrunkPort} (h : f (s.tp p.val) = g (s.tp p.val)) :
    s.modTp p.val f = s.modTp p.val g := by
  have htp : s.tp p.val = s.trunk[p.val] := by simp [State.tp, Vector.getD, p.isLt]
  rw [htp] at h
  rw [State.modTp, State.modTp, modAt, modAt, dif_pos p.isLt, dif_pos p.isLt, h]
/-- A fold whose every step leaves the state alone leaves it alone. -/
theorem foldl_of_fixed {α β : Type} {f : α → β → α} {a : α} {ks : List β} (h : ∀ k ∈ ks, f a k = a) : ks.foldl f a = a := by
  induction ks with
  | nil => rfl
  | cons k ks ih => rw [List.foldl_cons, h k List.mem_cons_self, ih fun j hj => h j (List.mem_cons_of_mem k hj)]

/-- A field of a request word is below the power of its width. -/
theorem Waiting.f_lt (r : Waiting) (n hi lo : Nat) : r.f n hi lo < 2 ^ (hi + 1 - lo) := Nat.mod_lt _ (Nat.two_pow_pos _)

end Sys2Proof.Machine

/-! System reports, the service window and the event mask (01_topology.md, 02_mailboxes.md, 17_startup.md). -/

namespace Sys2Proof.Machine

open Sys2Proof

/-- Settles O14: each report from its words, the service window by the minutes it has, EVT.MASK by the mailbox that names it. -/
theorem systemReportsHaveTheirWords : Obligations.SystemReportsHaveTheirWords := by
  refine ⟨?_, ?_, ?_, ?_, ?_, ?_, ?_, ?_, ?_, ?_⟩
  · intro s r hr
    show execSysStatus .. = _
    rw [execSysStatus, runRead_of_running hr]
    split <;> rfl
  · intro s r hr
    show execSysCounters .. = _
    rw [execSysCounters, runCmd_of_running hr]
    rfl
  · intro s r hr
    show execSysTopo .. = _
    rw [execSysTopo, runRead_of_running hr]
    split <;> rfl
  · intro s r hr hword
    show execSysSvcWindow .. = _
    simp [execSysSvcWindow, runCmd_of_running hr, hword]
  · intro s r m hr hword hsvcWindow
    show execSysSvcWindow .. = _
    simp only [execSysSvcWindow, runCmd_of_running hr, hword, hsvcWindow]
    rfl
  · intro s r hr hword hsvcWindow
    show execSysSvcWindow .. = _
    simp only [execSysSvcWindow, runCmd_of_running hr, hword, hsvcWindow]
    rfl
  · intro s hsvcWindow
    show execSvcWindowExpiry .. = _
    rw [execSvcWindowExpiry, hsvcWindow]
  · intro s m hsvcWindow
    show execSvcWindowExpiry .. = _
    rw [execSvcWindowExpiry, hsvcWindow]
  · intro s r hr
    show execCfgClamplog .. = _
    rw [execCfgClamplog, runRead_of_running hr]
  · intro s r i hr hsrc
    show execEvtMask .. = _
    simp only [execEvtMask, runCmd_of_running hr, hsrc]
    split <;> rfl

end Sys2Proof.Machine

/-! Guyline Sync and Delay messages (03_phase_base.md). -/

namespace Sys2Proof.Machine

open Sys2Proof

section GuylineLemmas

variable (s : State)

@[simp] theorem State.armFrame_phase (h k : Nat) : (s.armFrame h k).phase = s.phase := by
  rw [State.armFrame]
  split <;> rfl

@[simp] theorem State.armFrame_time (h k : Nat) : (s.armFrame h k).time = s.time := by
  rw [State.armFrame]
  split <;> rfl

/-- The entries that go on over a new phase are the scheduler's: phase and time stay. -/
theorem State.rearmKept_phase_time : s.rearmKept.phase = s.phase ∧ s.rearmKept.time = s.time := by
  have hmeter (t : State) (c : Nat) : (t.rearmMeter c).phase = t.phase ∧ (t.rearmMeter c).time = t.time := by
    rw [State.rearmMeter]
    split <;> exact ⟨rfl, rfl⟩
  have hframes : s.rearmFrames.phase = s.phase ∧ s.rearmFrames.time = s.time := by
    simp only [State.rearmFrames, State.rearmFrame, List.foldl_cons, List.foldl_nil]
    split <;> split <;> simp
  have hlantern (t : State) : t.realignLantern.phase = t.phase ∧ t.realignLantern.time = t.time := ⟨rfl, rfl⟩
  rw [State.rearmKept, (hlantern _).1, (hlantern _).2, (hmeter _ _).1, (hmeter _ _).2]
  exact hframes

theorem State.setPhase_phase (n : PhState) : (s.setPhase n).phase = { s.phase with st := n } := by
  rw [State.setPhase]
  split
  · next h => rw [← h]
  · simp

@[simp] theorem State.setPhase_time (n : PhState) : (s.setPhase n).time = s.time := by
  rw [State.setPhase]
  split <;> simp

@[simp] theorem State.timeFirstLock_phase (k : Nat) : (s.timeFirstLock k).phase = s.phase := by
  rw [State.timeFirstLock]
  split <;> simp

theorem State.timeFirstLock_time (k : Nat) : ∃ st, (s.timeFirstLock k).time = { s.time with st } := by
  rw [State.timeFirstLock]
  split
  · exact ⟨.locked, by simp⟩
  · exact ⟨s.time.st, rfl⟩

@[simp] theorem State.synthOffset_time : s.synthOffset.time = s.time := by
  rw [State.synthOffset]
  split <;> rfl

/-- The offset of a synthetic phase is no part of the count, its rate or its generation. -/
theorem State.synthOffset_phase : ∃ o h e, s.synthOffset.phase = { s.phase with offset := o, offsetHeld := h, edgeArcs := e } := by
  rw [State.synthOffset]
  split
  · exact ⟨_, _, _, rfl⟩
  · exact ⟨_, _, _, rfl⟩

end GuylineLemmas

/-- Settles O16: each message by the link it comes on; the Sync in ACQUIRE from what `timeFirstLock`, `setPhase` and `rearmKept`
leave of phase and time. -/
theorem guylineMessagesCarryTimeAndPhase : Obligations.GuylineMessagesCarryTimeAndPhase := by
  refine ⟨?_, ?_, ?_, ?_, ?_, ?_, ?_, ?_, ?_, ?_⟩
  · intro s
    rfl
  · intro s
    rfl
  · intro s p hguylineSends hguylineDown
    show execGuylineDelayRequest .. = _
    simp [execGuylineDelayRequest, State.guyDelayReq, hguylineSends, hguylineDown]
  · intro s p hguylineSends
    show execGuylineDelayRequest .. = _
    rcases hguylineSends with hguylineSends | hguylineSends <;> simp [execGuylineDelayRequest, State.guyDelayReq, hguylineSends]
  · intro s p rx hguylineUp
    show execGuylineDelayResponse .. = _
    simp [execGuylineDelayResponse, State.guyDelayResp, hguylineUp]
  · intro s p rx hguylineUp
    show execGuylineDelayResponse .. = _
    simp [execGuylineDelayResponse, State.guyDelayResp, hguylineUp]
  · intro s p fl dp g af oF ref o fq hup
    show execGuylineSync p fl g dp ref af ⟨o, oF⟩ fq s = _
    simp [execGuylineSync, State.guySync, hup]
  · intro s p fl dp g af oF ref o fq hup hst
    show ∃ t, execGuylineSync p fl g dp ref af ⟨o, oF⟩ fq s = .next t ∧ _
    refine ⟨_, rfl, ?_⟩
    simp only [State.guySync, hup, hst, Bool.not_true, Bool.false_eq_true, if_false, beq_self_eq_true, if_true]
    generalize hu : State.syncStep _ _ _ _ _ = u
    have hn : u.time.ns = ((o : Int) + s.syncDelay p).toNat := by rw [← hu]; rfl
    have hsub : u.time.sub = oF.toNat * 10000000000 / 65536 := by rw [← hu]; rfl
    have hgen : u.phase.gen = g.toNat := by rw [← hu]; rfl
    have hfreq : u.phase.freq = fq.toNat := by rw [← hu]; rfl
    have hcount : (u.phase.count, u.phase.sub) = syncPhase ref af (s.syncDelay p) fq.toNat := by rw [← hu]; rfl
    obtain ⟨ts, htime⟩ := u.timeFirstLock_time 2
    obtain ⟨off, held, arcs, hph⟩ := ((u.timeFirstLock 2).setPhase (syncState fl)).synthOffset_phase
    rw [State.setPhase_phase, State.timeFirstLock_phase] at hph
    generalize hv : (((u.timeFirstLock 2).setPhase (syncState fl)).synthOffset) = v at hph ⊢
    have hvt : v.time = { u.time with st := ts } := by rw [← hv, State.synthOffset_time, State.setPhase_time, htime]
    obtain ⟨hkp, hkt⟩ := v.startWindows.rearmKept_phase_time
    rw [hkp, hkt]
    have hsp : v.startWindows.phase = v.phase := rfl
    have hst : v.startWindows.time = v.time := rfl
    rw [hsp, hst, hph, hvt]
    exact ⟨hn, hsub, hgen, hfreq, hcount⟩
  · intro s hroot hst hrep
    show ∃ t, execGuylineLoss s = .next t ∧ _
    have hgo : (s.isRoot || s.phase.st == .acquire || s.phase.lossReported) = false := by simp [hroot, hst, hrep]
    refine ⟨_, rfl, ?_⟩
    simp [State.loseGuyline, hgo, State.dropGuyline, State.setPhase_phase]
  · intro s hisRoot
    show execGuylineLoss .. = _
    rcases hisRoot with hisRoot | hisRoot | hisRoot <;> simp [execGuylineLoss, State.loseGuyline, hisRoot]

end Sys2Proof.Machine

/-! Phase and time commands (03_phase_base.md). -/

namespace Sys2Proof.Machine

open Sys2Proof

/-- Settles O17: the reports from their words, PHASE.ARM by base, phase state and room in the pool, TIME.RESTEP by the hub's
place in the tree. -/
theorem phaseAndTimeCommandsAnswer : Obligations.PhaseAndTimeCommandsAnswer := by
  refine ⟨?_, ?_, ?_, ?_, ?_, ?_, ?_, ?_, ?_, ?_, ?_, ?_, ?_⟩
  · intro s r hr
    show execPhaseStatus .. = _
    rw [execPhaseStatus, runRead_of_running hr]
  · intro s r hr
    show execTimeStatus .. = _
    rw [execTimeStatus, runRead_of_running hr]
  · intro s r hr hword hst
    show execPhaseArm .. = _
    simp only [execPhaseArm, runCmd_of_running hr, hst]
    split <;> simp_all
  · intro s r hr hword hst
    show execPhaseArm .. = _
    simp only [execPhaseArm, runCmd_of_running hr, hword, hst]
    rfl
  · intro s r b a p v c hr hbase haction hb ha hready hinst hp
    have hgo : ¬(b = 2 ∧ s.time.st = .unset) ∧ ¬(b ≠ 2 ∧ s.phase.st = .acquire) := by
      split at hready
      · next h => exact ⟨fun hu => hready hu.2, fun hu => hu.1 h⟩
      · next h => exact ⟨fun hu => h hu.1, fun hu => hready hu.2⟩
    show execPhaseArm s = _
    simp only [execPhaseArm, runCmd_of_running hr, hbase, haction, Nat.ne_of_lt hb, if_false, if_pos ha, hgo, hinst, ← hp]
    split <;> simp_all
  · intro s r b v s' e' hr hword hword' hst happlyInstant htoNat harmEntry
    show execPhaseArm .. = _
    simp [execPhaseArm, runCmd_of_running hr, hword, hword', hst, happlyInstant, htoNat, harmEntry]
  · intro s r hr
    show execPhaseCancel .. = _
    rw [execPhaseCancel, runCmd_of_running hr]
  · intro s r hr hword hword'
    show execTimeConvert .. = _
    simp only [execTimeConvert, runRead_of_running hr, hword, hword']
    rfl
  · intro s r hr hfrom hto hne
    have hclamp : (r.f 0 3 2 == 3 || r.f 0 1 0 == 3) = false := by simp [Nat.ne_of_lt hfrom, Nat.ne_of_lt hto]
    show execTimeConvert s = _
    simp [execTimeConvert, runRead_of_running hr, Nat.ne_of_lt hfrom, Nat.ne_of_lt hto, hne, okC, okR, b2n]
  · intro s r hr hisRoot hsource hlen
    show execTimeRestep .. = _
    simp [execTimeRestep, runCmd_of_running hr, hisRoot, hsource, hlen]
  · intro s r hr hisRoot hsource
    show execTimeRestep .. = _
    rcases hsource with hsource | hsource <;> simp [execTimeRestep, runCmd_of_running hr, hisRoot, hsource]
  · intro s r hr hisRoot hst
    show execTimeRestep .. = _
    simp only [execTimeRestep, runCmd_of_running hr, hisRoot, hst]
    rfl
  · intro s r hr hisRoot hst
    show execTimeRestep .. = _
    simp [execTimeRestep, runCmd_of_running hr, hisRoot, hst]

end Sys2Proof.Machine

/-! Trunk ports: lane search, HELLO and lane changes (04_trunk_link.md). -/

namespace Sys2Proof.Machine

open Sys2Proof

/-- Settles O19: each row by the state of its port, then by the lanes that have aligned or that the message names. -/
theorem trunkPortsTrainAndEnterHello : Obligations.TrunkPortsTrainAndEnterHello := by
  refine ⟨?_, ?_, ?_, ?_, ?_, ?_, ?_, ?_, ?_, ?_, ?_, ?_, ?_, ?_, ?_, ?_, ?_, ?_, ?_⟩
  · intro s p a b hst
    show execLinkRxAlign .. = _
    simp [execLinkRxAlign, hst]
  · intro s p a b hst
    show execLinkRxAlign .. = _
    simp only [execLinkRxAlign, hst]
    grind
  · intro s p hst
    show execLinkAttemptExpiry .. = _
    simp [execLinkAttemptExpiry, hst]
  · intro s p hst haligned
    show execLinkAttemptExpiry .. = _
    rcases haligned with haligned | haligned <;> simp [execLinkAttemptExpiry, hst, haligned]
  · intro s p hst haligned haligned'
    show execLinkAttemptExpiry .. = _
    unfold execLinkAttemptExpiry
    split <;> simp_all
  · intro s p hst
    show execLinkHelloSend .. = _
    rcases hst with hst | hst <;> simp [execLinkHelloSend, hst]
  · intro s p hst
    show execLinkHelloSend .. = _
    rcases hst with hst | hst <;> simp [execLinkHelloSend, hst]
  · intro s p f dp v n h ro hst
    show execLinkHelloReceive .. = _
    rcases hst with hst | hst <;> simp [execLinkHelloReceive, State.hello, hst]
  · intro s p f dp v n h ro hst
    show execLinkHelloReceive p f h dp v n ro s = _
    simp [execLinkHelloReceive, State.hello, hst, neighbourOf]
  · intro s p f dp v n h ro hst
    show execLinkHelloReceive p f h dp v n ro s = _
    have hversion (k : Neighbour) (d : Nat) : ((s.modTp p.val fun t => { t with nb := some k }).noteBelow p d).version = s.version := rfl
    simp [execLinkHelloReceive, State.hello, hst, neighbourOf, hversion]
  · intro s p
    show execLinkHelloTimeout .. = _
    simp [execLinkHelloTimeout]
  · intro s p l
    show execLaneLockLoss p (some l) s = _
    simp [execLaneLockLoss, State.dropLane]
  · intro s p
    show execLaneLockLoss p none s = _
    rw [execLaneLockLoss, State.linkLost_eq]
  · intro s p l hst htwoLanes
    show execLaneDropMessage .. = _
    simp [execLaneDropMessage, State.laneDrop, hst, htwoLanes]
  · intro s p l htwoLanes
    show execLaneDropMessage .. = _
    simp [execLaneDropMessage, State.laneDrop, htwoLanes]
  · intro s p l hno
    refine ⟨?_, fun e => ?_⟩
    · show execLaneSearchAlign p l s = _
      simp [execLaneSearchAlign, hno]
    · show execLaneAddMessage p l e s = _
      simp [execLaneAddMessage, State.laneAdd, hno]
  · intro s p l hlaneMayReturn
    show execLaneAddMessage .. = _
    simp [execLaneAddMessage, State.laneAdd, hlaneMayReturn]
  · intro s p l hlaneMayReturn
    show execLaneSearchAlign .. = _
    rw [execLaneSearchAlign, if_pos hlaneMayReturn]
  · intro s p l hlaneMayReturn
    show execLaneAddMessage .. = _
    simp [execLaneAddMessage, State.laneAdd, hlaneMayReturn]

end Sys2Proof.Machine

/-! Trunk ports: cells, credit, replay and keepalive (04_trunk_link.md). -/

namespace Sys2Proof.Machine

open Sys2Proof

/-- Settles O20: each row by the state of its port, CELL_SLOT_TRANSMIT by each of the four. -/
theorem trunkPortsKeepTheLinkAlive : Obligations.TrunkPortsKeepTheLinkAlive := by
  refine ⟨?_, ?_, ?_, ?_, ?_, ?_, ?_, ?_, ?_, ?_, ?_, ?_, ?_, ?_, ?_, ?_, ?_⟩
  · intro s p c k a b o hst hst'
    show execCellReceive .. = _
    simp [execCellReceive, hst, hst']
  · intro s p c k a b o hst
    show execCellReceive .. = _
    rcases hst with hst | hst <;> simp_all [execCellReceive, State.tp, State.receiveCell, State.fecCounts]
  · intro s p e hst
    show execCellSlotTransmit .. = _
    rw [execCellSlotTransmit, hst]
  · intro s p e hst
    show execCellSlotTransmit .. = _
    rw [execCellSlotTransmit, hst]
  · intro s p e hst hlcq
    show execCellSlotTransmit .. = _
    simp [execCellSlotTransmit, hst, hlcq]
  · intro s p e m ms hst hlcq
    show execCellSlotTransmit .. = _
    simp [execCellSlotTransmit, hst, hlcq]
  · intro s p e hst
    show execCellSlotTransmit .. = _
    rw [execCellSlotTransmit, hst]
  · intro s p
    show execCreditCellDue .. = _
    simp [execCreditCellDue]
  · intro s p v hst h1 htoNat hcredit hvlWaits hgetD
    show execCreditStallTimeout .. = _
    simp [execCreditStallTimeout, hst, h1, htoNat, hcredit, hvlWaits, hgetD]
  · intro s p v hst
    show execCreditStallTimeout .. = _
    rcases hst with hst | hst | hst | hst | hst | hst <;> simp [execCreditStallTimeout, hst]
  · intro s p l hst
    have hactive : ((s.tp p.val).st == .active) = false := by simpa using hst
    refine ⟨?_, ?_⟩
    · show execReplayRequestReceive p l s = _
      simp [execReplayRequestReceive, hst]
    · show execReplayRequestWaitExpiry p s = _
      simp [execReplayRequestWaitExpiry, hst]
  · intro s p hreplayWait
    show execReplayRequestWaitExpiry .. = _
    simp [execReplayRequestWaitExpiry, hreplayWait]
  · intro s p l hst
    show execReplayRequestReceive .. = _
    rw [execReplayRequestReceive, hst]
    rfl
  · intro s p hst hwait hasked
    show execReplayRequestWaitExpiry p s = _
    have hasks : s.modTp p.val (fun t => { t with replayAsked := t.replayAsked + 1, reqDue := some t.expected }) =
        s.modTp p.val fun t => { t with replayAsked := t.replayAsked + 1, reqDue := some (s.tp p.val).expected } := State.modTp_congr rfl
    simp [execReplayRequestWaitExpiry, hst, hwait, Nat.not_le.mpr hasked, hasks]
  · intro s p hst hwait hasked
    show execReplayRequestWaitExpiry p s = _
    have htp (fs : List (Nat × Nat)) : (s.raise 36 fs).tp p.val = s.tp p.val := by simp [State.tp]
    simp [execReplayRequestWaitExpiry, hst, hwait, hasked, State.linkLost_eq, htp]
  · intro s p
    show execReplayTimeout .. = _
    simp [execReplayTimeout]
  · intro s p
    show execKeepaliveTimeout p s = _
    rw [execKeepaliveTimeout, State.linkLost_eq]

end Sys2Proof.Machine

/-! Link commands (04_trunk_link.md). -/

namespace Sys2Proof.Machine

open Sys2Proof

/-- Settles O21: the reports from their words, LINK.CONTROL and LINK.RING by whether the ACTION is one of those assigned. -/
theorem linkCommandsReportAndControlPorts : Obligations.LinkCommandsReportAndControlPorts := by
  refine ⟨?_, ?_, ?_, ?_, ?_, ?_⟩
  · intro s r hr
    show execLinkStatus .. = _
    rw [execLinkStatus, runRead_of_running hr]
  · intro s r hr
    show execLinkCounters .. = _
    rw [execLinkCounters, runCmd_of_running hr]
  · intro s r hr ha
    show execLinkControl s = _
    simp [execLinkControl, runCmd_of_running hr, ha, Nat.not_lt.mpr ha, okC, okR, b2n]
  · intro s r hr h6
    show execLinkControl .. = _
    simp only [execLinkControl, runCmd_of_running hr, State.linkAction]
    grind
  · intro s r hr hword
    show execLinkRing .. = _
    simp only [execLinkRing, runCmd_of_running hr, hword]
    rfl
  · intro s r hr ha
    show execLinkRing s = _
    simp [execLinkRing, runCmd_of_running hr, ha, okC, okR, b2n, and_assoc]

end Sys2Proof.Machine

/-! Ring surveys, notices and the revert (04_trunk_link.md). -/

namespace Sys2Proof.Machine

open Sys2Proof

section Notices

variable {s : State} {port : Fin 4} {w head nseq : Nat} {m : LinkMsg} {act : Nat → State → State}

/-- A notice on a port of no ring goes no further. -/
theorem State.takeNotice_of_noRing (h : s.ringOf port.val = none) : s.takeNotice port head nseq m act = s := by
  rw [State.takeNotice, h]

/-- A notice of another head, seen before or of a ring that is off goes no further. -/
theorem State.takeNotice_of_old (hring : s.ringOf port.val = some w)
    (hold : (s.rg w).on = false ∨ s.headOf w ≠ head ∨ (s.rg w).seen.contains (head, nseq) = true) :
    s.takeNotice port head nseq m act = s := by
  have hskip : (!(s.rg w).on || s.headOf w != head || (s.rg w).seen.contains (head, nseq)) = true := by
    rcases hold with h | h | h
    · rw [h]
      rfl
    · rw [bne_iff_ne.mpr h, Bool.or_true, Bool.true_or]
    · rw [h, Bool.or_true]
  simp only [State.takeNotice, hring, hskip, if_true]

/-- A new notice of the ring's head is remembered, takes effect and goes on out of the other ring port. -/
theorem State.takeNotice_of_new (hring : s.ringOf port.val = some w) (hon : (s.rg w).on = true) (hhead : s.headOf w = head)
    (hnew : (s.rg w).seen.contains (head, nseq) = false) :
    s.takeNotice port head nseq m act = ((act w (s.noteSeen w head nseq)).sendLc (s.otherPort w port.val) m).settle := by
  have hskip : (!(s.rg w).on || s.headOf w != head || (s.rg w).seen.contains (head, nseq)) = false := by
    rw [hon, hhead, hnew, bne_self_eq_false]
    rfl
  simp only [State.takeNotice, hring, hskip, Bool.false_eq_true, if_false]

end Notices

/-- Settles O22: the surveys by the ring of their port, the notices by `State.takeNotice_of_noRing`, `_of_old` and `_of_new`. -/
theorem ringsFollowTheirNotices : Obligations.RingsFollowTheirNotices := by
  refine ⟨?_, ?_, ?_, ?_, ?_, ?_, ?_, ?_, ?_, ?_, ?_, ?_, ?_, ?_⟩
  · intro s w
    show execRingSurveySend .. = _
    simp [execRingSurveySend]
  · intro s w
    show execRingSurveyTimeout .. = _
    unfold execRingSurveyTimeout
    split <;> simp_all
  · intro s p h a b c hringOf
    show execRingSurveyReceive .. = _
    simp [execRingSurveyReceive, State.survey, hringOf]
  · intro s p h l n hring
    show execRingFailReceive p h l n s = _
    rw [execRingFailReceive, State.ringFailIn, State.takeNotice_of_noRing hring]
  · intro s p h l n hold i hring
    show execRingRevertReceive p h l n hold i s = _
    rw [execRingRevertReceive, State.ringRevertIn, State.takeNotice_of_noRing hring]
  · intro s w
    show execRingWtrExpiry .. = _
    unfold execRingWtrExpiry
    split <;> simp_all
  · intro s w i hrevertAt
    show execRingRevertInstant .. = _
    rw [execRingRevertInstant, hrevertAt]
  · intro s w
    rfl
  · intro s w p h a b c hring hhead hid hport
    show execRingSurveyReceive p h a b c s = _
    simp [execRingSurveyReceive, State.survey, hring, hhead, hid, hport]
  · intro s p h a b c hring hhead
    show execRingSurveyReceive p h a b c s = _
    simp [execRingSurveyReceive, State.survey, hring, hhead]
  · intro s w p h l n hold i hring hskip
    refine ⟨?_, ?_, ?_⟩
    · show execRingFailReceive p h l n s = _
      rw [execRingFailReceive, State.ringFailIn, State.takeNotice_of_old hring hskip]
    · show execRingClearReceive p h l n s = _
      rw [execRingClearReceive, State.ringClearIn, State.takeNotice_of_old hring hskip]
    · show execRingRevertReceive p h l n hold i s = _
      rw [execRingRevertReceive, State.ringRevertIn, State.takeNotice_of_old hring hskip]
  · intro s w p h l n hold i hring hon hhead hnew
    refine ⟨?_, ?_, ?_⟩
    · show execRingFailReceive p h l n s = _
      rw [execRingFailReceive, State.ringFailIn, State.takeNotice_of_new hring hon hhead hnew]
    · show execRingClearReceive p h l n s = _
      rw [execRingClearReceive, State.ringClearIn, State.takeNotice_of_new hring hon hhead hnew]
    · show execRingRevertReceive p h l n hold i s = _
      rw [execRingRevertReceive, State.ringRevertIn, State.takeNotice_of_new hring hon hhead hnew]
  · intro s w p h a b c hringOf hheadsRing hhubId
    show execRingSurveyReceive .. = _
    simp only [execRingSurveyReceive, State.survey]
    grind
  · intro s w hrevertAt
    show execRingRevertInstant .. = _
    rw [execRingRevertInstant, hrevertAt]

end Sys2Proof.Machine

/-! Egress decisions, holds, barriers and Groundsheet errors (06_ridge.md). -/

namespace Sys2Proof.Machine

open Sys2Proof

theorem State.logErr_fwd (s : State) (cls unit outcome event detail : Nat) : (s.logErr cls unit outcome event detail).fwd = s.fwd := by
  rw [State.logErr]
  split <;> rfl

theorem State.startTest_fwd (s : State) (t : UnitTest) : (s.startTest t).fwd = s.fwd := by
  rw [State.startTest]
  split <;> rfl

/-- A row test takes the row out of use; the counters, the egresses and the cut-throughs stay. -/
theorem State.testRow_fwd (s : State) (bank row : Nat) : ∃ rows, (s.testRow bank row).fwd = { s.fwd with outRows := rows } :=
  ⟨_, State.startTest_fwd _ _⟩


/-- Settles O23: each row by whether its queue, barrier or context is there; a row test leaves the forwarding counters alone
(`State.testRow_fwd`). -/
theorem ridgeMovesCellsAndKeepsTheirOrder : Obligations.RidgeMovesCellsAndKeepsTheirOrder := by
  refine ⟨?_, ?_, ?_, ?_, ?_, ?_, ?_, ?_, ?_, ?_, ?_, ?_, ?_, ?_, ?_, ?_⟩
  · intro s e
    rfl
  · intro s hcut
    show execCrossbarSlot .. = _
    simp [execCrossbarSlot, hcut]
  · intro s i hfind
    show execSharedAdmitRetry .. = _
    rw [execSharedAdmitRetry, hfind]
  · intro s i k c hfind
    show execSharedAdmitRetry .. = _
    simp only [execSharedAdmitRetry, hfind]
    repeat' split
    all_goals rfl
  · intro s t b hentryOf
    show execRsqHoleTimeout .. = _
    rw [execRsqHoleTimeout, hentryOf]
  · intro s t b e hentryOf hheldCells
    show execRsqHoleTimeout .. = _
    simp [execRsqHoleTimeout, hentryOf, hheldCells]
  · intro s t k htunnelQueue hclosed hany
    show execOrderedHoldDrain .. = _
    simp only [execOrderedHoldDrain, htunnelQueue, hclosed, hany]
    rfl
  · intro s t k htunnelQueue hclosed
    show execOrderedHoldExpiry .. = _
    simp [execOrderedHoldExpiry, htunnelQueue, hclosed]
  · intro s
    rfl
  · intro s i b hfind hflush
    show execBarrierTimeout .. = _
    simp [execBarrierTimeout, hfind, hflush]
  · intro s b r i e n
    rfl
  · intro s b r i e hcut hegress
    show ∃ t, execGsEccError b r i e none s = .next t ∧ _
    simp only [execGsEccError]
    generalize hu : (((s.cntF 12 1).raise 64 [(b.val, 6), (r.val, 10)]).logErr 1 b.val 4 64 (2 ^ 31 + r.val)) = u
    have hfwd : u.fwd = (s.cntF 12 1).fwd := by rw [← hu, State.logErr_fwd, State.raise_fwd]
    obtain ⟨rows, hrow⟩ := u.testRow_fwd b.val r.val
    have hcut' : (u.testRow b.val r.val).fwd.cut = [] := by rw [hrow, hfwd]; exact hcut
    have hwindow : ((u.testRow b.val r.val).eg e.val).window = [] := by
      have he : (u.testRow b.val r.val).fwd.egress = Vector.replicate 16 {} := by rw [hrow, hfwd]; exact hegress
      have hlt : e.val < 16 := Nat.lt_trans e.isLt (by decide)
      simp [State.eg, he, Vector.getD, hlt]
    have hc : (u.testRow b.val r.val).fwd.c[12] = bump s.fwd.c[12] := by
      rw [hrow, hfwd]
      have hset : (s.cntF 12 1).fwd.c = s.fwd.c.set 12 (bump s.fwd.c[12]) := by simp [State.cntF, modAt, bump]
      simp [hset]
    rw [hcut', hwindow]
    exact ⟨_, rfl, hc⟩
  · intro s t b e hentryOf hheldCells
    show execRsqHoleTimeout .. = _
    simp [execRsqHoleTimeout, hentryOf, hheldCells]
  · intro s t hopen
    cases hq : s.tunnelQueue t.toNat with
    | none =>
      refine ⟨?_, ?_⟩
      · show execOrderedHoldDrain t s = _
        rw [execOrderedHoldDrain, hq]
      · show execOrderedHoldExpiry t s = _
        rw [execOrderedHoldExpiry, hq]
    | some k =>
      have hclosed : (s.queueOf k).closed = false := by simpa [hq] using hopen
      refine ⟨?_, ?_⟩
      · show execOrderedHoldDrain t s = _
        simp [execOrderedHoldDrain, hq, hclosed]
      · show execOrderedHoldExpiry t s = _
        simp [execOrderedHoldExpiry, hq, hclosed]
  · intro s i b hfind hflush
    show execBarrierTimeout .. = _
    simp [execBarrierTimeout, hfind, hflush]
  · intro s i hfind
    show execBarrierTimeout .. = _
    rw [execBarrierTimeout, hfind]

end Sys2Proof.Machine

/-! Forwarding commands (06_ridge.md). -/

namespace Sys2Proof.Machine

open Sys2Proof

/-- Settles O24: the reports from their words, FWD.SET and FWD.BARRIER by whether there is room. -/
theorem forwardingCommandsSetAndReportEntries : Obligations.ForwardingCommandsSetAndReportEntries := by
  refine ⟨?_, ?_, ?_, ?_, ?_, ?_, ?_, ?_⟩
  · intro s r hr
    show execFwdStatus .. = _
    rw [execFwdStatus, runRead_of_running hr]
  · intro s r hr
    show execFwdCounters .. = _
    rw [execFwdCounters, runCmd_of_running hr]
  · intro s r hr
    show execFwdGet .. = _
    rw [execFwdGet, runRead_of_running hr]
  · intro s r hr hbitAt hfld hentryOf h32768
    show execFwdSet .. = _
    simp [execFwdSet, runCmd_of_running hr, State.fwdSet, hbitAt, hfld, hentryOf, h32768]
  · intro s r hr hbitAt hfld hentryCount
    show execFwdSet .. = _
    simp only [execFwdSet, runCmd_of_running hr, State.fwdSet]
    grind
  · intro s r hr h3
    show execFwdBarrier .. = _
    rw [execFwdBarrier, runCmd_of_running hr]
    split <;> rfl
  · intro s r i hr hlength hsrc b t
    show execFwdBarrier .. = _
    simp only [execFwdBarrier, runCmd_of_running hr, hsrc]
    grind
  · intro s r hr
    show execFwdBarrierDone .. = _
    rw [execFwdBarrierDone, runRead_of_running hr]

end Sys2Proof.Machine

/-! Joining the tree (01_topology.md). -/

namespace Sys2Proof.Machine

open Sys2Proof

/-- The reasons the ROOT refuses with are 1 to 5: none is 255, the code of an admission. -/
theorem State.joinReason_lt {s : State} {hub depth version : Nat} {role : Role} {place : Place} {code reason : Nat}
    (h : s.joinReason hub depth version role place code = some reason) : reason < 255 := by
  simp only [State.joinReason] at h
  repeat' split at h
  all_goals simp at h
  all_goals omega

/-- A refusal goes back the way the request came, in six words. -/
theorem State.answerJoin_of_reason (s : State) (via : Option (Fin 4)) (carrier hub number hops : Nat) {reason : Nat} (h : reason < 255) :
    s.answerJoin via carrier hub reason number hops [] = { s with outbox := (match via with
      | some p => .join p [1, hub, reason, number, hops, s.sys.hubId]
      | none => .tun (((s.hubRec carrier).map (·.chan)).getD 0) 1 [1, hub, reason, number, hops, s.sys.hubId]) :: s.outbox } := by
  simp only [State.answerJoin, Nat.ne_of_lt h, if_false]
  cases via <;> rfl

/-- Settles O25: a request by `State.answerJoin_of_reason` at the ROOT and by its port elsewhere, a reply by whether it answers
a request that waits. -/
theorem joiningTheTreeIsAnswered : Obligations.JoiningTheTreeIsAnswered := by
  refine ⟨?_, ?_, ?_, ?_, ?_, ?_, ?_, ?_, ?_, ?_, ?_, ?_, ?_, ?_, ?_, ?_, ?_⟩
  · intro s p h ro d v c sh ok pl hblocked
    show execJoinRequest (some p) h ro d v c ⟨sh, ok⟩ pl s = _
    simp only [execJoinRequest, hblocked, if_true]
  · intro s p h ro d v c sh ok pl hopen hbad
    have hor : (s.isUpstream p || !s.joined) = true := by
      rcases hbad with hbad | hbad <;> simp [hbad]
    show execJoinRequest (some p) h ro d v c ⟨sh, ok⟩ pl s = _
    simp only [execJoinRequest, hopen, hor, Bool.false_eq_true, if_false, if_true]
  · intro s h ro d v c sh ok pl hnot
    show execJoinRequest none h ro d v c ⟨sh, ok⟩ pl s = _
    rcases hnot with hnot | hnot
    · simp [execJoinRequest, hnot]
    · simp [execJoinRequest, hnot]
  · intro s s' p code reason h ro d v c sh ok pl hjoined hup hopen hroot hcert hreason
    show execJoinRequest (some p) h ro d v c ⟨sh, ok⟩ pl s = _
    simp only [execJoinRequest, hopen, hup, hjoined, hroot, hcert, hreason, Bool.not_true, Bool.or_false, Bool.false_eq_true, if_false, if_true]
    rw [State.answerJoin_of_reason _ _ _ _ _ _ (State.joinReason_lt hreason)]
  · intro s s' code reason h ro d v c sh ok pl hjoined hroot hcert hreason
    show execJoinRequest none h ro d v c ⟨sh, ok⟩ pl s = _
    simp only [execJoinRequest, hjoined, hroot, hcert, hreason, Bool.not_true, Bool.or_false, Bool.false_eq_true, if_false, if_true]
    rw [State.answerJoin_of_reason _ _ _ _ _ _ (State.joinReason_lt hreason)]
  · intro s s' via h ro d v c sh pl hjoined hall hheadsTree hcheckCert hcase
    show execJoinRequest .. = _
    unfold execJoinRequest
    split <;> simp_all
  · intro s p h ro d v c sh ok pl hjoined hup hopen hroot
    show execJoinRequest (some p) h ro d v c ⟨sh, ok⟩ pl s = _
    simp only [execJoinRequest, hopen, hup, hjoined, hroot, Bool.not_true, Bool.or_false, Bool.false_eq_true, if_false]
    rfl
  · intro s p h r n ho re c sh ok hfind
    show execJoinReply none h (some re) r n ho ⟨c, sh, ok⟩ s = _
    simp only [execJoinReply, hfind]
    rfl
  · intro s p h r n ho c sh ok hfind
    show execJoinReply none h none r n ho ⟨c, sh, ok⟩ s = _
    simp only [execJoinReply, hfind]
    rfl
  · intro s h r n ho re c sh ok hfind
    show execJoinReply none h re r n ho ⟨c, sh, ok⟩ s = _
    simp only [execJoinReply, hfind]
  · intro s p h r n ho re c sh ok hblocked
    show execJoinReply (some p) h re r n ho ⟨c, sh, ok⟩ s = _
    simp only [execJoinReply, hblocked, if_true]
  · intro s p h r n ho re c sh ok hopen hnot
    have hand : (s.topo.join == .waiting && s.topo.upstream == some p && h.toNat == s.sys.hubId) = false := by
      rcases hnot with hnot | hnot | hnot <;> simp [hnot]
    show execJoinReply (some p) h re r n ho ⟨c, sh, ok⟩ s = _
    simp only [execJoinReply, hopen, hand, Bool.false_eq_true, if_false]
  · intro s p h r n ho re c sh ok hopen hwait hup hhub
    show execJoinReply (some p) h (some re) r n ho ⟨c, sh, ok⟩ s = _
    simp only [execJoinReply, hopen, hwait, hup, hhub, beq_self_eq_true, Bool.and_true, Bool.false_eq_true, if_false, if_true, State.joinRefused]
  · intro s s' p h r n ho c sh ok code hopen hwait hup hhub hcert hfails
    have hor : (code != 0 || !ok) = true := by
      rcases hfails with hfails | hfails <;> simp [hfails]
    show execJoinReply (some p) h none r n ho ⟨c, sh, ok⟩ s = _
    simp only [execJoinReply, hopen, hwait, hup, hhub, hcert, hor, beq_self_eq_true, Bool.and_true, Bool.false_eq_true, if_false, if_true,
      State.joinRefused]
  · intro s s' p h r n ho c sh hopen hwait hup hhub hcert
    show execJoinReply (some p) h none r n ho ⟨c, sh, true⟩ s = _
    simp [execJoinReply, hopen, hwait, hup, hhub, hcert]
  · intro s
    show execJoinReplyTimeout .. = _
    simp [execJoinReplyTimeout, State.joinRefused]
  · intro s
    show execJoinRetry .. = _
    simp [execJoinRetry]

end Sys2Proof.Machine

/-! Start-up, warm start and dead-feed start (11_desk_power.md, 17_startup.md). -/

namespace Sys2Proof.Machine

open Sys2Proof

section StartUpLemmas

variable (s : State)

@[simp] theorem State.setPhase_sys (n : PhState) : (s.setPhase n).sys = s.sys := by
  rw [State.setPhase]
  split <;> simp

@[simp] theorem State.timeFirstLock_sys (k : Nat) : (s.timeFirstLock k).sys = s.sys := by
  rw [State.timeFirstLock]
  split <;> simp

theorem State.enterSynth_sys : s.enterSynth.sys = s.sys := by
  have hwindows (t : State) : t.realignKept.startWindows.sys = t.sys := rfl
  simp only [State.enterSynth]
  split <;> simp [hwindows]

/-- Events raised one after another leave the start-up of the hub as it was. -/
theorem State.raiseAll_sys (es : List (Nat × Word)) : (es.foldl (fun (u : State) e => u.raiseW e.1 e.2 .owner) s).sys = s.sys := by
  induction es generalizing s with
  | nil => rfl
  | cons e es ih => rw [List.foldl_cons, ih, State.raiseW_sys]

/-- An event touches the boxes and what a control restart holds, not the clamp log. -/
theorem State.raise_clamps (ev : Nat) (fs : List (Nat × Nat)) (d : EvDest) :
    (s.raise ev fs d).mbx.clampLog = s.mbx.clampLog ∧ (s.raise ev fs d).mbx.clampCount = s.mbx.clampCount := by
  rw [State.raise, State.raiseW, State.raiseAt]
  split
  · split <;> exact ⟨rfl, rfl⟩
  · rw [State.deliver]
    refine List.foldlRecOn (motive := fun t : State => t.mbx.clampLog = s.mbx.clampLog ∧ t.mbx.clampCount = s.mbx.clampCount)
      _ _ ⟨rfl, rfl⟩ fun t ht i _ => ?_
    split
    · exact ht
    · exact ht

theorem State.raise_clampLog (ev : Nat) (fs : List (Nat × Nat)) (d : EvDest) :
    (s.raise ev fs d).mbx.clampLog = s.mbx.clampLog := (s.raise_clamps ev fs d).1

theorem State.raise_clampCount (ev : Nat) (fs : List (Nat × Nat)) (d : EvDest) :
    (s.raise ev fs d).mbx.clampCount = s.mbx.clampCount := (s.raise_clamps ev fs d).2

end StartUpLemmas
/-- A hub that is not the ROOT ends its start-up with the events that it held and enters no SYNTH. -/
theorem State.endStart_of_notRoot {s u : State}
    (hu : ({ s with sys.stage := .running }.refreshAuth).raise 0 [(s.sys.cause, 8), (s.sys.start, 4), (s.domainBits, 14)] = u)
    (hroot : u.isRoot = false) : s.endStart =
      (sortHeld u.startEvents).foldl (fun (t : State) e => t.raiseW e.1 e.2 .owner) { u with sys.heldEvents := [], sys.wakeSource := none } := by
  have hif (v : State) (h : v.isRoot = false) :
      (if v.isRoot && v.phase.cfg.synthEn && v.phase.st == .acquire then v.enterSynth else v) = v := by simp [h]
  subst hu
  refine hif _ ?_
  rw [State.isRoot, State.raiseAll_sys]
  exact hroot


/-- Settles O26: each row by the stage of start-up it acts in; the end of start-up by `State.endStart_of_notRoot`. -/
theorem startUpWarmStartAndDeadFeed : Obligations.StartUpWarmStartAndDeadFeed := by
  refine ⟨?_, ?_, ?_, ?_, ?_, ?_, ?_, ?_, ?_, ?_, ?_, ?_, ?_, ?_⟩
  · intro s
    show execPowerOn .. = _
    simp [execPowerOn]
  · intro s i hstage
    show execDomAonStart .. = _
    rw [execDomAonStart, hstage]
    rfl
  · intro s i hstage
    show execDomAonStart .. = _
    simp [execDomAonStart, hstage]
  · intro s c k i hstage
    show execDomAonStart .. = _
    simp [execDomAonStart, hstage]
  · intro s hstage hdom hdead
    have hend : s.endStart.sys = { s.sys with stage := .running, heldEvents := [], wakeSource := none } := by
      simp only [State.endStart]
      split
      · simp [State.enterSynth_sys, State.raiseAll_sys, State.refreshAuth]
      · simp [State.raiseAll_sys, State.refreshAuth]
    refine ⟨?_, ?_, ?_, ?_⟩
    · show execStartupEnd s = _
      simp [execStartupEnd, hstage, hdom, hdead]
    · rw [State.up, hend]
      rfl
    · rw [hend]
    · rw [hend]
  · intro s hstage hroot
    generalize hu : ({ s with sys.stage := .running }.refreshAuth).raise 0 [(s.sys.cause, 8), (s.sys.start, 4), (s.domainBits, 14)] = u
    have husys : u.sys = { s.sys with stage := .running } := by rw [← hu, State.raise_sys]; rfl
    have hlog : u.mbx.clampLog = s.mbx.clampLog := by rw [← hu]; simp [State.raise_clampLog, State.refreshAuth]
    have hcount : u.mbx.clampCount = s.mbx.clampCount := by rw [← hu]; simp [State.raise_clampCount, State.refreshAuth]
    have hstart : u.startEvents = (if s.mbx.clampLog.isEmpty then [] else [(4, wd s.mbx.clampCount)]) ++
        ((s.sys.wakeSource.map fun w => (7, pack [(w, 4)])).toList ++ s.sys.heldEvents) := by
      rw [State.startEvents, hlog, hcount, husys]
    have hroot' : u.isRoot = false := by
      rw [State.isRoot, husys]
      exact hroot
    rw [← hstart]
    exact State.endStart_of_notRoot hu hroot'
  · intro s hstage
    show execStartupEnd .. = _
    rcases hstage with hstage | hstage | hstage <;> simp [execStartupEnd, hstage]
  · intro s i
    show execStartupTimeout .. = _
    simp [execStartupTimeout]
  · intro s k i
    show execWarmStart .. = _
    simp only [execWarmStart]
    grind
  · intro s p rp i u
    have hraise : s.raiseLevel (rpLevel rp) i = if 1 ≤ u.desk.level ∧ s.domOn 1 = false ∧ s.sys.stage = .starting then u.deadRun i else u := by
      simp only [State.raiseLevel, Bool.and_eq_true, decide_eq_true_eq, Bool.not_eq_true', beq_iff_eq, and_assoc]
      rfl
    show execDeadFeedAdvertisement p rp i s = _
    simp [execDeadFeedAdvertisement, hraise]
  · intro s i hservice
    show execDeadFeedFeedGood .. = _
    unfold execDeadFeedFeedGood
    split <;> simp_all
  · intro s p i hservice hstart hfed hdom
    show execDeadFeedFeedGood i s = _
    have hgo : (s.sys.start != 1 || s.pwr.selected.isNone) = false := by simp [hstart, Option.isNone_eq_false_iff.mpr hfed]
    simp only [execDeadFeedFeedGood, hservice, hgo, hdom, Bool.not_false, Bool.false_eq_true, if_false, if_true]
  · intro s p i hservice hstart hfed hdom
    show execDeadFeedFeedGood i s = _
    have hgo : (s.sys.start != 1 || s.pwr.selected.isNone) = false := by simp [hstart, Option.isNone_eq_false_iff.mpr hfed]
    simp only [execDeadFeedFeedGood, hservice, hgo, hdom, Bool.not_true, Bool.false_eq_true, if_false, beq_iff_eq]
    repeat' split
    all_goals rfl
  · intro s
    exact ⟨_, rfl, rfl, rfl, rfl, rfl, rfl, rfl⟩

end Sys2Proof.Machine

/-! Resets, watchdogs, domain faults and Bivouac (17_startup.md). -/

namespace Sys2Proof.Machine

open Sys2Proof

/-- Settles O27: each row by the stage it acts in, SYS.RESET and SYS.BIVOUAC by the refusals in their order. -/
theorem resetsFollowTheirCauses : Obligations.ResetsFollowTheirCauses := by
  refine ⟨?_, ?_, ?_, ?_, ?_, ?_, ?_, ?_, ?_, ?_, ?_, ?_, ?_, ?_, ?_, ?_⟩
  · intro s hstage hstage'
    show execResetNAssert .. = _
    simp [execResetNAssert, hstage, hstage']
  · intro s hstage
    show execResetNAssert .. = _
    rcases hstage with hstage | hstage <;> simp [execResetNAssert, hstage]
  · intro s i
    show execResetNRelease .. = _
    simp [execResetNRelease]
  · intro s
    show execMcWatchdogExpiry .. = _
    simp [execMcWatchdogExpiry]
  · intro s e
    show execEngineWatchdogExpiry .. = _
    simp [execEngineWatchdogExpiry]
  · intro s i
    rfl
  · intro s
    rfl
  · intro s
    rfl
  · intro s d i hval
    show execDomainPgLoss .. = _
    rcases hval with hval | hval <;> simp [execDomainPgLoss, hval]
  · intro s d i hdomOn h1 hval
    show execDomainPgLoss .. = _
    simp only [execDomainPgLoss, hdomOn, hval]
    grind
  · intro s d i hdomOn h5 ts u
    show execDomainPgLoss .. = _
    simp only [execDomainPgLoss, hdomOn]
    grind
  · intro s d
    show execDomainRetry .. = _
    unfold execDomainRetry
    split <;> simp_all
  · intro s r hr
    show execSysReset .. = _
    simp only [execSysReset, runCmd_of_running hr]
    grind
  · intro s r hr hisRoot
    show execSysBivouac .. = _
    rw [execSysBivouac, runCmd_of_running hr]
    split <;> rfl
  · intro s r hr hisRoot
    show execSysBivouac .. = _
    simp only [execSysBivouac, runCmd_of_running hr, hisRoot]
    split <;> simp_all
  · intro s k
    show execBivouacWake .. = _
    simp only [execBivouacWake]
    grind

end Sys2Proof.Machine

/-! The end of a command and of the windows of limited events (02_mailboxes.md). -/

namespace Sys2Proof.Machine

open Sys2Proof

/-- The end of a window raises what it held: the start-up state and the clock stay. -/
theorem State.endWindow_sys (s : State) (ms : Bool) : (s.endWindow ms).sys = s.sys := by
  simp only [State.endWindow]
  refine List.foldlRecOn (motive := fun t : State => t.sys = s.sys) _ _ rfl fun t ht r _ => ?_
  split
  · rw [State.raiseW_sys]
    split <;> exact ht
  · exact ht

theorem State.intrSecond_sys (s : State) (g n : Nat) : (s.intrSecond g n).sys = s.sys := by
  simp only [State.intrSecond]
  split
  · refine List.foldlRecOn (motive := fun t : State => t.sys = s.sys) _ _ rfl fun t ht b _ => ?_
    dsimp only
    split
    · split <;> exact ht
    · exact ht
  · split <;> rfl

theorem State.intrSeconds_sys (s : State) : s.intrSeconds.sys = s.sys := by
  refine List.foldlRecOn (motive := fun t : State => t.sys = s.sys) _ _ rfl fun t ht g _ => ?_
  refine List.foldlRecOn (motive := fun t : State => t.sys = s.sys) _ _ ht fun u hu n _ => ?_
  rw [State.intrSecond_sys, hu]

/-- What a change of a mailbox does is read of the mailbox as it stands. -/
theorem State.modBox_congr {s : State} {i : Fin 38} {f g : Mailbox → Mailbox} (h : f (s.box i) = g (s.box i)) :
    s.modBox i f = s.modBox i g := by
  have hi : s.box i = s.mbx.boxes[i.val] := rfl
  rw [State.modBox, State.modBox, h, updAt, updAt, ← hi, h]

/-- The mailbox of a function after its reset (R39): empty, with the answer of a command that runs discarded and no request of it waiting. -/
def State.resetBox (s : State) (i : Fin 38) : State :=
  let run : Bool := (s.mbx.running.map fun x => x.req.src == .win i).getD false
  let u : State := s.modBox i fun m => { discard := run || m.discard, st := if s.mbx.restart then .offline else .idle }
  { u with
    mbx.saved := if s.mbx.restart then updAt u.mbx.saved i fun _ => .idle else u.mbx.saved
    mbx.waiting := s.mbx.waiting.filter fun (r : Waiting) => r.src != Source.win i }

/-- A function record that waited is put into force. -/
def State.takeFunc (s : State) (f : Nat) : State :=
  match s.stor.nextFunc.getD f none with
  | some c => { s with stor.func := modAt s.stor.func f fun _ => c, stor.nextFunc := modAt s.stor.nextFunc f fun _ => none }
  | none => s

theorem execPcieFunctionReset_eq {s : State} {f : BitVec 5} {i : Fin 38} (hi : i.val = f.toNat + 6) :
    execPcieFunctionReset f s = .next (((if (s.stor.func.getD f.toNat {}).storage then (s.resetBox i).storFlr f.toNat
      else s.resetBox i).takeFunc f.toNat).refreshAuth) := by
  unfold execPcieFunctionReset
  extract_lets f' i' runs m u _ v storage w _ x
  have hi' : i' = i := Fin.ext hi.symm
  have hruns : runs = (s.mbx.running.map fun x => x.req.src == .win i).getD false := by
    simp only [runs, hi']
    cases s.mbx.running <;> rfl
  have hv : v = s.resetBox i := by
    have hu : u = s.modBox i fun m =>
        { discard := (s.mbx.running.map fun x => x.req.src == .win i).getD false || m.discard,
          st := if s.mbx.restart then .offline else .idle } := by
      simp only [u, hi', hruns, m]
      exact State.modBox_congr rfl
    simp only [v, hi', State.resetBox, ← hu]
    rfl
  have hstorage : storage = (s.stor.func.getD f.toNat {}).storage := by
    simp only [storage, hv]
    rfl
  have hx : x = w.takeFunc f.toNat := by
    simp only [x, State.takeFunc]
    cases w.stor.nextFunc.getD f.toNat none <;> rfl
  rw [hx]
  simp only [w, hstorage, hv]
  rfl

theorem State.takeFunc_of_none {s : State} {f : Nat} (h : s.stor.nextFunc.getD f none = none) : s.takeFunc f = s := by
  rw [State.takeFunc, h]

/-- A storage function's own reset leaves the records that wait. -/
theorem State.storFlr_nextFunc (s : State) (f : Nat) : (s.storFlr f).stor.nextFunc = s.stor.nextFunc := by
  have hend (t : State) : (t.endFlr f).stor.nextFunc = t.stor.nextFunc := by
    rw [State.endFlr]
    split
    · rfl
    · rw [State.raise_stor]
      rfl
  simp only [State.storFlr]
  split
  · rw [hend]
    rfl
  · rfl

/-- Settles O28: COMMAND_FINISH by the command that runs, the windows by what raising an event leaves, the function reset by the
record that waits. -/
theorem commandsEndAndWindowsTurnOver : Obligations.CommandsEndAndWindowsTurnOver := by
  refine ⟨?_, ?_, ?_, ?_, ?_, ?_, ?_, ?_, ?_⟩
  · intro s i hrestart
    show execCommandFinish .. = _
    rcases hrestart with hrestart | hrestart <;> simp [execCommandFinish, hrestart]
  · intro s i x r hrestart hrunning hresp
    show execCommandFinish .. = _
    simp [execCommandFinish, hrestart, hrunning, hresp]
  · intro s i x hrestart hrunning hresp hopcode
    show execCommandFinish .. = _
    rcases hopcode with hopcode | hopcode | hopcode | hopcode <;> simp [execCommandFinish, State.finish, State.mayTimeOut,
      State.abortEp, State.startNext, hrestart, hrunning, hresp, hopcode]
  · intro s i x hrestart hrunning hresp hmayTimeOut
    show execCommandFinish .. = _
    simp [execCommandFinish, hrestart, hrunning, hresp, hmayTimeOut]
  · intro s
    rfl
  · intro s
    refine ⟨_, rfl, ?_⟩
    have hsys : ((s.aonSecond.endWindow false).intrSeconds).sys = s.aonSecond.sys := by rw [State.intrSeconds_sys, State.endWindow_sys]
    simp only [Bool.false_eq_true, if_false, hsys]
    exact ⟨rfl, rfl⟩
  · intro s
    rfl
  · intro s f i hi hstor run u v
    show execPcieFunctionReset f s = _
    rw [execPcieFunctionReset_eq hi, hstor]
    show Host.Outcome.next (v.takeFunc f.toNat).refreshAuth = _
    have hnext : v.stor = s.stor := rfl
    cases hc : s.stor.nextFunc.getD f.toNat none with
    | none =>
      rw [State.takeFunc_of_none (by rw [hnext, hc])]
      rfl
    | some c =>
      have htake : v.takeFunc f.toNat = { v with
          stor.func := modAt s.stor.func f.toNat fun _ => c, stor.nextFunc := modAt s.stor.nextFunc f.toNat fun _ => none } := by
        rw [State.takeFunc, hnext, hc]
      rw [htake]
      rfl
  · intro s f i hi hstor hnext run u v
    have hkeep : (v.storFlr f.toNat).stor.nextFunc = s.stor.nextFunc :=
      State.storFlr_nextFunc v f.toNat
    show execPcieFunctionReset f s = _
    rw [execPcieFunctionReset_eq hi, hstor]
    show Host.Outcome.next ((v.storFlr f.toNat).takeFunc f.toNat).refreshAuth = _
    rw [State.takeFunc_of_none (by rw [hkeep, hnext])]

end Sys2Proof.Machine

/-! Configuration streams (02_mailboxes.md). -/

namespace Sys2Proof.Machine

open Sys2Proof

/-- Settles O29: a stream by its class and by whether it parses. -/
theorem configurationIsAppliedWholeOrRefused : Obligations.ConfigurationIsAppliedWholeOrRefused := by
  refine ⟨?_, ?_, ?_⟩
  · intro s r hr howner hdata
    have hrefuse : parseStream (s.isOwner r.src) r.data = .error { code := 0x20, index := 0 } := by
      simp [parseStream, howner, hdata]
    show execCfgApply s = _
    simp only [execCfgApply, runCmd_of_running hr, hrefuse]
  · intro s r e hr hparseStream
    show execCfgApply .. = _
    rw [execCfgApply, runCmd_of_running hr, hparseStream]
  · intro s s' r rs cs hr hparseStream happlyRecs
    show execCfgApply .. = _
    simp only [execCfgApply, runCmd_of_running hr, hparseStream, happlyRecs]

end Sys2Proof.Machine

/-! Opening a tunnel (05_tunnels.md). -/

namespace Sys2Proof.Machine

open Sys2Proof

/-- Settles O30: each message by whether its entry or offer is there and in which state. -/
theorem openingATunnelGoesThroughTheRoot : Obligations.OpeningATunnelGoesThroughTheRoot := by
  refine ⟨?_, ?_, ?_, ?_, ?_, ?_, ?_, ?_, ?_, ?_, ?_, ?_, ?_, ?_, ?_, ?_, ?_, ?_, ?_⟩
  · intro s r hr hjoined
    show execTunOpen .. = _
    rw [execTunOpen, runCmd_of_running hr, hjoined]
    rfl
  · intro s r hr hjoined p cls k q
    show execTunOpen .. = _
    simp only [execTunOpen, runCmd_of_running hr, hjoined]
    grind
  · intro s i hnone
    refine ⟨?_, ?_⟩
    · show execTunAdmitSend i s = _
      rw [execTunAdmitSend, hnone]
    · show execTunOpenTimeout i s = _
      rw [execTunOpenTimeout, hnone]
  · intro s i t htunAt hst
    show execTunAdmitSend .. = _
    simp [execTunAdmitSend, htunAt, hst]
  · intro s i t htunAt hst hendA hnumber hownShare hcanSign
    show execTunAdmitSend .. = _
    simp [execTunAdmitSend, htunAt, hst, hendA, hnumber, hownShare, hcanSign]
  · intro s i t htun hst hA hnum hshare hsign
    have hgo : (t.st != .opening || !t.endA || t.number != 0 || !t.ownShare.isEmpty) = false := by simp [hst, hA, hnum, hshare]
    show execTunAdmitSend i s = _
    simp only [execTunAdmitSend, htun, hgo, hsign, Bool.not_true, Bool.false_eq_true, if_false, Option.isNone_iff_eq_none]
    split <;> rfl
  · intro s u r qs e hr hu hadmitCheck
    show execTunAdmit .. = _
    simp only [execTunAdmit, runCmd_of_running hr]
    split <;> simp_all
  · intro s u r qs b n h ls hr hu hcheck t
    show execTunAdmit qs s = _
    simp only [execTunAdmit, runCmd_of_running hr, ← hu, hcheck]
    rfl
  · intro s n hnone
    refine ⟨?_, fun re hb sh => ?_⟩
    · show execTunOfferTimeout n s = _
      rw [execTunOfferTimeout, hnone]
    · show execTunOfferAnswer n re hb sh s = _
      rw [execTunOfferAnswer, State.offerAnswered, hnone]
  · intro s n re hb sh t hfind hmarked
    have hre : re.toNat = 0 ↔ re = 0 := BitVec.toNat_eq (y := 0) |>.symm
    show execTunOfferAnswer n re hb sh s = _
    simp only [execTunOfferAnswer, State.offerAnswered, hfind, hmarked, if_true, hre]
  · intro s n re hb sh t hfind hmarked hre
    have hre' : (re.toNat != 0) = true := bne_iff_ne.mpr fun h => hre (BitVec.toNat_eq.mpr h)
    show execTunOfferAnswer n re hb sh s = _
    simp only [execTunOfferAnswer, State.offerAnswered, hfind, hmarked, hre', Bool.false_eq_true, if_false, if_true, State.refuseAdmission]
  · intro s n hb sh t hfind hmarked u v x head y
    show execTunOfferAnswer .. = _
    simp only [execTunOfferAnswer, State.offerAnswered, hfind, hmarked]
    rfl
  · intro s n t hfind
    show execTunOfferTimeout .. = _
    rw [execTunOfferTimeout, hfind]
    rfl
  · intro s c k hfreeEph
    show execTunOffer .. = _
    rw [execTunOffer, hfreeEph]
    rfl
  · intro s r c k heph hr x u
    show execTunOffer c k s = _
    simp only [execTunOffer, Option.isNone_eq_false_iff.mpr heph, Bool.false_eq_true, if_false, runCmd_of_running hr, beq_iff_eq]
    split <;> rfl
  · intro s r c k t hr hfind
    show execTunResult .. = _
    simp only [execTunResult, runCmd_of_running hr, hfind]
  · intro s r c k t hr hfind hfind'
    show execTunResult .. = _
    simp only [execTunResult, runCmd_of_running hr, hfind, hfind']
  · intro s r c k hr hfind hfind'
    show execTunResult .. = _
    simp only [execTunResult, runCmd_of_running hr, hfind, hfind']
  · intro s i t htun
    show execTunOpenTimeout i s = _
    simp [execTunOpenTimeout, htun, and_assoc]

end Sys2Proof.Machine

/-! Tunnel commands (05_tunnels.md). -/

namespace Sys2Proof.Machine

open Sys2Proof

/-- Settles O31: each command by whether the handle or number is one that the mailbox may name. -/
theorem tunnelCommandsCloseReportAndRelease : Obligations.TunnelCommandsCloseReportAndRelease := by
  refine ⟨?_, ?_, ?_, ?_, ?_, ?_, ?_, ?_, ?_, ?_, ?_, ?_⟩
  · intro s r t hr htunFor
    show execTunClose .. = _
    rw [execTunClose, runCmd_of_running hr, htunFor]
  · intro s r hr htunFor
    show execTunClose .. = _
    rw [execTunClose, runCmd_of_running hr, htunFor]
  · intro s r t hr htunFor
    show execTunStatus .. = _
    simp [execTunStatus, runRead_of_running hr, htunFor]
  · intro s r hr htunFor
    show execTunStatus .. = _
    rw [execTunStatus, runRead_of_running hr, htunFor]
  · intro s r ts hr hfoldr
    show execTunList .. = _
    simp [execTunList, runRead_of_running hr, hfoldr]
  · intro s r t hr htunFor
    show execTunRekey .. = _
    simp only [execTunRekey, runCmd_of_running hr, htunFor]
    split <;> simp_all
  · intro s r hr htunFor
    show execTunRekey .. = _
    rw [execTunRekey, runCmd_of_running hr, htunFor]
  · intro s r t hr hfind
    show execTunRelease .. = _
    simp only [execTunRelease, runCmd_of_running hr, hfind]
  · intro s r hr hfind
    show execTunRelease .. = _
    simp only [execTunRelease, runCmd_of_running hr, hfind]
  · intro s r t hr htunByNumber
    show execTunClosed .. = _
    simp [execTunClosed, runCmd_of_running hr, htunByNumber]
  · intro s r hr htunByNumber
    show execTunClosed .. = _
    rw [execTunClosed, runCmd_of_running hr, htunByNumber]
  · intro s n
    rfl

end Sys2Proof.Machine

/-! Cells and timers of a tunnel (05_tunnels.md). -/

namespace Sys2Proof.Machine

open Sys2Proof

/-- Settles O32: each row by whether the tunnel is there, then by its class and state. -/
theorem tunnelCellsAndTimersKeepATunnel : Obligations.TunnelCellsAndTimersKeepATunnel := by
  refine ⟨?_, ?_, ?_, ?_, ?_, ?_, ?_, ?_, ?_, ?_, ?_, ?_, ?_, ?_, ?_, ?_, ?_, ?_, ?_, ?_, ?_⟩
  · intro s c g k hfind
    show execTunnelCellReceive .. = _
    rw [execTunnelCellReceive, hfind]
  · intro s c g k t hfind henc
    show execTunnelCellReceive .. = _
    simp only [execTunnelCellReceive, hfind]
    grind
  · intro s c n k t hfind henc hkeyServes u v y
    show execTunnelCellReceive .. = _
    simp only [execTunnelCellReceive, hfind, henc, hkeyServes]
    grind
  · intro s i hnone
    refine ⟨fun b so eo d p => ?_, ?_, ?_, ?_, ?_, ?_, fun b => ?_, ?_, ?_, ?_, ?_, ?_⟩
    · show execDataCellOffer i b d so eo p s = _
      rw [execDataCellOffer, hnone]
    · show execTunRtoExpiry i s = _
      rw [execTunRtoExpiry, hnone]
    · show execTunAckTimer i s = _
      rw [execTunAckTimer, hnone]
    · show execTunKeepaliveSend i s = _
      rw [execTunKeepaliveSend, hnone]
    · show execTunDeadTimeout i s = _
      rw [execTunDeadTimeout, hnone]
    · show execTunStallClose i s = _
      rw [execTunStallClose, hnone]
    · show execTunCloseTimeout i b s = _
      rw [execTunCloseTimeout, hnone]
    · show execLossyRepeatTimer i s = _
      rw [execLossyRepeatTimer, hnone]
    · show execRekeyMinExpiry i s = _
      rw [execRekeyMinExpiry, hnone]
    · show execRekeyAcceptTimeout i s = _
      rw [execRekeyAcceptTimeout, hnone]
    · show execRekeyRetry i s = _
      rw [execRekeyRetry, hnone]
    · show execOldKeyRetire i s = _
      rw [execOldKeyRetire, hnone]
  · intro s i b so eo d p t htunAt hst hst'
    show execDataCellOffer .. = _
    simp [execDataCellOffer, htunAt, hst, hst']
  · intro s i b so eo d p t htunAt hst
    show execDataCellOffer .. = _
    rcases hst with hst | hst <;> simp [execDataCellOffer, htunAt, hst]
  · intro s i t htunAt
    show execTunRtoExpiry .. = _
    simp [execTunRtoExpiry, htunAt]
  · intro s i t htunAt
    show execTunAckTimer .. = _
    simp [execTunAckTimer, htunAt]
  · intro s i t htunAt
    show execTunKeepaliveSend .. = _
    simp [execTunKeepaliveSend, htunAt]
  · intro s i t htunAt
    show execTunDeadTimeout .. = _
    simp [execTunDeadTimeout, htunAt]
  · intro s i t htunAt hst
    show execTunStallClose .. = _
    simp [execTunStallClose, htunAt, hst]
  · intro s i t htunAt hst hrootChan
    show execTunStallClose .. = _
    simp [execTunStallClose, htunAt, hst, hrootChan]
  · intro s i t htunAt hst hrootChan
    show execTunStallClose .. = _
    simp only [execTunStallClose, htunAt, hst]
    grind
  · intro s i b t htunAt
    show execTunCloseTimeout .. = _
    simp only [execTunCloseTimeout, htunAt]
    grind
  · intro s i t htunAt hreliable
    show execLossyRepeatTimer .. = _
    rcases hreliable with hreliable | hreliable <;> simp [execLossyRepeatTimer, htunAt, hreliable]
  · intro s i t htunAt hreliable hrepeats hst hbegan hgotClose
    show execLossyRepeatTimer .. = _
    simp [execLossyRepeatTimer, htunAt, hreliable, hrepeats, hst, hbegan, hgotClose]
  · intro s i t htunAt hreliable hrepeats hst u
    show execLossyRepeatTimer .. = _
    simp only [execLossyRepeatTimer, htunAt, hreliable, hrepeats, hst]
    grind
  · intro s i t htunAt
    show execRekeyMinExpiry .. = _
    rw [execRekeyMinExpiry, htunAt]
  · intro s i t htunAt
    show execRekeyAcceptTimeout .. = _
    simp [execRekeyAcceptTimeout, htunAt]
  · intro s i t htunAt
    show execRekeyRetry .. = _
    rw [execRekeyRetry, htunAt]
  · intro s i t htunAt
    show execOldKeyRetire .. = _
    rw [execOldKeyRetire, htunAt]

end Sys2Proof.Machine

/-! Lighting segments (08_lighting.md). -/

namespace Sys2Proof.Machine

open Sys2Proof

/-- Settles O34: each row by the state of its segment, BEACON and BEACON_LATE by the bit times since the last. -/
theorem lightingSegmentsFollowTheBus : Obligations.LightingSegmentsFollowTheBus := by
  refine ⟨?_, ?_, ?_, ?_, ?_, ?_, ?_, ?_, ?_, ?_, ?_, ?_, ?_, ?_, ?_, ?_, ?_, ?_, ?_, ?_, ?_⟩
  · intro s n k g o hg hst
    subst hg
    refine ⟨?_, ?_⟩
    · show execBeacon n k o s = _
      simp [execBeacon, hst]
    · show execBeaconLate n k o s = _
      simp only [execBeaconLate]
      split
      · next hrun _ => exact absurd hrun hst
      · rfl
  · intro s n k g hg hst hlast
    subst hg
    have hsince : s.sinceBeacon (lightPort n k).val = none := by rw [State.sinceBeacon, hlast]; rfl
    refine ⟨?_, ?_⟩
    · show execBeacon n k true s = _
      simp [execBeacon, hst, hsince]
    · show execBeacon n k false s = _
      simp [execBeacon, hst, hsince]
  · intro s n k g t hg hst hsinceBeacon
    show execBeacon .. = _
    unfold execBeacon
    split <;> simp_all
  · intro s n k g t hg hst hsince
    subst hg
    show execBeacon n k false s = _
    simp only [execBeacon, hst, hsince, bne_self_eq_false, Bool.false_eq_true, if_false, Option.isNone_iff_eq_none]
    repeat' split
    all_goals rfl
  · intro s n k g o hg hdueAt
    show execBeaconLate .. = _
    simp only [execBeaconLate]
    grind
  · intro s n k g o d hg hst hdueAt
    show execBeaconLate .. = _
    simp only [execBeaconLate, hg]
    grind
  · intro s g fr v m n c fl ti re al ws hst
    show execStatusFrameReceive .. = _
    rcases hst with hst | hst <;> simp [execStatusFrameReceive, hst]
  · intro s g fr m n c fl ti re al ws f hst hlastFrame
    show execStatusFrameReceive .. = _
    simp only [execStatusFrameReceive, hst, hlastFrame]
    grind
  · intro s g fr m n c fl ti re al ws f hst hlastFrame
    show execStatusFrameReceive .. = _
    simp [execStatusFrameReceive, hst, hlastFrame]
  · intro s g b fr hsg
    show execEnrolFrameReceive .. = _
    simp only [execEnrolFrameReceive]
    grind
  · intro s g f b m k hst hlast henrol hanswered
    show execEnrolFrameReceive g b (some (m, k)) s = _
    simp only [execEnrolFrameReceive, hst, hlast, henrol, hanswered, Bool.not_true, Bool.or_false, Bool.false_eq_true, if_false]
  · intro s g f hst hlast henrol hanswered
    show execEnrolFrameReceive g false none s = _
    simp only [execEnrolFrameReceive, hst, hlast, henrol, hanswered, Bool.not_true, Bool.not_false, Bool.or_false, Bool.false_eq_true, if_false,
      if_true]
  · intro s g f hst hlast henrol hanswered u
    have hsame : u.sg g.val = { s.sg g.val with answered := true } := by simp [u]
    show execEnrolFrameReceive g true none s = _
    simp only [execEnrolFrameReceive, hst, hlast, henrol, hanswered, Bool.not_true, Bool.or_false, Bool.false_eq_true, if_false]
    show (if (u.sg g.val).bits < 8 then _ else if (u.sg g.val).tries + 1 < 16 then _ else _) = _
    rw [hsame]
    have htries : (s.sg g.val).tries + 1 < 16 ↔ (s.sg g.val).tries < 15 := by omega
    simp only [htries]
    repeat' split
    all_goals rfl
  · intro s g n
    show execNodeAbsentTimeout .. = _
    simp [execNodeAbsentTimeout]
  · intro s g
    rfl
  · intro s g n htoNat u y
    show execSegmentViolation .. = _
    simp only [execSegmentViolation, htoNat]
    grind
  · intro s g n y k u
    show execBabbleWindowEnd .. = _
    simp only [execBabbleWindowEnd]
    grind
  · intro s g n
    show execBabbleCutExpiry .. = _
    unfold execBabbleCutExpiry
    split <;> simp_all
  · intro s g
    show execSegmentJam .. = _
    unfold execSegmentJam
    split <;> rfl
  · intro s g
    show execSegmentJamClear .. = _
    unfold execSegmentJamClear
    split <;> rfl
  · intro s g
    show execJamCutExpiry .. = _
    unfold execJamCutExpiry
    split <;> simp_all

end Sys2Proof.Machine

/-! Lighting and scene commands (08_lighting.md). -/

namespace Sys2Proof.Machine

open Sys2Proof

/-- Settles O35: the reports from their words, the gos by whether they are there and have left. -/
theorem lightingAndSceneCommandsAnswer : Obligations.LightingAndSceneCommandsAnswer := by
  refine ⟨?_, ?_, ?_, ?_, ?_, ?_, ?_, ?_, ?_, ?_, ?_, ?_, ?_⟩
  · intro s r hr
    show execEpSegment .. = _
    rw [execEpSegment, runCmd_of_running hr]
  · intro s r hr g n x u
    show execEpNode .. = _
    simp only [execEpNode, runCmd_of_running hr, Bool.and_eq_true, beq_iff_eq, bne_iff_ne, decide_eq_true_eq]
    rfl
  · intro s r hr
    show execSceneStatus .. = _
    rw [execSceneStatus, runRead_of_running hr]
  · intro s r hr hst
    show execSceneArm .. = _
    rw [execSceneArm, runCmd_of_running hr]
    split <;> rfl
  · intro s r i hr hst hsrc
    show execSceneArm .. = _
    simp only [execSceneArm, runCmd_of_running hr, hst, hsrc]
    rfl
  · intro s r hr hst hyp
    show execSceneArm .. = _
    simp only [execSceneArm, runCmd_of_running hr, hst]
    rfl
  · intro s r i hr hsrc hfind
    show execSceneCancel .. = _
    simp only [execSceneCancel, runCmd_of_running hr, hsrc, hfind]
  · intro s r hr hyp hfind
    show execSceneCancel .. = _
    simp only [execSceneCancel, runCmd_of_running hr, hfind]
  · intro s r i g hr hsrc hfind u
    show execSceneCancel .. = _
    simp only [execSceneCancel, runCmd_of_running hr, hsrc, hfind, Bool.and_eq_true, beq_iff_eq]
    repeat' split
    all_goals rfl
  · intro s r g hr hyp hfind
    show execSceneCancel .. = _
    simp only [execSceneCancel, runCmd_of_running hr, hfind]
    grind
  · intro s r hr
    show execSceneDone .. = _
    rw [execSceneDone, runCmd_of_running hr]
  · intro s h g hgoOf
    show execSceneReportTimeout .. = _
    simp [execSceneReportTimeout, hgoOf]
  · intro s h hgoOf
    show execSceneReportTimeout .. = _
    rw [execSceneReportTimeout, hgoOf]

end Sys2Proof.Machine

/-! The directory (08_lighting.md). -/

namespace Sys2Proof.Machine

open Sys2Proof

/-- A directory command of a hub other than the ROOT. -/
theorem runDir_of_notRoot {op : Nat} {s : State} {r : Waiting} (hroot : s.isRoot = false) (hr : s.runningOp op = some r)
    (f : Waiting → State → State × Response) : runDir op s f = .next (s.respond (failR 0x40)) := by
  simp only [runDir, runCmd_of_running hr, hroot, Bool.false_eq_true, if_false]

/-- Settles O36: off the ROOT by `runDir_of_notRoot`, at the ROOT by the record that the ID names. -/
theorem theDirectoryIsTheRoots : Obligations.TheDirectoryIsTheRoots := by
  refine ⟨?_, ?_, ?_, ?_, ?_, ?_, ?_, ?_, ?_, ?_, ?_, ?_, ?_, ?_⟩
  · intro s r hroot
    refine ⟨fun hr => ?_, fun hr => ?_, fun hr => ?_, fun hr => ?_, fun hr => ?_, fun hr => ?_, fun hr => ?_⟩
    · show execDirGet s = _
      rw [execDirGet, runDir_of_notRoot hroot hr]
    · show execDirFind s = _
      rw [execDirFind, runDir_of_notRoot hroot hr]
    · show execDirStatus s = _
      rw [execDirStatus, runDir_of_notRoot hroot hr]
    · show execDirSet s = _
      rw [execDirSet, runDir_of_notRoot hroot hr]
    · show execDirDelete s = _
      rw [execDirDelete, runDir_of_notRoot hroot hr]
    · show execDirReport none s = _
      simp only [execDirReport, runDir_of_notRoot hroot hr]
    · show execDirGone s = _
      rw [execDirGone, runDir_of_notRoot hroot hr]
  · intro s r hr hisRoot
    show execDirGet .. = _
    simp only [execDirGet, runDir, runCmd_of_running hr, hisRoot]
    grind
  · intro s r hr hisRoot
    show execDirFind .. = _
    simp only [execDirFind, runDir, runCmd_of_running hr, hisRoot]
    rfl
  · intro s r hr hisRoot
    show execDirStatus .. = _
    simp only [execDirStatus, runDir, runCmd_of_running hr, hisRoot]
    rfl
  · intro s r hr hisRoot hword
    show execDirSet .. = _
    rcases hword with hword | hword | hword | hword <;> simp [execDirSet, runDir, runCmd_of_running hr, hisRoot, hword]
  · intro s r hr hisRoot hword hword'
    show execDirSet .. = _
    simp only [execDirSet, runDir, runCmd_of_running hr, hisRoot, hword, hword']
    grind
  · intro s r d hr hisRoot hword hdirRec set
    show execDirSet .. = _
    simp only [execDirSet, runDir, runCmd_of_running hr, hisRoot, hdirRec]
    grind
  · intro s r hr hisRoot hword hdirRec d0 d
    show execDirSet .. = _
    simp only [execDirSet, runDir, runCmd_of_running hr, hisRoot, hdirRec]
    grind
  · intro s r d hr hisRoot hdirRec hkind
    show execDirDelete .. = _
    simp only [execDirDelete, runDir, runCmd_of_running hr, hisRoot, hdirRec, hkind]
    rfl
  · intro s r d hr hisRoot hdirRec hkind hpresent
    show execDirDelete .. = _
    simp only [execDirDelete, runDir, runCmd_of_running hr, hisRoot, hdirRec, hkind, hpresent]
    rfl
  · intro s r hr hisRoot hdirRec
    show execDirDelete .. = _
    simp only [execDirDelete, runDir, runCmd_of_running hr, hisRoot, hdirRec]
    rfl
  · intro s g n ws
    rfl
  · intro s r hr hroot x ws
    show execDirReport none s = _
    simp only [execDirReport, runDir, runCmd_of_running hr, hroot, if_true]
    rfl
  · intro s r hr hisRoot p u
    show execDirGone .. = _
    simp only [execDirGone, runDir, runCmd_of_running hr, hisRoot]
    rfl

end Sys2Proof.Machine

/-! Feeds (14_power_path.md). -/

namespace Sys2Proof.Machine

open Sys2Proof

/-- Settles O37: each row by the state of the feed or of the switch it belongs to. -/
theorem feedsSwitchInOrder : Obligations.FeedsSwitchInOrder := by
  refine ⟨?_, ?_, ?_, ?_, ?_, ?_, ?_, ?_, ?_, ?_, ?_, ?_, ?_⟩
  · intro s f hst
    show execFeedQualifyExpiry .. = _
    rw [execFeedQualifyExpiry, if_neg hst]
  · intro s f hst
    show execFeedQualifyExpiry .. = _
    rw [execFeedQualifyExpiry, if_pos hst]
  · intro s
    rfl
  · intro s
    show execFeedRevertTimer .. = _
    unfold execFeedRevertTimer
    split <;> rfl
  · intro s
    rfl
  · intro s f hsw hselected
    show execFeedGateOffTimeout .. = _
    simp [execFeedGateOffTimeout, hsw, hselected]
  · intro s f hsw hselected t u
    show execFeedDeadTimeEnd .. = _
    simp only [execFeedDeadTimeEnd, hsw, hselected]
    rfl
  · intro s
    rfl
  · intro s f hsw hselected
    show execFeedGateOnTimeout .. = _
    simp [execFeedGateOnTimeout, hsw, hselected]
  · intro s
    refine ⟨fun h => ?_, fun h => ?_, fun h => ?_⟩
    · show execFeedGateOffTimeout s = _
      rw [execFeedGateOffTimeout]
      split
      · next hsw hsel => simp [hsw, hsel] at h
      · rfl
    · show execFeedDeadTimeEnd s = _
      rw [execFeedDeadTimeEnd]
      split
      · next hsw hsel => simp [hsw, hsel] at h
      · rfl
    · show execFeedGateOnTimeout s = _
      rw [execFeedGateOnTimeout]
      split
      · next hsw hsel => simp [hsw, hsel] at h
      · rfl
  · intro s f hselected hwarn hwarnMv
    show execFeedWarnRelease .. = _
    simp [execFeedWarnRelease, hselected, hwarn, hwarnMv]
  · intro s hselected
    show execFeedWarnRelease .. = _
    simp only [execFeedWarnRelease]
    grind
  · intro s a b v
    rfl

end Sys2Proof.Machine

/-! Lighting ports (14_power_path.md). -/

namespace Sys2Proof.Machine

open Sys2Proof

/-- Settles O38: each row by the state of its port, PORT_POWER_TICK by its checks in their order. -/
theorem lightingPortsPowerUpAndTrip : Obligations.LightingPortsPowerUpAndTrip := by
  refine ⟨?_, ?_, ?_, ?_, ?_, ?_, ?_, ?_, ?_, ?_, ?_, ?_, ?_, ?_, ?_, ?_, ?_⟩
  · intro s p b hlightOn
    show execSeatSample .. = _
    rw [execSeatSample, hlightOn]
    rfl
  · intro s p hlightOn u
    show execSeatSample .. = _
    simp only [execSeatSample, hlightOn]
    grind
  · intro s p hlightOn u v
    show execSeatSample .. = _
    simp only [execSeatSample, hlightOn]
    grind
  · intro s p
    show execSeatingQualified .. = _
    unfold execSeatingQualified
    split <;> simp_all
  · intro s p hst
    show execUnseatWindowEnd .. = _
    simp only [execUnseatWindowEnd]
    grind
  · intro s p hst hunseats h2 u
    show execUnseatWindowEnd .. = _
    simp only [execUnseatWindowEnd, hst, hunseats]
    grind
  · intro s p v a g f hlightOn
    show execPortPowerTick .. = _
    rcases hlightOn with hlightOn | hlightOn <;> simp [execPortPowerTick, hlightOn]
  · intro s p v a g f hlightOn hdriven u x w
    show execPortPowerTick .. = _
    simp only [execPortPowerTick, hlightOn, hdriven]
    grind
  · intro s p
    show execInrushTimeout .. = _
    simp only [execInrushTimeout]
    grind
  · intro s p
    show execShortAtStart .. = _
    simp only [execShortAtStart]
    grind
  · intro s p
    show execGateRiseTimeout .. = _
    simp [execGateRiseTimeout]
  · intro s p
    show execShortedFetDetect .. = _
    simp [execShortedFetDetect]
  · intro s p
    show execRetryInstant .. = _
    unfold execRetryInstant
    split <;> rfl
  · intro s p
    rfl
  · intro s p b hhead
    show execCalibratorDone .. = _
    rw [execCalibratorDone, if_neg hhead]
  · intro s p b hhead htestOf
    show execCalibratorDone .. = _
    simp [execCalibratorDone, hhead, htestOf]
  · intro s p b t hhead htestOf
    show execCalibratorDone .. = _
    simp [execCalibratorDone, hhead, htestOf]

end Sys2Proof.Machine

/-! Metering and power commands (14_power_path.md). -/

namespace Sys2Proof.Machine

open Sys2Proof

/-- Settles O39: the reports from their words, PWR.FEED and PWR.PORT by the ACTION. -/
theorem powerIsMeteredAndCommanded : Obligations.PowerIsMeteredAndCommanded := by
  refine ⟨?_, ?_, ?_, ?_, ?_, ?_, ?_, ?_, ?_⟩
  · intro s x
    rfl
  · intro s
    rfl
  · intro s r hr
    show execPwrStatus .. = _
    rw [execPwrStatus, runRead_of_running hr]
  · intro s r hr
    show execPwrPortStatus .. = _
    rw [execPwrPortStatus, runCmd_of_running hr]
  · intro s r hr x
    show execPwrMeter .. = _
    rw [execPwrMeter, runRead_of_running hr]
  · intro s r hr
    show execPwrInterval .. = _
    rw [execPwrInterval, runRead_of_running hr]
  · intro s r hr ha f u
    have hclamp : decide (5 ≤ r.f 0 3 0) = false := by rcases ha with ha | ha <;> simp [ha]
    show execPwrFeed s = _
    simp only [execPwrFeed, runCmd_of_running hr, if_pos ha, hclamp, Bool.or_eq_true, okC, okR, u, f]
    repeat' split
    all_goals rfl
  · intro s r hr hword hword' u
    show execPwrFeed .. = _
    simp only [execPwrFeed, runCmd_of_running hr, hword, hword']
    grind
  · intro s r hr p st v u
    show execPwrPort .. = _
    simp only [execPwrPort, runCmd_of_running hr, Bool.and_eq_true, Bool.or_eq_true, beq_iff_eq, decide_eq_true_eq, Bool.not_eq_true',
      and_assoc, or_assoc]
    rfl

end Sys2Proof.Machine

/-! Windows of the near bridge (09_bridge.md). -/

namespace Sys2Proof.Machine

open Sys2Proof

section Bar2Reads

variable {s : State} {f : BitVec 5} {o : BitVec 30} {l : BitVec 13} {w : Window}

theorem bar2Read_goes (hbar : s.bar2On f.toNat = true) (hl : l ≠ 0) : (!s.bar2On f.toNat || l == 0) = false := by
  rw [hbar, beq_eq_false_iff_ne.mpr hl]
  rfl

/-- A read of an endpoint window that can be reached, inside its page and without a write that waits for its answer. -/
theorem execBar2Read_ep (hbar : s.bar2On f.toNat = true) (hl : l ≠ 0) (hw : s.window f.toNat (o.toNat / 2 ^ 27) = w)
    (hvalid : w.valid = true) (htun : s.windowTun w ≠ some none) (hexp : w.exp = 0) (hlen : l.toNat ≤ 64)
    (hpage : o.toNat % 16384 + l.toNat ≤ 16384) (hconfirm : w.confirm = false) :
    execBar2Read f o l s = .next (s.epRead f.toNat (o.toNat / 2 ^ 27) o.toNat l.toNat ((s.windowTun w).bind id)) := by
  have hfits : (decide (64 < l.toNat) || decide (16384 < o.toNat % 16384 + l.toNat)) = false := by
    simp [Nat.not_lt.mpr hlen, Nat.not_lt.mpr hpage]
  simp only [execBar2Read, bar2Read_goes hbar hl, hw, hvalid, hexp, hconfirm, Bool.not_true, Bool.false_and, Bool.false_eq_true, if_false, if_true,
    gt_iff_lt, hfits]

/-- A read of a memory window that can be reached. -/
theorem execBar2Read_mem (hbar : s.bar2On f.toNat = true) (hl : l ≠ 0) (hw : s.window f.toNat (o.toNat / 2 ^ 27) = w)
    (hvalid : w.valid = true) (htun : s.windowTun w ≠ some none) (hexp : w.exp ≠ 0) :
    execBar2Read f o l s = .next (s.memRead f.toNat (o.toNat / 2 ^ 27) o.toNat l.toNat ((s.windowTun w).bind id)) := by
  simp only [execBar2Read, bar2Read_goes hbar hl, hw, hvalid, hexp, Bool.not_true, Bool.false_eq_true, if_false]

end Bar2Reads

/-- Settles O40: the reads by `execBar2Read_ep` and `execBar2Read_mem`, each where `bar2Read_goes`; the timers by the entry of
their tag. -/
theorem windowsOfTheNearBridgeReadAndWrite : Obligations.WindowsOfTheNearBridgeReadAndWrite := by
  refine ⟨?_, ?_, ?_, ?_, ?_, ?_, ?_, ?_, ?_, ?_, ?_, ?_, ?_, ?_, ?_, ?_, ?_, ?_, ?_, ?_, ?_, ?_, ?_, ?_⟩
  · intro s f o l hbar2On
    show execBar2Read .. = _
    rcases hbar2On with hbar2On | hbar2On <;> simp [execBar2Read, hbar2On]
  · intro s f o l hbar hl hvalid
    show execBar2Read f o l s = _
    simp only [execBar2Read, bar2Read_goes hbar hl, hvalid, Bool.not_false, Bool.false_eq_true, if_false, if_true]
    rfl
  · intro s f o l w hbar2On hl hwindow hvalid hwindowTun
    show execBar2Read .. = _
    unfold execBar2Read
    split <;> simp_all
  · intro s f o l w hbar2On hl hwindow hvalid hwindowTun hexp h64
    show execBar2Read .. = _
    simp only [execBar2Read, hbar2On, hwindow, hvalid, hexp]
    grind
  · intro s f o l w hbar2On hl hwindow hvalid hwindowTun hexp htoNat htoNat' hconfirm
    show execBar2Read .. = _
    simp only [execBar2Read, hbar2On, hwindow, hvalid, hexp, hconfirm]
    grind
  · intro s f o l w d hbar2On hl hwindow hvalid hwindowTun hexp htoNat htoNat' hconfirm hfind
    show execBar2Read .. = _
    rw [execBar2Read_ep hbar2On hl hwindow hvalid hwindowTun hexp htoNat htoNat' hconfirm]
    simp only [State.epRead, hfind]
    grind
  · intro s f o l w hbar hl hw hvalid htun hexp hlen hpage hconfirm hnone hfull
    show execBar2Read f o l s = _
    rw [execBar2Read_ep hbar hl hw hvalid htun hexp hlen hpage hconfirm]
    simp only [State.epRead, hnone]
    split
    · rfl
    · next hfree =>
      have h16 := hfull.resolve_left (by simp [hfree])
      simp only [h16, if_true]
  · intro s f o l w g hbar hl hw hvalid htun hexp hlen hpage hconfirm hnone hfree hroom t d
    show execBar2Read f o l s = _
    rw [execBar2Read_ep hbar hl hw hvalid htun hexp hlen hpage hconfirm]
    simp only [State.epRead, hnone, hfree, if_neg (Nat.not_le.mpr hroom), hw]
    rfl
  · intro s f o l w n a hbar2On hl hwindow hvalid hwindowTun hexp hn ha hprefetched hfreeTag
    show execBar2Read .. = _
    simp_all [execBar2Read, State.window, State.bar2On, State.windowTun, State.complete,
      State.memRead]
  · intro s f o l w n a p hbar2On hl hwindow hvalid hwindowTun hexp hn ha hprefetched
    show execBar2Read .. = _
    simp_all [execBar2Read, State.window, State.bar2On, State.windowTun, State.complete,
      State.memRead]
  · intro s f o l w n a g hbar hl hw hvalid htun hexp hn ha hpre hfree t held b u
    show execBar2Read f o l s = _
    rw [execBar2Read_mem hbar hl hw hvalid htun hexp]
    simp only [State.memRead, hw, ← ha, ← hn, hpre, hfree]
    rfl
  · intro s f o x hbar2On
    show execBar2Write .. = _
    rw [execBar2Write, hbar2On]
    rfl
  · intro s f o x hbar2On hany
    show execBar2Write .. = _
    simp [execBar2Write, hbar2On, hany]
  · intro s f o x hbar hport hvalid
    show execBar2Write f o x s = _
    simp only [execBar2Write, hbar, hport, State.bar2Write, hvalid, Bool.not_true, Bool.not_false, Bool.false_eq_true, if_false, if_true]
    rfl
  · intro s f o x w hbar2On hany hwindow hvalid hwindowTun
    show execBar2Write .. = _
    simp_all [execBar2Write, State.bar2On, State.bar2Write]
  · intro s f o x w hbar2On hany hwindow hvalid hwindowTun
    show execBar2Write .. = _
    simp_all [execBar2Write, State.bar2On, State.bar2Write]
  · intro s f o e v w hbar hport hw hvalid htun hexp hconfirm he
    have hwrite : s.bar2Write f.toNat o.toNat [(e, v)] = s.remundWindow f.toNat (o.toNat / 2 ^ 27) o.toNat [(e, v)] ((s.windowTun w).bind id) := by
      simp only [State.bar2Write, hw, hvalid, Bool.not_true, Bool.false_eq_true, if_false]
    have hok : slotOk 0 e = true := by rw [slotOk, if_pos rfl, he]; rfl
    show execBar2Write f o [(e, v)] s = _
    simp only [execBar2Write, hbar, hport, hwrite, Bool.not_true, Bool.false_eq_true, if_false]
    simp only [State.remundWindow, hw, hexp, hconfirm, hok, slotRuns, Bool.false_and, Bool.false_eq_true, if_false, if_true, Bool.not_true,
      List.reverse_cons, List.reverse_nil, List.nil_append, List.foldl_cons, List.foldl_nil]
    have hrun : (s.freeWritten f.toNat (o.toNat / 2 ^ 27) o.toNat 1).sendRun f.toNat (o.toNat / 2 ^ 27) ((s.windowTun w).bind id)
        (w.epTarget (o.toNat % 2 ^ 27)) [v] = (s.freeWritten f.toNat (o.toNat / 2 ^ 27) o.toNat 1).sendPdu ((s.windowTun w).bind id) opWrite 0 0
          (s.windowLsid f.toNat (o.toNat / 2 ^ 27)) 0 1 (w.epTarget (o.toNat % 2 ^ 27)) 0 [v] := by
      have hw' : (s.freeWritten f.toNat (o.toNat / 2 ^ 27) o.toNat 1).window f.toNat (o.toNat / 2 ^ 27) = w := hw
      simp only [State.sendRun, hw', hexp, hconfirm, Bool.not_false, if_true, List.length_singleton]
      rfl
    rw [← hrun]
    simp [hok]
  · intro s g d hfind
    show execDelayedReadHoldEnd .. = _
    rw [execDelayedReadHoldEnd, hfind]
  · intro s g hfind
    show execDelayedReadHoldEnd .. = _
    rw [execDelayedReadHoldEnd, hfind]
  · intro s g d hfind
    show execDelayedReadCollectExpiry .. = _
    rw [execDelayedReadCollectExpiry, hfind]
  · intro s g hfind
    show execDelayedReadCollectExpiry .. = _
    rw [execDelayedReadCollectExpiry, hfind]
  · intro s g o hfind
    show execMemReadTimeout .. = _
    rw [execMemReadTimeout, hfind]
  · intro s g hfind
    show execMemReadTimeout .. = _
    rw [execMemReadTimeout, hfind]
  · intro s f w
    rfl

end Sys2Proof.Machine

/-! PDUs between bridges (09_bridge.md). -/

namespace Sys2Proof.Machine

open Sys2Proof

/-- What is answered where nothing exported is reached (R312). -/
theorem noExport_eq (e : BitVec 4) : noExport e.toNat = if e = 0 then 1 else 12 := by
  have he : e.toNat = 0 ↔ e = 0 := (BitVec.toNat_eq (y := 0)).symm
  simp only [noExport, he]

/-- A window set up alone, as the first of function 0. -/
theorem State.window_of_first {s : State} {x : Window} (h : s.bridge.windows = modAt (Vector.replicate 256 {}) 0 fun _ => x) (k : Nat) :
    s.window (k / 8) (k % 8) = if k = 0 then x else {} := by
  have hk : k / 8 * 8 + k % 8 = k := Nat.div_add_mod' k 8
  have hempty : (Vector.replicate 256 ({} : Window)).getD k {} = {} := by
    by_cases hlt : k < 256 <;> simp [Vector.getD, hlt]
  rw [State.window, hk, h, getD_modAt, hempty]
  by_cases h0 : k = 0
  · simp [h0]
  · simp [h0, Ne.symm h0]


/-- Settles O41: each PDU by whether what it names is exported (`noExport_eq`), a lock by who holds it, an answer by what waits
under its tag. -/
theorem bridgesExchangeTheirPdus : Obligations.BridgesExchangeTheirPdus := by
  refine ⟨?_, ?_, ?_, ?_, ?_, ?_, ?_, ?_, ?_, ?_, ?_, ?_, ?_, ?_, ?_, ?_, ?_, ?_, ?_, ?_, ?_, ?_, ?_, ?_, ?_, ?_, ?_, ?_, ?_⟩
  · intro s b g l by' h e n dp so t c v d ws f m hdeaf
    refine ⟨?_, ?_, ?_, ?_, ?_⟩
    · show execBridgeRead b g l e n t by' d s = _
      simp only [execBridgeRead, hdeaf, Bool.not_false, if_true]
    · show execBridgeWrite b c g l e t ws v s = _
      simp only [execBridgeWrite, hdeaf, Bool.not_false, Bool.true_or, if_true]
    · show execBridgeLock b g l t dp so h s = _
      simp only [execBridgeLock, hdeaf, Bool.not_false, if_true]
    · show execBridgeUnlock b g l t s = _
      simp only [execBridgeUnlock, hdeaf, Bool.not_false, if_true]
    · show execBridgeSubscribe b f m s = _
      simp only [execBridgeSubscribe, hdeaf, Bool.not_false, if_true]
  · intro s b g l by' e n t d hhears hreach
    show execBridgeRead b g l e n t by' d s = _
    simp only [execBridgeRead, hhears, hreach, noExport_eq, Bool.not_true, Bool.not_false, Bool.false_eq_true, if_false, if_true]
  · intro s b g l by' n t d hhears hreaches
    show execBridgeRead .. = _
    simp [execBridgeRead, hhears, hreaches]
  · intro s b g l by' e n t d c ws hhears hreaches he hexportRead
    show execBridgeRead .. = _
    simp only [execBridgeRead, hhears, hreaches, he, hexportRead]
    rfl
  · intro s b c v g l e t
    show execBridgeWrite .. = _
    simp [execBridgeWrite]
  · intro s b c v g l e t d ds hhears hreach
    show execBridgeWrite b c g l e t (d :: ds) v s = _
    simp only [execBridgeWrite, hhears, hreach, noExport_eq, Bool.not_true, Bool.not_false, List.isEmpty_cons, Bool.or_false, Bool.false_eq_true,
      if_false,
      if_true]
  · intro s b c v g l t d ds hhears hreaches
    show execBridgeWrite .. = _
    simp [execBridgeWrite, hhears, hreaches]
  · intro s u b c v g l e t d ds k hhears hreaches he hexportWrite
    show execBridgeWrite .. = _
    unfold execBridgeWrite
    split <;> simp_all
  · intro s b g l h t d o c hhears hpartPlace
    show execBridgeLock .. = _
    simp [execBridgeLock, hhears, hpartPlace]
  · intro s b g l h t d o x hhears hpartPlace hlock
    show execBridgeLock .. = _
    simp [execBridgeLock, hhears, hpartPlace, hlock]
  · intro s b g l h t d o x k hhears hpartPlace hlock q
    show execBridgeLock .. = _
    simp only [execBridgeLock, hhears, hpartPlace, hlock]
    grind
  · intro s b g l t hhears mine u
    show execBridgeUnlock .. = _
    rw [execBridgeUnlock, hhears]
    rfl
  · intro s g
    rfl
  · intro s i f m hhears b
    show execBridgeSubscribe .. = _
    rw [execBridgeSubscribe, hhears]
    rfl
  · intro s n f m b
    rfl
  · intro s l q hfind
    show execLockBackoffEnd .. = _
    rw [execLockBackoffEnd, hfind]
  · intro s l hfind
    show execLockBackoffEnd .. = _
    rw [execLockBackoffEnd, hfind]
  · intro s i o st g l t d ho
    have hne : o ≠ 0x81 ∧ o ≠ 0x82 ∧ o ≠ 0x83 ∧ o ≠ 0x84 ∧ o ≠ 0x85 ∧ o ≠ 0x86 := by
      refine ⟨?_, ?_, ?_, ?_, ?_, ?_⟩ <;> rintro rfl <;> simp at ho
    obtain ⟨h1, h2, h3, h4, h5, h6⟩ := hne
    have hrest : (decide (o.toNat ≤ 6) && o != 0 || decide (o = 0x86)) = false := by
      rw [decide_eq_false h6, Bool.or_false]
      rcases ho with rfl | ho | ho
      · rfl
      · rw [decide_eq_false (by omega), Bool.false_and]
      · rw [decide_eq_false (by omega), Bool.false_and]
    show execBridgeAnswer i o st g l t d s = _
    simp only [execBridgeAnswer, State.bridgeAnswer, if_neg h1, if_neg h2, if_neg h3, if_neg h4, if_neg h5, hrest, Bool.false_eq_true, if_false]
  · intro s i o st g l t d h1
    show execBridgeAnswer .. = _
    simp only [execBridgeAnswer, State.bridgeAnswer]
    grind
  · intro s i st g l t d x hfind
    show execBridgeAnswer i 0x81 st g l t d s = _
    simp only [execBridgeAnswer, State.bridgeAnswer, if_true, hfind]
    cases i <;> rfl
  · intro s i st g l t d x hnone hfind
    show execBridgeAnswer i 0x81 st g l t d s = _
    simp only [execBridgeAnswer, State.bridgeAnswer, if_true, hnone, hfind]
    cases i <;> rfl
  · intro s i st g l t d x hg hfind
    show execBridgeAnswer i 0x82 st g l t d s = _
    have h : ¬(0x82 : Byte) = 0x81 := by decide
    simp only [execBridgeAnswer, State.bridgeAnswer, h, hg, if_false, if_true, hfind]
    cases i <;> rfl
  · intro s i st g l t d hnone
    have hdr : (if g = 0 then none else s.bridge.dr.find? fun k => k.tag == g.toNat && k.st == .pending && k.tun == i.map (·.toNat)) = none := by
      rcases hnone with h | h
      · rw [if_pos h]
      · rw [h, ite_self]
    show execBridgeAnswer i 0x82 st g l t d s = _
    have h : ¬(0x82 : Byte) = 0x81 := by decide
    simp only [execBridgeAnswer, State.bridgeAnswer, h, if_false, if_true, hdr]
    cases s.windowFor (i.map (·.toNat)) t.toNat with
    | none => rfl
    | some x => cases i <;> rfl
  · intro s i st g l t d
    show execBridgeAnswer i 0x83 st g l t d s = _
    have h1 : ¬(0x83 : Byte) = 0x81 := by decide
    have h2 : ¬(0x83 : Byte) = 0x82 := by decide
    simp only [execBridgeAnswer, State.bridgeAnswer, h1, h2, if_false, if_true]
    cases s.bridge.out.find? fun o => o.tag == g.toNat && o.op == opWriteC && o.tun == i.map (·.toNat) && o.sent with
    | none => rfl
    | some x => cases i <;> rfl
  · intro s i st g l t d
    show execBridgeAnswer .. = _
    simp only [execBridgeAnswer, State.bridgeAnswer]
    grind
  · intro s i st g l t d k
    show execBridgeAnswer .. = _
    simp only [execBridgeAnswer, State.bridgeAnswer]
    grind
  · intro s i e a
    show execBridgeIntr i e a s = _
    cases i <;> rfl
  · intro s i e a hnone
    show execBridgeIntr i e a s = _
    simp only [execBridgeIntr]
    rw [foldl_of_fixed fun k _ => by simp only [hnone, Bool.false_and, Bool.false_eq_true, if_false]]
  · intro s e a x hwin hvalid hintr hexp hhandle hfirst hlast hbits
    have hgo : (x.valid && x.intrEn && x.exp == 0 && x.handle == 0 && decide (x.firstEp ≤ e.toNat) && decide (e.toNat < x.firstEp + 8192) &&
        (a.toNat / 4096 &&& x.intrMask) != 0) = true := by simp [hvalid, hintr, hexp, hhandle, hfirst, hlast, hbits]
    have hfirstw : s.window 0 0 = x := State.window_of_first hwin 0
    have hrange : List.range 256 = 0 :: List.range' 1 255 := by rw [List.range_eq_range', List.range'_succ]
    show execBridgeIntr none e a s = _
    simp only [execBridgeIntr, hrange, List.foldl_cons, Nat.zero_div, Nat.zero_mod, hfirstw, hgo, if_true]
    generalize hu : s.raise _ _ _ = u
    have hu' : u.bridge.windows = modAt (Vector.replicate 256 {}) 0 fun _ => x := by rw [← hu, State.raise_bridge, hwin]
    rw [foldl_of_fixed]
    intro k hk
    have hk0 : k ≠ 0 := by
      have := (List.mem_range'_1.mp hk).1
      omega
    simp only [State.window_of_first hu', if_neg hk0, Bool.false_and, Bool.false_eq_true, if_false]

end Sys2Proof.Machine

/-! Endpoint commands (09_bridge.md). -/

namespace Sys2Proof.Machine

open Sys2Proof

/-- Settles O42: each command by its mailbox and window, EP.LOCK by its refusals in their order. -/
theorem endpointCommandsAccessNodes : Obligations.EndpointCommandsAccessNodes := by
  refine ⟨?_, ?_, ?_, ?_, ?_, ?_, ?_, ?_, ?_, ?_, ?_, ?_, ?_, ?_, ?_, ?_, ?_⟩
  · intro s r hr
    show execEpBridge .. = _
    rw [execEpBridge, runCmd_of_running hr]
  · intro s r hr hfnOfSrc
    show execEpWindow .. = _
    rw [execEpWindow, runCmd_of_running hr, hfnOfSrc]
  · intro s r f hr hfnOfSrc e h reach w
    show execEpWindow .. = _
    simp only [execEpWindow, runCmd_of_running hr, hfnOfSrc]
    grind
  · intro s r hr
    show execEpWinget .. = _
    simp only [execEpWinget, runRead_of_running hr]
    split <;> simp_all
  · intro s r hr
    show execEpRead .. = _
    simp only [execEpRead]
    grind
  · intro s r hr hepRuns hword
    show execEpRead .. = _
    simp only [execEpRead, hr, hepRuns, Bool.false_eq_true, if_false, if_neg (Nat.not_lt.mpr hword)]
  · intro s r hr
    show execEpWrite .. = _
    simp only [execEpWrite]
    grind
  · intro s r hr hepRuns hword
    show execEpWrite .. = _
    simp only [execEpWrite, hr, hepRuns, Bool.false_eq_true, if_false, if_neg (Nat.not_lt.mpr hword)]
  · intro s r hr hfnOfSrc
    show execEpLock .. = _
    unfold execEpLock
    split <;> simp_all
  · intro s r f q hr hfnOfSrc hfind
    show execEpLock .. = _
    unfold execEpLock
    split <;> simp_all
  · intro s r f hr hfnOfSrc hfind hvalid
    show execEpLock .. = _
    simp only [execEpLock]
    grind
  · intro s r f w hr hfnOfSrc hfind hwindow hvalid hexp hwindowTun
    show execEpLock .. = _
    simp only [execEpLock]
    grind
  · intro s r f w hr hfn hnone hw hvalid hexp htun q
    show execEpLock s = _
    have hgo : (!w.valid || w.exp != 0) = false := by simp [hvalid, hexp]
    simp only [execEpLock, hr, hfn, hnone, hw, hgo, Bool.false_eq_true, if_false, Option.isNone_iff_eq_none, q]
    repeat' split
    all_goals rfl
  · intro s r hr hfnOfSrc
    show execEpUnlock .. = _
    rw [execEpUnlock, runCmd_of_running hr, hfnOfSrc]
  · intro s r f hr hfnOfSrc hfind
    show execEpUnlock .. = _
    simp only [execEpUnlock, runCmd_of_running hr, hfnOfSrc, hfind]
  · intro s r f q hr hfnOfSrc hfind
    show execEpUnlock .. = _
    simp only [execEpUnlock, runCmd_of_running hr, hfnOfSrc, hfind]
    rfl
  · intro s r hr seen
    have hseen : (if (s.srcTenant r.src).isSome then s.bridge.log.filter (·.source == r.src.code) else s.bridge.log) = seen := by
      simp only [seen]
      cases s.srcTenant r.src with
      | none => exact (List.filter_eq_self.mpr fun _ _ => rfl).symm
      | some t => rfl
    show execEpErrlog s = _
    simp only [execEpErrlog, runRead_of_running hr, hseen]

end Sys2Proof.Machine

/-! Heads and display cells (10_display.md). -/

namespace Sys2Proof.Machine

open Sys2Proof

/-- Two heads, each with a record that waits; the one of D0 makes the pair (R344). -/
def pairAtFrameStart : State := { State.reset with
  sys.domains := Vector.replicate 14 true
  disp.head := #v[{ nextCfg := some { pair := true } }, { nextCfg := some {} }] }

/-- The record of D0 has taken effect before the followers are listed, so D1 takes its own record in the same frame start. -/
theorem pairAtFrameStart_model_loads_D1 : ((pairAtFrameStart.frameStart 0).hd 1).nextCfg.isSome = false := by decide +kernel

/-- With the followers of the record before, D1 keeps its record waiting. -/
theorem pairAtFrameStart_old_followers_leave_D1 :
    ((((pairAtFrameStart.followers 0).foldl (fun (s : State) (g : Nat) => s.loadRecords g) (pairAtFrameStart.loadRecords 0)).runFrame 0).hd
      1).nextCfg.isSome = true := by decide +kernel

/-- Refutes O43: when the record of D0 that waits makes the pair, the frame start loads the records of D1 too, although D1 was no follower
before it. -/
theorem not_headsShowFramesFromTheirTunnels : ¬ Obligations.HeadsShowFramesFromTheirTunnels := by
  rintro ⟨-, -, -, -, -, -, hframe, -⟩
  have hrun : Host.Outcome.next (pairAtFrameStart.frameStart 0) = .next (((pairAtFrameStart.followers 0).foldl
      (fun (s : State) (g : Nat) => s.loadRecords g) (pairAtFrameStart.loadRecords 0)).runFrame 0) :=
    hframe pairAtFrameStart 0 (by decide +kernel) (by decide +kernel) (by decide +kernel) (by decide +kernel)
  have hsame := congrArg (fun s : State => (s.hd 1).nextCfg.isSome) (Host.Outcome.next.inj hrun)
  simp only [pairAtFrameStart_model_loads_D1, pairAtFrameStart_old_followers_leave_D1] at hsame
  exact absurd hsame (by decide)

end Sys2Proof.Machine

/-! Display commands (10_display.md). -/

namespace Sys2Proof.Machine

open Sys2Proof

/-- Settles O44: each command by whether the mailbox may see the head, then by its own refusals in their order. -/
theorem displayCommandsCommitAndBind : Obligations.DisplayCommandsCommitAndBind := by
  refine ⟨?_, ?_, ?_, ?_, ?_, ?_, ?_, ?_, ?_, ?_, ?_, ?_, ?_⟩
  · intro s r hr
    show execDispStatus .. = _
    simp only [execDispStatus, runCmd_of_running hr]
    split <;> simp_all
  · intro s r hr hst
    show execDispEdid .. = _
    simp only [execDispEdid, runRead_of_running hr]
    split <;> simp_all
  · intro s r b hr hst hedid
    show execDispEdid .. = _
    simp only [execDispEdid, runRead_of_running hr, hedid]
  · intro s r hr hseesHead
    show execDispCommit .. = _
    rcases hseesHead with hseesHead | hseesHead <;> simp [execDispCommit, runCmd_of_running hr, hseesHead]
  · intro s r h hr hword hseesHead hpaired late c k u
    show execDispCommit .. = _
    simp only [execDispCommit, runCmd_of_running hr, hword, hseesHead, hpaired]
    rfl
  · intro s r hr hsees hfits
    have hroom : (!s.seesHead r.src (r.f 0 31 31) ||
        decide ((s.hd (r.f 0 31 31)).cfg.fbMib * mib < (r.w 1).toNat / 4 * 4 + 4 * (r.data.drop 2).length)) = false := by
      rw [hsees, List.length_drop, decide_eq_false (Nat.not_lt.mpr hfits)]
      rfl
    show execDispWrite s = _
    simp only [execDispWrite, runCmd_of_running hr, hroom, Bool.false_eq_true, if_false]
  · intro s r hr hseesHead
    show execDispWrite .. = _
    simp only [execDispWrite, runCmd_of_running hr]
    split <;> simp_all
  · intro s r hr htunFor
    show execDispTarget .. = _
    rw [execDispTarget, runCmd_of_running hr, htunFor]
  · intro s r t hr htunFor hcls
    show execDispTarget .. = _
    rcases hcls with hcls | hcls | hcls <;> simp [execDispTarget, runCmd_of_running hr, htunFor, hcls]
  · intro s r t hr htunFor hcls hseesHead hpaired hbitAt htargetOf
    show execDispTarget .. = _
    simp only [execDispTarget, runCmd_of_running hr, htunFor, hcls, hseesHead, hpaired, hbitAt, htargetOf]
    rfl
  · intro s r t x b hr htunFor hcls hseesHead hpaired hbitAt htargetOf
    show execDispTarget .. = _
    simp only [execDispTarget, runCmd_of_running hr, htunFor, hcls, hseesHead, hpaired, hbitAt, htargetOf]
    rfl
  · intro s r t hr htunFor hcls hseesHead hpaired hbitAt hleastFree
    show execDispTarget .. = _
    simp only [execDispTarget, runCmd_of_running hr, htunFor, hcls, hseesHead, hpaired, hbitAt]
    grind
  · intro s r t k hr htunFor hcls hseesHead hpaired hbitAt hleastFree hbufferOk
    show execDispTarget .. = _
    simp only [execDispTarget, runCmd_of_running hr, htunFor, hcls, hseesHead, hpaired, hbitAt, hleastFree, hbufferOk]
    rfl

end Sys2Proof.Machine

/-! Desk ports: attach, protection and recovery (11_desk_power.md). -/

namespace Sys2Proof.Machine

open Sys2Proof

/-- The pins a wait has seen, kept in the port. -/
def DeskPort.seePins (a b : Cc) (x : DeskPort) : DeskPort :=
  if x.st == .attachWaitSrc || x.st == .attachWaitSnk || x.st == .tryWaitSnk then { x with cc := (a, b) } else x

/-- What the pins show does not move the port by itself. -/
theorem State.dk_seePins_st (s : State) (p : Fin 4) (a b : Cc) : ((s.modDk p.val (DeskPort.seePins a b)).dk p.val).st = (s.dk p.val).st := by
  rw [State.dk_modDk, if_pos ⟨rfl, p.isLt⟩, DeskPort.seePins]
  split <;> rfl

/-- Settles O45: each row by the state of its port and by the pins that `DeskPort.seePins` notes. -/
theorem deskPortsAttachAndRecover : Obligations.DeskPortsAttachAndRecover := by
  refine ⟨?_, ?_, ?_, ?_, ?_, ?_, ?_, ?_, ?_, ?_, ?_, ?_, ?_, ?_, ?_⟩
  · intro s p a b
    show execCcAttachDetect .. = _
    simp only [execCcAttachDetect]
    grind
  · intro s p
    show execDrpToggle .. = _
    unfold execDrpToggle
    split <;> simp_all
  · intro s p a b v w hst u
    have hst' : (u.dk p.val).st = .attachWaitSrc := (s.dk_seePins_st p a b).trans hst
    show execCcDebounceExpiry p a b v w s = _
    change (match (u.dk p.val).st with
      | .attachWaitSrc => Host.Outcome.next (if w then u.actOnCc p.val (a, b) else u)
      | .attachWaitSnk => .next (if seesRp (a, b) then (if v then u.modPower p.val fun x => { x with st := .trySrc } else u) else u.toUnattached
        p.val)
      | .tryWaitSnk => .next (if seesRp (a, b) && v then u.enterSnk p.val else u)
      | _ => .next u) = _
    rw [hst']
    cases w
    · rfl
    · cases a <;> cases b <;> rfl
  · intro s p a b v w hst u
    have hst' : (u.dk p.val).st = .attachWaitSnk := (s.dk_seePins_st p a b).trans hst
    show execCcDebounceExpiry p a b v w s = _
    change (match (u.dk p.val).st with
      | .attachWaitSrc => Host.Outcome.next (if w then u.actOnCc p.val (a, b) else u)
      | .attachWaitSnk => .next (if seesRp (a, b) then (if v then u.modPower p.val fun x => { x with st := .trySrc } else u) else u.toUnattached
        p.val)
      | .tryWaitSnk => .next (if seesRp (a, b) && v then u.enterSnk p.val else u)
      | _ => .next u) = _
    rw [hst']
    simp only [seesRp, Bool.or_eq_true, beq_iff_eq]
  · intro s p a b v w hst u
    have hst' : (u.dk p.val).st = .tryWaitSnk := (s.dk_seePins_st p a b).trans hst
    show execCcDebounceExpiry p a b v w s = _
    change (match (u.dk p.val).st with
      | .attachWaitSrc => Host.Outcome.next (if w then u.actOnCc p.val (a, b) else u)
      | .attachWaitSnk => .next (if seesRp (a, b) then (if v then u.modPower p.val fun x => { x with st := .trySrc } else u) else u.toUnattached
        p.val)
      | .tryWaitSnk => .next (if seesRp (a, b) && v then u.enterSnk p.val else u)
      | _ => .next u) = _
    rw [hst']
    simp only [seesRp, Bool.and_eq_true, Bool.or_eq_true, beq_iff_eq]
  · intro s p
    show execTrySrcTimeout .. = _
    simp [execTrySrcTimeout]
  · intro s p a b
    show execTrySrcDetect .. = _
    simp only [execTrySrcDetect]
    grind
  · intro s p
    show execTrywaitTimeout .. = _
    simp [execTrywaitTimeout]
  · intro s p
    show execDeskDetach .. = _
    simp only [execDeskDetach]
    grind
  · intro s p
    rfl
  · intro s p
    show execSafe0vTimeout .. = _
    unfold execSafe0vTimeout
    split <;> simp_all
  · intro s p
    show execErrorRecoveryEnd .. = _
    simp only [execErrorRecoveryEnd, State.dk, State.portAfresh]
    grind
  · intro s p
    show execFaultExit .. = _
    simp only [execFaultExit, State.dk, State.portAfresh]
    grind
  · intro s p k hval
    show execVbusProtection .. = _
    rcases hval with hval | hval <;> simp [execVbusProtection, hval]
  · intro s p k hval u v
    show execVbusProtection .. = _
    simp only [execVbusProtection]
    grind

end Sys2Proof.Machine

/-! Desk ports: contracts (11_desk_power.md). -/

namespace Sys2Proof.Machine

open Sys2Proof

/-- A port that is source and moves nothing takes a Request. -/
theorem takesRequest {x : DeskPort} (hst : x.st = .attachedSrc) (hrec : x.recovering = false) (hswap : x.swap = .none) :
    (!x.isSource || x.recovering || x.swap != .none) = false := by
  rw [DeskPort.isSource, hst, hrec, hswap]
  rfl

/-- Settles O46: each row by role and state of its port, a Request by `takesRequest`. -/
theorem deskContractsAreMadeAndTimed : Obligations.DeskContractsAreMadeAndTimed := by
  refine ⟨?_, ?_, ?_, ?_, ?_, ?_, ?_, ?_, ?_, ?_, ?_, ?_, ?_, ?_, ?_, ?_, ?_, ?_, ?_, ?_, ?_, ?_, ?_, ?_, ?_⟩
  · intro s p c hmayOffer
    show execSourceCapsSend .. = _
    simp [execSourceCapsSend, hmayOffer]
  · intro s p hmay
    show execSourceCapsSend p none s = _
    simp only [execSourceCapsSend, hmay, Bool.not_true, Bool.false_eq_true, if_false]
  · intro s p a e hmay t
    show execSourceCapsSend p (some (a, e)) s = _
    simp only [execSourceCapsSend, hmay, Bool.not_true, Bool.false_eq_true, if_false]
    rfl
  · intro s p o v a hnot
    have hskip : (!(s.dk p.val).isSource || (s.dk p.val).recovering || (s.dk p.val).swap != .none) = true := by
      rcases hnot with h | h | h <;> simp [DeskPort.isSource, h]
    show execPdRequest p o v a s = _
    simp only [execPdRequest, hskip, if_true]
  · intro s p o v a c hst hrec hswap hreq
    show execPdRequest p o v a s = _
    simp only [execPdRequest, takesRequest hst hrec hswap, hreq, Bool.false_eq_true, if_false]
  · intro s p o v a hst hrec hswap hreq
    show execPdRequest p o v a s = _
    simp only [execPdRequest, takesRequest hst hrec hswap, hreq, Bool.false_eq_true, if_false]
  · intro s p c hswap htrans t
    show execPdTransitionDone p s = _
    simp only [execPdTransitionDone, hswap, htrans, Option.isNone_iff_eq_none]
    repeat' split
    all_goals rfl
  · intro s p hswap hswapToSrc
    show execPdTransitionDone .. = _
    simp [execPdTransitionDone, hswap, hswapToSrc]
  · intro s p hswap hswapToSrc
    show execPdTransitionDone .. = _
    simp [execPdTransitionDone, hswap, hswapToSrc]
  · intro s p hdk
    show execPdTransitionDone .. = _
    rcases hdk with hdk | hdk | hdk <;> simp [execPdTransitionDone, hdk]
  · intro s p
    have hpps : (s.dk p.val).contract.map (·.pps) = some true ↔ ((s.dk p.val).contract.any fun (c : Contract) => c.pps) = true := by
      cases (s.dk p.val).contract <;> simp
    show execPpsRequestTimeout p s = _
    simp only [execPpsRequestTimeout, hpps, DeskPort.isSource, Bool.and_eq_true, decide_eq_true_eq, beq_iff_eq]
  · intro s p
    show execEprModeEnter p s = _
    simp only [execEprModeEnter, DeskPort.isSource, Bool.and_eq_true, decide_eq_true_eq, Bool.not_eq_true', beq_eq_false_iff_ne, and_assoc]
    repeat' split
    all_goals rfl
  · intro s p
    rfl
  · intro s p b
    rfl
  · intro s p b hattached hst
    show execHardReset .. = _
    simp [execHardReset, State.hardReset, hattached, hst]
  · intro s p b hatt hswap
    show execHardReset p b s = _
    simp [execHardReset, State.hardReset, hatt, hswap, b2n]
  · intro s p
    rfl
  · intro s hyp
    show execDeskReoffer .. = _
    simp only [execDeskReoffer, hyp]
    rfl
  · intro s p hfind
    show execDeskReoffer .. = _
    rw [execDeskReoffer, hfind]
  · intro s p hfind hreofferBusy hmayOffer
    show execDeskReoffer .. = _
    simp [execDeskReoffer, hfind, hreofferBusy, hmayOffer]
  · intro s p t
    show execDeskReclaimTimeout .. = _
    simp only [execDeskReclaimTimeout, Bool.not_eq_true']
    repeat' split
    all_goals rfl
  · intro s p
    show execContractTimeout p s = _
    simp only [execContractTimeout, State.powerOnly, Bool.or_eq_true, Bool.not_eq_true', Option.isSome_iff_ne_none]
    repeat' split
    all_goals rfl
  · intro s p d a hst
    show execSourceCapsReceive .. = _
    rw [execSourceCapsReceive, hst]
  · intro s p d a hst t
    show execSourceCapsReceive .. = _
    simp only [execSourceCapsReceive, hst, Bool.and_eq_true, Bool.not_eq_true']
    repeat' split
    all_goals rfl
  · intro s p d a hst hst'
    show execSourceCapsReceive .. = _
    simp [execSourceCapsReceive]

end Sys2Proof.Machine

/-! Desk ports: role swaps and commands (11_desk_power.md). -/

namespace Sys2Proof.Machine

open Sys2Proof

section KeepSys

variable (s : State)

theorem State.setMp_sys (p k st status : Nat) : (s.setMp p k st status).sys = s.sys := by
  rw [State.setMp]
  split
  · rfl
  · rw [State.raise_sys]
    rfl

theorem State.modDev_sys (p status : Nat) (f : Exported → Exported) : (s.modDev p status f).sys = s.sys := by
  simp only [State.modDev]
  split
  · rfl
  · rw [State.raise_sys]
    rfl

theorem State.modPower_sys (p : Nat) (f : DeskPort → DeskPort) : (s.modPower p f).sys = s.sys := by
  simp only [State.modPower]
  split <;> split <;> simp [State.modDk]

theorem State.endContract_sys (p : Nat) : (s.endContract p).sys = s.sys := by
  simp only [State.endContract]
  split
  · rw [State.raise_sys]
    rfl
  · rfl

theorem State.markReoffers_sys : s.markReoffers.sys = s.sys := by
  refine List.foldlRecOn (motive := fun t : State => t.sys = s.sys) _ _ rfl fun t ht p _ => ?_
  dsimp only
  split <;> exact ht

theorem State.takeEph_sys (i : Nat) : (s.takeEph i).sys = s.sys := by
  rw [State.takeEph]
  split
  · simp [State.drawEph, State.modTun]
  · rfl

/-- The number that `leastFree` gives is in no use. -/
theorem leastFree_unused {used : List Nat} {i : Nat} : ∀ {n a : Nat}, leastFree used a n = some i → used.contains i = false
  | 0, _, h => nomatch h
  | n + 1, a, h => by
    rw [leastFree] at h
    split at h
    · exact leastFree_unused h
    · next hfree =>
      obtain rfl := Option.some.inj h
      simpa using hfree

/-- A tunnel that is opened begins from CLOSED under an index of its own: no other tunnel goes up or down with it. -/
theorem State.openTun_sys {s u : State} {p : OpenParams} {owner : Option Source} {i : Nat} (h : s.openTun p owner = some (u, i)) :
    u.sys = s.sys := by
  simp only [State.openTun, State.takeTun] at h
  cases hfree : leastFree (s.tun.table.map (·.idx)) 0 16384 with
  | none => simp [hfree] at h
  | some k =>
    simp only [hfree, Option.some.injEq, Prod.mk.injEq] at h
    obtain ⟨rfl, rfl⟩ := h
    rw [State.takeEph_sys]
    have hold : ∀ t ∈ s.tun.table, ¬t.idx = k := by simpa using leastFree_unused hfree
    have hnone : s.tun.table.find? (·.idx == k) = none := by simpa using hold
    simp only [State.setTun, State.tunAt, List.find?_append, hnone]
    simp [State.modTun]

theorem State.openOwn_sys (p : OpenParams) : (s.openOwn p).1.sys = s.sys := by
  rw [State.openOwn]
  split
  · rfl
  · split
    · next hopen => exact State.openTun_sys hopen
    · rfl

theorem State.openNet_sys (p : Nat) : (s.openNet p).sys = s.sys := by
  simp only [State.openNet]
  split
  · rfl
  · split
    · rfl
    · exact s.openOwn_sys _

theorem State.openVid_sys (p : Nat) : (s.openVid p).sys = s.sys := by
  simp only [State.openVid]
  split
  · rfl
  · split
    · rfl
    · exact s.openOwn_sys _

theorem State.connectLocal_sys (p k : Nat) : (s.connectLocal p k).sys = s.sys := by
  simp only [State.connectLocal]
  split
  · rw [State.setMp_sys]
    show (s.modDev ((s.dk p).mp k).map.farPort 0 fun d => { d with dock := some (0, p * 8 + k) }).sys = s.sys
    rw [State.modDev_sys]
  · split
    · rw [State.setMp_sys]
      rfl
    · rw [State.setMp_sys]
      rfl

theorem State.connectMp_sys (p k : Nat) : (s.connectMp p k).sys = s.sys := by
  simp only [State.connectMp]
  split
  · rw [State.setMp_sys]
  · split
    · rfl
    · split
      · rw [State.connectLocal_sys]
      · split
        · split
          · exact s.setMp_sys _ _ _ _
          · exact s.setMp_sys _ _ _ _
        · rw [State.setMp_sys]
          exact s.openOwn_sys _

theorem State.openDesk_sys (p : Nat) : (s.openDesk p).sys = s.sys := by
  refine List.foldlRecOn (motive := fun t : State => t.sys = s.sys) _ _ ?_ fun t ht k _ => ?_
  · rw [State.openVid_sys, State.openNet_sys]
  · rw [State.connectMp_sys, ht]

theorem State.setUsb_sys (p n : Nat) : (s.setUsb p n).sys = s.sys := by
  simp only [State.setUsb]
  split
  · rfl
  · refine List.foldlRecOn (motive := fun t : State => t.sys = s.sys) _ _ ?_ fun t ht k _ => ?_
    · rw [State.raise_sys]
      rfl
    · split
      · rw [State.setMp_sys, ht]
      · exact ht

/-- A port that gains its data role leaves the stage and kind of start of the hub. -/
theorem State.gainRole_sys (p : Nat) : (s.gainRole p).sys = s.sys := by
  simp only [State.gainRole]
  split
  · rfl
  · split
    · rw [State.raise_sys]
      rfl
    · rw [State.openDesk_sys, State.setUsb_sys, State.raise_sys]
      rfl

end KeepSys

/-- Outside a dead-feed start a partner's answer has its effect on the port alone. -/
theorem execPdPartnerAnswer_of_sys {s t : State} {p : Fin 4} {m : PdMsg} {a : PdAnswer} (i : StartInfo) (h : s.partnerAnswer p.val m a = t)
    (hsys : t.sys = s.sys) (hstart : s.sys.start ≠ 1) : execPdPartnerAnswer p m a i s = .next t := by
  subst h
  simp [execPdPartnerAnswer, hsys, hstart]

/-- Settles O47: each swap by the refusals in their order; a partner's answer by what was asked, and the rest of the hub by
`execPdPartnerAnswer_of_sys`. -/
theorem deskRolesSwapAndCommandsAct : Obligations.DeskRolesSwapAndCommandsAct := by
  refine ⟨?_, ?_, ?_, ?_, ?_, ?_, ?_, ?_, ?_, ?_, ?_, ?_, ?_, ?_, ?_, ?_, ?_, ?_, ?_, ?_, ?_, ?_⟩
  · intro s p
    show execPrSwapReceive p s = _
    simp only [execPrSwapReceive, DeskPort.isSource, beq_iff_eq, Bool.not_eq_true']
    repeat' split
    all_goals rfl
  · intro s p hst hmoving
    show execPrSwapReceive p s = _
    simp [execPrSwapReceive, DeskPort.attached, DeskPort.isSource, hst, hmoving]
  · intro s p
    show execVconnSwapReceive .. = _
    simp only [execVconnSwapReceive, beq_iff_eq, Bool.not_eq_true']
    repeat' split
    all_goals rfl
  · intro s p hst hmoving
    show execVconnSwapReceive p s = _
    simp [execVconnSwapReceive, DeskPort.attached, hst, hmoving]
  · intro s p
    show execDrSwapReceive .. = _
    simp only [execDrSwapReceive, beq_iff_eq, Bool.not_eq_true']
    repeat' split
    all_goals rfl
  · intro s p hst hmoving hdfp hper
    show execDrSwapReceive p s = _
    simp [execDrSwapReceive, DeskPort.attached, hst, hmoving, hdfp, hper]
  · intro s p m hgetD
    show execPdWaitReceive .. = _
    rw [execPdWaitReceive, hgetD]
    rfl
  · intro s p m hgetD hwaitRetries
    show execPdWaitReceive .. = _
    simp [execPdWaitReceive, hgetD, hwaitRetries]
  · intro s p m hgetD hyp
    show execPdWaitReceive .. = _
    simp [execPdWaitReceive, hgetD, hyp]
  · intro s p m
    show execWaitRetryExpiry .. = _
    unfold execWaitRetryExpiry
    split <;> simp_all
  · intro s p
    show execSwapPsRdyTimeout .. = _
    unfold execSwapPsRdyTimeout
    split <;> simp_all
  · intro s p m a i t
    show execPdPartnerAnswer .. = _
    simp only [execPdPartnerAnswer, Bool.and_eq_true, beq_iff_eq]
    repeat' split
    all_goals rfl
  · intro s p m a i hgetD ha hstart
    show execPdPartnerAnswer .. = _
    simp only [execPdPartnerAnswer, State.partnerAnswer]
    split <;> simp_all
  · intro s p i hasked hstart
    have hanswer : s.partnerAnswer p.val .prSwap .accept = ((s.modDk p.val fun x =>
        { x with asked := modAt x.asked 0 fun _ => false, waits := modAt x.waits 0 fun _ => 0 }).modDk p.val fun x =>
          { x with swap := .accepted, swapToSrc := !x.isSource }) := by
      simp [State.partnerAnswer, PdMsg.slot, hasked]
    exact execPdPartnerAnswer_of_sys i hanswer rfl hstart
  · intro s p i hasked hstart
    have hanswer : s.partnerAnswer p.val .vconnSwap .accept = ((s.modDk p.val fun x =>
        { x with asked := modAt x.asked 1 fun _ => false, waits := modAt x.waits 1 fun _ => 0 }).modPower p.val fun x =>
          { x with vconnOn := !x.vconnOn }) := by
      simp [State.partnerAnswer, PdMsg.slot, hasked]
    exact execPdPartnerAnswer_of_sys i hanswer (State.modPower_sys _ _ _) hstart
  · intro s p i hasked hstart
    have hanswer : s.partnerAnswer p.val .sinkRequest .accept = ((s.modDk p.val fun x =>
        { x with asked := modAt x.asked 3 fun _ => false, waits := modAt x.waits 3 fun _ => 0 }).modDk p.val fun x =>
          { x with transition := some { mv := 5000, ma := x.sinkMa } }) := by
      simp [State.partnerAnswer, PdMsg.slot, hasked]
    exact execPdPartnerAnswer_of_sys i hanswer rfl hstart
  · intro s p a i hasked hstart t
    refine ⟨execPdPartnerAnswer_of_sys i ?_ (State.gainRole_sys _ _) hstart, execPdPartnerAnswer_of_sys i ?_ (State.raise_sys _ _ _ _) hstart,
      execPdPartnerAnswer_of_sys i ?_ (State.raise_sys _ _ _ _) hstart⟩
    · simp [State.partnerAnswer, PdMsg.slot, hasked, t]
    · simp [State.partnerAnswer, PdMsg.slot, hasked, t, State.powerOnly]
    · simp [State.partnerAnswer, PdMsg.slot, hasked, t, State.powerOnly]
  · intro s p m i hasked hm hstart t
    refine ⟨execPdPartnerAnswer_of_sys i ?_ rfl hstart, execPdPartnerAnswer_of_sys i ?_ rfl hstart⟩
    · simp [State.partnerAnswer, hasked, hm, t]
    · simp [State.partnerAnswer, hasked, hm, t]
  · intro s p m i hswap hto hstart
    refine execPdPartnerAnswer_of_sys i ?_ rfl hstart
    simp [State.partnerAnswer, State.partnerReady, hswap, hto]
  · intro s p m i hswap hto hstart
    refine execPdPartnerAnswer_of_sys i ?_ ?_ hstart
    · simp [State.partnerAnswer, State.partnerReady, hswap, hto]
    · rw [State.markReoffers_sys, State.modPower_sys, State.endContract_sys]
  · intro s r v a hr p t c
    show execDeskStatus .. = _
    rw [execDeskStatus, runCmd_of_running hr]
  · intro s r hr p a x u
    have hact : s.deskAction p (if 7 ≤ a then 0 else a) = u := by
      by_cases h7 : 7 ≤ a
      · have hno : a ≠ 1 ∧ a ≠ 2 ∧ a ≠ 3 ∧ a ≠ 4 ∧ a ≠ 5 ∧ a ≠ 6 := by omega
        obtain ⟨h1, h2, h3, h4, h5, h6⟩ := hno
        simp [State.deskAction, u, h7, h1, h2, h3, h4, h5, h6]
      · simp [State.deskAction, u, x, h7, Option.isSome_iff_ne_none, and_assoc, or_assoc]
    have hclamp : (a != if 7 ≤ a then 0 else a) = decide (7 ≤ a) := by
      by_cases h7 : 7 ≤ a
      · have h0 : a ≠ 0 := by omega
        simp [h7, h0]
      · simp [h7]
    show execDeskControl s = _
    simp only [execDeskControl, runCmd_of_running hr]
    rw [← hact, ← hclamp]

end Sys2Proof.Machine

/-! Desk ports: alternate mode and captured video (12_desk_data.md). -/

namespace Sys2Proof.Machine

open Sys2Proof

/-- The pins, the rate and the lanes that allow a training (R427). -/
theorem trains {x : DeskPort} {r : Fin 6} {n : Nat} (hpin : x.pin ≠ 0) (hsink : x.sink ≠ 0) (hrate : r.val ≤ x.data.maxDpRate) (hone : n ≠ 1)
    (hd : x.pin ≠ 2 ∨ n ≠ 4) : ¬(x.sink = 0 ∨ x.pin = 0 ∨ x.data.maxDpRate < r.val ∨ n = 1 ∨ (x.pin = 2 ∧ n = 4)) := by
  omega
/-- What a change of a desk port does is read of the port as it stands. -/
theorem State.modDk_congr {s : State} {p : Fin 4} {f g : DeskPort → DeskPort} (h : f (s.dk p.val) = g (s.dk p.val)) :
    s.modDk p.val f = s.modDk p.val g := by
  have hdk : s.dk p.val = s.desk.port[p.val] := by simp [State.dk, Vector.getD, p.isLt]
  rw [hdk] at h
  rw [State.modDk, State.modDk, modAt, modAt, dif_pos p.isLt, dif_pos p.isLt, h]

/-- Spans that are sent leave the desk ports as they were. -/
theorem State.sendSpan_desk (s : State) (p : Nat) (b : Binding) (d : Nat × Nat) : (s.sendSpan p b d).desk = s.desk := by
  simp only [State.sendSpan]
  split
  · split <;> rfl
  · split <;> rfl

theorem State.sendSpans_desk (s : State) (p : Nat) (b : Binding) (ds : List (Nat × Nat)) :
    (ds.foldl (fun (t : State) d => t.sendSpan p b d) s).desk = s.desk :=
  List.foldlRecOn (motive := fun t : State => t.desk = s.desk) _ _ rfl fun t ht d _ => (t.sendSpan_desk p b d).trans ht


/-- Settles O48: the VDMs by who is addressed, training by `trains`, a stream and its damage by the state of the capture. -/
theorem laptopsEnterDisplayPortMode : Obligations.LaptopsEnterDisplayPortMode := by
  refine ⟨?_, ?_, ?_, ?_, ?_, ?_, ?_, ?_, ?_, ?_, ?_, ?_, ?_, ?_, ?_, ?_, ?_, ?_, ?_, ?_, ?_⟩
  · intro s p x k v hanswersVdm
    show execVdmDiscover .. = _
    rcases hanswersVdm with hanswersVdm | hanswersVdm <;> simp [execVdmDiscover, hanswersVdm]
  · intro s p v hvdm
    refine ⟨?_, ?_, ?_⟩
    · show execVdmDiscover p 0 0 v s = _
      simp [execVdmDiscover, hvdm]
    · show execVdmDiscover p 0 1 v s = _
      simp [execVdmDiscover, hvdm]
    · have hgo : (!(s.dk p.val).answersVdm || (0 : Fin 3).val != 0) = false := by rw [hvdm]; rfl
      show execVdmDiscover p 0 2 v s = _
      simp only [execVdmDiscover, hgo, Bool.false_eq_true, if_false]
      exact (apply_ite Host.Outcome.next (v = dpSvid) _ _).symm
  · intro s p x v m g hnot
    have hskip : (!(s.dk p.val).answersVdm || x.val != 0) = true := by
      rcases hnot with h | h <;> simp [h]
    refine ⟨?_, ?_⟩
    · show execVdmEnterMode p x v m g s = _
      simp only [execVdmEnterMode, hskip, if_true]
    · show execVdmExitMode p x v g s = _
      simp only [execVdmExitMode, hskip, if_true]
  · intro s p v m g hvdm hnak
    have hno : (v != dpSvid || m != 1 || !(s.dk p.val).data.dpEn || (s.dk p.val).swap != .none) = true := by
      simp only [Bool.or_eq_true, bne_iff_ne, Bool.not_eq_true', or_assoc]
      exact hnak
    show execVdmEnterMode p 0 v m g s = _
    simp only [execVdmEnterMode, hvdm, hno, Fin.val_zero, bne_self_eq_false, Bool.not_true, Bool.or_false, Bool.false_eq_true, if_false, if_true]
  · intro s p g hvdm hen hswap t
    have hdk : t.dk p.val = s.dk p.val := by simp only [t, State.vdm, dif_pos p.isLt]; rfl
    show execVdmEnterMode p 0 0xFF01 1 g s = _
    simp [execVdmEnterMode, hvdm, hen, hswap, dpSvid, t]
    grind
  · intro s p v g hvdm
    show execVdmExitMode p 0 v g s = _
    simp [execVdmExitMode, hvdm, dpSvid]
    repeat' split
    all_goals rfl
  · intro s p
    rfl
  · intro s p i r g halt
    show execDpConfigure .. = _
    rw [execDpConfigure, halt]
    rfl
  · intro s p i r g halt hi
    show execDpConfigure .. = _
    unfold execDpConfigure
    split <;> simp_all
  · intro s p i r g halt hi h3
    show execDpConfigure .. = _
    simp only [execDpConfigure, halt, hi]
    grind
  · intro s p r
    show execDeskUsbLinkTrained .. = _
    unfold execDeskUsbLinkTrained
    split <;> simp_all
  · intro s p r l m hsink
    show execDpSinkTraining .. = _
    rcases hsink with hsink | hsink | hsink | hsink | hsink <;> simp [execDpSinkTraining, hsink]
  · intro s p r l hpin hsink hrate hone hd
    show execDpSinkTraining p r l none s = _
    simp only [execDpSinkTraining, if_neg (trains hpin hsink hrate hone hd)]
  · intro s p r l w h k o hpin hsink hrate hone hd t
    show execDpSinkTraining p r l (some (w, h, k, o)) s = _
    simp only [execDpSinkTraining, if_neg (trains hpin hsink hrate hone hd), Bool.not_eq_true']
    repeat' split
    all_goals rfl
  · intro s p
    rfl
  · intro s p l hsink
    show execCaptureFrameComplete .. = _
    simp [execCaptureFrameComplete, hsink]
  · intro s p l hsink t
    show execCaptureFrameComplete p l s = _
    simp only [execCaptureFrameComplete, hsink, bne_self_eq_false, Bool.false_eq_true, if_false]
    repeat' split
    all_goals rfl
  · intro s p hbinding
    show execDamageSend .. = _
    rw [execDamageSend, hbinding]
  · intro s p b hbinding hsink
    show execDamageSend .. = _
    simp only [execDamageSend, hbinding]
    grind
  · intro s p b hbinding hvideo hsink hsendOn hframeWait
    show execDamageSend .. = _
    simp [execDamageSend, hbinding, hvideo, hsink, hsendOn, hframeWait]
  · intro s p b r u hb hsink hvideo hu hon x room band rest more v
    have hraster : b.video ≠ 1 → (((s.dk p.val).vidTun.bind fun i => s.disp.pacing.find? (·.1 == i)).map (·.2)) = some r := by
      intro h1
      obtain ⟨-, hfound, -⟩ := hvideo.resolve_left h1
      rw [hfound]
      rfl
    have hgo : ((s.dk p.val).sink != 3 || decide (b.video = 0) || (decide (b.video = 2) &&
        ((((s.dk p.val).vidTun.bind fun i => s.disp.pacing.find? (·.1 == i)).map (·.2)).isNone || !s.videoReady p.val))) = false := by
      rcases hvideo with h1 | ⟨h2, hfound, hready⟩
      · simp [hsink, h1]
      · simp [hsink, h2, hready, hfound]
    have hv : v.desk = u.desk := u.sendSpans_desk ..
    have hfirst : ((if x.firstBand || band.isEmpty then v else v.cntK p.val 1 1).dk p.val).firstBand = x.firstBand := by
      have hdk : v.dk p.val = x := by rw [State.dk, hv]; rfl
      split
      · rw [hdk]
      · simp [State.cntK, hdk]
    have hchange : (if x.firstBand || band.isEmpty then v else v.cntK p.val 1 1).modDk p.val (fun y => { y with
          sending := rest, refreshNext := more.2, firstBand := x.firstBand && band.isEmpty, sendOn := !rest.isEmpty }) =
        (if x.firstBand || band.isEmpty then v else v.cntK p.val 1 1).modDk p.val fun y => { y with
          sending := rest, refreshNext := more.2, firstBand := y.firstBand && band.isEmpty, sendOn := !rest.isEmpty } :=
      State.modDk_congr (by simp only [hfirst])
    rw [hchange]
    show execDamageSend p s = _
    simp only [execDamageSend, hb, hgo, ← hu, hon, Bool.not_true, Bool.false_eq_true, if_false]
    by_cases h1 : b.video = 1
    · simp only [h1, if_true, v, more, rest, band, room, x]
    · simp only [h1, hraster h1, if_false, v, more, rest, band, room, x]
      rfl

end Sys2Proof.Machine

/-! Desk ports: exported USB devices (12_desk_data.md). -/

namespace Sys2Proof.Machine

open Sys2Proof

section DeskReads

variable (s : State) (p k q : Nat)

/-- How a device is shown depends on the port's own USB rate, not on the mapped ports. -/
theorem State.shownAs_modMp (f : Mapped → Mapped) (n : Nat) : ((s.modMp p k f).dk q).shownAs n = (s.dk q).shownAs n := by
  simp only [State.modMp, State.dk_modDk, DeskPort.shownAs]
  split <;> rfl

/-- A change of the exported device leaves the mapped ports. -/
theorem State.mp_modDev (st : Nat) (f : Exported → Exported) : ((s.modDev p st f).dk q).mp k = (s.dk q).mp k := by
  have hmod : ((s.modDk p fun x => { x with dev := f x.dev }).dk q).mp k = (s.dk q).mp k := by
    rw [State.dk_modDk]
    split <;> rfl
  simp only [State.modDev]
  split
  · exact hmod
  · rw [State.dk, State.raise_desk]
    exact hmod

end DeskReads

/-- Settles O49: each PDU by its tunnel and UOP, a laptop's transaction by the port it goes to. -/
theorem desksExportUsbDevices : Obligations.DesksExportUsbDevices := by
  refine ⟨?_, ?_, ?_, ?_, ?_, ?_, ?_, ?_, ?_, ?_, ?_, ?_, ?_, ?_, ?_, ?_, ?_, ?_, ?_, ?_, ?_⟩
  · intro s i q htunAt
    show execUsbTunnelAttach .. = _
    rw [execUsbTunnelAttach, htunAt]
  · intro s i q t htunAt hcls
    show execUsbTunnelAttach .. = _
    rcases hcls with hcls | hcls <;> simp [execUsbTunnelAttach, htunAt, hcls]
  · intro s i q t htunAt hcls hendA st u
    show execUsbTunnelAttach .. = _
    simp only [execUsbTunnelAttach, htunAt, hcls, hendA]
    rfl
  · intro s i st v hnone
    refine ⟨?_, ?_⟩
    · show execUsbTunnelAttachAck i st v s = _
      rw [execUsbTunnelAttachAck, hnone, List.foldl_nil]
    · show execUsbTunnelDetach i st s = _
      rw [execUsbTunnelDetach, hnone, List.foldl_nil]
  · intro s i v p k hone t u
    have hu : (s.modMp p k fun m => { m with speed := v.toNat, retry := false }).setMp p k ((s.dk p).shownAs v.toNat) 0 = u := by
      simp only [u, t, State.shownAs_modMp]
    show execUsbTunnelAttachAck i 0 v s = _
    simp only [execUsbTunnelAttachAck, hone, List.foldl_cons, List.foldl_nil, if_true, hu]
    cases u.tunAt i.toNat <;> rfl
  · intro s i st v p k hmappedBy hst
    show execUsbTunnelAttachAck .. = _
    simp only [execUsbTunnelAttachAck, hmappedBy, hst]
    rfl
  · intro s i st p k hmappedBy t
    show execUsbTunnelDetach .. = _
    rw [execUsbTunnelDetach, hmappedBy]
    rfl
  · intro s i u d hu
    show execUsbTunnelPacket .. = _
    unfold execUsbTunnelPacket
    split <;> rfl
  · intro s i d p k l hmapped
    have hkind : ¬((4 : Byte) = 0 ∨ 4 < (4 : Byte).toNat) := by decide
    show execUsbTunnelPacket i 4 d s = _
    simp only [execUsbTunnelPacket, hkind, ne_eq, not_true, if_false, hmapped]
  · intro s i d hmapped
    have hkind : ¬((4 : Byte) = 0 ∨ 4 < (4 : Byte).toNat) := by decide
    show execUsbTunnelPacket i 4 d s = _
    simp only [execUsbTunnelPacket, hkind, ne_eq, not_true, if_false, hmapped]
  · intro s p k a b d hhubShown
    show execUsbLaptopTransaction .. = _
    rcases hhubShown with hhubShown | hhubShown <;> simp [execUsbLaptopTransaction, hhubShown]
  · intro s p a b d hhubShown hnetTun
    show execUsbLaptopTransaction .. = _
    simp [execUsbLaptopTransaction, hhubShown, hnetTun]
  · intro s p a b d i hhubShown hnetTun
    show execUsbLaptopTransaction .. = _
    simp only [execUsbLaptopTransaction, hhubShown, hnetTun]
    grind
  · intro s p a d i hhubShown hnetTun hncmEn htunIsUp hisTagged
    show execUsbLaptopTransaction .. = _
    simp [execUsbLaptopTransaction, hhubShown, hnetTun, hncmEn, htunIsUp, hisTagged]
  · intro s p k a b d hhubShown h2 m
    show execUsbLaptopTransaction .. = _
    simp only [execUsbLaptopTransaction, hhubShown]
    grind
  · intro s p v e hperipheral
    show execPeripheralEnumerate .. = _
    rcases hperipheral with hperipheral | hperipheral | hperipheral <;> simp [execPeripheralEnumerate, hperipheral]
  · intro s p v e hperipheral hattached hdfp
    show execPeripheralEnumerate .. = _
    simp [execPeripheralEnumerate, hperipheral, hattached, hdfp]
  · intro s p v e hper hatt hdfp hnone
    have hgo : (!(s.dk p.val).data.peripheral || !(s.dk p.val).attached || !(s.dk p.val).dfp) = false := by rw [hper, hatt, hdfp]; rfl
    show execPeripheralEnumerate p v e s = _
    simp only [execPeripheralEnumerate, hgo, Bool.false_eq_true, if_false]
    rw [foldl_of_fixed]
    intro n _
    rw [if_neg]
    intro hmap
    rw [State.mp_modDev, hnone] at hmap
    exact absurd hmap.1 (by decide)
  · intro s p
    rfl
  · intro s p
    rfl
  · intro s p k h2
    show execDeskTunnelRetry .. = _
    simp only [execDeskTunnelRetry]
    grind

end Sys2Proof.Machine

/-! Desk data commands (12_desk_data.md). -/

namespace Sys2Proof.Machine

open Sys2Proof

/-- Settles O50: the report from its words, DESK.BIND by mode, UNBIND and the rule of a frame buffer. -/
theorem deskDataCommandsReportAndBind : Obligations.DeskDataCommandsReportAndBind := by
  refine ⟨?_, ?_, ?_, ?_, ?_⟩
  · intro s r hr x up
    have hup : (match (s.dk (r.f 0 31 30)).netTun with | some i => s.tunIsUp i | none => false) = up := by
      simp only [up, x]
      cases (s.dk (r.f 0 31 30)).netTun <;> rfl
    show execDeskDataStatus s = _
    simp only [execDeskDataStatus, runCmd_of_running hr]
    show Host.Outcome.next (State.respond _ (okR (pack [(b2n x.roleHeld, 1), (b2n x.alt, 1), (x.pin, 2), (x.sink, 2), (x.dpRate, 3), (x.usb, 3),
      (b2n x.binding.isSome, 1), (b2n (match (s.dk (r.f 0 31 30)).netTun with | some i => s.tunIsUp i | none => false), 1)] :: _))) = _
    rw [hup]
  · intro s r hr hperipheral
    show execDeskBind .. = _
    simp only [execDeskBind, runCmd_of_running hr, hperipheral]
    rfl
  · intro s r hr hperipheral hbitAt
    show execDeskBind .. = _
    simp only [execDeskBind, runCmd_of_running hr, hperipheral, hbitAt]
    grind
  · intro s r hr hperipheral hbitAt b
    show execDeskBind .. = _
    simp [execDeskBind, runCmd_of_running hr, hperipheral, hbitAt]
    repeat' split
    all_goals rfl
  · intro s r hr hperipheral hbitAt hvideo
    show execDeskBind .. = _
    simp only [execDeskBind, runCmd_of_running hr, hperipheral, hbitAt, hvideo]
    rfl

end Sys2Proof.Machine

/-! Storage functions (13_storage_ethernet.md). -/

namespace Sys2Proof.Machine

open Sys2Proof

section Fetch

variable {s t : State} {f : BitVec 5} {q c : BitVec 16} {o fl : Byte} {n x y z : Word} {d : List Word}

theorem fetches (hfn : s.isStorFn f.toNat = true) (hdom : s.domOn 9 = true) (hflr : (s.sfn f.toNat).flrWait = false)
    (hroom : s.stor.cmds.length < 256) :
    (!s.isStorFn f.toNat || !s.domOn 9 || (s.sfn f.toNat).flrWait || decide (storMax ≤ s.stor.cmds.length)) = false := by
  rw [hfn, hdom, hflr, storMax, decide_eq_false (Nat.not_le.mpr hroom)]
  rfl

/-- A command of the admin queue is carried out and posted with its status, when it has one. -/
theorem fetch_admin (hfn : s.isStorFn f.toNat = true) (hdom : s.domOn 9 = true) (hflr : (s.sfn f.toNat).flrWait = false)
    (hroom : s.stor.cmds.length < 256) (ht : t = s.modFn f.toNat (fun e => { e with ccEn := true })) :
    execNvmeCommandFetch f 0 c o fl n x y z d s = .next
      (((t.adminCmd f.toNat o.toNat n.toNat x.toNat y.toNat c.toNat).2.map fun (st : Nat) =>
        (t.adminCmd f.toNat o.toNat n.toNat x.toNat y.toNat c.toNat).1.post f.toNat 0 c.toNat st).getD
          (t.adminCmd f.toNat o.toNat n.toNat x.toNat y.toNat c.toNat).1) := by
  have h0 : (0 : BitVec 16).toNat = 0 := rfl
  simp only [execNvmeCommandFetch, fetches hfn hdom hflr hroom, ← ht, h0, Bool.false_eq_true, if_false, if_true]
  cases (t.adminCmd f.toNat o.toNat n.toNat x.toNat y.toNat c.toNat).2 <;> rfl

/-- A command of the admin queue with a status is posted with it. -/
theorem fetch_admin_posted {u : State} {st : Nat} (hfn : s.isStorFn f.toNat = true) (hdom : s.domOn 9 = true)
    (hflr : (s.sfn f.toNat).flrWait = false) (hroom : s.stor.cmds.length < 256) (ht : t = s.modFn f.toNat (fun e => { e with ccEn := true }))
    (hdone : t.adminCmd f.toNat o.toNat n.toNat x.toNat y.toNat c.toNat = (u, some st)) :
    execNvmeCommandFetch f 0 c o fl n x y z d s = .next (u.post f.toNat 0 c.toNat st) := by
  rw [fetch_admin hfn hdom hflr hroom ht, hdone]
  rfl

/-- A command of an I/O queue that is there, with the operation of its opcode. -/
theorem fetch_io {op nlb : Nat} (hfn : s.isStorFn f.toNat = true) (hdom : s.domOn 9 = true) (hflr : (s.sfn f.toNat).flrWait = false)
    (hroom : s.stor.cmds.length < 256) (hq : q ≠ 0) (ht : t = s.modFn f.toNat (fun e => { e with ccEn := true }))
    (hqueue : (t.sfn f.toNat).hasQueue 1 q.toNat = true) (hop : ioOp o.toNat = some op)
    (hnlb : nlb = if op = 4 then x.toNat % 256 else if op = 3 then 0 else z.toNat % 65536) :
    let k : NsMap := (t.sfn f.toNat).nsp (n.toNat - 1)
    let g : Nat := (leastFree (t.stor.cmds.map (·.tag)) 0 257).getD 0
    let lba : Nat := if op = 4 ∨ op = 3 then 0 else x.toNat + 2 ^ 32 * y.toNat
    let u : State := { t with stor.cmds := t.stor.cmds ++
      [{ fn := f.toNat, qid := q.toNat, cid := c.toNat, nsid := n.toNat, tag := g, op := op, lba := lba, nlb := nlb }] }
    let w : List Word := if op = 2 ∨ op = 4 then d else []
    execNvmeCommandFetch f q c o fl n x y z d s = .next
      (((t.sfn f.toNat).ioRefusal op fl.toNat n.toNat nlb y.toNat).elim
        ((k.tun.map fun (i : Nat) => u.storPdu i op k.volume g 0 nlb lba [] w).getD (u.storRequest none g k.volume op nlb lba w))
        (fun st => t.post f.toNat q.toNat c.toNat st)) := by
  have hq' : q.toNat ≠ 0 := fun h => hq (BitVec.toNat_eq.mpr h)
  simp only [execNvmeCommandFetch, fetches hfn hdom hflr hroom, ← ht, hq', hqueue, hop, ← hnlb, Bool.not_true, Bool.false_eq_true, if_false]
  cases (t.sfn f.toNat).ioRefusal op fl.toNat n.toNat nlb y.toNat with
  | some st => rfl
  | none => cases ((t.sfn f.toNat).nsp (n.toNat - 1)).tun <;> rfl

end Fetch

/-- Settles O51: a fetch by `fetch_admin`, `fetch_admin_posted` and `fetch_io` where the function `fetches`; the others by the
command of their tag. -/
theorem storageFunctionsRunCommands : Obligations.StorageFunctionsRunCommands := by
  refine ⟨?_, ?_, ?_, ?_, ?_, ?_, ?_, ?_, ?_, ?_, ?_, ?_, ?_, ?_, ?_, ?_, ?_, ?_, ?_, ?_, ?_, ?_, ?_, ?_⟩
  · intro s f q c o fl n x y z d hnot
    have hskip : (!s.isStorFn f.toNat || !s.domOn 9 || (s.sfn f.toNat).flrWait || decide (storMax ≤ s.stor.cmds.length)) = true := by
      rcases hnot with h | h | h | h <;> simp [storMax, h]
    show execNvmeCommandFetch f q c o fl n x y z d s = _
    simp only [execNvmeCommandFetch, hskip, if_true]
  · intro s t f c o fl n x y z d hfn hdom hflr hroom ht a
    exact fetch_admin hfn hdom hflr hroom ht
  · intro s t f c fl n x y z d hfn hdom hflr hroom ht hq hmost hnew hsize hlast hiv
    have hop : (5 : Byte).toNat = 5 := rfl
    have hqueue : ¬(x.toNat % 65536 = 0 ∨ (t.sfn f.toNat).nQueues < x.toNat % 65536 ∨ (t.sfn f.toNat).hasQueue 0 (x.toNat % 65536) = true) := by
      simp [hq, hnew, Nat.not_lt.mpr hmost]
    have hsmall : ¬x.toNat < 65536 := by omega
    have hbig : ¬1023 < x.toNat / 65536 := Nat.not_lt.mpr hlast
    have hdone : t.adminCmd f.toNat (5 : Byte).toNat n.toNat x.toNat y.toNat c.toNat =
        (t.modFn f.toNat fun v => { v with queues := v.queues ++ [(0, x.toNat % 65536, x.toNat / 65536)] }, some 0) := by
      simp [State.adminCmd, hqueue, hsmall, hbig, hiv]
    show execNvmeCommandFetch f 0 c 5 fl n x y z d s = _
    rw [fetch_admin_posted hfn hdom hflr hroom ht hdone]
  · intro s t f c fl n x y z d hfn hdom hflr hroom ht hq hmost hnew hsize hlast hcq
    have hop : (1 : Byte).toNat = 1 := rfl
    have hqueue : ¬(x.toNat % 65536 = 0 ∨ (t.sfn f.toNat).nQueues < x.toNat % 65536 ∨ (t.sfn f.toNat).hasQueue 1 (x.toNat % 65536) = true) := by
      simp [hq, hnew, Nat.not_lt.mpr hmost]
    have hsmall : ¬x.toNat < 65536 := by omega
    have hbig : ¬1023 < x.toNat / 65536 := Nat.not_lt.mpr hlast
    have hdone : t.adminCmd f.toNat (1 : Byte).toNat n.toNat x.toNat y.toNat c.toNat =
        (t.modFn f.toNat fun v => { v with queues := v.queues ++ [(1, x.toNat % 65536, y.toNat / 65536)] }, some 0) := by
      simp [State.adminCmd, hqueue, hsmall, hbig, hcq]
    show execNvmeCommandFetch f 0 c 1 fl n x y z d s = _
    rw [fetch_admin_posted hfn hdom hflr hroom ht hdone]
  · intro s t f c fl n x y z d hfn hdom hflr hroom ht
    have hdone : t.adminCmd f.toNat (0x7F : Byte).toNat n.toNat x.toNat y.toNat c.toNat = (t, some stOpcode) := rfl
    show execNvmeCommandFetch f 0 c 0x7F fl n x y z d s = _
    rw [fetch_admin_posted hfn hdom hflr hroom ht hdone]
  · intro s t f q c o fl n x y z d hfn hdom hflr hroom hq ht hqueue
    have hq' : q.toNat ≠ 0 := fun h => hq (BitVec.toNat_eq.mpr h)
    show execNvmeCommandFetch f q c o fl n x y z d s = _
    simp only [execNvmeCommandFetch, fetches hfn hdom hflr hroom, ← ht, hq', hqueue, Bool.not_false, Bool.false_eq_true, if_false, if_true]
  · intro s t f q c o fl n x y z d hfn hdom hflr hroom hq ht hqueue hop
    have hq' : q.toNat ≠ 0 := fun h => hq (BitVec.toNat_eq.mpr h)
    show execNvmeCommandFetch f q c o fl n x y z d s = _
    simp only [execNvmeCommandFetch, fetches hfn hdom hflr hroom, ← ht, hq', hqueue, hop, Bool.not_true, Bool.false_eq_true, if_false]
  · intro s t f q c o fl n x y z d op st nlb hfn hdom hflr hroom hq ht hqueue hop hnlb hrefused
    show execNvmeCommandFetch f q c o fl n x y z d s = _
    rw [fetch_io hfn hdom hflr hroom hq ht hqueue hop hnlb, hrefused]
    rfl
  · intro s t f q c o fl n x y z d op nlb hfn hdom hflr hroom hq ht hqueue hop hnlb hrefused k g lba u w
    show execNvmeCommandFetch f q c o fl n x y z d s = _
    rw [fetch_io hfn hdom hflr hroom hq ht hqueue hop hnlb, hrefused]
    rfl
  · intro s i g st d hnone
    show execStorageCompletion (.tun i) g st d s = _
    simp only [execStorageCompletion]
    cases hfind : s.stor.cmds.find? (·.tag == g.toNat) with
    | none => rfl
    | some c =>
      rw [hfind, Option.any_some, beq_eq_false_iff_ne] at hnone
      simp only [bne_iff_ne.mpr hnone, if_true]
  · intro s i g st d c hfind htun t
    show execStorageCompletion (.tun i) g st d s = _
    simp only [execStorageCompletion, hfind, htun, bne_self_eq_false, Bool.false_eq_true, if_false, Bool.and_eq_true, beq_iff_eq]
    rfl
  · intro s i g st d hnone
    show execStorageCompletion (.drive i) g st d s = _
    simp only [execStorageCompletion, hnone]
  · intro s i g st d r hfind t lba plain
    show execStorageCompletion (.drive i) g st d s = _
    simp only [execStorageCompletion, hfind]
    rfl
  · intro s g hfind
    show execStorageTimeout .. = _
    rw [execStorageTimeout, hfind]
  · intro s g c hfind t u
    show execStorageTimeout .. = _
    rw [execStorageTimeout, hfind]
  · intro s i o v g n l d a hnone
    refine ⟨?_, ?_⟩
    · show execStoragePduRequest i o v g n l d s = _
      simp only [execStoragePduRequest]
      cases htun : s.tunAt i.toNat with
      | none => rfl
      | some t =>
        have hskip : (t.p.cls != 4 || t.st != .up) = true := by simpa [htun, Decidable.imp_iff_not_or] using hnone
        simp only [hskip, if_true]
    · show execStorageInfo i v a s = _
      simp only [execStorageInfo]
      cases htun : s.tunAt i.toNat with
      | none => rfl
      | some t =>
        have hskip : (t.p.cls != 4 || t.st != .up) = true := by simpa [htun, Decidable.imp_iff_not_or] using hnone
        simp only [hskip, if_true]
  · intro s i o v g n l d t htunAt hcls hst ho
    show execStoragePduRequest .. = _
    simp only [execStoragePduRequest, htunAt, hcls, hst]
    grind
  · intro s i o v g n l d t htunAt hcls hst hendA
    show execStoragePduRequest .. = _
    simp only [execStoragePduRequest, htunAt, hcls, hst]
    grind
  · intro s i o v g n l d t htunAt hcls hst hendA h1 htoNat
    show execStoragePduRequest .. = _
    simp only [execStoragePduRequest, htunAt, hcls, hst, hendA]
    grind
  · intro s i o v g n l d t htun hcls hst hB h1 h5 hrefused
    have hop : (o == 0 || (decide (6 < o.toNat) && o != 0x81 && o != 0x86)) = false := by
      have h0 : o ≠ 0 := fun h => by simp [h] at h1
      rw [beq_eq_false_iff_ne.mpr h0, decide_eq_false (by omega)]
      rfl
    have hrequest : s.storRequest (some i.toNat) g.toNat v.toNat o.toNat n.toNat l.toNat d =
        s.storPdu i.toNat 0x81 v.toNat g.toNat (if (s.vol v.toNat).online then stRange else stNotReady) n.toNat l.toNat [] [] := by
      simp only [State.storRequest, State.storAnswer]
      by_cases honline : (s.vol v.toNat).online = true
      · have hbeyond := hrefused.resolve_left (by simp [honline])
        simp [honline, hbeyond]
      · simp [honline]
    show execStoragePduRequest i o v g n l d s = _
    simp only [execStoragePduRequest, htun, hcls, hst, hB, hop, decide_eq_false (Nat.not_lt.mpr h5), bne_self_eq_false, Bool.or_self,
      Bool.false_eq_true, if_false, hrequest]
  · intro s i v t htun hcls hst u
    show execStorageInfo i v none s = _
    simp only [execStorageInfo, htun, hcls, hst, bne_self_eq_false, Bool.or_self, Bool.false_eq_true, if_false]
    split <;> rfl
  · intro s i v t st lb n htun hcls hst
    show execStorageInfo i v (some (st, lb, n)) s = _
    simp only [execStorageInfo, htun, hcls, hst, bne_self_eq_false, Bool.or_self, Bool.false_eq_true, if_false]
  · intro s f
    show execFlrWaitExpiry .. = _
    simp only [execFlrWaitExpiry, State.endFlr]
    split <;> simp_all
  · intro s f k
    rfl

end Sys2Proof.Machine

/-! Drives and PCIe links (13_storage_ethernet.md). -/

namespace Sys2Proof.Machine

open Sys2Proof

/-- Settles O52: each row by the port and the state of its drive. -/
theorem drivesAndPcieLinksChange : Obligations.DrivesAndPcieLinksChange := by
  refine ⟨?_, ?_, ?_, ?_, ?_, ?_, ?_, ?_, ?_, ?_, ?_⟩
  · intro s p g l i hmode
    show execDriveLinkUp .. = _
    rcases hmode with hmode | hmode <;> simp [execDriveLinkUp, hmode]
  · intro s p g l i hmode hdomOn t
    show execDriveLinkUp .. = _
    simp only [execDriveLinkUp, hmode, hdomOn]
    grind
  · intro s p g l i hmode hdom hst
    show execDriveLinkUp p g l (some i) s = _
    simp [execDriveLinkUp, hmode, hdom, hst]
  · intro s p
    show execDriveReadyTimeout .. = _
    simp [execDriveReadyTimeout]
  · intro s p
    show execDriveLinkDown .. = _
    simp [execDriveLinkDown, State.driveGone]
  · intro s p
    show execDriveFatalStatus .. = _
    simp [execDriveFatalStatus]
  · intro s p g l hmode
    show execPcieLinkChange .. = _
    rcases hmode with hmode | hmode <;> simp [execPcieLinkChange, hmode]
  · intro s p g l hmode hdomOn k t
    show execPcieLinkChange .. = _
    simp only [execPcieLinkChange, hmode, hdomOn]
    rfl
  · intro s r hr hseesFn
    show execStorStatus .. = _
    simp only [execStorStatus, runRead_of_running hr, hseesFn]
    rfl
  · intro s r hr hseesFn f ready
    show execStorStatus .. = _
    simp only [execStorStatus, runRead_of_running hr, hseesFn]
    rfl
  · intro s r hr p online
    show execStorDrive .. = _
    rw [execStorDrive, runRead_of_running hr]

end Sys2Proof.Machine

/-! Ethernet ports (13_storage_ethernet.md). -/

namespace Sys2Proof.Machine

open Sys2Proof

section FrameReceive

variable {s : State} {p : Fin 4} {f : List Byte}

/-- What a change of an Ethernet port does is read of the port as it stands. -/
theorem State.modEp_congr {g h : EthPort → EthPort} (hgh : g (s.ep p.val) = h (s.ep p.val)) : s.modEp p.val g = s.modEp p.val h := by
  have hep : s.ep p.val = s.eth.port[p.val] := by simp [State.ep, Vector.getD, p.isLt]
  rw [hep] at hgh
  rw [State.modEp, State.modEp, modAt, modAt, dif_pos p.isLt, dif_pos p.isLt, hgh]

theorem frameGood (hmin : 64 ≤ f.length + 4) (hmax : f.length + 4 ≤ (s.ep p.val).cfg.maxFrame) :
    (!true || decide (f.length + 4 < 64) || decide ((s.ep p.val).cfg.maxFrame < f.length + 4)) = false := by
  rw [decide_eq_false (Nat.not_lt.mpr hmin), decide_eq_false (Nat.not_lt.mpr hmax)]
  rfl

/-- A good frame of a port without PAUSE is looked up by its VLAN. -/
theorem frame_bridged {v : Nat} (hup : (s.ep p.val).up = true) (hdom : s.domOn 11 = true) (hmin : 64 ≤ f.length + 4)
    (hmax : f.length + 4 ≤ (s.ep p.val).cfg.maxFrame) (hpause : (s.ep p.val).cfg.pauseEn = false ∨ pauseTime f = none)
    (hv : v = (if frHalf f 12 = 0x8100 ∧ frHalf f 14 % 4096 ≠ 0 then frHalf f 14 % 4096 else (s.ep p.val).cfg.pvid)) :
    execEthFrameReceive (.port p true) f s = .next
      (((s.eth.maps.find? fun m => m.port == p && m.vid == v).map fun (m : VlanMap) =>
        (s.modEp p.val fun x => { x with received := bump x.received }).bridgeDown m
          (if frHalf f 12 = 0x8100 then f.take 12 ++ f.drop 16 else f)).getD
        (((s.modEp p.val fun x => { x with received := bump x.received }).modEp p.val fun x => { x with vlanDrop := bump x.vlanDrop }).raiseCounted
          219 p.val 1 [(p.val, 2)] 16)) := by
  have hgo : (!(s.ep p.val).up || !s.domOn 11) = false := by rw [hup, hdom]; rfl
  have hnone : (if (s.ep p.val).cfg.pauseEn then pauseTime f else none) = none := by
    rcases hpause with h | h
    · rw [h]
      rfl
    · rw [h, ite_self]
  simp only [execEthFrameReceive, hgo, frameGood hmin hmax, hnone, ← hv, Bool.false_eq_true, if_false]
  change (match s.eth.maps.find? fun m => m.port == p && m.vid == v with | some m => _ | none => _) = _
  cases s.eth.maps.find? fun m => m.port == p && m.vid == v <;> rfl

end FrameReceive

/-- Settles O53: a frame by the checks before `frame_bridged`, the PTP messages by role and state of their port. -/
theorem ethernetPortsBridgeAndTime : Obligations.EthernetPortsBridgeAndTime := by
  refine ⟨?_, ?_, ?_, ?_, ?_, ?_, ?_, ?_, ?_, ?_, ?_, ?_, ?_, ?_, ?_, ?_, ?_, ?_, ?_, ?_, ?_, ?_, ?_, ?_⟩
  · intro s p v hmode
    show execEthLinkChange .. = _
    rcases hmode with hmode | hmode <;> simp [execEthLinkChange, hmode]
  · intro s p hmode hdom
    show execEthLinkChange p none s = _
    simp [execEthLinkChange, hmode, hdom]
  · intro s p v hmode hdom
    show execEthLinkChange p (some v) s = _
    simp [execEthLinkChange, hmode, hdom]
    repeat' split
    all_goals rfl
  · intro s p v hmode hdom hup hspeed
    show execEthLinkChange p (some v) s = _
    simp [execEthLinkChange, hmode, hdom, hup, hspeed]
  · intro s p c f hoff
    have hskip : (!(s.ep p.val).up || !s.domOn 11) = true := by rcases hoff with h | h <;> simp [h]
    show execEthFrameReceive (.port p c) f s = _
    simp only [execEthFrameReceive, hskip, if_true]
  · intro s p c f hup hdom hbad
    have hgo : (!(s.ep p.val).up || !s.domOn 11) = false := by rw [hup, hdom]; rfl
    have herr : (!c || decide (f.length + 4 < 64) || decide ((s.ep p.val).cfg.maxFrame < f.length + 4)) = true := by
      rcases hbad with h | h | h <;> simp [h]
    show execEthFrameReceive (.port p c) f s = _
    simp only [execEthFrameReceive, hgo, herr, Bool.false_eq_true, if_false, if_true]
  · intro s p f n hup hdom hmin hmax hpause htime
    have hgo : (!(s.ep p.val).up || !s.domOn 11) = false := by rw [hup, hdom]; rfl
    have hspeed : ((s.modEp p.val fun x => { x with received := bump x.received }).ep p.val).speed = (s.ep p.val).speed := by
      simp [State.ep, State.modEp, p.isLt]
    have hpaused : (s.modEp p.val fun x => { x with received := bump x.received }).modEp p.val (fun x =>
          { x with pausedTo := s.clockNs + n * 512000 / ethMbps x.speed }) =
        (s.modEp p.val fun x => { x with received := bump x.received }).modEp p.val fun x =>
          { x with pausedTo := s.clockNs + n * 512000 / ethMbps (s.ep p.val).speed } :=
      State.modEp_congr (by rw [hspeed])
    rw [← hpaused]
    show execEthFrameReceive (.port p true) f s = _
    simp only [execEthFrameReceive, hgo, frameGood hmin hmax, hpause, htime, Bool.false_eq_true, if_false, if_true]
    rfl
  · intro s p f v hup hdom hmin hmax hpause hv hnone
    show execEthFrameReceive (.port p true) f s = _
    rw [frame_bridged hup hdom hmin hmax hpause hv, hnone]
    rfl
  · intro s p f v m hup hdom hmin hmax hpause hv hfind
    show execEthFrameReceive (.port p true) f s = _
    rw [frame_bridged hup hdom hmin hmax hpause hv, hfind]
    rfl
  · intro s i f hnone
    show execEthFrameReceive (.tun i) f s = _
    simp only [execEthFrameReceive, hnone]
  · intro s i f t htun
    show execEthFrameReceive (.tun i) f s = _
    simp only [execEthFrameReceive, htun]
    cases s.eth.maps.find? fun m => m.group == t.p.farEp <;> rfl
  · intro s g m
    rfl
  · intro s p hup
    show execPtpSyncSend .. = _
    rcases hup with hup | hup | hup <;> simp [execPtpSyncSend, hup]
  · intro s t p ws hup hptpRole hst hannounced
    show execPtpSyncSend .. = _
    simp [execPtpSyncSend, hup, hptpRole, hst, hannounced]
  · intro s p d m hup
    show execPtpMessageReceive .. = _
    rcases hup with hup | hup | hup <;> simp [execPtpMessageReceive, hup]
  · intro s p d m hup hptpRole htoNat
    show execPtpMessageReceive .. = _
    simp [execPtpMessageReceive, hup, hptpRole, htoNat]
  · intro s p d q c hup hrole hdomain
    refine ⟨?_, ?_⟩
    · show execPtpMessageReceive p d (.delayReq q c) s = _
      simp [execPtpMessageReceive, hup, hrole, hdomain, State.masterAnswers]
    · show execPtpMessageReceive p d (.pdelayReq q c) s = _
      cases hp2p : (s.ep p.val).cfg.p2p <;> simp [execPtpMessageReceive, hup, hrole, hdomain, State.masterAnswers, hp2p]
  · intro s p d m hup hptpRole hptpRole' htoNat ms
    show execPtpMessageReceive .. = _
    simp only [execPtpMessageReceive, hup, hptpRole, hptpRole', htoNat, Bool.or_eq_true, bne_iff_ne,
      decide_eq_true_eq, Bool.not_eq_true', ne_eq, or_assoc]
    rfl
  · intro s p d m hup hptpRole hptpRole' htoNat hyp
    show execPtpMessageReceive .. = _
    simp [execPtpMessageReceive, hup, hptpRole, hptpRole', htoNat]
  · intro s p d i t1 q two c hup h0 h1 hdomain
    show execPtpMessageReceive p d (.sync i q two t1 c) s = _
    cases hfeeds : s.feedsServo p.val
    · simp [execPtpMessageReceive, hup, h0, h1, hdomain, hfeeds]
    · by_cases hmine : (s.ep p.val).master.map (·.identity) = some i
      · simp [execPtpMessageReceive, hup, h0, h1, hdomain, State.slaveTakes, hfeeds, hmine]
      · simp [execPtpMessageReceive, hup, h0, h1, hdomain, State.slaveTakes, hfeeds, hmine]
  · intro s p d i t1 k q c c0 t2 hup hptpRole hptpRole' htoNat hfeedsServo hsyncIn
    show execPtpMessageReceive .. = _
    simp_all [execPtpMessageReceive, State.ep, State.feedsServo, State.slaveTakes]
  · intro s p d t4 q c t3 hup h0 h1 hdomain hfeeds hreq hp2p hseq
    show execPtpMessageReceive p d (.delayResp q t4 c) s = _
    simp [execPtpMessageReceive, hup, h0, h1, hdomain, hfeeds, State.slaveTakes, hreq, hp2p, hseq, State.setDelay]
  · intro s r hr p ports
    show execEthStatus .. = _
    rw [execEthStatus, runCmd_of_running hr]
  · intro s r hr gone
    show execEthFlush .. = _
    rw [execEthFlush, runCmd_of_running hr]

end Sys2Proof.Machine

/-! Tamper alarms (15_security.md). -/

namespace Sys2Proof.Machine

open Sys2Proof

/-- Settles O54: each row by the state of its source, KEY.TAMPER by the ACTION. -/
theorem tamperAlarmsAreTakenAndRecorded : Obligations.TamperAlarmsAreTakenAndRecorded := by
  refine ⟨?_, ?_, ?_, ?_, ?_, ?_, ?_⟩
  · intro s n
    show execTamperAlarm .. = _
    simp only [execTamperAlarm, Bool.and_eq_true, Bool.or_eq_true, beq_iff_eq, decide_eq_true_eq, Bool.not_eq_true',
      or_assoc]
    repeat' split
    all_goals rfl
  · intro s n
    show execTamperUnstableEnd .. = _
    unfold execTamperUnstableEnd
    split <;> simp_all
  · intro s n
    show execTamperSourceInactive .. = _
    unfold execTamperSourceInactive
    split <;> simp_all
  · intro s hall
    show execTamperRecordCopy .. = _
    simp only [execTamperRecordCopy]
    grind
  · intro s x hgetLast hdomOn
    show execTamperRecordCopy .. = _
    simp [execTamperRecordCopy, hgetLast, hdomOn]
  · intro s t r hr ht rs
    show execKeyTamper s = _
    simp only [execKeyTamper, runCmd_of_running hr, ← ht]
    rfl
  · intro s
    show execLifecycleArmLapse .. = _
    unfold execLifecycleArmLapse
    split <;> rfl

end Sys2Proof.Machine

/-! Vault commands: reports, measurements and signatures (15_security.md). -/

namespace Sys2Proof.Machine

open Sys2Proof

/-- A key operation while the vault is locked. -/
theorem runKey_of_locked {op : Nat} {s : State} {r : Waiting} (hlocked : s.vault.locked = true) (hr : s.runningOp op = some r)
    (f : Waiting → State → State × Response) : runKey op s f = .next (s.respond (failR 0x70)) := by
  simp only [runKey, runCmd_of_running hr, hlocked, if_true]

/-- Settles O55: a locked vault by `runKey_of_locked`, else each command by its slot and its refusals in their order. -/
theorem vaultCommandsReportMeasureAndAttest : Obligations.VaultCommandsReportMeasureAndAttest := by
  refine ⟨?_, ?_, ?_, ?_, ?_, ?_, ?_, ?_, ?_, ?_, ?_, ?_, ?_, ?_, ?_⟩
  · intro s r hr bad
    show execKeyStatus s = _
    simp only [execKeyStatus, runRead_of_running hr, bad, Option.isNone_iff_eq_none]
    repeat' split
    all_goals rfl
  · intro s r i o c hlocked hr hi
    simp only [List.mem_cons, Prod.mk.injEq, List.not_mem_nil, or_false] at hi
    rcases hi with ⟨rfl, rfl⟩ | ⟨rfl, rfl⟩ | ⟨rfl, rfl⟩ | ⟨rfl, rfl⟩ | ⟨rfl, rfl⟩ | ⟨rfl, rfl⟩ | ⟨rfl, rfl⟩ | ⟨rfl, rfl⟩ | ⟨rfl, rfl⟩ | ⟨rfl, rfl⟩ |
      ⟨rfl, rfl⟩ | ⟨rfl, rfl⟩ | ⟨rfl, rfl⟩
    · show execKeySlot s = _
      rw [execKeySlot, runKey_of_locked hlocked hr]
    · show execKeyMeasure s = _
      rw [execKeyMeasure, runKey_of_locked hlocked hr]
    · show execKeyAttest s = _
      rw [execKeyAttest, runKey_of_locked hlocked hr]
    · show execKeyCerts s = _
      rw [execKeyCerts, runKey_of_locked hlocked hr]
    · show execKeyGenerate s = _
      rw [execKeyGenerate, runKey_of_locked hlocked hr]
    · show execKeyPut s = _
      rw [execKeyPut, runKey_of_locked hlocked hr]
    · show execKeyDerive s = _
      rw [execKeyDerive, runKey_of_locked hlocked hr]
    · show execKeyErase s = _
      rw [execKeyErase, runKey_of_locked hlocked hr]
    · show execKeyExtend s = _
      rw [execKeyExtend, runKey_of_locked hlocked hr]
    · show execKeySign s = _
      rw [execKeySign, runKey_of_locked hlocked hr]
    · show execKeyCsr s = _
      rw [execKeyCsr, runKey_of_locked hlocked hr]
    · show execKeyCertSet c s = _
      rw [execKeyCertSet, runKey_of_locked hlocked hr]
    · show execKeyDeny s = _
      rw [execKeyDeny, runKey_of_locked hlocked hr]
  · intro s r hr hlocked t
    show execKeySlot .. = _
    simp only [execKeySlot, runKey, runCmd_of_running hr, hlocked]
    grind
  · intro s r hr hlocked
    show execKeyMeasure .. = _
    simp only [execKeyMeasure, runKey, runCmd_of_running hr, hlocked]
    rfl
  · intro s t r hr hlocked ht hst
    show execKeyAttest .. = _
    simp only [execKeyAttest, runKey, runCmd_of_running hr, hlocked, ht]
    split <;> simp_all
  · intro s t r hr hlocked ht hst quote
    show execKeyAttest .. = _
    simp only [execKeyAttest, runKey, runCmd_of_running hr]
    grind
  · intro s r hr hlocked
    show execKeyCerts .. = _
    simp only [execKeyCerts, runKey, runCmd_of_running hr, hlocked]
    rfl
  · intro s r hr hlocked
    show execKeyExtend .. = _
    simp [execKeyExtend, runKey, runCmd_of_running hr, State.extend, hlocked]
  · intro s t r n hr hlocked hn ht hst
    show execKeySign .. = _
    simp only [execKeySign, runKey, runCmd_of_running hr, hlocked, hn, ht]
    split <;> simp_all
  · intro s t r n hr hlocked hn ht hst h96
    show execKeySign .. = _
    simp only [execKeySign, runKey, runCmd_of_running hr, hlocked, hn, ht]
    split <;> simp_all
  · intro s t r n hr hlocked hn ht hn' hst hkind htestBit x
    show execKeySign .. = _
    simp only [execKeySign, runKey, runCmd_of_running hr, hlocked]
    grind
  · intro s t r hr hlocked ht
    show execKeyCsr s = _
    simp only [execKeyCsr, runKey, runCmd_of_running hr, hlocked, ← ht, Bool.false_eq_true, if_false, beq_iff_eq, bne_iff_ne]
    cases hst : (t.slot 1).st <;> rfl
  · intro s r c hr hlocked hbitAt
    show execKeyCertSet .. = _
    simp only [execKeyCertSet, runKey, runCmd_of_running hr, hlocked, hbitAt]
    rfl
  · intro s r c d x hr hlocked hbitAt hd hx h2
    show execKeyCertSet .. = _
    simp only [execKeyCertSet, runKey, runCmd_of_running hr, hlocked, hbitAt, hd, hx]
    split <;> simp_all
  · intro s r c d x hr hlocked hbitAt hd hx h2 u
    show execKeyCertSet .. = _
    simp only [execKeyCertSet, runKey, runCmd_of_running hr, hlocked, hbitAt]
    grind

end Sys2Proof.Machine

/-! Vault commands: slots and lifecycle (15_security.md). -/

namespace Sys2Proof.Machine

open Sys2Proof

/-- Settles O56: each command by its slot and its refusals in their order, KEY.LIFECYCLE by target and STEP. -/
theorem vaultSlotsAreMadeAndErased : Obligations.VaultSlotsAreMadeAndErased := by
  refine ⟨?_, ?_, ?_, ?_, ?_, ?_, ?_, ?_, ?_⟩
  · intro s t r n hr hlocked hn ht x u
    show execKeyGenerate .. = _
    simp only [execKeyGenerate, runKey, runCmd_of_running hr, hlocked, hn, ht]
    grind
  · intro s t r n hr hlocked hn ht
    show execKeyPut .. = _
    simp only [execKeyPut, runKey, runCmd_of_running hr, hlocked, hn, ht]
    grind
  · intro s t r a b hr hlocked ha hb ht m ctx
    show execKeyDerive s = _
    simp only [execKeyDerive, runKey, runCmd_of_running hr, hlocked, ← ha, ← hb, ← ht, Bool.false_eq_true, if_false, beq_iff_eq, bne_iff_ne,
      Bool.not_eq_true']
    repeat' split
    all_goals rfl
  · intro s t r n hr hlocked hn ht
    have herase : erasable n = false ↔ (2 < n ∧ n < 8) ∨ (47 < n ∧ n < 56) ∨ 71 < n := by
      simp [erasable]
      omega
    show execKeyErase s = _
    simp only [execKeyErase, runKey, runCmd_of_running hr, hlocked, ← hn, ← ht, Bool.false_eq_true, if_false, Bool.not_eq_true', herase]
    repeat' split
    all_goals rfl
  · intro s r hr hlocked d ds
    have haction : r.f 0 1 0 < 4 := r.f_lt 0 1 0
    show execKeyDeny s = _
    simp only [execKeyDeny, runKey, runCmd_of_running hr, hlocked, Bool.false_eq_true, if_false]
    by_cases h3 : r.f 0 1 0 = 3
    · simp only [h3, if_true]
    by_cases h2 : r.f 0 1 0 = 2
    · simp [h2, ds]
    by_cases h1 : r.f 0 1 0 = 1
    · simp [h1, ds, d]
    have h0 : r.f 0 1 0 = 0 := by omega
    by_cases hheld : d ∈ s.vault.deny
    · have hheld' : r.data.tail ∈ s.vault.deny := by simpa [d] using hheld
      simp [h0, ds, d, hheld']
    · have hheld' : ¬r.data.tail ∈ s.vault.deny := by simpa [d] using hheld
      by_cases hfull : 64 ≤ s.vault.deny.length
      · simp [h0, d, hheld', hfull]
      · simp [h0, ds, d, hheld', hfull]
  · intro s r hr h5
    have hno : r.f 0 31 24 ≠ 0 ∧ r.f 0 31 24 ≠ 1 ∧ r.f 0 31 24 ≠ 2 ∧ r.f 0 31 24 ≠ 3 ∧ r.f 0 31 24 ≠ 4 := by omega
    have hnone : lifecycleOf (r.f 0 31 24) = none := by simp [lifecycleOf, hno]
    show execKeyLifecycle s = _
    simp only [execKeyLifecycle, runCmd_of_running hr, hnone]
  · intro s r l hr hlifecycleOf hsession
    show execKeyLifecycle .. = _
    rcases hsession with hsession | hsession <;> simp [execKeyLifecycle, runCmd_of_running hr, hlifecycleOf, hsession]
  · intro s r l hr hlifecycleOf hsession htrial hbitAt c
    show execKeyLifecycle .. = _
    simp only [execKeyLifecycle, runCmd_of_running hr, hlifecycleOf, hsession, htrial, hbitAt]
    rfl
  · intro s r l hr hlifecycleOf hsession htrial hbitAt
    show execKeyLifecycle .. = _
    simp only [execKeyLifecycle, runCmd_of_running hr, hlifecycleOf, hsession, htrial, hbitAt]
    grind

end Sys2Proof.Machine

/-! Update sessions (16_update.md). -/

namespace Sys2Proof.Machine

open Sys2Proof

/-- Settles O57: each command by whether a session is there and whose it is, then by its own checks. -/
theorem updateSessionsTakeAPackage : Obligations.UpdateSessionsTakeAPackage := by
  refine ⟨?_, ?_, ?_, ?_, ?_, ?_, ?_, ?_, ?_⟩
  · intro s r n hr hn
    show execUpdBegin .. = _
    simp only [execUpdBegin, runCmd_of_running hr, hn]
    grind
  · intro s r i o hi hr hnot
    have hrefuse (f : Waiting → State → State × Response) :
        runUpd o s f = .next (s.respond (failR (if s.upd.session = .none then 0x40 else 0x31))) := by
      simp only [runUpd, runCmd_of_running hr, beq_iff_eq, bne_iff_ne]
      by_cases hnone : s.upd.session = .none
      · simp only [hnone, if_true]
      · simp only [hnone, hnot.resolve_left hnone, ne_eq, not_false_eq_true, if_false, if_true]
    simp only [List.mem_cons, Prod.mk.injEq, List.not_mem_nil, or_false] at hi
    rcases hi with ⟨rfl, rfl⟩ | ⟨rfl, rfl⟩
    · show execUpdBlock s = _
      rw [execUpdBlock, hrefuse]
    · show execUpdAbort s = _
      rw [execUpdAbort, hrefuse]
  · intro s r hr hsession howner k bs
    show execUpdBlock .. = _
    simp only [execUpdBlock, runUpd, runCmd_of_running hr, howner]
    grind
  · intro s r a b c v hr hlocked
    show execUpdCommit .. = _
    simp only [execUpdCommit, runCmd_of_running hr]
    grind
  · intro s t r a b c v hr hlocked hsession howner ht hcommitCode
    show execUpdCommit .. = _
    simp only [execUpdCommit, runCmd_of_running hr, hlocked, howner, ht]
    split <;> simp_all
  · intro s t r a b c v hr hlocked hsession howner ht hcommitCode u
    show execUpdCommit .. = _
    simp only [execUpdCommit, runCmd_of_running hr, hlocked, howner]
    grind
  · intro s r hr hsession howner
    show execUpdAbort .. = _
    simp [execUpdAbort, runUpd, runCmd_of_running hr, hsession, howner]
  · intro s
    show execUpdIdleTimeout .. = _
    simp [execUpdIdleTimeout, State.endSession]
  · intro s r hr ver
    have hsession : (match s.upd.session with | .none => 0 | .opened => 1 | .committed => 2) =
        if s.upd.session = .none then 0 else if s.upd.session = .opened then 1 else 2 := by
      cases s.upd.session <;> rfl
    show execUpdStatus s = _
    simp only [execUpdStatus, runRead_of_running hr, beq_iff_eq]
    cases s.upd.session <;> rfl

end Sys2Proof.Machine

/-! Activation, lease and trial (16_update.md). -/

namespace Sys2Proof.Machine

open Sys2Proof

/-- Another hub than this one holds the lease. -/
theorem State.leaseHeld_eq (s : State) (hub : Nat) : s.leaseHeld hub = s.upd.lease.any fun n => n != hub := by
  rw [State.leaseHeld]
  cases s.upd.lease <;> rfl

/-- Settles O58: each command by the session and by who holds the lease (`State.leaseHeld_eq`), the timers by the trial. -/
theorem activationsHoldTheLeaseAndAreConfirmed : Obligations.ActivationsHoldTheLeaseAndAreConfirmed := by
  refine ⟨?_, ?_, ?_, ?_, ?_, ?_, ?_, ?_, ?_, ?_, ?_, ?_, ?_⟩
  · intro s r hr hleaseWait
    show execUpdActivate .. = _
    unfold execUpdActivate
    split <;> simp_all
  · intro s r hr hleaseWait hsession
    show execUpdActivate .. = _
    simp only [execUpdActivate, hleaseWait]
    grind
  · intro s r hr hwait hsession howner hroot
    have hlease := s.leaseHeld_eq s.sys.hubId
    show execUpdActivate s = _
    by_cases hheld : s.upd.lease.any (fun n => n != s.sys.hubId) = true
    · simp [execUpdActivate, hr, hwait, hsession, howner, hroot, hlease, hheld]
    · simp [execUpdActivate, hr, hwait, hsession, howner, hroot, hlease, hheld, State.grantLease, okR]
  · intro s r hr hleaseWait hsession howner hheadsTree hjoined
    show execUpdActivate .. = _
    unfold execUpdActivate
    split <;> simp_all
  · intro s r hr hwait hsession howner hroot hjoined
    show execUpdActivate s = _
    simp [execUpdActivate, hr, hwait, hsession, howner, hroot, hjoined, State.proceed, okR]
  · intro s r hr
    show execUpdLease none s = _
    simp only [execUpdLease, runCmd_of_running hr, State.leaseHeld_eq, State.grantLease]
    repeat' split
    all_goals rfl
  · intro s ws
    show execUpdLease (some ws) s = _
    cases hwait : s.upd.leaseWait
    · simp [execUpdLease, hwait]
    · cases hrun : s.runningOp 0x7814 with
      | none => simp [execUpdLease, hwait, hrun]
      | some r =>
        simp [execUpdLease, hwait, hrun, okR]
        repeat' split
        all_goals rfl
  · intro s r hr
    show execUpdLeaseEnd .. = _
    simp only [execUpdLeaseEnd, runCmd_of_running hr, State.endLease]
    split <;> simp_all
  · intro s
    show execLeaseTimeout .. = _
    simp only [execLeaseTimeout, State.endLease]
    split <;> simp_all
  · intro s r hr
    show execUpdConfirm .. = _
    rw [execUpdConfirm, runCmd_of_running hr]
    split <;> rfl
  · intro s
    show execAutoConfirm .. = _
    simp only [execAutoConfirm, State.mayConfirm, State.up, State.confirm]
    split <;> simp_all
  · intro s
    show execHealthLow .. = _
    unfold execHealthLow
    split <;> simp_all
  · intro s i
    show execHealthTimerExpiry i s = _
    simp only [execHealthTimerExpiry, Bool.and_eq_true, Option.isSome_iff_ne_none]

end Sys2Proof.Machine

/-! Tests and repairs (18_faults.md). -/

namespace Sys2Proof.Machine

open Sys2Proof

/-- Settles O59: the tests by whether they run and pass, DIAG.TEST and DIAG.RESTORE by their refusals in their order. -/
theorem testsAndRepairsEnd : Obligations.TestsAndRepairsEnd := by
  refine ⟨?_, ?_, ?_, ?_, ?_, ?_, ?_, ?_, ?_, ?_, ?_, ?_, ?_, ?_, ?_⟩
  · intro s b r p htestOf
    show execRowTestDone .. = _
    rw [execRowTestDone, htestOf]
  · intro s b r p t htestOf hrestore again v u
    show execRowTestDone .. = _
    simp only [execRowTestDone, htestOf, hrestore]
    grind
  · intro s b r p t htestOf hrestore v
    show execRowTestDone .. = _
    simp only [execRowTestDone, htestOf, hrestore]
    grind
  · intro s p l b htestOf
    show execLaneTestDone .. = _
    rw [execLaneTestDone, htestOf]
  · intro s p l b t htestOf
    show execLaneTestDone .. = _
    unfold execLaneTestDone
    split <;> simp_all
  · intro s r n k hr hk hbusy
    show execDiagTest n s = _
    simp only [execDiagTest, runCmd_of_running hr, ← hk]
    rcases hbusy with hstart | ⟨rfl, hrow⟩ | ⟨rfl, hlane⟩ | ⟨rfl, hport⟩
    · simp [hstart]
    · simp [hrow]
    · have hno : ((s.tp (r.f 0 2 0 / 2)).st == .active && !(s.tp (r.f 0 2 0 / 2)).twoLanes || s.testRuns 2 (r.f 0 2 0)) = true := by
        rcases hlane with h | ⟨h1, h2⟩
        · rw [h, Bool.or_true]
        · rw [h1, h2]
          rfl
      simp only [hno, if_true, Nat.reduceEqDiff, if_false, ite_self]
    · have hmod : r.f 0 3 0 % 16 = r.f 0 3 0 := Nat.mod_eq_of_lt (r.f_lt 0 3 0)
      have hno : (!((s.lp (r.f 0 3 0)).st == .off || (s.lp (r.f 0 3 0)).st == .latched || (s.lp (r.f 0 3 0)).st == .lockout ||
          (s.lp (r.f 0 3 0)).st == .damaged) || s.testRuns 3 (r.f 0 3 0)) = true := by
        rcases hport with h | h
        · rw [h, Bool.or_true]
        · rw [Bool.or_eq_true, Bool.not_eq_true']
          left
          simpa [not_or, and_assoc] using h
      simp only [hmod, hno, if_true, Nat.reduceEqDiff, if_false, ite_self]
  · intro s r n hr hstart hword htestRuns
    show execDiagTest .. = _
    simp [execDiagTest, runCmd_of_running hr, hstart, hword, htestRuns]
  · intro s t r n u hr hstart hkind hu hfree htwo ht
    have hno : ((s.tp (u / 2)).st == .active && !(s.tp (u / 2)).twoLanes || s.testRuns 2 u) = false := by
      rw [hfree, Bool.or_false, Bool.and_eq_false_imp]
      intro hactive
      rw [htwo (beq_iff_eq.mp hactive)]
      rfl
    have hstart' : (s.sys.start == 1) = false := beq_eq_false_iff_ne.mpr hstart
    show execDiagTest n s = _
    subst ht hu
    simp only [execDiagTest, runCmd_of_running hr, hstart', hkind, hno, Nat.reduceEqDiff, Bool.false_eq_true, if_false, if_true]
  · intro s t r n u hr hstart hkind hu hfree hport ht
    have hmod : r.f 0 3 0 % 16 = u.val := by rw [← hu, Nat.mod_eq_of_lt u.isLt]
    have hunit : (⟨r.f 0 3 0 % 16, Nat.mod_lt _ (by decide)⟩ : Fin 16) = u := Fin.ext hmod
    have hno : (!((s.lp u.val).st == .off || (s.lp u.val).st == .latched || (s.lp u.val).st == .lockout || (s.lp u.val).st == .damaged) ||
        s.testRuns 3 u.val) = false := by
      rw [hfree, Bool.or_false, Bool.not_eq_false']
      simpa [or_assoc] using hport
    show execDiagTest n s = _
    subst ht
    simp only [execDiagTest, runCmd_of_running hr, beq_eq_false_iff_ne.mpr hstart, hkind, hmod, hno, Nat.reduceEqDiff,
      Bool.false_eq_true, if_false, if_true]
  · intro s r n hr hstart hword
    show execDiagTest .. = _
    simp [execDiagTest, runCmd_of_running hr, hstart, hword]
  · intro s r n hr hstart hword
    show execDiagTest .. = _
    simp only [execDiagTest, runCmd_of_running hr]
    grind
  · intro s r k u hr hk hu
    show execDiagRestore s = _
    simp only [execDiagRestore, runCmd_of_running hr, ← hk, ← hu, Option.isNone_iff_eq_none]
    repeat' split
    all_goals rfl
  · intro s r hr
    show execDiagClear .. = _
    simp only [execDiagClear, runCmd_of_running hr]
    split <;> simp_all
  · intro s r hr log es
    show execDiagErrlog .. = _
    simp only [execDiagErrlog, runRead_of_running hr]
    grind
  · intro s r hr locked lanes
    show execDiagStatus .. = _
    rw [execDiagStatus, runRead_of_running hr]
    rfl

end Sys2Proof.Machine

/-! Memory errors, engines and error logs (18_faults.md). -/

namespace Sys2Proof.Machine

open Sys2Proof

/-- Settles O60: each error by the user or memory it names, a log write by what waits and whether it succeeds. -/
theorem memoryErrorsAndEnginesAreReported : Obligations.MemoryErrorsAndEnginesAreReported := by
  refine ⟨?_, ?_, ?_, ?_, ?_, ?_, ?_, ?_, ?_, ?_, ?_, ?_, ?_, ?_, ?_, ?_, ?_⟩
  · intro s a i
    rfl
  · intro s h a i
    rfl
  · intro s p c a i
    rfl
  · intro s d a i t
    rfl
  · intro s b g e t a i
    show execLpddrEccError (.exportRead b g e t) a i s = _
    simp only [execLpddrEccError, State.memErr]
    repeat' split
    all_goals rfl
  · intro s a i
    rfl
  · intro s a i
    rfl
  · intro s t b a i hnone
    have hfind : s.fwd.entries.find? (fun e => e.tunnel == t.toNat && e.valid) = none := by simpa using hnone
    show execLpddrEccError (.table t b) a i s = _
    simp only [execLpddrEccError, hfind]
  · intro s t e b a i hfind u v
    show execLpddrEccError (.table t b) a i s = _
    simp only [execLpddrEccError, hfind, State.memErr]
    rfl
  · intro s k a i hnone
    show execLpddrEccError (.keyCache k) a i s = _
    simp only [execLpddrEccError, hnone]
  · intro s k x a i htun u
    show execLpddrEccError (.keyCache k) a i s = _
    simp only [execLpddrEccError, htun, State.memErr]
    rfl
  · intro s n a i
    rfl
  · intro s e
    show execEngineMemoryError .. = _
    unfold execEngineMemoryError
    split <;> rfl
  · intro s p v
    rfl
  · intro s b hpwait
    show execPersistentLogWrite .. = _
    rw [execPersistentLogWrite, hpwait]
  · intro s e l hpwait
    show execPersistentLogWrite .. = _
    rw [execPersistentLogWrite, hpwait]
    rfl
  · intro s e l hwait
    show execPersistentLogWrite false s = _
    rw [execPersistentLogWrite]
    split
    · next hnil => simp [hwait] at hnil
    · next e' l' hcons =>
      obtain ⟨rfl, rfl⟩ := List.cons.inj (hwait.symm.trans hcons)
      simp only [Bool.false_eq_true, if_false]
      repeat' split
      all_goals rfl

end Sys2Proof.Machine
